-- ==== Sys2Proof/Word.lean ====
section
/-! DEFINITION. The word types, saturating counters, and the two shapes of collection the state is made of:
a family of a fixed number of like things, and a finite map. -/

namespace Sys2Proof

/-- One byte. -/
abbrev Byte := BitVec 8
/-- The unsigned types U16, U32 and U64 of Table 14-6. -/
abbrev U16 := BitVec 16
abbrev U32 := BitVec 32
abbrev U64 := BitVec 64

/-- A saturating counter goes up by one and stops at the largest value of its type (R474). -/
def satInc {w : Nat} (x : BitVec w) : BitVec w :=
  if x = BitVec.allOnes w then x else x + 1

/-- A natural number held in `w` bits, stopping at the largest value. -/
def satOf (w n : Nat) : BitVec w :=
  if 2 ^ w ≤ n then BitVec.allOnes w else BitVec.ofNat w n

/-- A family of `n` like things. -/
abbrev Fam (n : Nat) (α : Type) := Vector α n

/-- Every member holds `a`. -/
def famAll (n : Nat) {α : Type} (a : α) : Fam n α := Vector.replicate n a

/-- A finite map kept as pairs with rising keys. -/
abbrev Assoc (α : Type) := List (Nat × α)

/-- A set of numbers, held as disjoint ranges `(first, beyond)` that rise and do not touch. -/
abbrev Ranges := List (Nat × Nat)

end Sys2Proof
end

