-- ==== Sys2Proof/Syntax.lean ====
section
/-! DEFINITION. The commands of the block: one constructor of `Instr` for each row of spec/opcode_table.json,
in the table's order, with the operands that the world outside the device supplies with it. -/

namespace Sys2Proof

/-- A rail slot (R143), a tile port (R383), a NAND channel (R289), an interrupt target (R415), a source (R416). -/
abbrev SlotId := Fin 16
abbrev PortId := Fin 4
abbrev ChanId := Fin 8
abbrev TargetId := Fin 6
abbrev SourceId := Fin 192
/-- A side of host DRAM, 0 = A and 1 = B, and one of its four sub-channels (R210). -/
abbrev SideId := Fin 2
abbrev SubId := Fin 4

/-- One rank of one sub-channel of one side (R210). -/
structure RankId where
  side : SideId
  sub : SubId
  rank : Fin 2
  deriving DecidableEq, Repr

/-- The two window comparators of a slot (R100). -/
inductive Comp where
  | a
  | b
  deriving DecidableEq, Repr

/-- How a private transfer is framed on the sideband bus (R445, R446): HDR-DDR carries a command code. -/
inductive Framing where
  | i2c
  | sdr
  | ddr (code : Byte)
  deriving DecidableEq, Repr

/-- What the bus carries in front of a transfer's bytes: the address and the framing. -/
structure Xfer where
  addr : BitVec 7
  framing : Framing
  deriving DecidableEq, Repr

/-- The conditions under which the module leaves DARK (R65). -/
inductive InsCond where
  | insDet
  | vsb
  | pfail
  | vin
  deriving DecidableEq, Repr

/-- The keeper's phases, 0x2500.07 (Table 15-5). -/
inductive KeeperPhase where
  | off
  | precharge
  | cc
  | cv
  | full
  | suspended
  | discharging
  deriving DecidableEq, Repr

/-- What one conversion of the ADC's scan gives (R96, R98, R99): the 16-bit code of a slot's sense pair, a supply in µV
behind its internal divider, or the die temperature in 0.1 °C. -/
inductive Conversion where
  | slot (n : SlotId) (code : U16)
  | vin (uv : U32)
  | vsb (uv : U32)
  | vcell (uv : U32)
  | dieTemp (t : U16)
  deriving DecidableEq, Repr

/-- What the keeper itself measures when its phase changes (R165, Table 5-4): VIN and VCELL in µV, the die temperature in
0.1 °C as the bits of an I16, and the charging current in mA. -/
structure KeeperSense where
  vinUv : U32
  vcellUv : U32
  dieTemp : U16
  currentMa : U16
  deriving DecidableEq, Repr

/-- The words of option flash in which a command's reads find an error (R183): the word's address in units of 8 bytes, and
whether it is uncorrectable. -/
abbrev WordErrors := List (Nat × Bool)

/-- What a mode-register write does to set points and training, as JEDEC defines the register (R221). -/
inductive MrEffect where
  | plain
  | fspWr (k : Fin 3)
  | fspOp (k : Fin 3)
  | trainOpen
  | trainClose
  deriving DecidableEq, Repr

/-- What the read of a NAND unit found (R291, R305). For each of its eight codewords, the outcome at each read-retry level
from 0 on: the bit errors where it decoded, `none` where it failed. Where the unit had to be rebuilt, the channels whose
unit of the same stripe proved uncorrectable as well. -/
structure UnitRead where
  words : Fam 8 (List (Option Nat))
  mates : List ChanId
  deriving DecidableEq, Repr

/-- Why a request's buffer read could not be completed (R402): no fault, or an error completion. -/
inductive BufferRead where
  | data (bytes : List Byte)
  | fault
  deriving DecidableEq, Repr

/-- The kinds of port reset (R408). -/
inductive ResetKind where
  | dlDown
  | hot
  | flr
  | perst
  | d3
  | d0
  deriving DecidableEq, Repr

/-- The path on which an object is reached: the bus, or the tunnel of a port (Table 14-8). -/
inductive Path where
  | bus
  | tunnel (p : PortId)
  deriving DecidableEq, Repr

/-- What a register write reaches: an object, or a BAR0 address of a port. -/
inductive RegTarget where
  | object (index : U16) (sub : Byte) (data : List Byte)
  | bar0 (p : PortId) (off : U16) (data : List Byte)
  deriving DecidableEq, Repr

/-- The mask state of an engine's MSI-X capability (R431). -/
structure MsixState where
  enable : Bool
  functionMask : Bool
  maskN : Bool
  maskF : Bool
  deriving DecidableEq, Repr

/-- The commands, one per row of the table of operations and events. -/
inductive Instr where
  -- state requests of the host
  | run | runDiscard | develop | holdDeep | holdPartial | checkpoint | wake | reset
  -- triggers, supplies, resets, clocks
  | pfailInAsserted | fastCollapse | slowSag | floorCrossing | vinExcursionRecovered | vinBelowVPfw
  | vsbLost | insDetReleased | insertionDebounceEnd | vsbReturn | wakeTap | mrNReset
  | aonPowerOn (straps : BitVec 2) (errs : WordErrors)
  | aonPowerLoss | aonSupplyLow | oscillatorValid | crystalLoss | crystalReturn | supervisorWatchdog
  | aonClockReturn | cellDepleted
  | pllLock (errs : WordErrors)
  | selfTestEnd (result : U16)
  | bootComplete (errs : WordErrors)
  -- sequencer steps: `flips` are the bits of the step word that read wrong
  | enable (flips : U64)
  | wait (flips : U64)
  | waitExpiry (mismatch : Bool)
  | waitFor (flips : U64)
  | waitForMet (mismatch : Bool)
  | waitForTimeout (mismatch : Bool)
  | check (flips : U64) (codes : Fam 16 U16)
  | jump (flips : U64)
  | trim (flips : U64)
  | signal (flips : U64)
  | endProgram (flips : U64)
  | programLoadEnd (errs : WordErrors)
  | programTimeout
  | runRequest (sub : Byte)
  -- rails
  | adcConversion (c : Conversion) (loopTrim : U16)
  | uvTrip (n : SlotId) (c : Comp) (asserts : Bool)
  | ovTrip (n : SlotId) (c : Comp) (asserts : Bool)
  | shortLatchOff (n : SlotId) (c : Comp) (asserts : Bool)
  | shortBlankingEnd (n : SlotId)
  | compDisagree (n : SlotId)
  | comparatorAudit
  | windowEntry (n : SlotId) (ticks : Nat)
  | rampSlow (n : SlotId)
  | latchClear (n : SlotId)
  | marginRequest (n : SlotId) (steps : U16)
  -- counter log
  | logRequest | clearCounters | periodicLogPoint | logWritten
  -- backup cell
  | keeperPhaseChange (p : KeeperPhase) (k : KeeperSense)
  | coulombUpdate (deltaUah : Int)
  | cellEstimate (vcellUv : U32)
  | cellAbsent | overvoltage | chargeTimeout | selfDischarge | overCurrent
  | keeperSwitchClose | keeperSwitchOpen | clearCellFault | guaranteeCheck
  -- option flash
  | pageProgramEnd (bank : Fin 2) (errs : WordErrors)
  | eraseEnd | eraseResume
  | flashQueueTimeout (job : Option Nat)
  | commitRequest | commitTimer | commitEnd | optionBlockRepair
  | rawRead (len : Nat) (errs : WordErrors)
  | rawProgram (data : List Byte)
  | rawErase (sector : Byte)
  | programStoreWrite (offset : U32) (last : Bool) (data : List Byte)
  -- host command bus
  | activate (r : RankId) (bank : Fin 16) (row : BitVec 18)
  | hostWrite (r : RankId) (bank : Fin 16) (column : Nat) (data : List Byte)
  | hostRead (r : RankId)
  | precharge (r : RankId) (bank : Option (Fin 16))
  | refresh (r : RankId) (bank : Option (Fin 16))
  | selfRefreshEntry (r : RankId) (powerDown : Bool)
  | selfRefreshExit (r : RankId)
  | powerDownEntry (r : RankId)
  | powerDownExit (r : RankId)
  | modeRegisterWrite (r : RankId) (addr : Byte) (op : Byte) (effect : MrEffect)
  | setpointRelock (side : SideId) (sub : SubId)
  | multiPurposeCommand (r : RankId) (window : Option Bool)
  | resetNAsserted (side : SideId)
  | veilBegin (side : SideId) (sub : SubId) (cause : Fin 6)
  | veilTimeout (side : SideId) (sub : SubId)
  | frameHeatEpoch
  -- handover, Exposure and Development
  | quietWindowEnd | parkTimeout | fence
  | slotTrainingEnd (pass : Bool)
  | busReturnEnd (side : SideId) (us : U32)
  | geometryWrite (sub : Byte) (value : Byte)
  | reservedSlotWrite (value : Byte)
  | commitRecordWritten | tierSaveEnd | persistenceCriticalDisable
  | chainMapsLoaded | lastFrameWritten | developedMarkWritten
  | acceptStale (gen : U32)
  | consolidate | consolidationCommitted
  -- NAND
  | nandProgramFailure (c : ChanId) (block : Nat)
  | nandEraseFailure (c : ChanId) (block : Nat)
  | nandEraseResume (c : ChanId) (lun : Fin 16)
  | classPromotion (c : ChanId) (op : Nat)
  | channelDead (c : ChanId) (cause : Fin 5)
  | clearDeadMarks
  | nandUnitReadEnd (c : ChanId) (page : Nat) (r : UnitRead)
  | patrol (c : ChanId) (r : UnitRead)
  | blankNandSetupEnd
  -- tile ports
  | sq0Tail (p : PortId) (v : U16)
  | sq1Tail (p : PortId) (v : U16)
  | cqHead (p : PortId) (v : U16)
  | portEnable (p : PortId)
  | portDisable (p : PortId)
  | descriptorFetch (p : PortId) (bytes : List Byte)
  | descriptorTimeout (p : PortId)
  | tileRead (p : PortId) (tag : U16)
  | tileWrite (p : PortId) (tag : U16) (data : BufferRead)
  | flush (p : PortId) (tag : U16)
  | nop (p : PortId) (tag : U16)
  | requestCompletion (p : PortId) (tag : U16)
  | proofSwitchCheck (p : PortId) (tag : U16)
  | invalidate (path : Path) (stream : U16)
  | invalidationComplete (path : Path)
  | bar2Write (p : PortId) (offset : Nat) (data : List Byte)
  | bar2Read (p : PortId) (offset len : Nat)
  -- tiers
  | tierFProgramEnd (stream tile : Nat)
  | sealing (stream : Nat)
  | streamDeletion (stream : Nat)
  | tileHeatEpoch
  | writeBackAge (stream tile : Nat)
  | waitGraphSweep
  | curatorFailed (core : PortId)
  | tierStateLoad
  -- links and tunnels
  | portReset (p : PortId) (kind : ResetKind)
  | linkUp (p : PortId) (speed width : Byte)
  | tunnelRead (p : PortId)
  | tunnelWrite (p : PortId)
  | tunnelTransferEnd (p : PortId)
  -- interrupt distributor
  | sourceEvent (n : SourceId)
  | coalescingTimeout (t : TargetId)
  | normalClaim (t : TargetId)
  | fastClaim (t : TargetId)
  | complete (t : TargetId) (source : U16)
  | disable (t : TargetId) (on : Bool)
  | coal (p : PortId) (value : U32)
  | coalescingSetting (t : TargetId) (sub : Byte) (value : U16)
  | wakeThrough (on : Bool)
  | sourceConfiguration (entries : List U32)
  | fastAssignment (k : Fin 16) (value : U32)
  | ibiRetry
  -- object dictionary transport
  | read (x : Xfer) (frame : List Byte)
  | write (x : Xfer) (frame : List Byte)
  | segRead (x : Xfer) (frame : List Byte) (errs : WordErrors)
  | segWrite (x : Xfer) (frame : List Byte)
  | segAbort (x : Xfer) (frame : List Byte)
  | responseRead (x : Xfer) (len : Nat)
  | segmentTimeout (path : Path)
  | registerWrite (t : RegTarget)
  | entdaa (addr : BitVec 7)
  | setdasa (static addr : BitVec 7)
  | setnewda (addr : BitVec 7)
  | rstdaa | enec | disec | getpid | getbcr | getdcr | getstatus | getmwl | getmrl | getmxds | getcaps
  -- security
  | bindingToken (token : List Byte)
  | challenge
  | response (mac : List Byte)
  | sessionClose | sessionTimeout | lockoutEnd
  | firmwareImage (offset : U32) (last : Bool) (data : List Byte)
  | activateImage
  | sanitize (code : U32)
  -- later rows of the table
  | insDetLow (cond : InsCond)
  | msiXEnable (p : PortId) (m : MsixState)
  | aerEvent (p : PortId) (uncorrectable recoverable : Bool)
  | aonSupplyRecovered | suspendHoldoffEnd
  | nandSuspendHoldoffEnd (c : ChanId) (lun : Fin 16)
  | nandEraseEnd (c : ChanId) (block : Nat)
  deriving DecidableEq, Repr

end Sys2Proof
end

