-- ==== Sys2Proof/Machine/Bytes.lean ====
section
/-! DEFINITION. Bytes, bit fields, finite maps and sets of numbers held as ranges: the helpers every layer of the
machine reads and writes its state with (R8, R9). -/

namespace Sys2Proof.Machine

/-- The `len` bytes of a number, least significant first (R9). -/
def leBytes : (len n : Nat) → List Byte
  | 0, _ => []
  | len + 1, n => BitVec.ofNat 8 n :: leBytes len (n / 256)

/-- The number that a little-endian byte string spells (R9). -/
def leNat : List Byte → Nat
  | [] => 0
  | b :: bs => b.toNat + 256 * leNat bs

/-- `len` bytes of a byte string from `off` on; bytes beyond its end read 0. -/
def slice (off len : Nat) (bs : List Byte) : List Byte :=
  (List.range len).map fun i => bs.getD (off + i) 0

/-- The little-endian number of `len` bytes at `off`. -/
def fieldAt (off len : Nat) (bs : List Byte) : Nat := leNat (slice off len bs)

/-- Bits `[hi:lo]` of a number (R8). -/
def bits (hi lo n : Nat) : Nat := (n / 2 ^ lo) % 2 ^ (hi + 1 - lo)

/-- The signed value of the low `w` bits of a number. -/
def signedOf (w n : Nat) : Int := (BitVec.ofNat w n).toInt

/-- A mask with bit `i` set for each `i < w` that satisfies `p`. -/
def maskOf (w : Nat) (p : Nat → Bool) : BitVec w :=
  (List.range w).foldl (fun m i => if p i then m ||| BitVec.ofNat w (2 ^ i) else m) 0

/-- One member of a family changed by a function. -/
def upd {α : Type} {n : Nat} (v : Fam n α) (i : Fin n) (f : α → α) : Fam n α :=
  v.set i.val (f v[i])

/-- Every member of a family changed by a function of its place. -/
def updAll {α : Type} {n : Nat} (v : Fam n α) (f : Fin n → α → α) : Fam n α :=
  (List.finRange n).foldl (fun w i => upd w i (f i)) v

/-- The value at a key. -/
def aget {α : Type} (m : Assoc α) (k : Nat) : Option α :=
  match m with
  | [] => none
  | (k', v) :: r => if k = k' then some v else aget r k

/-- The map without a key. -/
def adel {α : Type} (m : Assoc α) (k : Nat) : Assoc α :=
  match m with
  | [] => []
  | (k', v) :: r => if k = k' then adel r k else (k', v) :: adel r k

/-- The map with a key set, in its place among the rising keys. -/
def aput {α : Type} (m : Assoc α) (k : Nat) (v : α) : Assoc α :=
  match m with
  | [] => [(k, v)]
  | (k', v') :: r =>
    if k < k' then (k, v) :: (k', v') :: r
    else if k = k' then (k, v) :: r
    else (k', v') :: aput r k v

/-- The keys rise strictly: the one form in which a map is kept. -/
def rising {α : Type} : Assoc α → Bool
  | [] => true
  | [_] => true
  | (k, _) :: (k', v') :: r => decide (k < k') && rising ((k', v') :: r)

/-- The sum of a list of numbers. -/
def sum (xs : List Nat) : Nat := xs.foldl (· + ·) 0

/-- Whether a number lies in a set. -/
def rmem (x : Nat) : Ranges → Bool
  | [] => false
  | (a, b) :: r => (decide (a ≤ x) && decide (x < b)) || rmem x r

/-- A set with one range added; ranges that meet it or touch it are joined to it. -/
def radd (lo hi : Nat) : Ranges → Ranges
  | [] => if lo < hi then [(lo, hi)] else []
  | (a, b) :: r =>
    if hi ≤ lo then (a, b) :: r
    else if hi < a then (lo, hi) :: (a, b) :: r
    else if b < lo then (a, b) :: radd lo hi r
    else radd (min a lo) (max b hi) r

/-- A set with one range taken out. -/
def rcut (lo hi : Nat) : Ranges → Ranges
  | [] => []
  | (a, b) :: r =>
    let left := if a < min b lo then [(a, min b lo)] else []
    let right := if max a hi < b then [(max a hi, b)] else []
    if hi ≤ lo then (a, b) :: r else left ++ right ++ rcut lo hi r

/-- The union, the difference and the meet of two sets, and the count of a set's members. -/
def runion (s t : Ranges) : Ranges := t.foldl (fun acc p => radd p.1 p.2 acc) s
def rdiff (s t : Ranges) : Ranges := t.foldl (fun acc p => rcut p.1 p.2 acc) s
def rinter (s t : Ranges) : Ranges := rdiff s (rdiff s t)
def rcount (s : Ranges) : Nat := sum (s.map fun p => p.2 - p.1)

/-- The members of a set, rising. -/
def rlist (s : Ranges) : List Nat := s.flatMap fun p => (List.range (p.2 - p.1)).map (p.1 + ·)

end Sys2Proof.Machine
end

