-- ==== Sys2Proof/Machine/Crc.lean ====
section
/-! DEFINITION. The three checks the spec names by polynomial: CRC-8 (the PEC, R450), CRC-16 (R326) and CRC-32C
(R366). -/

namespace Sys2Proof.Machine

/-- Eight steps of a register that shifts up, of `w` bits, with polynomial `poly`. -/
def crcUp (w poly : Nat) : Nat → Nat → Nat
  | 0, c => c
  | n + 1, c =>
    let d := (c * 2) % 2 ^ w
    crcUp w poly n (if c / 2 ^ (w - 1) = 0 then d else Nat.xor d poly)

/-- Eight steps of the reflected CRC-32C register. -/
def crcDown : Nat → Nat → Nat
  | 0, c => c
  | n + 1, c => crcDown n (if c % 2 = 0 then c / 2 else Nat.xor (c / 2) 0x82F63B78)

/-- The PEC: polynomial 0x07, initial value 0, no reflection, no final XOR (R450). -/
def crc8 (bs : List Byte) : Byte :=
  BitVec.ofNat 8 (bs.foldl (fun c b => crcUp 8 0x07 8 (Nat.xor c b.toNat)) 0)

/-- The Stream Table entry check: polynomial 0x1021, initial value 0xFFFF (R326). -/
def crc16 (bs : List Byte) : U16 :=
  BitVec.ofNat 16 (bs.foldl (fun c b => crcUp 16 0x1021 8 (Nat.xor c (b.toNat * 256))) 0xFFFF)

/-- CRC-32C: reflected, initial value and final XOR 0xFFFF_FFFF (R366). -/
def crc32c (bs : List Byte) : U32 :=
  BitVec.ofNat 32 (Nat.xor (bs.foldl (fun c b => crcDown 8 (Nat.xor c b.toNat)) 0xFFFFFFFF) 0xFFFFFFFF)

/-- A byte string followed by its CRC-32C, little-endian. -/
def withCrc32c (bs : List Byte) : List Byte := bs ++ leBytes 4 (crc32c bs).toNat

/-- Whether a byte string ends in the CRC-32C of what stands before it. -/
def crc32cOk (bs : List Byte) : Bool :=
  decide (4 ≤ bs.length) &&
    decide (fieldAt (bs.length - 4) 4 bs = (crc32c (bs.take (bs.length - 4))).toNat)

end Sys2Proof.Machine
end

