-- ==== Sys2Proof/Machine/Sha.lean ====
section
/-! DEFINITION. SHA-256, HMAC-SHA-256 and HKDF-SHA-256, the functions by which the Security chapter derives its keys
(R490, R497): FIPS 180-4, FIPS 198-1 and RFC 5869, which Table 0-3 names. -/

namespace Sys2Proof.Machine

/-! ## The constants: bits of the roots of the first primes -/

/-- The largest number below `2 ^ n` beyond `r` whose `k`-th power is at most `x`, bit by bit from the top. -/
def rootBelow (k x : Nat) : (n r : Nat) → Nat
  | 0, r => r
  | n + 1, r => rootBelow k x n (if (r + 2 ^ n) ^ k ≤ x then r + 2 ^ n else r)

/-- The first 32 bits of the fraction of the `k`-th root of `p`. -/
def rootFraction (k p : Nat) : U32 := BitVec.ofNat 32 (rootBelow k (p * 2 ^ (32 * k)) 40 0)

/-- The primes below a number up to 441: those with no divisor from 2 to 20 but themselves. The first 64 are below 312. -/
def primesBelow (m : Nat) : List Nat :=
  (List.range m).filter fun n => decide (2 ≤ n) && (List.range 19).all fun d => decide (n ≤ d + 2) || decide (n % (d + 2) ≠ 0)
def hashPrimes : List Nat := primesBelow 312

/-! ## The hash -/

/-- The eight chained words of the hash. -/
structure HashState where
  a : U32
  b : U32
  c : U32
  d : U32
  e : U32
  f : U32
  g : U32
  h : U32

/-- The chained words as a list, and the sum of two states word by word. -/
def HashState.words (s : HashState) : List U32 := [s.a, s.b, s.c, s.d, s.e, s.f, s.g, s.h]
def HashState.plus (s t : HashState) : HashState :=
  ⟨s.a + t.a, s.b + t.b, s.c + t.c, s.d + t.d, s.e + t.e, s.f + t.f, s.g + t.g, s.h + t.h⟩

/-- What the hash begins with: the square roots of the first eight primes. -/
def HashState.first : HashState :=
  let r := fun (p : Nat) => rootFraction 2 p
  ⟨r 2, r 3, r 5, r 7, r 11, r 13, r 17, r 19⟩

/-- A word turned right by three amounts, and turned by two and shifted by the third, summed without carry. -/
def turned {n : Nat} (x : BitVec n) (i j k : Nat) : BitVec n := x.rotateRight i ^^^ x.rotateRight j ^^^ x.rotateRight k
def shifted {n : Nat} (x : BitVec n) (i j k : Nat) : BitVec n := x.rotateRight i ^^^ x.rotateRight j ^^^ (x >>> k)

/-- One step with a word of the schedule and its constant already summed. -/
def HashState.step (s : HashState) (w : U32) : HashState :=
  let pick := s.g ^^^ (s.e &&& (s.f ^^^ s.g))
  let most := (s.a &&& s.b) ||| (s.c &&& (s.a ||| s.b))
  let t := s.h + turned s.e 6 11 25 + pick + w
  ⟨t + turned s.a 2 13 22 + most, s.a, s.b, s.c, s.d + t, s.e, s.f, s.g⟩

/-- The window of the last sixteen schedule words, oldest first, moved on by one. -/
def nextWindow (win : List U32) : List U32 :=
  win.drop 1 ++ [win.getD 0 0 + shifted (win.getD 1 0) 7 18 3 + win.getD 9 0 + shifted (win.getD 14 0) 17 19 10]

/-- The steps of one block, one for each prime left. -/
def hashSteps : List Nat → List U32 → HashState → HashState
  | [], _, s => s
  | p :: ps, win, s => hashSteps ps (nextWindow win) (s.step (rootFraction 3 p + win.getD 0 0))

/-- The words of a block: big-endian, four bytes each. -/
def blockWords (bs : List Byte) : List U32 :=
  (List.range 16).map fun i => BitVec.ofNat 32 (leNat (slice (4 * i) 4 bs).reverse)

/-- A state after one block. -/
def HashState.block (s : HashState) (bs : List Byte) : HashState := s.plus (hashSteps hashPrimes (blockWords bs) s)

/-- A state after `n` blocks. -/
def HashState.blocks : Nat → List Byte → HashState → HashState
  | 0, _, s => s
  | n + 1, bs, s => HashState.blocks n (bs.drop 64) (s.block bs)

/-- The padding of a message of `n` bytes: one set bit, zeros, and the length in bits as 64 big-endian bits. -/
def hashPadding (n : Nat) : List Byte :=
  0x80 :: List.replicate ((119 - n % 64) % 64) 0 ++ (leBytes 8 (8 * n)).reverse

/-- SHA-256. -/
def sha256 (bs : List Byte) : List Byte :=
  (HashState.blocks ((bs.length + 72) / 64) (bs ++ hashPadding bs.length) HashState.first).words.flatMap
    fun w => (leBytes 4 w.toNat).reverse

/-! ## HMAC and HKDF -/

/-- HMAC-SHA-256. -/
def hmac (key msg : List Byte) : List Byte :=
  let short := if 64 < key.length then sha256 key else key
  let pad := fun (m : Byte) => (slice 0 64 short).map (m ^^^ ·)
  sha256 (pad 0x5C ++ sha256 (pad 0x36 ++ msg))

/-- HKDF-Extract. -/
def hkdfExtract (salt ikm : List Byte) : List Byte := hmac salt ikm

/-- HKDF-Expand to 32 bytes, and to the 64 bytes of an AES-256-XTS key pair: the two lengths of Table 17-1. -/
def hkdfExpand (prk info : List Byte) : List Byte := hmac prk (info ++ [1])
def hkdfExpand64 (prk info : List Byte) : List Byte :=
  hkdfExpand prk info ++ hmac prk (hkdfExpand prk info ++ info ++ [2])

/-- The bytes of an ASCII string, with no terminator. -/
def ascii (s : String) : List Byte := s.toList.map fun c => BitVec.ofNat 8 c.toNat

end Sys2Proof.Machine
end

