-- ==== Sys2Proof/Machine/Ecdsa.lean ====
section
/-! DEFINITION. SHA-384 and the check of an ECDSA signature on the curve P-384 (FIPS 180-4, FIPS 186-4), by which an image
is valid (R499). Byte strings are numbers with the most significant byte first. -/

namespace Sys2Proof.Machine

/-! ## SHA-384 -/

/-- The first 64 bits of the fraction of the `k`-th root of `p`. -/
def wideFraction (k p : Nat) : U64 := BitVec.ofNat 64 (rootBelow k (p * 2 ^ (64 * k)) 72 0)

/-- One step on the eight chained words with a schedule word and its constant already summed. -/
def wideStep (w : U64) : List U64 → List U64
  | [a, b, c, d, e, f, g, h] =>
    let t := h + turned e 14 18 41 + (g ^^^ (e &&& (f ^^^ g))) + w
    [t + turned a 28 34 39 + ((a &&& b) ||| (c &&& (a ||| b))), a, b, c, d + t, e, f, g]
  | s => s

/-- The window of the last sixteen schedule words moved on by one. -/
def wideWindow (win : List U64) : List U64 :=
  win.drop 1 ++ [win.getD 0 0 + shifted (win.getD 1 0) 1 8 7 + win.getD 9 0 + shifted (win.getD 14 0) 19 61 6]

/-- The steps of one block: eighty, one for each prime left. -/
def wideSteps : List Nat → List U64 → List U64 → List U64
  | [], _, s => s
  | p :: ps, win, s => wideSteps ps (wideWindow win) (wideStep (wideFraction 3 p + win.getD 0 0) s)

/-- The chained words after `n` blocks of 128 bytes. -/
def wideBlocks : Nat → List Byte → List U64 → List U64
  | 0, _, s => s
  | n + 1, bs, s =>
    let win := (List.range 16).map fun i => BitVec.ofNat 64 (leNat (slice (8 * i) 8 bs).reverse)
    wideBlocks n (bs.drop 128) (List.zipWith (· + ·) s (wideSteps (primesBelow 410) win s))

/-- SHA-384: it begins with the square roots of the ninth to the sixteenth prime, and ends with six words. -/
def sha384 (bs : List Byte) : List Byte :=
  let n := bs.length
  let padded := bs ++ 0x80 :: List.replicate ((239 - n % 128) % 128) 0 ++ (leBytes 16 (8 * n)).reverse
  let first := [23, 29, 31, 37, 41, 43, 47, 53].map (wideFraction 2)
  ((wideBlocks ((n + 144) / 128) padded first).take 6).flatMap fun w => (leBytes 8 w.toNat).reverse

/-! ## The curve -/

/-- The field, the order of the base point, the coefficient of the curve, and the base point. -/
def curveField : Nat := 2 ^ 384 - 2 ^ 128 - 2 ^ 96 + 2 ^ 32 - 1
def curveOrder : Nat :=
  0xFFFFFFFFFFFFFFFFFFFFFFFFFFFFFFFFFFFFFFFFFFFFFFFFC7634D81F4372DDF581A0DB248B0A77AECEC196ACCC52973
def curveB : Nat :=
  0xB3312FA7E23EE7E4988E056BE3F82D19181D9C6EFE8141120314088F5013875AC656398D8A2ED19D2A85C8EDD3EC2AEF
def curveBase : Nat × Nat :=
  (0xAA87CA22BE8B05378EB1C71EF320AD746E1D3B628BA79B9859F741E082542A385502F25DBF55296C3A545E3872760AB7,
   0x3617DE4A96262C6F5D9E98BF9292DC29F8F41DBD289A147CE9DA3113B5F0B8C00A60B1CE1D7E819D7A431D7C90EA0E5F)

/-- A power modulo `m`, over the `k` low bits of the exponent, and the inverse modulo a prime of 384 bits. -/
def powerMod (m : Nat) : (k b e : Nat) → Nat
  | 0, _, _ => 1
  | k + 1, b, e => (if e % 2 = 1 then b else 1) * powerMod m k (b * b % m) (e / 2) % m
def inverseMod (m x : Nat) : Nat := powerMod m 384 x (m - 2)

/-- A difference in the field. -/
def fieldSub (x y : Nat) : Nat := (x + curveField - y % curveField) % curveField

/-- A point lies on the curve. -/
def onCurve (q : Nat × Nat) : Bool :=
  decide (q.1 < curveField) && decide (q.2 < curveField)
    && decide (q.2 * q.2 % curveField = (fieldSub (q.1 * q.1 * q.1 % curveField) (3 * q.1) + curveB) % curveField)

/-- The sum of two points; `none` is the point at infinity. -/
def pointAdd : Option (Nat × Nat) → Option (Nat × Nat) → Option (Nat × Nat)
  | none, q => q
  | some p, none => some p
  | some p, some q =>
    if p.1 = q.1 && (p.2 + q.2) % curveField = 0 then none
    else
      let rise := if p.1 = q.1 then fieldSub (3 * p.1 * p.1 % curveField) 3 else fieldSub q.2 p.2
      let run := if p.1 = q.1 then 2 * p.2 else fieldSub q.1 p.1
      let m := rise * inverseMod curveField run % curveField
      let x := fieldSub (m * m % curveField) (p.1 + q.1)
      some (x, fieldSub (m * fieldSub p.1 x % curveField) p.2)

/-- A point taken a number of times, over the `n` low bits of the number. -/
def pointTimes : (n k : Nat) → Option (Nat × Nat) → Option (Nat × Nat)
  | 0, _, _ => none
  | n + 1, k, p => pointAdd (if k % 2 = 1 then p else none) (pointTimes n (k / 2) (pointAdd p p))

/-! ## The signature -/

/-- A number of bytes, most significant byte first. -/
def beNat (bs : List Byte) : Nat := leNat bs.reverse

/-- The point of an uncompressed public key of 97 bytes. -/
def keyPoint (key : List Byte) : Option (Nat × Nat) :=
  let q := (beNat (slice 1 48 key), beNat (slice 49 48 key))
  if key.head? = some 0x04 && onCurve q then some q else none

/-- A signature `r ‖ s` over a message under a public key. -/
def signatureHolds (key msg sig : List Byte) : Bool :=
  let r := beNat (slice 0 48 sig)
  let s := beNat (slice 48 48 sig)
  match keyPoint key with
  | none => false
  | some q =>
    let w := inverseMod curveOrder s
    let u := beNat (sha384 msg) * w % curveOrder
    let v := r * w % curveOrder
    decide (0 < r) && decide (r < curveOrder) && decide (0 < s) && decide (s < curveOrder)
      && (match pointAdd (pointTimes 384 u (some curveBase)) (pointTimes 384 v (some q)) with
        | none => false
        | some p => decide (p.1 % curveOrder = r))

end Sys2Proof.Machine
end

