-- ==== Sys2Proof/Machine/Aes.lean ====
section
/-! DEFINITION. AES-256 and XTS-AES-256 (FIPS 197, IEEE 1619), by which the Negative and tier F are encrypted at rest
(R255, R492). -/

namespace Sys2Proof.Machine

/-! ## The field of bytes -/

/-- A byte times x, modulo x^8 + x^4 + x^3 + x + 1. -/
def fieldX (b : Byte) : Byte := (b <<< 1) ^^^ (if b.msb then 0x1B else 0)

/-- The product of two bytes, over the `n` low bits of the second. -/
def fieldMulBits (a b : Byte) : Nat → Byte
  | 0 => 0
  | n + 1 => fieldX (fieldMulBits a (b >>> 1) n) ^^^ (if b.getLsbD 0 then a else 0)
def fieldMul (a b : Byte) : Byte := fieldMulBits a b 8

/-- The inverse of a byte, 0 for 0: its 254th power. -/
def fieldInv (a : Byte) : Byte :=
  let sq := fun (x : Byte) => fieldMul x x
  let a2 := sq a
  let a4 := sq a2
  let a8 := sq a4
  let a16 := sq a8
  let a32 := sq a16
  let a64 := sq a32
  fieldMul (fieldMul (fieldMul a2 a4) (fieldMul a8 a16)) (fieldMul (fieldMul a32 a64) (sq a64))

/-- The substitution of a byte and its inverse. -/
def subByte (b : Byte) : Byte :=
  let i := fieldInv b
  i ^^^ i.rotateLeft 1 ^^^ i.rotateLeft 2 ^^^ i.rotateLeft 3 ^^^ i.rotateLeft 4 ^^^ 0x63
def unsubByte (b : Byte) : Byte := fieldInv (b.rotateLeft 1 ^^^ b.rotateLeft 3 ^^^ b.rotateLeft 6 ^^^ 0x05)

/-! ## The block cipher. A block is 16 bytes, column by column. -/

def xorBytes (a b : List Byte) : List Byte := List.zipWith (· ^^^ ·) a b

/-- The bytes of row r move r columns to the left, or back. -/
def shiftRows (b : List Byte) : List Byte := (List.range 16).map fun i => b.getD ((i + 4 * (i % 4)) % 16) 0
def unshiftRows (b : List Byte) : List Byte := (List.range 16).map fun i => b.getD ((i + 12 * (i % 4)) % 16) 0

/-- Each column times a fixed polynomial, given by its coefficients. -/
def mixColumns (k : List Byte) (b : List Byte) : List Byte :=
  (List.range 16).map fun i => (List.range 4).foldl (fun acc j =>
    acc ^^^ fieldMul (k.getD ((j + 4 - i % 4) % 4) 0) (b.getD (i / 4 * 4 + j) 0)) 0
def mixForward : List Byte := [2, 3, 1, 1]
def mixBack : List Byte := [0x0E, 0x0B, 0x0D, 0x09]

/-- The words of the key schedule, newest first: `n` more words after the `i` that are there. -/
def keyWords : (n i : Nat) → (rc : Byte) → List (List Byte) → List (List Byte)
  | 0, _, _, w => w
  | n + 1, i, rc, w =>
    let t := w.getD 0 []
    let t := if i % 8 = 0 then [subByte (t.getD 1 0) ^^^ rc, subByte (t.getD 2 0), subByte (t.getD 3 0),
        subByte (t.getD 0 0)]
      else if i % 8 = 4 then t.map subByte else t
    keyWords n (i + 1) (if i % 8 = 0 then fieldX rc else rc) (xorBytes (w.getD 7 []) t :: w)

/-- The fifteen round keys of a 32-byte key. -/
def roundKeys (key : List Byte) : List (List Byte) :=
  let w := (keyWords 52 8 1 ((List.range 8).map fun i => slice (4 * i) 4 key).reverse).reverse
  (List.range 15).map fun r => ((w.drop (4 * r)).take 4).flatten

/-- One block encrypted, and decrypted, under round keys. -/
def aesEncrypt (ks : List (List Byte)) (b : List Byte) : List Byte :=
  let b := xorBytes b (ks.getD 0 [])
  let b := ((ks.drop 1).take 13).foldl (fun b k => xorBytes (mixColumns mixForward (shiftRows (b.map subByte))) k) b
  xorBytes (shiftRows (b.map subByte)) (ks.getD 14 [])
def aesDecrypt (ks : List (List Byte)) (b : List Byte) : List Byte :=
  let b := (unshiftRows (xorBytes b (ks.getD 14 []))).map unsubByte
  let b := ((ks.drop 1).take 13).foldr (fun k b => (unshiftRows (mixColumns mixBack (xorBytes b k))).map unsubByte) b
  xorBytes b (ks.getD 0 [])

/-! ## XTS -/

/-- The next block's mask: times x in the field of 128 bits. -/
def nextMask (m : List Byte) : List Byte :=
  let n := 2 * leNat m
  leBytes 16 (if n < 2 ^ 128 then n else Nat.xor (n - 2 ^ 128) 0x87)

/-- The blocks of a data unit under a block function, each masked before and after. -/
def xtsBlocks (f : List Byte → List Byte) : (n : Nat) → (mask bs : List Byte) → List Byte
  | 0, _, _ => []
  | n + 1, m, bs => xorBytes (f (xorBytes (slice 0 16 bs) m)) m ++ xtsBlocks f n (nextMask m) (bs.drop 16)

/-- A 4 KiB data unit encrypted, and decrypted, under a 64-byte key pair and a tweak. -/
def xtsMask (key : List Byte) (tweak : Nat) : List Byte := aesEncrypt (roundKeys (key.drop 32)) (leBytes 16 tweak)
def xtsEncrypt (key : List Byte) (tweak : Nat) (bs : List Byte) : List Byte :=
  xtsBlocks (aesEncrypt (roundKeys (key.take 32))) 256 (xtsMask key tweak) bs
def xtsDecrypt (key : List Byte) (tweak : Nat) (bs : List Byte) : List Byte :=
  xtsBlocks (aesDecrypt (roundKeys (key.take 32))) 256 (xtsMask key tweak) bs

/-! ## Key wrap (RFC 3394) -/

/-- One step on the check word and the words of the key data: step `t` of six rounds over `n` words. -/
def wrapStep (ks : List (List Byte)) (n : Nat) (x : List Byte × List (List Byte)) (t : Nat) : List Byte × List (List Byte) :=
  let b := aesEncrypt ks (x.1 ++ x.2.getD (t % n) [])
  (xorBytes (b.take 8) (leBytes 8 (t + 1)).reverse, x.2.set (t % n) (b.drop 8))

/-- Key data of whole 8-byte words wrapped under a 32-byte key. -/
def keyWrap (key data : List Byte) : List Byte :=
  let n := data.length / 8
  let x := (List.range (6 * n)).foldl (wrapStep (roundKeys key) n)
    (List.replicate 8 0xA6, (List.range n).map fun i => slice (8 * i) 8 data)
  x.1 ++ x.2.flatten

end Sys2Proof.Machine
end

