-- ==== Sys2Proof/Config.lean ====
section
/-! DEFINITION. What the spec leaves open: free values, each an uninterpreted constant. Nothing in Lean can
evaluate one, so whatever is proved holds for every value of it. The argument `n` is the state's counter of free
values drawn so far (assumption 1). -/

namespace Sys2Proof.Config

/-- The controller's answer to the `n`-th in-band interrupt the device requests (R465): 0 it is acknowledged,
1 it wins arbitration and is NACKed, any other number it loses arbitration. -/
opaque ibiAnswer : Nat → Nat

/-- The `n`-th 32 bytes of the true random number generator (R497, the epoch secret of the Security chapter). -/
opaque random : Nat → BitVec 256

/-- What an option flash byte reads after an aborted program or erase (R184, R205). -/
opaque flashByte : (n address : Nat) → BitVec 8

/-- What a host DRAM frame holds after the ranks were powered up or came through RESET_n (R221). -/
opaque frameAtPowerUp : (n frame : Nat) → BitVec 32768

/-- A NAND block's erase count and factory bad mark before this model first sees it erased or retired (R294). -/
opaque blockAtFactory : (channel block : Nat) → Nat × Bool

/-- The fitted NAND as its parameter pages give it (Table 9-1, R472): LUNs per chip enable, blocks per LUN and the block
address bits of a LUN, at most 14 of the 15 of R250 (assumption 78); the pages per block that a pSLC block has beyond
its first, and a TLC block beyond its first wordline of three. -/
opaque lunsPerTarget : Nat
opaque blocksPerLun : Nat
opaque blockBits : Fin 15
opaque pslcPages : Fin 1024
opaque tlcPages : Fin 3070

/-- Whether JEDEC duplicates a mode register per frequency set point (R227). -/
opaque mrDuplicated : BitVec 8 → Bool

/-- The reset value JEDEC defines for a mode register, where it defines one (R532). -/
opaque mrReset : BitVec 8 → Option (BitVec 8)

/-- The fused inputs of the key unit (R490). -/
opaque otpSeed : BitVec 256
opaque pufKey : BitVec 256

/-- The fused hash of the vendor's key (R499), its first byte lowest. -/
opaque vendorKeyHash : BitVec 384

/-- The answers of GETSTATUS, GETMXDS and GETCAPS, whose bytes I3C Basic leaves to the target, and the bits of the
BCR that Table 14-1 does not name (R446). -/
opaque bcrOpen : BitVec 8
opaque getStatus : Nat → List (BitVec 8)
opaque getMxds : List (BitVec 8)
opaque getCaps : List (BitVec 8)

/-- The contents of a READ's buffer after a status that delivers no data (R402). -/
opaque bufferByte : (n i : Nat) → BitVec 8

/-- The bytes of factory calibration, sector 31, and of the firmware images as shipped (R177). -/
opaque factoryByte : (address : Nat) → BitVec 8

/-- Whether the tier D copy of a tile passes its structure and CRC checks when it is next decoded (R377). -/
opaque tierDGood : (n : Nat) → Bool

/-- A byte that no write has covered of a tile that a partial write brought into being (R396). -/
opaque unwrittenByte : (n i : Nat) → BitVec 8

/-- The main-die temperature, in 0.1 °C, that its sensor reads at an AON time (0xB000.02). -/
opaque mainTemp : (aonTime : Nat) → BitVec 16

/-- How long, in µs, the `n`-th restart of the supervisor core takes, of which the model takes the part below 5 ms (R87). -/
opaque restartTime : Nat → Nat

end Sys2Proof.Config
end

