-- ==== Sys2Proof/Machine/Objects.lean ====
section
/-! DEFINITION. The object dictionary as the spec's tables list it: every object's type, size, access class,
persistence, die, default and range (Tables 2-2, 4-7, 10-6, 12-10, 13-10, 14-9, 15-1 to 15-7, 16-1 to 16-5). -/

namespace Sys2Proof.Machine

/-- Abort codes of Table 14-5, and 0x00 for a request that is done. -/
inductive Abort where
  | done | pecError | frameError | segmentSequence | typeMismatch | lengthMismatch
  | objectAbsent | subindexAbsent | readOnly | writeOnly | accessDenied | sessionRequired | writeProtected
  | valueRange | deviceState | stateBusy | deviceFault | seqBusy
  | negativePending | busNotParked | negativeLocked | noNegative | negativeStale | energyLow
  | pageOrder | sectorBusy | flashBusy | flashUncorrectable | authFailed | signatureInvalid | versionRollback
  deriving DecidableEq, Repr

/-- The numeric code of an abort (R467). -/
def abortCode : Abort → Byte
  | .done => 0x00 | .pecError => 0x01 | .frameError => 0x02 | .segmentSequence => 0x03 | .typeMismatch => 0x04
  | .lengthMismatch => 0x05 | .objectAbsent => 0x10 | .subindexAbsent => 0x11 | .readOnly => 0x12
  | .writeOnly => 0x13 | .accessDenied => 0x14 | .sessionRequired => 0x15 | .writeProtected => 0x16
  | .valueRange => 0x20 | .deviceState => 0x30 | .stateBusy => 0x31 | .deviceFault => 0x32 | .seqBusy => 0x33
  | .negativePending => 0x40 | .busNotParked => 0x41 | .negativeLocked => 0x42 | .noNegative => 0x43
  | .negativeStale => 0x44 | .energyLow => 0x45 | .pageOrder => 0x50 | .sectorBusy => 0x51 | .flashBusy => 0x52
  | .flashUncorrectable => 0x53 | .authFailed => 0x60 | .signatureInvalid => 0x61 | .versionRollback => 0x62

/-- The types of Table 14-6 that an object of this device has. -/
inductive Ty where
  | bool | u8 | u16 | u32 | u64 | i16 | vstr | domain | record
  deriving DecidableEq, Repr

/-- The type codes of Table 14-6. -/
def tyCode : Ty → Byte
  | .bool => 0x01 | .u8 => 0x02 | .u16 => 0x03 | .u32 => 0x04 | .u64 => 0x05 | .i16 => 0x06 | .vstr => 0x09
  | .domain => 0x0A | .record => 0x0B

/-- The access classes of Table 14-7. -/
inductive Acc where
  | ro | wo | rw | rws | rwu | rwsu
  deriving DecidableEq, Repr

/-- One row of the tables: a family of indices, a run of subindices, and what is common to them. `size` is the
length in bytes (for a DOMAIN its maximum, 0 where it varies); `pers` says persistence P; `main` says that the main
die holds the object (R472, R481); `dflt` is the default of a P object; `lo` and `hi` bound a write. -/
structure Row where
  idx : Nat
  nidx : Nat
  sub : Nat
  nsub : Nat
  ty : Ty
  size : Nat
  acc : Acc
  pers : Bool
  main : Bool
  dflt : Nat
  lo : Int
  hi : Int
  deriving DecidableEq, Repr

/-- A read-only object of the AON die, and one of the main die. -/
def ro (i ni s ns : Nat) (t : Ty) (sz : Nat) : Row := ⟨i, ni, s, ns, t, sz, .ro, false, false, 0, 0, 0⟩
def roM (i ni s ns : Nat) (t : Ty) (sz : Nat) : Row := ⟨i, ni, s, ns, t, sz, .ro, false, true, 0, 0, 0⟩
/-- A write-only object with its range. -/
def wo (i ni s ns : Nat) (t : Ty) (sz : Nat) (lo hi : Int) : Row := ⟨i, ni, s, ns, t, sz, .wo, false, false, 0, lo, hi⟩
/-- A persistent object that is written in SETUP only, and one that is written in every state. -/
def ps (i ni s ns : Nat) (t : Ty) (sz d : Nat) (lo hi : Int) : Row := ⟨i, ni, s, ns, t, sz, .rws, true, false, d, lo, hi⟩
def pw (i ni s ns : Nat) (t : Ty) (sz d : Nat) (lo hi : Int) : Row := ⟨i, ni, s, ns, t, sz, .rw, true, false, d, lo, hi⟩
/-- A volatile object of access RW. -/
def vw (i ni s ns : Nat) (t : Ty) (sz : Nat) (lo hi : Int) : Row := ⟨i, ni, s, ns, t, sz, .rw, false, false, 0, lo, hi⟩

/-- The largest value of a U32. -/
def u32Max : Int := 4294967295

/-- Table 15-1. -/
def rowsState : List Row :=
  [ ro 0x1000 1 1 1 .u16 2, ro 0x1000 1 2 1 .u8 1, ro 0x1000 1 3 1 .vstr 8, ro 0x1000 1 4 1 .vstr 16,
    ro 0x1000 1 5 1 .u32 4,
    ro 0x1100 1 1 3 .u8 1, ps 0x1100 1 4 1 .u16 2 0 0 0x7FFF, ro 0x1100 1 5 5 .u32 4,
    ro 0x1400 1 1 5 .u8 1, ro 0x1400 1 6 1 .u32 4,
    wo 0x1410 1 1 1 .u8 1 1 8,
    ro 0x1420 1 1 2 .u8 1, ro 0x1420 1 3 3 .u32 4, ro 0x1420 1 6 1 .u16 2, vw 0x1420 1 7 1 .u8 1 0 255,
    ro 0x1420 1 8 1 .u8 1 ]

/-- Tables 15-2 and 4-7. -/
def rowsRails : List Row :=
  [ ps 0x2000 16 1 1 .u32 4 0 0 20000000, ps 0x2000 16 2 1 .u16 2 1000 1000 12000,
    ps 0x2000 16 3 2 .u16 2 500 50 2000, ps 0x2000 16 5 1 .u8 1 25 10 50, ps 0x2000 16 6 1 .u8 1 10 0 255,
    ps 0x2000 16 7 1 .u32 4 0 0 1000000, ps 0x2000 16 8 1 .u32 4 2000 1 1000000, ps 0x2000 16 9 1 .u8 1 0 0 1,
    ps 0x2000 16 0xA 1 .u8 1 1 0 3, ps 0x2000 16 0xB 1 .bool 1 0 0 1, ps 0x2000 16 0xC 1 .i16 2 0 (-8192) 8191,
    ps 0x2000 16 0xD 1 .u16 2 200 10 10000,
    ps 0x2020 1 1 1 .u16 2 4350 4000 4450, ps 0x2020 1 2 1 .u16 2 150 50 400, ps 0x2020 1 3 1 .u32 4 300 10 10000,
    ps 0x2020 1 4 1 .u32 4 2000 100 100000, ro 0x2020 1 5 2 .u32 4,
    ro 0x2100 16 1 1 .u8 1, ro 0x2100 16 2 1 .u32 4, vw 0x2100 16 3 1 .u32 4 0 u32Max, wo 0x2100 16 4 1 .bool 1 0 1,
    ro 0x2100 16 5 1 .u32 4, ro 0x2100 16 6 1 .u16 2, ro 0x2100 16 7 1 .u8 1 ]

/-- Table 15-4. The default of a directory entry has SAFE_EXIT 0x3FF (Table 4-4). -/
def rowsSequencer : List Row :=
  [ ⟨0x2200, 1, 1, 1, .domain, 32768, .rws, false, false, 0, 0, 0⟩,
    ps 0x2210 1 1 16 .record 16 (0x3FF * 2 ^ 20) 0 0,
    ro 0x2220 1 1 1 .record 6, ro 0x2220 1 2 2 .u8 1, ro 0x2220 1 4 1 .u16 2, ro 0x2220 1 5 1 .u32 4,
    wo 0x2230 1 1 1 .u8 1 1 16,
    vw 0x2300 1 1 16 .i16 2 (-32768) 32767, vw 0x2310 1 1 16 .u32 4 0 u32Max, ps 0x2320 1 1 16 .u16 2 40 0 400,
    ro 0x2400 1 1 16 .record 40, wo 0x2410 1 1 1 .bool 1 0 1, ps 0x2410 1 2 1 .u16 2 24 1 8760,
    ps 0x2410 1 3 1 .u32 4 1000 1 u32Max, wo 0x2410 1 4 1 .bool 1 0 1, ro 0x2410 1 5 2 .u32 4 ]

/-- Table 15-5. -/
def rowsCell : List Row :=
  [ ps 0x2500 1 1 1 .u16 2 300 200 600, ps 0x2500 1 2 1 .u16 2 4100 4000 4200, ps 0x2500 1 3 1 .u16 2 100 20 300,
    ps 0x2500 1 4 1 .u16 2 10 5 50, ps 0x2500 1 5 1 .u16 2 3000 2700 3400, ps 0x2500 1 6 1 .u32 4 10000 0 100000,
    ro 0x2500 1 7 1 .u8 1, ro 0x2500 1 8 4 .u32 4, ro 0x2500 1 0xC 1 .u8 1, ro 0x2500 1 0xD 2 .u32 4,
    ro 0x2500 1 0xF 1 .u8 1, ro 0x2500 1 0x10 1 .u32 4, wo 0x2500 1 0x11 1 .bool 1 0 1 ]

/-- Table 15-6. -/
def rowsNegative : List Row :=
  [ roM 0x3000 1 1 1 .u8 1, roM 0x3000 1 2 2 .u32 4, roM 0x3000 1 4 1 .u8 1, roM 0x3000 1 5 2 .u64 8,
    roM 0x3000 1 7 1 .bool 1,
    roM 0x3010 1 1 1 .u8 1, roM 0x3010 1 2 4 .u32 4, ps 0x3010 1 6 1 .u8 1 8 1 32, ps 0x3010 1 7 1 .u16 2 1000 100 4000,
    wo 0x3010 1 8 1 .bool 1 0 1,
    roM 0x3020 1 1 1 .u8 1, wo 0x3020 1 2 1 .u32 4 0 u32Max, roM 0x3030 1 1 1 .domain 0,
    ps 0x3040 1 1 1 .bool 1 0 0 1, ps 0x3040 1 2 1 .u8 1 4 1 7, ps 0x3040 1 3 1 .u8 1 0 0 1,
    ps 0x3040 1 4 1 .u8 1 0x0F 0 255 ]

/-- Table 15-7. -/
def rowsFlashNand : List Row :=
  [ ro 0x4000 1 1 1 .u8 1, ro 0x4000 1 2 5 .u32 4, ro 0x4010 1 1 32 .u32 4,
    vw 0x4020 1 1 1 .u32 4 0 0x1FFFFF, ⟨0x4020, 1, 2, 1, .domain, 65536, .rw, false, false, 0, 0, 0⟩,
    wo 0x4020 1 3 1 .u8 1 0 31, ro 0x4020 1 4 1 .u8 1,
    wo 0x4030 1 1 1 .bool 1 0 1, ro 0x4030 1 2 3 .u8 1, ro 0x4030 1 5 2 .u32 4,
    ps 0x4040 1 1 1 .u32 4 0 0 u32Max,
    ps 0x5000 1 1 1 .u8 1 1 1 4, roM 0x5000 1 2 1 .u8 1, roM 0x5000 1 3 1 .u64 8,
    ps 0x5000 1 4 1 .u32 4 30000 1 1000000, ps 0x5000 1 5 1 .u32 4 3000 1 100000, ps 0x5000 1 6 1 .u8 1 0xA0 0 255,
    ps 0x5000 1 7 1 .u8 1 0x61 0 255, ps 0x5000 1 8 1 .u8 1 0xD2 0 255, ps 0x5000 1 9 1 .u8 1 0x89 0 255,
    ps 0x5000 1 0xA 1 .u8 1 7 0 31,
    roM 0x5010 1 1 8 .u16 2, roM 0x5010 1 9 2 .u8 1, wo 0x5010 1 0xB 1 .bool 1 0 1,
    ps 0x5020 1 1 1 .u16 2 168 24 720, ps 0x5020 1 2 1 .u16 2 50 20 1000, ps 0x5020 1 3 1 .u8 1 60 10 100,
    roM 0x5020 1 4 1 .u16 2, roM 0x5020 1 5 4 .u32 4,
    ps 0x5030 1 1 1 .u16 2 150 125 400, roM 0x5030 1 2 2 .u64 8,
    roM 0x5040 1 1 2 .u8 1, ps 0x5040 1 3 1 .u8 1 90 1 255, roM 0x5040 1 4 2 .u64 8, roM 0x5040 1 6 1 .u32 4 ]

/-- Tables 16-1 and 10-6. -/
def rowsTiers : List Row :=
  [ ps 0x6010 1 1 4 .u8 1 30 0 120, ps 0x6010 1 5 4 .u32 4 1472 0 5888, ps 0x6010 1 9 4 .u32 4 0 0 u32Max,
    ro 0x6020 1 1 1 .u64 8, roM 0x6020 1 2 1 .u8 1,
    ⟨0x6030, 1, 1, 1, .u16, 2, .wo, false, true, 0, 0, 65535⟩, roM 0x6030 1 2 1 .u8 1,
    ps 0x6040 1 1 1 .u16 2 250 50 10000, ps 0x6040 1 2 1 .u8 1 1 1 8, ps 0x6040 1 3 1 .u16 2 64 1 65535,
    ps 0x6040 1 4 1 .u16 2 4 1 65535, ps 0x6040 1 5 1 .u16 2 30 1 3600,
    ps 0x6050 1 1 1 .u8 1 0x0F 0 255, ps 0x6050 1 2 1 .u16 2 20 0 1000, ps 0x6050 1 3 1 .u16 2 150 40 10000,
    ps 0x6050 1 4 1 .u16 2 40 0 1000,
    roM 0x6060 1 1 1 .domain 0, roM 0x6070 1 1 1 .u8 1, roM 0x6070 1 2 10 .u32 4,
    roM 0x6080 1 1 4 .record 12, roM 0x6080 1 5 1 .u32 4 ]

/-- Tables 16-2, 12-10 and 13-10. -/
def rowsPortsIrq : List Row :=
  [ ps 0x7000 4 1 1 .bool 1 1 0 1, ps 0x7000 4 2 1 .u8 1 4 1 4, ps 0x7000 4 3 1 .u8 1 2 1 2,
    roM 0x7100 4 1 4 .u8 1, roM 0x7100 4 5 1 .u64 8, roM 0x7100 4 6 3 .u32 4, roM 0x7100 4 9 1 .u8 1,
    roM 0x7100 4 0xA 3 .u32 4,
    ps 0x7200 1 1 1 .u16 2 0 0 65535, ps 0x7200 1 2 1 .u16 2 0x6480 0 65535, ps 0x7200 1 3 2 .u16 2 0 0 65535,
    vw 0x8100 6 1 1 .bool 1 0 1, pw 0x8100 1 2 1 .bool 1 1 0 1, pw 0x8100 6 3 1 .u8 1 1 1 255,
    pw 0x8100 6 4 1 .u16 2 0 0 65535, roM 0x8100 6 5 2 .u16 2,
    ⟨0x8100, 6, 7, 1, .u16, 2, .wo, false, true, 0, 0, 191⟩, roM 0x8100 6 8 2 .domain 24,
    ⟨0x8200, 1, 1, 1, .domain, 768, .rw, true, false, 0, 0, 0⟩, pw 0x8300 1 1 16 .u32 4 0 0 u32Max,
    roM 0x8400 1 1 13 .u32 4 ]

/-- Table 16-3. -/
def rowsObserver : List Row :=
  [ ps 0x9000 1 1 1 .u8 1 3 1 3, ps 0x9000 1 2 1 .u8 1 1 1 2, ps 0x9000 1 3 1 .u8 1 14 14 17, ro 0x9000 1 4 1 .u32 4,
    roM 0x9010 1 1 2 .u8 1, roM 0x9010 1 3 1 .u64 8, roM 0x9010 1 4 2 .bool 1, roM 0x9010 1 6 5 .u32 4,
    roM 0x9020 1 1 1 .domain 16384, roM 0x9020 1 2 1 .u32 4, ps 0x9030 1 1 1 .u8 1 2 0 2,
    ps 0x9040 1 1 1 .u16 2 250 100 10000, roM 0x9040 1 2 1 .domain 0, roM 0x9050 1 1 2 .u8 1, roM 0x9050 1 3 3 .u32 4,
    roM 0x9060 1 1 1 .u32 4, roM 0x9060 1 2 1 .bool 1, roM 0x9060 1 3 1 .domain 65536 ]

/-- Tables 16-4 and 16-5. -/
def rowsSecurityLogs : List Row :=
  [ ro 0xA000 1 1 2 .u8 1, ro 0xA000 1 3 2 .u32 4, ro 0xA000 1 5 1 .u8 1, wo 0xA010 1 1 1 .record 32 0 0,
    ro 0xA020 1 1 1 .record 32, wo 0xA020 1 2 1 .record 32 0 0, wo 0xA020 1 3 1 .bool 1 0 1,
    ⟨0xA020, 1, 4, 1, .u16, 2, .rwsu, true, false, 300, 10, 3600⟩,
    ⟨0xA030, 1, 1, 1, .domain, 524288, .wo, false, false, 0, 0, 0⟩, ro 0xA030 1 2 1 .u8 1, ro 0xA030 1 3 1 .u32 4,
    wo 0xA030 1 4 1 .bool 1 0 1, ro 0xA030 1 5 1 .u32 4,
    wo 0xA040 1 1 1 .u32 4 0x53414E49 0x53414E49, ro 0xA040 1 2 1 .u8 1, ro 0xA040 1 3 1 .u32 4,
    ro 0xB000 1 1 1 .i16 2, roM 0xB000 1 2 1 .i16 2, ro 0xB000 1 3 1 .u32 4, ro 0xB000 1 4 1 .u64 8,
    ro 0xB000 1 5 1 .u32 4, ro 0xB010 1 1 2 .domain 768, ro 0xB010 1 3 1 .record 2, ro 0xB020 1 1 8 .u64 8 ]

/-- The whole object dictionary. -/
def objectRows : List Row :=
  rowsState ++ rowsRails ++ rowsSequencer ++ rowsCell ++ rowsNegative ++ rowsFlashNand ++ rowsTiers ++ rowsPortsIrq
    ++ rowsObserver ++ rowsSecurityLogs

/-- Whether a row covers an index, and an index and subindex. -/
def Row.hasIndex (r : Row) (i : Nat) : Bool := decide (r.idx ≤ i) && decide (i < r.idx + r.nidx)
def Row.covers (r : Row) (i s : Nat) : Bool := r.hasIndex i && decide (r.sub ≤ s) && decide (s < r.sub + r.nsub)

/-- The row of an object. -/
def rowOf (i s : Nat) : Option Row := objectRows.find? fun r => r.covers i s

/-- The highest subindex of an index, which subindex 0x00 reads; `none` where no table lists the index. The tables of
0x8101 to 0x8105 have 0x09 as 0x8100 has (R443). -/
def highestSub (i : Nat) : Option Nat :=
  (objectRows.filter fun r => r.hasIndex i).foldl (fun m r => some (max (m.getD 0) (r.sub + r.nsub - 1))) none

/-- What the LL6440 lacks (R480). -/
def absentOn40 (i s : Nat) : Bool :=
  (i = 0x6010 && [3, 4, 7, 8, 0xB, 0xC].contains s) || (i = 0x6070 && [6, 7, 0xA, 0xB].contains s)
    || (i = 0x6080 && [3, 4].contains s) || [0x7002, 0x7003, 0x7102, 0x7103, 0x8103, 0x8104].contains i
    || (i = 0x8400 && [4, 5, 0xA, 0xB].contains s)

/-- Whether a part has an object: done, OBJECT_ABSENT or SUBINDEX_ABSENT (R4, R443, R470, R479, R480). -/
def existence (small : Bool) (i s : Nat) : Abort :=
  match highestSub i with
  | none => .objectAbsent
  | some _ =>
    if small && absentOn40 i s then .objectAbsent
    else if s = 0 then .done
    else if (rowOf i s).isSome then .done
    else if 0x8101 ≤ i && i ≤ 0x8105 && s = 2 then .objectAbsent
    else .subindexAbsent

/-- The key of an object in the shadow registers. -/
def okey (i s : Nat) : Nat := i * 256 + s

/-- The key of the configuration entry of a source, which the one value 0x8200.01 is made of (R421). -/
def srcKey (n : Nat) : Nat := 0x1000000 + n

/-- The bits of a value that its layout gives a meaning: reserved fields read 0 whatever a write carries there (R16;
Tables 4-4, 13-5 and 13-7). -/
def keepFields (key v : Nat) : Nat :=
  if 0x1000000 ≤ key then v &&& 0xF0F
  else if key / 256 = 0x2210 then v &&& (2 ^ 128 - 2 ^ 64 + 2 ^ 48 + 0xFF * 2 ^ 40 + 0xFFFFF * 2 ^ 10)
  else if key / 256 = 0x8300 then v &&& 0x800700FF
  else v

/-- The default configuration entry of a source (Tables 13-5 and 13-6): disabled, priority 8. -/
def srcDefault (n : Nat) : Nat :=
  let t := if 80 ≤ n && n < 100 then (n - 80) % 4 + 1 else if 112 ≤ n && n < 128 then (n - 112) / 4 + 1 else 0
  t * 256 + 8

/-- The default of a persistent object on a part. -/
def pDefault (small : Bool) (key : Nat) : Nat :=
  if 0x1000000 ≤ key then srcDefault (key - 0x1000000)
  else if small && key / 256 = 0x6010 && key % 256 ≤ 4 then 60
  else if small && key = 0x900001 then 1
  else if small && key = 0x900003 then 15
  else match rowOf (key / 256) (key % 256) with
    | some r => r.dflt
    | none => 0

/-- The range of a write, which the LL6440 narrows for the tier D quotas, the sides and the streams; 0x6030.01 takes a
stream of the part or 0xFFFF (Table 10-6). -/
def rangeOk (small : Bool) (r : Row) (v : Int) : Bool :=
  let hi := if small && r.idx = 0x6010 && r.sub = 5 then 2944 else if small && r.idx = 0x9000 && r.sub = 1 then 1 else r.hi
  let streams := if small then 0x800 else 0x1000
  decide (r.lo ≤ v) && decide (v ≤ hi) && !(r.idx = 0x9000 && r.sub = 1 && v = 2)
    && !(r.idx = 0x6030 && decide (streams ≤ v) && decide (v ≠ 0xFFFF))

/-- Every persistent object of a part, in ascending order of index and subindex (R186, R187). -/
def persistentObjects (small : Bool) : List (Nat × Row) :=
  let all := (objectRows.filter fun r => r.pers).flatMap fun r =>
    (List.range r.nidx).flatMap fun a => (List.range r.nsub).map fun b => (okey (r.idx + a) (r.sub + b), r)
  let there := all.filter fun p => !(small && absentOn40 (p.1 / 256) (p.1 % 256))
  there.foldl (fun acc p => aput acc p.1 p.2) []

end Sys2Proof.Machine
end

