-- ==== Sys2Proof/Machine/State.lean ====
section
/-! DEFINITION. Everything the spec gives the machine, as plain data: one structure per unit, the queue of waiting
commands, and the state right after an AON power-on. INVENTORY.md lists every field with the rule that names it. -/

namespace Sys2Proof.Machine

/-! ## Identity, supplies, clocks and the device state -/

/-- The two parts (R2). -/
inductive Part where
  | ll6480
  | ll6440
  deriving DecidableEq, Repr

/-- The silicon steppings (R2). -/
inductive Stepping where
  | a2
  | b0
  deriving DecidableEq, Repr

/-- What is set at manufacture (0x1000, 0xA000.01, R478), and what follows the running image. -/
structure Ident where
  part : Part
  stepping : Stepping
  serial : BitVec 128
  lifecycle : Bool
  fwVersion : U32
  rollback : U32
  rollbackRows : Nat
  deriving DecidableEq, Repr

/-- Which clock the supervisor core runs from (R71, Table 3-1). -/
inductive CoreClock where
  | aon
  | xtal
  | timebase
  deriving DecidableEq, Repr

/-- Pins, supplies and clocks. The four conditions of R65 are `insDetLow`, `vsbOk`, `pfailLow` and `vinOk`. -/
structure Supply where
  aon : Bool
  aonLow : Bool
  insDetLow : Bool
  vsbOk : Bool
  pfailLow : Bool
  vinOk : Bool
  fwpHigh : Bool
  straps : BitVec 2
  oscValid : Bool
  xtal : Bool
  pll : Bool
  clock : CoreClock
  counting : Bool
  vinUv : U32
  vsbUv : U32
  dieTemp : U16
  mainTemp : U16
  recovered : U32
  triggered : Bool
  deriving DecidableEq, Repr

/-- The eight device states (Table 2-1). -/
inductive DevState where
  | dark
  | boot
  | setup
  | run
  | expose
  | hold
  | develop
  | fault
  deriving DecidableEq, Repr

/-- Where a main-die power-down leads (R49). -/
inductive Leave where
  | dark (cause : Byte)
  | hold
  deriving DecidableEq, Repr

/-- The steps of a main-die power-down: tier save, sequence program, disabling of slots (R49, R274). -/
inductive LeavePhase where
  | save
  | program
  | disable
  deriving DecidableEq, Repr

/-- Device state and boot record (0x1400, 0x1420) and the sequence in progress. -/
structure Sys where
  st : DevState
  prev : DevState
  cause : Byte
  depth : Byte
  faultCause : Byte
  transitions : U32
  resetSource : Byte
  optCopy : Byte
  selfTest : U32
  bootTime : U32
  bootEntries : U32
  wdogRestarts : U16
  restartEnd : Nat
  crystalLost : Bool
  crystalSeen : Bool
  prevDark : Byte
  mainOn : Bool
  bootAt : Nat
  pllWait : Bool
  testDone : Bool
  testFailed : Bool
  powerUpDone : Bool
  leaving : Option (Leave × LeavePhase)
  wakingPartial : Bool
  aonTime : U64
  runUs : Nat
  residency : Fam 8 U64
  deriving DecidableEq, Repr

/-! ## Rails and the sequencer -/

/-- The slot states of 0x2100+n.01. -/
inductive SlotState where
  | off
  | ramping
  | inWindow
  | uv
  | ov
  | latched
  deriving DecidableEq, Repr

/-- One comparator of a slot: its filtered outputs, its suspect mark and its run of failed audits (R100, R105). -/
structure Cmp where
  uv : Bool
  ov : Bool
  short : Bool
  suspect : Bool
  streak : Nat
  deriving DecidableEq, Repr

/-- STATE of the margin status (Table 5-1). -/
inductive MarginState where
  | idle
  | walking
  | settled
  | limit
  | inactive
  deriving DecidableEq, Repr

/-- One rail slot: switch, supervision, margin loop and lifetime counters (0x2100, 0x2300, 0x2310, 0x2400). `rampOver`
says that the ramp window of this enable edge has ended without entry (R110), `driven` that the trim output is driven
(R144). -/
structure RailSlot where
  st : SlotState
  en : Bool
  reading : U32
  flags : U32
  cmpA : Cmp
  cmpB : Cmp
  rampUs : U32
  rampRem : Byte
  awaiting : Bool
  rampOver : Bool
  driven : Bool
  blanked : Bool
  request : U16
  applied : U16
  margin : MarginState
  refused : Bool
  limited : Bool
  clamped : Bool
  steady : Nat
  trim : U16
  counts : Fam 10 U32
  alerted : Fam 3 Bool
  deriving DecidableEq, Repr

/-- What a running program waits for: nothing, a delay, or a condition with its sub-function and slots (R121). -/
inductive SeqWait where
  | none
  | delay
  | cond (arg : Nat) (mask : U16)
  deriving DecidableEq, Repr

/-- A program in the step buffer (R128) and the flags of its run (0x2220.03). -/
structure SeqRun where
  sub : Nat
  role : Nat
  loading : Bool
  words : List U64
  pc : Nat
  c : Bool
  wait : SeqWait
  corrected : Bool
  mismatch : Bool
  flagged : Bool
  exited : Bool
  result : Byte
  deriving DecidableEq, Repr

/-- The sequencer, 0x2220, and the retention buffer of the POWER_FAIL program (R129). -/
structure Seq where
  run : Option SeqRun
  results : Fam 6 Byte
  runFlags : Byte
  signal : U16
  corrected : U32
  pfBuffer : Option (Nat × List U64)
  deriving DecidableEq, Repr

/-! ## Counter log and backup cell -/

/-- Counter log control: a log point deferred (R159) and abandoned writes (R164). -/
structure Log where
  deferred : Option Byte
  abandoned : U32
  deriving DecidableEq, Repr

/-- The backup cell keeper (0x2500). Charge is in µAh. `faults` lists the faults in force, newest first; `estimated` says
that the estimate of R168 has been made since AON power-on; `chargeUs` is the time in CC and CV and `rest` the charges
seen in the last 10 min of continuous no-load with their AON times, newest first (R533). -/
structure Cell where
  phase : KeeperPhase
  connected : Bool
  vcellUv : U32
  qRem : Nat
  qFull : Nat
  measured : Bool
  cycles : U32
  drawn : Nat
  fromFull : Option Nat
  faultCode : Byte
  faults : List Byte
  faultCount : U32
  owed : Bool
  eAvail : U32
  eReq : U32
  guarantee : Bool
  eFull : U32
  switchOn : Bool
  onCell : Bool
  low10 : Bool
  estimated : Bool
  chargeUs : Nat
  rest : List (Nat × Nat)
  deriving DecidableEq, Repr

/-! ## Option flash and the shadow registers -/

/-- One page: its bytes and whether its status byte is 0x00 (VALID) or not (INVALID). An unlisted page is ERASED. -/
structure FlashPage where
  data : List Byte
  valid : Bool
  deriving DecidableEq, Repr

/-- One sector: erase count, write pointer, and the free value of an aborted erase (R180, R181). -/
structure FlashSector where
  erases : U32
  wptr : Nat
  unerased : Option Nat
  deriving DecidableEq, Repr

/-- The work a flash job does (R204). A job of the program store says whether it is the transfer's last one (R197). -/
inductive FlashKind where
  | log (cause : Byte)
  | commit
  | repair (copy : Fin 2)
  | store (last : Bool)
  | raw
  | keys (sanitize : Bool)
  | image
  deriving DecidableEq, Repr

/-- One primitive operation of a job: erase a sector, or program a page of a sector. -/
inductive FlashPrim where
  | erase (sector : Fin 32)
  | program (sector : Fin 32) (page : Fin 256) (data : List Byte)
  deriving DecidableEq, Repr

/-- A queued or running job: what is left of it, and whether its first operation has started. -/
structure FlashJob where
  id : Nat
  kind : FlashKind
  ops : List FlashPrim
  started : Bool
  deriving DecidableEq, Repr

/-- The one erase that may exist, running or suspended (R200 to R203). -/
structure FlashErase where
  sector : Fin 32
  job : Nat
  suspended : Bool
  programs : Nat
  holdoff : Bool
  wanted : Bool
  deriving DecidableEq, Repr

/-- A running page program of a bank. -/
structure FlashProg where
  sector : Fin 32
  page : Fin 256
  data : List Byte
  job : Nat
  deriving DecidableEq, Repr

/-- A read of option flash that waits for the array (R199): the object, where it reads, and what the check bits will find
(R183). -/
structure FlashRead where
  index : Nat
  sub : Nat
  off : Nat
  len : Nat
  errs : WordErrors
  deriving DecidableEq, Repr

/-- Option flash (0x4000 to 0x4040) and the commit of the option block (R463). `storeBank` is the bank that the latest
transfer of 0x2200 writes, `storeSound` says that nothing of it was refused or aborted, `storeReady` that it has ended and
waits for a commit (R196, R197). -/
structure Flash where
  sectors : Fam 32 FlashSector
  pages : Assoc FlashPage
  jobs : List FlashJob
  nextJob : Nat
  erase : Option FlashErase
  prog : Fam 2 (Option FlashProg)
  held : Bool
  readWait : Option FlashRead
  corrected : U32
  uncorrectable : U32
  aborted : U32
  refused : U32
  endurance : U32
  rawAddr : U32
  rawResult : Byte
  dirty : Bool
  dirtySince : Bool
  commitHeld : Bool
  commitRuns : Bool
  copyOneDone : Bool
  copyValid : Byte
  repair : Byte
  loadedSeq : U32
  skipped : U32
  protMask : U32
  progBank : Bool
  fwSelect : Bool
  storeReady : Bool
  storeBank : Bool
  storeSound : Bool
  deriving DecidableEq, Repr

/-! ## Safelight and the handover -/

/-- The rank model states (Table 7-5). -/
inductive RankState where
  | reset
  | idle
  | active
  | pd
  | sr
  | srpd
  | train
  | unknown
  deriving DecidableEq, Repr

/-- Safelight's model and capture of one rank (R226 to R228). `st` is the power and bank state that the rank's commands
lead to, never TRAIN or UNKNOWN: the rank reads TRAIN while a training window is open, with the number of array writes
seen when it opened (R240), and UNKNOWN under a veil (`rankState`). `settled` says that a precharge-all, a self-refresh
entry or RESET_n was decoded since the veil began (R231). `certainNot` holds the addresses whose CERTAIN bit is 0, `masked`
the segments that self-refresh leaves out (R273). -/
structure RankModel where
  st : RankState
  trainAt : Option Nat
  settled : Bool
  rows : Assoc Nat
  refreshing : Bool
  refreshes : U32
  fspWr : Fin 3
  fspOp : Fin 3
  srpd : Bool
  values : Assoc Byte
  written : Ranges
  certainNot : Ranges
  wroteSlot : Bool
  masked : Byte
  deriving DecidableEq, Repr

/-- One sub-channel: its veil with the number of array writes seen when it began (R229, R240), whether the veil's cause is
an open command bus training, a relock under way (R220). -/
structure SubModel where
  veiled : Bool
  veilAt : Nat
  training : Bool
  relock : Bool
  deriving DecidableEq, Repr

/-- Handover and Safelight (0x9000 to 0x9060). `ctrl` is the switch latch: true on the controller side. `fill` says what
an unlisted frame of a side holds: `none` zero, `some n` the free value of power-up `n`. While a training window or a
veil is open, `writes` counts the writes to the array and `suspect` gives each frame written the number of its last write
(R240). -/
structure Light where
  on : Bool
  ctrl : Fam 2 Bool
  ranks : Fam 16 RankModel
  subs : Fam 8 SubModel
  dirty : Ranges
  baseline : Bool
  heat : Assoc U16
  veilCause : Byte
  veils : U32
  violations : U32
  heldCmds : U32
  heldSeen : Bool
  slotTrained : Bool
  trainFails : Nat
  mrUncertain : Bool
  lastTakeover : Byte
  forcedCause : Byte
  fenceTime : U64
  takeovers : U32
  forced : U32
  trainings : U32
  trainingFailures : U32
  returnTime : U32
  captures : U32
  quiet : Bool
  fence : Option Byte
  returning : Fam 2 Bool
  uncertain : U16
  afterForced : Bool
  writes : Nat
  suspect : Assoc Nat
  dram : Assoc (BitVec 32768)
  fill : Fam 2 (Option Nat)
  deriving DecidableEq, Repr

/-! ## The Negative -/

/-- One loss range (Table 8-6): first frame, count, reason 1 to 4. -/
structure Loss where
  first : Nat
  count : Nat
  reason : Nat
  deriving DecidableEq, Repr

/-- What a commit record says (Table 8-3): the three flags, the counts, the two checks, the Negative addresses of the two
extent list copies and the pages of each, UNC_RANKS and SOURCE. -/
structure Commit where
  uncertain : Bool
  heatPresent : Bool
  degraded : Bool
  nData : Nat
  nZero : Nat
  dataStripes : Nat
  mapStripes : Nat
  heatStripes : Nat
  mapCrc : U32
  heatCrc : U32
  ext0 : Nat
  ext1 : Nat
  extPages : Nat
  uncRanks : U16
  source : Nat
  deriving DecidableEq, Repr

/-- A generation as its anchor records give it: the header (Table 8-2), the commit record, the marks that stand for it and
the loss ranges recorded for it (R258). What it holds of host DRAM is in NAND. -/
structure Gen where
  gen : Nat
  parent : Option Nat
  base : Bool
  consolidation : Bool
  partialGen : Bool
  powerFail : Bool
  degraded : Bool
  cause : Byte
  target : Byte
  width : Nat
  deadCh : Byte
  geometry : U32
  onTime : U64
  keyId : U32
  mask : Byte
  commit : Option Commit
  developed : Bool
  superseded : Bool
  staleAccepted : Bool
  losses : List Loss
  deriving DecidableEq, Repr

/-- Where an Exposure stands: waiting for the host to park, slot training, writing, returning the bus, saving. -/
inductive ExpPhase where
  | park
  | fence
  | training
  | writing
  | returning
  | leaving
  deriving DecidableEq, Repr

/-- The running Exposure: target 0 RUN, 1 Hold-Deep, 2 Hold-Partial (Table 8-2). From the takeover on, `frames` are those
that its generation writes, `heat` is the heat table and `uncRanks` the ranks whose order was uncertain as they stood then;
`since` is the AON time of the first DRAM access, `charge` what the cell held (R267, R287). -/
structure Expo where
  phase : ExpPhase
  target : Byte
  cause : Byte
  powerFail : Bool
  kept : Bool
  wakeLatched : Bool
  degraded : Bool
  gen : Nat
  frames : Ranges
  heat : Assoc U16
  uncRanks : U16
  since : Nat
  charge : Nat
  deriving DecidableEq, Repr

/-- Where a Development stands (Table 8-6a). -/
inductive DevPhase where
  | takeover
  | training
  | maps
  | writing
  | returning
  | returned
  deriving DecidableEq, Repr

/-- The running Development, `since` an AON time; `partialWake` after a Hold-Partial wake (R277). -/
structure Devel where
  phase : DevPhase
  partialWake : Bool
  since : Nat
  deriving DecidableEq, Repr

/-- The restore report (Table 8-6). -/
structure Report where
  status : Byte
  result : Byte
  gen : Option Nat
  staleGen : Option Nat
  chainLen : Nat
  flags : Byte
  uncRanks : U16
  nData : Nat
  nZero : Nat
  nUnc : Nat
  duration : U32
  genTime : U64
  ranges : List Loss
  deriving DecidableEq, Repr

/-- The Negative (0x3000 to 0x3030). `gens` are the generations that the anchor records name, the newest first; `cons` is
the generation that a running consolidation writes. -/
structure Neg where
  gens : List Gen
  exp : Option Expo
  dev : Option Devel
  cons : Option Nat
  consWanted : Bool
  status : Byte
  baseFits : Bool
  result : Byte
  lastGen : Option Nat
  captured : U32
  duration : U32
  energy : U32
  devResult : Byte
  report : Report
  deriving DecidableEq, Repr

/-! ## NAND -/

/-- The commands of Table 9-2, the only ones that a channel can be given. SET FEATURES carries its feature address and the
value where the spec gives it; the two erase commands carry the opcodes that 0x5000.07 and .08 name. -/
inductive Onfi where
  | reset | readId | readParameterPage
  | setFeatures (addr : Nat) (value : Option Nat) | getFeatures (addr : Nat)
  | lunSetFeatures (addr : Nat) (value : Option Nat) | lunGetFeatures (addr : Nat)
  | zqLong | zqShort | odtConfigure | volumeSelect
  | readDqTraining | writeDqTrainingTx | writeDqTrainingRx
  | readStatus | readStatusEnhanced
  | read | multiPlaneRead | changeReadColumn
  | readCacheSequential | readCacheEnd
  | program | multiPlaneProgram
  | erase | multiPlaneErase
  | eraseSuspend (opcode : Nat) | eraseResume (opcode : Nat)
  deriving DecidableEq, Repr

/-- A block's table entry (Table 9-3); whether it is closed to further programs (R298); the next page to be programmed;
the generation whose units a Negative block holds. -/
structure NandBlock where
  use : Fin 4
  bad : Bool
  grown : Bool
  erases : Nat
  closed : Bool
  next : Nat
  owner : Nat
  deriving DecidableEq, Repr

/-- A programmed page: its bytes as stored, and whether a codeword of it has failed at every read-retry level (R291). -/
structure NandPage where
  data : List Byte
  bad : Bool
  deriving DecidableEq, Repr

/-- An erase on a LUN (R300). -/
structure NandErase where
  block : Nat
  suspended : Bool
  programs : Nat
  suspensions : Nat
  holdoff : Bool
  wanted : Bool
  deriving DecidableEq, Repr

/-- An operation of a channel with its scheduler class (R301); `all` is work on every LUN, which only holds later classes
back; `due` orders tile reads, 0 for no deadline (R350); `started` on its LUN, where the others wait. -/
structure NandOp where
  id : Nat
  cls : Nat
  lun : Fin 16
  all : Bool
  program : Bool
  due : Nat
  started : Bool
  deriving DecidableEq, Repr

/-- A stripe of tier F (R248, R310): its live channels in ascending order, the pages of its data units so far, and of its
parity unit once it is full. A page is named by its Negative address (R250). -/
structure FStripe where
  live : List ChanId
  units : List Nat
  parity : Option Nat
  deriving DecidableEq, Repr

/-- One channel: STATE and CAUSE of 0x5010, the dead mark of the tables; blocks by block address and programmed pages by
Negative address below the channel bits (R250); erases by LUN and the queue; the blocks of the two regions (R292); the
anchor pair, the block in use first, and the table pair, the older table first (R259, R295); whether an anchor copy runs;
where patrol stands; the LUN of a cache-sequential read (R303); the commands of its last operation (R290). -/
structure Channel where
  state : Byte
  cause : Byte
  mark : Byte
  blocks : Assoc NandBlock
  pages : Assoc NandPage
  erases : Assoc NandErase
  queue : List NandOp
  region : List Nat
  regionF : List Nat
  anchor : List Nat
  tables : List Nat
  copying : Bool
  patrolAt : Nat
  cacheLun : Option (Fin 16)
  issued : List Onfi
  sinceTable : Nat
  tableSeq : U32
  deriving DecidableEq, Repr

/-- The NAND subsystem (0x5000 to 0x5040); `reported` are the unrecovered units of this patrol pass (R308); the stripes of
tier F by number, the one being filled, and the number of the next. -/
structure Nand where
  chans : Fam 8 Channel
  width : Byte
  blank : Bool
  regionPct : Nat
  negBytes : U64
  tierFBytes : U64
  progress : U16
  passes : U32
  relocations : U32
  rebuilds : U32
  unrecovered : U32
  lifeP : Byte
  lifeT : Byte
  bytesP : U64
  bytesT : U64
  grownCount : U32
  reported : List (ChanId × Nat)
  stripes : Assoc FStripe
  openStripe : Option Nat
  nextStripe : Nat
  deriving DecidableEq, Repr

/-! ## Tiers -/

/-- A copy of a tile in tier S: decoded bytes, dirty mask (R340), held from the account's reserve or not. -/
structure CopyS where
  data : List Byte
  dirty : U16
  reserve : Bool
  deriving DecidableEq, Repr

/-- A copy in tier D: the encoded tile, the 4 KiB pages of private DRAM that it lies in, its dirty mask, and held from the
reserve or not. -/
structure CopyD where
  bytes : List Byte
  pages : List Nat
  dirty : U16
  reserve : Bool
  deriving DecidableEq, Repr

/-- A copy in tier F: its units as stripe number and data unit, the length of the encoded tile, the save sequence number
it carries (R343), its program ended (R297), and the admission number of the oldest write that it is the first to bring to
tier F, where it brings one. No units are placed while NAND is blank or has no room. -/
structure CopyF where
  units : List (Nat × Nat)
  len : Nat
  save : Nat
  ended : Bool
  since : Option Nat
  deriving DecidableEq, Repr

/-- One tile: its copies, its heat and its marks (R336, R345, R352). `former` is the tier F version that still counts
until a running program ends (R344); `since` is the admission number of the oldest write that no tier F program has
begun for (R396). -/
structure Tile where
  s : Option CopyS
  d : Option CopyD
  f : Option CopyF
  former : Option CopyF
  heat : U16
  spoiled : Bool
  lost : Bool
  since : Option Nat
  deriving DecidableEq, Repr

/-- The last malformed tile of an account (R376). -/
structure Malformed where
  stream : U16
  reason : Byte
  tile : U32
  count : U32
  deriving DecidableEq, Repr

/-- A tier save as tier F holds it (R343): sequence number, Stream Table image, dirty list, heat snapshot. -/
structure TierSave where
  seq : Nat
  complete : Bool
  table : Assoc (List Byte)
  dirtyList : List Nat
  heat : Assoc U16
  deriving DecidableEq, Repr

/-- The tiered store (0x6010 to 0x6080). Tiles are keyed by stream × 2^24 + index. `deleting` lists deleted streams whose
tiles are not freed yet, with the admission number of the request that met VALID = 0 (R335). -/
structure Tiers where
  table : Assoc (List Byte)
  cache : List (Nat × List Byte)
  torn : List Nat
  sealed : List Nat
  deleting : List (Nat × Nat)
  tiles : Assoc Tile
  loaded : Byte
  ready : Bool
  saving : Bool
  save : Option TierSave
  cut : Option TierSave
  invalBus : Option Nat
  curators : Byte
  coreOf : Fam 4 (Fin 4)
  cycles : U32
  failures : U32
  proofs : Fam 4 U32
  misses : Fam 4 U32
  proofSeen : Fam 4 Bool
  reserveSeen : Fam 4 Bool
  malformed : Fam 4 Malformed
  decodeFails : U32
  deriving DecidableEq, Repr

/-! ## Tile ports -/

/-- How a request ended (R407): status code, bytes moved, DETAIL, and whether the proof stream served it. -/
structure Done where
  status : Byte
  bytes : U32
  detail : U16
  proof : Bool
  deriving DecidableEq, Repr

/-- An active request: its descriptor (Table 12-3), the entry taken at admission, and where it stands. -/
structure Req where
  tag : U16
  op : Byte
  flags : Byte
  stream : Nat
  tile : Nat
  len : Nat
  off : Nat
  deadline : Nat
  buffer : U64
  user : U64
  sq : Bool
  order : Nat
  entry : Option (List Byte)
  admitted : Nat
  proof : Bool
  sent : Bool
  heldTag : Bool
  ended : Option Done
  deriving DecidableEq, Repr

/-- A completion descriptor as written to the CQ (Table 12-5). -/
structure CqEntry where
  tag : U16
  status : Byte
  phase : Bool
  proof : Bool
  sq : Bool
  sq0Head : U16
  sq1Head : U16
  bytes : U32
  version : U32
  cookie : U32
  detail : U16
  user : U64
  deriving DecidableEq, Repr

/-- A ring in engine memory (R389). -/
structure Ring where
  base : U64
  size : U16
  head : U16
  tail : U16
  deriving DecidableEq, Repr

/-- The object tunnel (Table 12-8). -/
structure Tunnel where
  addr : U32
  offset : U32
  len : U32
  overrun : Bool
  done : Bool
  busy : Bool
  abort : U32
  data : List Byte
  deriving DecidableEq, Repr

/-- One tile port: link, BAR0 registers, queues, active requests and counters (Tables 12-2 and 12-10). `out` holds
what the port last put on its link: data delivered to an engine buffer, or read bytes. -/
structure TilePort where
  link : Byte
  speed : Byte
  width : Byte
  enable : Bool
  closing : Bool
  halted : Bool
  qerr : Byte
  sq0 : Ring
  sq1 : Ring
  cq : Ring
  phase : Bool
  arb : Byte
  burst : Nat
  active : List Req
  admissions : Nat
  cqOut : List CqEntry
  completed : U64
  gone : U32
  losses : U32
  halts : U32
  lastQerr : Byte
  correctable : U32
  uncorrectable : U32
  dropped : U32
  inval : Option Nat
  msix : MsixState
  table : List Byte
  tunnel : Tunnel
  out : List Byte
  unsupported : Bool
  deriving DecidableEq, Repr

/-! ## Interrupt distributor -/

/-- The four states of a source (Table 13-2). -/
inductive SrcState where
  | inactive
  | pending
  | active
  | activePending
  deriving DecidableEq, Repr

/-- A source: its state, and the target and class in which it was claimed (R419). -/
structure Source where
  st : SrcState
  owner : TargetId
  fast : Bool
  deriving DecidableEq, Repr

/-- A target: DISABLE, its notifications, its coalescing window, the BAR0 override of COUNT and TIME, its counters. -/
structure Target where
  disable : Bool
  outN : Bool
  outF : Bool
  windowOpen : Bool
  windowCount : Nat
  windowAt : Nat
  coal : Option (Byte × U16)
  pbaN : Bool
  pbaF : Bool
  spurious : U32
  notified : U32
  deriving DecidableEq, Repr

/-- The distributor (0x8100 to 0x8400) and its two open-drain lines, true when driven low. -/
structure Irq where
  src : Fam 192 Source
  tgt : Fam 6 Target
  merged : U32
  spuriousAt : Option Nat
  fastLow : Bool
  wakeLow : Bool
  deriving DecidableEq, Repr

/-! ## Object dictionary transport and security -/

/-- An open segmented write of a path (R458): the object, the bytes taken, and for objects programmed as they
arrive nothing but their count. -/
structure OpenSeg where
  index : U16
  sub : Byte
  taken : Nat
  data : List Byte
  deriving DecidableEq, Repr

/-- Where an in-band interrupt stands (R465). -/
inductive IbiState where
  | idle
  | wanted
  | nacked
  | lost
  deriving DecidableEq, Repr

/-- The sideband bus (0x1100): addresses, response, open segmented writes, in-band interrupts. `out` is what the
device last put on the bus, `ack` whether it acknowledged the last transfer. -/
structure Bus where
  staticAddr : BitVec 7
  dynAddr : Option (BitVec 7)
  mode : Byte
  enabled : Bool
  ibiOn : Bool
  ibi : IbiState
  ibiData : Byte
  hotJoins : Nat
  pecErrors : U32
  frameErrors : U32
  ibiWon : U32
  ibiNacked : U32
  abandonedSegs : U32
  busy : Bool
  resp : List Byte
  seg : Option OpenSeg
  tunSeg : Fam 4 (Option OpenSeg)
  out : List Byte
  ack : Bool
  deriving DecidableEq, Repr

/-- The key store's content: the epoch secret, the recorded binding's verifier and its session key S (R490, R491). -/
structure KeyStore where
  secret : BitVec 256
  verifier : Option (List Byte)
  session : List Byte
  deriving DecidableEq, Repr

/-- Security (0xA000 to 0xA040). `copy0` and `copy1` are what the key store copies in option flash unwrap to, `writing` what
the rewrite under way programs; `running` and
`readyB` say whether image B runs and whether the verified image is B; `blocksOwed` is step 4 of R504 not yet done. -/
structure Sec where
  keys : KeyStore
  copy0 : Option KeyStore
  copy1 : Option KeyStore
  writing : KeyStore
  token : Option (List Byte)
  binding : Byte
  keyId : U32
  authFailures : U32
  session : Byte
  challenge : Option (List Byte)
  challengeAt : Nat
  failures : Nat
  locked : Bool
  tokenWrites : Nat
  update : Byte
  running : Bool
  readyB : Bool
  inactiveVersion : U32
  sanitizeState : Byte
  sanitizeCount : U32
  blocksOwed : Bool
  deriving DecidableEq, Repr

/-! ## The machine -/

/-- The block: its units, the shadow registers of the persistent objects (R462), a counter of free values drawn, and
the queue of commands that wait, first in, first out. -/
@[ext]
structure State where
  ident : Ident
  supply : Supply
  sys : Sys
  rails : Fam 16 RailSlot
  seq : Seq
  log : Log
  cell : Cell
  flash : Flash
  shadow : Assoc Nat
  light : Light
  neg : Neg
  nand : Nand
  tiers : Tiers
  ports : Fam 4 TilePort
  irq : Irq
  bus : Bus
  sec : Sec
  free : Nat
  pending : List Instr
  deriving DecidableEq, Repr

/-- Why the machine stops. No command of this block stops it: every row of the table has an effect or leaves the state
as it is. The one reason below is raised by nobody; it is safe. -/
inductive Fault where
  | none
  deriving DecidableEq, Repr

/-- Why a command has no meaning. `notModelled` is raised by an arm of the dispatch that has no meaning yet; stopping
there is safe. -/
inductive Refusal where
  | notModelled (mnemonic : String)
  deriving DecidableEq, Repr

/-! ## Right after an AON power-on (Table 3-2, code 0x01)

Each unit at the value the spec states for that reset; where it states none, at the value that assumption 2 names. -/

def Ident.factory : Ident :=
  ⟨.ll6480, .b0, 0, true, 0x01000000, 0, 0⟩

def Supply.init : Supply :=
  ⟨true, true, false, false, true, false, true, 0, false, true, false, .aon, false, 0, 0, 0, 0, 0, false⟩

def Sys.init : Sys :=
  ⟨.dark, .dark, 0, 0, 0, 0, 0x01, 0xFF, 0, 0, 0, 0, 0, false, false, 0, false, 0, false, false, false, false, none,
    false, 0, 0, famAll 8 0⟩

/-- A comparator before its first output change: every output and mark reads 0 (Table 15-3). -/
def Cmp.init : Cmp := ⟨false, false, false, false, 0⟩

def RailSlot.init : RailSlot :=
  ⟨.off, false, 0, 0, Cmp.init, Cmp.init, 0, 0, false, false, false, false, 0, 0, .idle, false, false, false, 0, 0,
    famAll 10 0, famAll 3 false⟩

def Seq.init : Seq := ⟨none, famAll 6 0, 0, 0, 0, none⟩

def Log.init : Log := ⟨none, 0⟩

def Cell.init : Cell :=
  ⟨.off, true, 0, 0, 300000, false, 0, 0, none, 0, [], 0, false, 0, 0, false, 0, false, true, false, false, 0, []⟩

/-- A copy of an option block that names no object, with SEQ 0: header (Table 6-2) and CRC-32C (assumption 3). -/
def Flash.defaultBlock : List Byte :=
  withCrc32c (leBytes 4 0x4B4C424F ++ leBytes 2 1 ++ leBytes 2 64 ++ List.replicate 56 0)

/-- The shortest firmware image, A, with the version 0x01000000 and a LENGTH of 1; its other bytes are free
(assumption 3). -/
def Flash.factoryImage : List Byte :=
  leBytes 4 0x4946575A ++ leBytes 4 0x01000000 ++ (List.range 4).map (fun i => Config.factoryByte (0x20008 + i))
    ++ leBytes 4 1 ++ (List.range 337).map (fun i => Config.factoryByte (0x20010 + i))

/-- A valid page that starts with some bytes. -/
def FlashPage.starting (bs : List Byte) : FlashPage := ⟨bs ++ List.replicate (256 - bs.length) 0xFF, true⟩

/-- Option flash as shipped: both option block copies and image A (assumption 3). -/
def Flash.factoryPages : Assoc FlashPage :=
  [(0, FlashPage.starting Flash.defaultBlock), (256, FlashPage.starting Flash.defaultBlock),
    (512, FlashPage.starting (Flash.factoryImage.take 256)), (513, FlashPage.starting (Flash.factoryImage.drop 256))]

def Flash.init : Flash :=
  ⟨Vector.ofFn (fun (k : Fin 32) => ⟨0, if k.val < 2 then 1 else if k.val = 2 then 2 else 0, none⟩),
    Flash.factoryPages, [], 0, none, famAll 2 none, false, none, 0, 0, 0, 0, 0, 0, 0, false, false, false,
    false, false, 0, 0, 0, 0, 0, false, false, false, false, false⟩

def RankModel.init : RankModel :=
  ⟨.reset, none, false, [], false, 0, 0, 0, false, [], [], [], false, 0⟩

def SubModel.init : SubModel := ⟨false, 0, false, false⟩

def Light.init : Light :=
  ⟨false, famAll 2 false, famAll 16 RankModel.init, famAll 8 SubModel.init, [], false, [], 0, 0, 0, 0, false, false,
    0, false, 0, 0, 0, 0, 0, 0, 0, 0, 0, false, none, famAll 2 false, 0, false, 0, [], [], famAll 2 (some 0)⟩

/-- The restore report before one is built (R282). -/
def Report.empty : Report := ⟨0, 0, none, none, 0, 0, 0, 0, 0, 0, 0, 0, []⟩

def Neg.init : Neg :=
  ⟨[], none, none, none, false, 0, false, 0, none, 0, 0, 0, 0, Report.empty⟩

def Channel.init : Channel := ⟨0, 0, 0, [], [], [], [], [], [], [], [], false, 0, none, [], 0, 0⟩

def Nand.init : Nand :=
  ⟨famAll 8 Channel.init, 7, true, 150, 0, 0, 0, 0, 0, 0, 0, 0, 0, 0, 0, 0, [], [], none, 0⟩

def Tiers.init : Tiers :=
  ⟨[], [], [], [], [], [], 0, false, false, none, none, none, 0x0F, Vector.ofFn (fun p => p), 0, 0, famAll 4 0,
    famAll 4 0, famAll 4 false, famAll 4 false, famAll 4 ⟨0, 0, 0, 0⟩, 0⟩

def Ring.init : Ring := ⟨0, 0, 0, 0⟩

def Tunnel.init : Tunnel := ⟨0, 0, 0, false, false, false, 0, []⟩

def MsixState.init : MsixState := ⟨false, false, true, true⟩

def TilePort.init : TilePort :=
  ⟨0, 0, 0, false, false, false, 0, Ring.init, Ring.init, Ring.init, true, 8, 0, [], 0, [], 0, 0, 0, 0, 0, 0, 0, 0,
    none, MsixState.init, [], Tunnel.init, [], false⟩

def Target.init : Target :=
  ⟨false, false, false, false, 0, 0, none, false, false, 0, 0⟩

def Irq.init : Irq := ⟨famAll 192 ⟨.inactive, 0, false⟩, famAll 6 Target.init, 0, none, false, false⟩

/-- The response before any request: STATUS 0xFE, LEN 0 (Table 14-3); its PEC is appended when it is read. -/
def Bus.init : Bus :=
  ⟨0x2C, none, 0, false, false, .idle, 0, 0, 0, 0, 0, 0, 0, false, [0xFE, 0, 0], none, famAll 4 none, [], false⟩

def Sec.init : Sec :=
  ⟨⟨0, none, []⟩, none, none, ⟨0, none, []⟩, none, 0, 0, 0, 0, none, 0, 0, false, 0, 0, false, false, 0, 0, 0, false⟩

/-- The block right after its first AON power-on: no supply condition of R65 holds yet, option flash is as
shipped (`Flash.init`; assumption 3), NAND is blank, nothing waits. -/
def State.reset : State :=
  { ident := Ident.factory, supply := Supply.init, sys := Sys.init, rails := famAll 16 RailSlot.init, seq := Seq.init,
    log := Log.init, cell := Cell.init, flash := Flash.init, shadow := [], light := Light.init, neg := Neg.init,
    nand := Nand.init, tiers := Tiers.init, ports := famAll 4 TilePort.init, irq := Irq.init, bus := Bus.init,
    sec := Sec.init, free := 1, pending := [] }

end Sys2Proof.Machine
end

