-- ==== Sys2Proof/Machine/Operands.lean ====
section
/-! DEFINITION. What commands name and what their operands mean: the shadow registers of the persistent objects, the
module geometry and its frame numbers (R210 to R213, R251, R271), rail thresholds (R97, R100, R147), request status
codes (Table 12-7) and the states in which things are allowed. -/

namespace Sys2Proof.Machine

/-! ## Shadow registers (R462) -/

/-- Whether the part is the LL6440. -/
def small (s : State) : Bool := decide (s.ident.part = .ll6440)

/-- The value of a persistent object as a number of its own bytes. -/
def pv (s : State) (i b : Nat) : Nat := (aget s.shadow (okey i b)).getD (pDefault (small s) (okey i b))

/-- A shadow register set: only values that differ from the default are listed. -/
def pset (k v : Nat) (s : State) : State :=
  { s with shadow := if keepFields k v = pDefault (small s) k then adel s.shadow k else aput s.shadow k (keepFields k v) }

/-- The configuration entry of a source (R421). -/
def srcEntry (s : State) (n : Nat) : Nat := (aget s.shadow (srcKey n)).getD (srcDefault n)

/-! ## States -/

/-- The code of a state (Table 2-1), and a state as an index of 0xB020. -/
def stCode : DevState → Byte
  | .dark => 0 | .boot => 1 | .setup => 2 | .run => 3 | .expose => 4 | .hold => 5 | .develop => 6 | .fault => 7

def stFin : DevState → Fin 8
  | .dark => 0 | .boot => 1 | .setup => 2 | .run => 3 | .expose => 4 | .hold => 5 | .develop => 6 | .fault => 7

/-- SETUP, RUN or FAULT: the states in which commits, repairs and margin requests run (R153, R191). -/
def inSRF (s : State) : Bool :=
  decide (s.sys.st = .setup) || decide (s.sys.st = .run) || decide (s.sys.st = .fault)

/-- The PLL runs from step 2 of Table 3-3 on, and not in DARK and HOLD (Table 3-1). -/
def pllRuns (s : State) : Bool := s.supply.aon && s.supply.pll

/-- Whether FAULT was entered from BOOT with the main die unpowered (R94). -/
def bootFault (s : State) : Bool := decide (s.sys.st = .fault) && !s.sys.mainOn

/-! ## Geometry and frames -/

/-- A rank's place in the order of frame-number bits [24:21], and a sub-channel's bit of 0x9050.01. -/
def rankIx (r : RankId) : Fin 16 :=
  ⟨r.side.val * 8 + r.sub.val * 2 + r.rank.val, by have := r.side.isLt; have := r.sub.isLt; have := r.rank.isLt; omega⟩

def subIx (side : SideId) (sub : SubId) : Fin 8 :=
  ⟨side.val * 4 + sub.val, by have := side.isLt; have := sub.isLt; omega⟩

/-- The sub-channel and the side of a rank's place. -/
def subOfRank (r : Fin 16) : Fin 8 := ⟨r.val / 2, by have := r.isLt; omega⟩
def sideOfRank (r : Fin 16) : Fin 2 := ⟨r.val / 8, by have := r.isLt; omega⟩
def sideOfSub (k : Fin 8) : Fin 2 := ⟨k.val / 4, by have := k.isLt; omega⟩

/-- Whether a side and a rank are populated (R212). -/
def sideThere (s : State) (side : Nat) : Bool := (pv s 0x9000 1).testBit side
def rankThere (s : State) (r : Fin 16) : Bool := sideThere s (r.val / 8) && decide (r.val % 2 < pv s 0x9000 2)

/-- The ranks of the module. -/
def ranksThere (s : State) : List (Fin 16) := (List.finRange 16).filter fun r => rankThere s r

/-- The frame number of a bank's row (Table 7-1): rank place, bank, row pair. -/
def frameOf (r : Fin 16) (bank row : Nat) : Nat := r.val * 2 ^ 21 + bank * 2 ^ 17 + row / 2

/-- Whether a frame number is valid (R212). -/
def frameValid (s : State) (f : Nat) : Bool :=
  decide (f < 2 ^ 25) && sideThere s (f / 2 ^ 24) && decide (f / 2 ^ 21 % 2 < pv s 0x9000 2)
    && decide (f % 2 ^ 17 < 2 ^ pv s 0x9000 3)

/-- The set of the valid frames, and of the valid frames of some ranks. -/
def framesOf (s : State) (rs : List (Fin 16)) : Ranges :=
  rs.foldl (fun acc r => (List.range 16).foldl
    (fun acc b => radd (frameOf r b 0) (frameOf r b 0 + 2 ^ pv s 0x9000 3) acc) acc) []

def allFrames (s : State) : Ranges := framesOf s (ranksThere s)

/-- The count of valid frames, 0x9000.04 (R212). -/
def frameCount (s : State) : Nat :=
  ((if sideThere s 0 then 1 else 0) + (if sideThere s 1 then 1 else 0)) * 4 * pv s 0x9000 2 * 16 * 2 ^ pv s 0x9000 3

/-- The geometry word of a generation header (Table 8-2). -/
def geometry (s : State) : U32 := BitVec.ofNat 32 (pv s 0x9000 1 + 256 * pv s 0x9000 2 + 65536 * pv s 0x9000 3)

/-- The frame group of a frame, and the valid groups in group order (R213). -/
def groupOf (f : Nat) : Nat := f / 256
def groupsOf (s : State) : List Nat := (allFrames s).flatMap fun p => (List.range ((p.2 - p.1) / 256)).map (p.1 / 256 + ·)

/-- The exposure key of a frame (R251). -/
def exposureKey (f : Nat) : Nat :=
  f % 2 ^ 17 * 256 + f / 2 ^ 17 % 16 * 16 + f / 2 ^ 21 % 2 * 8 + f / 2 ^ 22 % 4 * 2 + f / 2 ^ 24 % 2

/-- The segment of a frame or group (R271): ROWPAIR bits [b-1 : b-3]. -/
def segmentOf (s : State) (f : Nat) : Nat := f % 2 ^ 17 / 2 ^ (pv s 0x9000 3 - 3) % 8

/-- The valid frames of the segments of a mask. -/
def segmentFrames (s : State) (mask : Byte) : Ranges :=
  let w := 2 ^ (pv s 0x9000 3 - 3)
  (ranksThere s).foldl (fun acc r => (List.range 16).foldl (fun acc b => (List.range 8).foldl (fun acc k =>
    if mask.getLsbD k then radd (frameOf r b 0 + k * w) (frameOf r b 0 + (k + 1) * w) acc else acc) acc) acc) []

/-! ## Rails -/

/-- A rail object of a slot, 0x2000+n. -/
def rail (s : State) (n : SlotId) (b : Nat) : Nat := pv s (0x2000 + n.val) b

/-- A slot is used when its target is not 0 (R144). -/
def slotUsed (s : State) (n : SlotId) : Bool := decide (rail s n 1 ≠ 0)

/-- The slots that a mask names. -/
def slotsOf (mask : U16) : List SlotId := (List.finRange 16).filter fun n => mask.getLsbD n.val

/-- A slot's nominal and internal targets in units of µV / 10,000 (R147): a margin step is
0.05 % of the nominal target. -/
def nominal (s : State) (n : SlotId) : Int := 10000 * (rail s n 1 : Int)
def internal (s : State) (n : SlotId) : Int := nominal s n + (rail s n 1 : Int) * 5 * (s.rails[n].applied).toInt

/-- UV and OV thresholds around the internal target: the margins are in 0.01 % of the nominal target (R147). -/
def uvLevel (s : State) (n : SlotId) : Int := internal s n - (rail s n 1 : Int) * (rail s n 3 : Int)
def ovLevel (s : State) (n : SlotId) : Int := internal s n + (rail s n 1 : Int) * (rail s n 4 : Int)

/-- Whether a reading in µV lies below the UV or above the OV threshold. -/
def belowUv (s : State) (n : SlotId) (uvolt : Nat) : Bool := decide (10000 * (uvolt : Int) < uvLevel s n)
def aboveOv (s : State) (n : SlotId) (uvolt : Nat) : Bool := decide (ovLevel s n < 10000 * (uvolt : Int))

/-- The static trim of a slot as the bits of an I16, in 6.25 nA (Table 4-7). -/
def staticTrim (s : State) (n : SlotId) : U16 := BitVec.ofNat 16 (rail s n 0xC)

/-- A persistence-critical slot (R134). -/
def critical (s : State) (n : SlotId) : Bool := decide (rail s n 0xB = 1)

/-- V_PF and V_PFW in µV. -/
def vPf (s : State) : Nat := 1000 * pv s 0x2020 1
def vPfw (s : State) : Nat := 1000 * (pv s 0x2020 1 + pv s 0x2020 2)

/-! ## Request statuses (Table 12-7) -/

inductive Status where
  | ok | proofServed | deadlineMissed | streamAbsent | streamForeign | streamInvalid | streamTorn | streamSealed
  | tileRange | tileEmpty | tileSpoiled | tileMalformed | stateLost | quotaExceeded | rangeInvalid | waitCycle
  | curatorLost | statePreempt | deviceFault | portGone | opcodeInvalid | tagInUse | bufferFault
  deriving DecidableEq, Repr

def statusCode : Status → Byte
  | .ok => 0x00 | .proofServed => 0x01 | .deadlineMissed => 0x02 | .streamAbsent => 0x10 | .streamForeign => 0x11
  | .streamInvalid => 0x12 | .streamTorn => 0x13 | .streamSealed => 0x14 | .tileRange => 0x20 | .tileEmpty => 0x21
  | .tileSpoiled => 0x22 | .tileMalformed => 0x23 | .stateLost => 0x24 | .quotaExceeded => 0x25
  | .rangeInvalid => 0x26 | .waitCycle => 0x30 | .curatorLost => 0x31 | .statePreempt => 0x32 | .deviceFault => 0x33
  | .portGone => 0x34 | .opcodeInvalid => 0x40 | .tagInUse => 0x41 | .bufferFault => 0x42

/-- The ports of a part (R3). -/
def portThere (s : State) (p : PortId) : Bool := !(small s && decide (2 ≤ p.val))

/-- A stream's account (R319), and whether the part has the stream (R6). -/
def accountOf (stream : Nat) : Nat := stream / 0x400
def streamThere (s : State) (stream : Nat) : Bool := !(small s && decide (0x800 ≤ stream) && decide (stream < 0x1000))

end Sys2Proof.Machine
end

