-- ==== Sys2Proof/Machine/Ops.lean ====
section
/-! DEFINITION. The shared operations: free values, the interrupt distributor (R415 to R442) and a change of the
device state (R37 to R42, R459). Every meaning raises its sources and moves between states through these. -/

namespace Sys2Proof.Machine

/-- The counter of free values moved on by one. -/
def drew (s : State) : State := { s with free := s.free + 1 }

/-! ## Sources (R416 to R426) -/

/-- A reserved source never becomes pending (R420). -/
def reservedSource (n : Nat) : Bool :=
  n = 30 || n = 31 || (43 ≤ n && n ≤ 47) || (104 ≤ n && n ≤ 111) || (136 ≤ n && n ≤ 143) || n = 151 || n = 158
    || n = 159 || 167 ≤ n

/-- Sources that belong only to what the LL6440 lacks (R5): accounts 2 and 3, ports 2 and 3. -/
def absentSource (n : Nat) : Bool := (80 ≤ n && n ≤ 99 && 2 ≤ n % 4) || (120 ≤ n && n ≤ 127)

/-- Whether a source can become pending on the part. -/
def sourceLive (s : State) (n : Nat) : Bool := !reservedSource n && !(small s && absentSource n)

/-- Sources of the AON die (Tables 13-3 and 13-4). -/
def aonSource (n : Nat) : Bool := n ≤ 32 || (152 ≤ n && n ≤ 165)

/-- The configured entry of a source, 0 where its entry reads 0. -/
def entryOf (s : State) (n : Nat) : Nat := if sourceLive s n then srcEntry s n else 0
def entryEnable (e : Nat) : Bool := e.testBit 11
def entryTarget (e : Nat) : Nat := bits 10 8 e
def entryPrio (e : Nat) : Nat := bits 3 0 e

/-- A fast assignment as stored (Table 13-7). -/
def assignment (s : State) (k : Fin 16) : Nat := pv s 0x8300 (k.val + 1)
def assignValid (a : Nat) : Bool := a.testBit 31
def assignTarget (a : Nat) : Nat := bits 18 16 a
def assignSource (a : Nat) : Nat := bits 7 0 a

/-- The first valid assignment that names a source (R424, R426). -/
def fastOf (s : State) (n : Nat) : Option (Fin 16) :=
  (List.finRange 16).find? fun k => assignValid (assignment s k) && assignSource (assignment s k) = n

/-- A number below 6 as a target. -/
def targetOf (t : Nat) : Option TargetId := if h : t < 6 then some ⟨t, h⟩ else none

/-- The class and target a source's events go to: a valid fast assignment first, else its entry, else nowhere. -/
def route (s : State) (n : Nat) : Option (Bool × TargetId) :=
  if !sourceLive s n then none
  else match fastOf s n with
    | some k => (targetOf (assignTarget (assignment s k))).map fun t => (true, t)
    | none =>
      if entryEnable (entryOf s n) then (targetOf (entryTarget (entryOf s n))).map fun t => (false, t) else none

/-- The port of an engine target. -/
def portOfTarget (t : TargetId) : Option PortId :=
  if h : 1 ≤ t.val ∧ t.val ≤ 4 then some ⟨t.val - 1, by omega⟩ else none
def targetOfPort (p : PortId) : TargetId := ⟨p.val + 1, by have := p.isLt; omega⟩

/-- Delivery to a target is held (R427): DISABLE, R435 for the host, R431 for an engine. -/
def held (s : State) (t : TargetId) : Bool :=
  !s.sys.mainOn || s.irq.tgt[t].disable ||
  (match portOfTarget t with
    | some p => !s.ports[p].msix.enable || decide (s.ports[p].link ≠ 3)
    | none => t = 0 && !(decide (s.sys.st = .setup) || decide (s.sys.st = .run) || decide (s.sys.st = .expose)
        || decide (s.sys.st = .develop) || decide (s.sys.st = .fault)))

/-- COUNT and TIME in force at a target: the BAR0 override, else the objects (R428, R441). -/
def coalCount (s : State) (t : TargetId) : Nat :=
  match s.irq.tgt[t].coal with | some c => c.1.toNat | none => pv s (0x8100 + t.val) 3
def coalTime (s : State) (t : TargetId) : Nat :=
  match s.irq.tgt[t].coal with | some c => c.2.toNat | none => pv s (0x8100 + t.val) 4

/-- The PENDING sources of a class at a target. -/
def pendingAt (s : State) (fast : Bool) (t : TargetId) : List SourceId :=
  (List.finRange 192).filter fun n => decide ((s.irq.src[n]).st = .pending) && decide (route s n.val = some (fast, t))

/-- The source that a claim would return (R426). -/
def bestOf (s : State) (fast : Bool) (t : TargetId) : Option SourceId :=
  let rank := fun (n : SourceId) => if fast then 15 - ((fastOf s n.val).map (·.val)).getD 15 else entryPrio (entryOf s n.val)
  (pendingAt s fast t).foldl (fun best n => match best with
    | none => some n
    | some b => if rank b < rank n then some n else some b) none

/-- A target, a source or a port changed. -/
def onTgt (t : TargetId) (f : Target → Target) (s : State) : State :=
  { s with irq := { s.irq with tgt := upd s.irq.tgt t f } }
def onSrc (n : SourceId) (f : Source → Source) (s : State) : State :=
  { s with irq := { s.irq with src := upd s.irq.src n f } }
def onPort (p : PortId) (f : TilePort → TilePort) (s : State) : State := { s with ports := upd s.ports p f }

/-- The in-band interrupt is requested where R465 allows it: the controller answers. Its data byte is the source that
a claim would return (R430). -/
def ibiAttempt (s : State) : State :=
  if s.bus.dynAddr.isNone || !s.bus.ibiOn then s
  else
    let data : Byte := match bestOf s false 0 with | some n => BitVec.ofNat 8 n.val | none => 0xFF
    let a := Config.ibiAnswer s.free
    let won := { s.bus with ibiWon := satInc s.bus.ibiWon, ibiData := data }
    let bus := if a = 0 then { won with ibi := .idle, out := [data] }
      else if a = 1 then { won with ibi := .nacked, ibiNacked := satInc s.bus.ibiNacked }
      else { s.bus with ibi := .lost }
    drew { s with bus := bus }

/-- A notification of a class issued to a target (R427, R430, R431): it is outstanding and counted, the window closes. -/
def issue (t : TargetId) (fast : Bool) (s : State) : State :=
  let s := onTgt t (fun g => if fast then { g with outF := true, notified := satInc g.notified }
    else { g with outN := true, windowOpen := false, notified := satInc g.notified }) s
  match portOfTarget t with
  | some p =>
    let m := s.ports[p].msix
    if m.functionMask || (if fast then m.maskF else m.maskN) then
      onTgt t (fun g => if fast then { g with pbaF := true } else { g with pbaN := true }) s
    else s
  | none => if t = 0 && !fast then ibiAttempt { s with bus := { s.bus with ibi := .wanted } } else s

/-- A notification issued without coalescing, where a source of the class is PENDING, none is outstanding and delivery
is not held: the rule of re-entry and release (R427). Target 0 has FAST_n for its fast class, target 5 none. -/
def notifyNow (t : TargetId) (fast : Bool) (s : State) : State :=
  let out := if fast then s.irq.tgt[t].outF else s.irq.tgt[t].outN
  if held s t || out || (pendingAt s fast t).isEmpty || (fast && (t = 0 || t = 5)) then s else issue t fast s

/-- The lines FAST_n and WAKE_n follow their level rules (R429, R434); a fall of FAST_n is a notification. -/
def lines (s : State) : State :=
  let low := !held s 0 && !(pendingAt s true 0).isEmpty
  let wake := pv s 0x8100 2 = 1 && s.supply.aon && decide (s.sys.st ≠ .dark) &&
    (List.finRange 192).any fun n =>
      (decide ((s.irq.src[n]).st = .pending) || decide ((s.irq.src[n]).st = .activePending)) &&
        (decide (route s n.val = some (false, 0)) || decide (route s n.val = some (true, 0)))
  let s := if low && !s.irq.fastLow then onTgt 0 (fun g => { g with notified := satInc g.notified }) s else s
  { s with irq := { s.irq with fastLow := low, wakeLow := wake } }

/-- The coalescing condition tested (R428): issued when it is met and delivery is not held. -/
def testWindow (t : TargetId) (expired : Bool) (s : State) : State :=
  let g := s.irq.tgt[t]
  if !g.windowOpen then s
  else if expired || decide (coalCount s t ≤ g.windowCount)
      || decide (coalTime s t ≤ s.sys.aonTime.toNat - g.windowAt) then
    if held s t || g.outN || (pendingAt s false t).isEmpty then s else issue t false s
  else s

/-- A source has become PENDING from INACTIVE: coalescing or a fast notification (R427, R428). -/
def becamePending (fast : Bool) (t : TargetId) (s : State) : State :=
  if !s.sys.mainOn then s
  else if fast then notifyNow t true s
  else
    let g := s.irq.tgt[t]
    if g.windowOpen then testWindow t false (onTgt t (fun g => { g with windowCount := g.windowCount + 1 }) s)
    else if g.outN || g.disable then s
    else testWindow t false (onTgt t (fun g => { g with windowOpen := true, windowCount := 1,
                                                        windowAt := s.sys.aonTime.toNat }) s)

/-- An event of a source (R416, R417, R422, R437). -/
def raise (k : Nat) (s : State) : State :=
  if h : k < 192 then
    let n : SourceId := ⟨k, h⟩
    match route s k with
    | none => s
    | some (fast, t) =>
      if !s.supply.aon || (!s.sys.mainOn && !aonSource k) then s
      else match (s.irq.src[n]).st with
        | .inactive => lines (becamePending fast t (onSrc n (fun x => { x with st := .pending }) s))
        | .active => lines (onSrc n (fun x => { x with st := .activePending }) s)
        | .pending => { s with irq := { s.irq with merged := satInc s.irq.merged } }
        | .activePending => { s with irq := { s.irq with merged := satInc s.irq.merged } }
  else s

/-- A claim of a class at a target (R426, R427): the source, 0xFFFF where none is PENDING. -/
def claim (t : TargetId) (fast : Bool) (s : State) : U16 × State :=
  match bestOf s fast t with
  | some n => (BitVec.ofNat 16 n.val, lines (onSrc n (fun _ => ⟨.active, t, fast⟩) s))
  | none =>
    let s := onTgt t (fun g => if fast then { g with outF := false, pbaF := false }
      else { g with outN := false, pbaN := false, windowOpen := false }) s
    (0xFFFF, if t = 0 && !fast then { s with bus := { s.bus with ibi := .idle } } else s)

/-- A source that has left ACTIVE_PENDING is PENDING where it is routed now, and is notified there (R423, R427). -/
def reenter (n : SourceId) (s : State) : State :=
  let s := onSrc n (fun x => { x with st := .pending }) s
  match route s n.val with
  | some (fast, t) => lines (notifyNow t fast s)
  | none => lines (onSrc n (fun x => { x with st := .inactive }) s)

/-- A spurious completion (R418): counted; source 166 at most once a second. -/
def spurious (t : TargetId) (s : State) : State :=
  let s := onTgt t (fun g => { g with spurious := satInc g.spurious }) s
  let now := s.sys.aonTime.toNat
  match s.irq.spuriousAt with
  | some at_ => if now < 1000000 + at_ then s else raise 166 { s with irq := { s.irq with spuriousAt := some now } }
  | none => raise 166 { s with irq := { s.irq with spuriousAt := some now } }

/-- A complete written by a target (R416, R418, R419). -/
def completeAt (t : TargetId) (k : Nat) (s : State) : State :=
  if h : k < 192 then
    let n : SourceId := ⟨k, h⟩
    let x := s.irq.src[n]
    if x.owner = t && decide (x.st = .active) then lines (onSrc n (fun x => { x with st := .inactive }) s)
    else if x.owner = t && decide (x.st = .activePending) then reenter n s
    else spurious t s
  else spurious t s

/-- Delivery to a target has just been released: both classes are notified without coalescing (R427, R433, R438). -/
def release (t : TargetId) (s : State) : State := lines (notifyNow t true (notifyNow t false s))

/-- DISABLE of a target (R432, R433): the window closes while it is 1. -/
def setDisable (t : TargetId) (on : Bool) (s : State) : State :=
  let was := s.irq.tgt[t].disable
  let s := onTgt t (fun g => { g with disable := on, windowOpen := g.windowOpen && !on }) s
  if was && !on then release t s else lines s

/-- What a port reset does to the port's target (R439). -/
def resetTarget (t : TargetId) (s : State) : State :=
  let s := onTgt t (fun g => { g with disable := false, outN := false, outF := false,
                                      windowOpen := false, coal := none, pbaN := false, pbaF := false }) s
  (List.finRange 192).foldl (fun (s : State) (n : SourceId) =>
    let x := s.irq.src[n]
    if x.owner = t && decide (x.st = .active) then onSrc n (fun x => { x with st := .inactive }) s
    else if x.owner = t && decide (x.st = .activePending) then reenter n s else s) (lines s)

/-- MR_n, RESET and AON power-on (R440). -/
def resetSources (s : State) : State :=
  lines { s with
    irq := { s.irq with src := famAll 192 ⟨.inactive, 0, false⟩, merged := 0, tgt := updAll s.irq.tgt (fun _ g =>
      { g with disable := false, outN := false, outF := false, windowOpen := false, coal := none,
               pbaN := false, pbaF := false, spurious := 0, notified := 0 }) },
    bus := { s.bus with ibi := .idle } }

/-- The main die's power-down and its later restore leave no notification outstanding and every window closed (R438). -/
def closeWindows (s : State) : State :=
  { s with irq := { s.irq with tgt := updAll s.irq.tgt (fun _ g =>
      { g with outN := false, outF := false, windowOpen := false, pbaN := false, pbaF := false }) },
           bus := { s.bus with ibi := .idle } }

/-- The settings of the sources have changed: PENDING sources move, sources no longer enabled leave (R422, R423, R534). -/
def reroute (before : State) (s : State) : State :=
  (List.finRange 192).foldl (fun (s : State) (n : SourceId) =>
    let x := s.irq.src[n]
    match x.st, route before n.val, route s n.val with
    | .pending, _, none => lines (onSrc n (fun x => { x with st := .inactive }) s)
    | .activePending, _, none => lines (onSrc n (fun x => { x with st := .active }) s)
    | .pending, old, some (fast, t) => if old = some (fast, t) then s else lines (becamePending fast t s)
    | _, _, _ => s) (lines s)

/-! ## Segmented writes and the device state -/

/-- An open segmented write of a path (R458). -/
def segOf (s : State) : Path → Option OpenSeg
  | .bus => s.bus.seg
  | .tunnel p => s.bus.tunSeg[p]

def setSeg (p : Path) (g : Option OpenSeg) (s : State) : State :=
  match p with
  | .bus => { s with bus := { s.bus with seg := g } }
  | .tunnel q => { s with bus := { s.bus with tunSeg := upd s.bus.tunSeg q (fun _ => g) } }

/-- Whether a path's transfer rewrites the inactive firmware image (R501). -/
def writesImage (g : OpenSeg) : Bool := g.index = 0xA030

/-- 0xA030.02 becomes 4: source 148 where it changes (R501, R507). -/
def imageRejected (s : State) : State :=
  if s.sec.update = 4 then s else raise 148 { s with sec := { s.sec with update := 4 } }

/-- An open segmented write abandoned (R459): counted, source 156; an image transfer leaves 0xA030.02 at 4 (R501). -/
def abandon (p : Path) (s : State) : State :=
  match segOf s p with
  | none => s
  | some g =>
    let s := setSeg p none { s with bus := { s.bus with abandonedSegs := satInc s.bus.abandonedSegs } }
    let s := if writesImage g then imageRejected s else s
    raise 156 s

/-- Every path's open segmented write abandoned. -/
def abandonAll (s : State) : State := ((List.finRange 4).map Path.tunnel).foldl (fun (s : State) p => abandon p s) (abandon .bus s)

/-- 0x1400.01 changes (R37 to R42): the record, source 32, open segmented writes (R459), operations held after an
abort (R206), and what the new state releases for target 0 (R435, R438). -/
def enter (st : DevState) (cause : Byte) (s : State) : State :=
  let was := held s 0
  let s := { s with
    sys := { s.sys with st := st, prev := s.sys.st, cause := cause, transitions := s.sys.transitions + 1,
                        faultCause := if st = .fault then s.sys.faultCause else 0,
                        depth := if st = .expose || st = .hold then s.sys.depth else 0 },
    flash := { s.flash with held := false } }
  let s := raise 32 (abandonAll s)
  if was && !held s 0 then release 0 s else lines s

/-- The change of state to FAULT with a cause of Table 2-6. -/
def faultEntry (code cause : Byte) (s : State) : State :=
  enter .fault cause { s with sys := { s.sys with faultCause := code } }

end Sys2Proof.Machine
end

