-- ==== Sys2Proof/Machine/Keys.lean ====
section
/-! DEFINITION. The keys of Table 17-1 (R490) and what the key store holds of them. -/

namespace Sys2Proof.Machine

/-- The zero token. -/
def zeroToken : List Byte := List.replicate 32 0

/-- K_root, and PRK_B for a token under an epoch secret. -/
def kRoot (s : State) : List Byte :=
  hkdfExtract (leBytes 32 Config.pufKey.toNat) (leBytes 32 Config.otpSeed.toNat ++ leBytes 1 (if s.ident.lifecycle then 1 else 0))
def prkB (s : State) (secret : BitVec 256) (token : List Byte) : List Byte :=
  hkdfExtract token (kRoot s ++ leBytes 32 secret.toNat)

/-- KEY_ID, the verifier V and the session key S of a token. -/
def keyIdOf (s : State) (secret : BitVec 256) (token : List Byte) : U32 :=
  let n := leNat ((hkdfExpand (prkB s secret token) (ascii "LL6 keyid")).take 4)
  if n = 0 then 1 else BitVec.ofNat 32 n
def verifierOf (s : State) (secret : BitVec 256) (token : List Byte) : List Byte :=
  hkdfExpand (prkB s secret token) (ascii "LL6 verify")
def sessionKeyOf (token : List Byte) : List Byte := hkdfExpand (hkdfExtract [] token) (ascii "LL6 session")

/-- K_rec, under which anchor records are authenticated. It does not depend on the token. -/
def recordKey (s : State) : List Byte := hkdfExpand (kRoot s) (ascii "LL6 anchor")

/-- K_neg under the presented token, or under the zero token where none was presented, and K_tier. -/
def negKey (s : State) : List Byte :=
  hkdfExpand64 (prkB s s.sec.keys.secret (s.sec.token.getD zeroToken)) (ascii "LL6 negative")
def tierKey (s : State) : List Byte := hkdfExpand64 (prkB s s.sec.keys.secret zeroToken) (ascii "LL6 tier")

/-- A page of the key store: the epoch secret and S wrapped under K_wrap, and the verifier of a recorded binding
(assumption 77). -/
def keyPage (s : State) (k : KeyStore) : List Byte :=
  let key := hkdfExpand (kRoot s) (ascii "LL6 wrap")
  slice 0 256 (keyWrap key (leBytes 32 k.secret.toNat) ++ keyWrap key k.session
    ++ leBytes 1 (if k.verifier.isSome then 1 else 0) ++ k.verifier.getD [])

end Sys2Proof.Machine
end

