-- ==== Sys2Proof/Machine/NandQueue.lean ====
section
/-! DEFINITION. The NAND channels: live and dead ones, the stripe layout and addresses (R248, R250, R257), the queue of
operations by class, erases and their suspension (R300 to R302), and the commands given to the devices (R290). -/

namespace Sys2Proof.Machine

/-- The NAND subsystem and one channel changed. -/
def onNand (f : Nand → Nand) (s : State) : State := { s with nand := f s.nand }
def setChan (c : ChanId) (f : Channel → Channel) (n : Nand) : Nand := { n with chans := upd n.chans c f }
def onChan (c : ChanId) (f : Channel → Channel) (s : State) : State := onNand (setChan c f) s

/-- A dead channel, the dead and the live channels, and 0x5010.09. -/
def chanDead (s : State) (c : ChanId) : Bool := decide ((s.nand.chans[c]).state = 2)
def deadChans (s : State) : List ChanId := (List.finRange 8).filter fun c => chanDead s c
def liveChans (s : State) : List ChanId := (List.finRange 8).filter fun c => !chanDead s c
def deadMask (s : State) : Byte := maskOf 8 fun c => chanDead s (Fin.ofNat 8 c)

/-- Some channels changed, one after the other. -/
def onChans (cs : List ChanId) (f : ChanId → Channel → Channel) (s : State) : State :=
  cs.foldl (fun (s : State) c => onChan c (f c) s) s

/-! ## Layout -/

/-- The channels of the parity unit and of data unit `j` in stripe `n` of a generation, over its live channels. -/
def parityChannel (live : List ChanId) (gen n : Nat) : ChanId := live.getD ((gen + n) % live.length) 0
def dataChannel (live : List ChanId) (gen n j : Nat) : ChanId := live.getD ((gen + n + 1 + j) % live.length) 0

/-- Where data slot `i` lies: stripe, data unit, 4 KiB position (R253). -/
def slotPlace (w i : Nat) : Nat × Nat × Nat := (i / (4 * w), i % (4 * w) / 4, i % 4)

/-- The commit pair of a generation: channels c and c + 4, a dead one's copy on the next live channel (R257). -/
def nextLive (s : State) (c : ChanId) : Option ChanId :=
  ((List.range 8).map fun k => Fin.ofNat 8 (c.val + k)).find? fun d => !chanDead s d
def commitPair (s : State) (gen : Nat) : Option ChanId × Option ChanId :=
  (nextLive s (Fin.ofNat 8 gen), nextLive s (Fin.ofNat 8 (gen + 4)))

/-- A Negative address (R250), an extent list entry, and a frame map entry (Table 8-1). -/
def negAddress (channel ce block page : Nat) : U32 :=
  BitVec.ofNat 32 (channel % 8 * 2 ^ 29 + ce % 4 * 2 ^ 27 + block % 2 ^ 15 * 2 ^ 12 + page % 2 ^ 12)
def extentEntry (count : Nat) (address : U32) : U64 := BitVec.ofNat 64 (count % 2 ^ 16 * 2 ^ 32 + address.toNat)
def mapEntry (kind frame : Nat) : U32 := BitVec.ofNat 32 (kind % 4 * 2 ^ 30 + frame % 2 ^ 25)

/-- A block is named by the chip enable and block fields of a Negative address, a page of a channel by those and the page
field. The address of a page; the channel, the page and the block that an address names. -/
def nandKey (block page : Nat) : Nat := block * 2 ^ 12 + page
def addressOf (c : ChanId) (key : Nat) : Nat :=
  (negAddress c.val (key / 2 ^ 27) (key / 2 ^ 12) key).toNat
def chanAt (address : Nat) : ChanId := Fin.ofNat 8 (address / 2 ^ 29)
def keyAt (address : Nat) : Nat := address % 2 ^ 29
def blockOf (address : Nat) : Nat := address % 2 ^ 29 / 2 ^ 12

/-- The LUN of a block, counted over the chip enables of its channel; LUN 0 is the anchor LUN. -/
def lunOf (block : Nat) : Fin 16 :=
  Fin.ofNat 16 (block / 2 ^ 15 * Config.lunsPerTarget + block % 2 ^ 15 / 2 ^ Config.blockBits.val)

/-! ## The queue (R301) -/

/-- The numbers of operations: the Exposure, the Development, an anchor copy, a consolidation and patrol, the stop of class 3
to 7 work that a power-fail trigger brings (R302), and the read and the program of a tile. -/
def opExpose : Nat := 0
def opDevelop : Nat := 1
def opCopy : Nat := 2
def opCons : Nat := 3
def opPatrol : Nat := 4
def opTrigger : Nat := 5
def opRead (k : Nat) : Nat := 2 * k + 6
def opProgram (k : Nat) : Nat := 2 * k + 7

/-- One operation goes before another: by class, tile reads by deadline, those without one last (R350). -/
def goesBefore (a b : NandOp) : Bool :=
  decide (a.cls < b.cls) ||
    (decide (a.cls = b.cls) && decide (a.cls = 3) && decide (a.due ≠ 0) && (decide (b.due = 0) || decide (a.due < b.due)))

/-- Operations in the order of service; those that neither class nor deadline parts keep their order of arrival. -/
def insertOp (o : NandOp) : List NandOp → List NandOp
  | [] => [o]
  | x :: r => if goesBefore o x then o :: x :: r else x :: insertOp o r
def inOrder (q : List NandOp) : List NandOp := q.foldl (fun acc o => insertOp o acc) []

/-- Work of an earlier class holds an operation back: it is on every LUN of the channel. -/
def heldBack (ch : Channel) (cls : Nat) : Bool := ch.queue.any fun q => q.all && decide (q.cls < cls)

/-- An operation runs on a LUN. -/
def lunBusy (ch : Channel) (lun : Fin 16) : Bool := ch.queue.any fun q => q.started && !q.all && decide (q.lun = lun)

/-- An operation marked as started. -/
def markStarted (id : Nat) (q : List NandOp) : List NandOp := q.map fun o => if o.id = id then { o with started := true } else o

/-- An operation starts where nothing of an earlier class holds it back, its LUN is idle and no erase runs there; at most 8
programs run inside one suspension (R300). -/
def startOp (ch : Channel) (o : NandOp) : Channel :=
  if o.started || o.all || heldBack ch o.cls || lunBusy ch o.lun then ch
  else match aget ch.erases o.lun.val with
    | none => { ch with queue := markStarted o.id ch.queue }
    | some e =>
      if !e.suspended || (o.program && decide (8 ≤ e.programs)) then ch
      else { ch with
        queue := markStarted o.id ch.queue,
        erases := if o.program then aput ch.erases o.lun.val { e with programs := e.programs + 1 } else ch.erases }
def startOps (ch : Channel) : Channel := (inOrder ch.queue).foldl startOp ch

/-- An operation has started on every channel where it waits. -/
def opStarted (s : State) (id : Nat) : Bool :=
  (List.finRange 8).all fun c => (s.nand.chans[c]).queue.all fun o => decide (o.id ≠ id) || o.started

/-! ## Erases (R300) -/

/-- Work that suspends an erase waits or runs on a LUN. -/
def urgentWaits (ch : Channel) (lun : Fin 16) : Bool :=
  ch.queue.any fun o => decide (o.cls ≤ 4) && (o.all || decide (o.lun = lun))

/-- An erase that urgent work meets: suspended, unless it has resumed within the last millisecond or has been suspended
16 times. -/
def meetErase (e : NandErase) : NandErase :=
  if e.suspended || decide (16 ≤ e.suspensions) then e
  else if e.holdoff then { e with wanted := true }
  else { e with suspended := true, suspensions := e.suspensions + 1, programs := 0 }
def meetLun (lun : Fin 16) (es : Assoc NandErase) : Assoc NandErase :=
  es.map fun (p : Nat × NandErase) => if p.1 = lun.val then (p.1, meetErase p.2) else p
def meetAll (es : Assoc NandErase) : Assoc NandErase := es.map fun (p : Nat × NandErase) => (p.1, meetErase p.2)

/-- The erases that an operation meets when it arrives. -/
def meetOp (o : NandOp) (es : Assoc NandErase) : Assoc NandErase :=
  if 4 < o.cls then es else if o.all then meetAll es else meetLun o.lun es

/-- The commands that a change of a channel's erases gives its devices. -/
def suspendCommands (s : State) (old new : Assoc NandErase) : List Onfi :=
  if old.any (fun p => !p.2.suspended) && decide (old ≠ new) then [.eraseSuspend (pv s 0x5000 7)] else []

/-- A channel's queue and erases changed; whatever can start, starts. -/
def onQueue (c : ChanId) (f : Channel → Channel) (s : State) : State :=
  onChan c (fun ch => startOps (f ch)) s

/-- A cache-sequential read begins on a LUN; it ends with 3Fh when another operation needs the LUN (R303). -/
def beginSequence (lun : Fin 16) (ch : Channel) : Channel :=
  { ch with cacheLun := some lun, issued := [.read, .readCacheSequential] }
def endSequence (ch : Channel) : Channel :=
  if ch.cacheLun.isSome then { ch with cacheLun := none, issued := [.readCacheEnd] } else ch
def meetSequence (o : NandOp) (ch : Channel) : Channel :=
  if o.all || decide (ch.cacheLun = some o.lun) then endSequence ch else ch

/-- An operation arrives at a channel; one that waits already is not queued again. -/
def arrive (c : ChanId) (o : NandOp) (s : State) : State :=
  if chanDead s c then s
  else onQueue c (fun ch =>
    if ch.queue.any fun q => decide (q.id = o.id) then ch
    else
      let ch := meetSequence o ch
      { ch with
        queue := ch.queue ++ [{ o with started := o.all }],
        erases := meetOp o ch.erases,
        issued := suspendCommands s ch.erases (meetOp o ch.erases) ++ ch.issued }) s

/-- An operation has ended, or is given up. -/
def depart (c : ChanId) (id : Nat) (s : State) : State :=
  onQueue c (fun ch => { ch with queue := ch.queue.filter (fun q => decide (q.id ≠ id)) }) s

/-- Persistence work begins on every live channel, and ends on every channel. -/
def workBegins (id cls : Nat) (s : State) : State :=
  (liveChans s).foldl (fun (s : State) c => arrive c ⟨id, cls, 0, true, true, 0, true⟩ s) s
def workEnds (id : Nat) (s : State) : State := (List.finRange 8).foldl (fun (s : State) c => depart c id s) s

/-- A suspended erase resumes once no such work waits, or after 8 programs, when none of it runs. -/
def mayResume (ch : Channel) (lun : Fin 16) (e : NandErase) : Bool :=
  e.suspended && !lunBusy ch lun && (!urgentWaits ch lun || decide (8 ≤ e.programs))
def resumeErase (c : ChanId) (lun : Fin 16) (s : State) : State :=
  onChan c (fun ch => match aget ch.erases lun.val with
    | some e =>
      if mayResume ch lun e then { ch with
        erases := aput ch.erases lun.val { e with suspended := false, holdoff := true, wanted := urgentWaits ch lun },
        issued := [.eraseResume (pv s 0x5000 8)] }
      else ch
    | none => ch) s

/-- 1 ms after the resume a waiting suspend takes effect. -/
def holdoffEnds (c : ChanId) (lun : Fin 16) (s : State) : State :=
  onQueue c (fun ch => match aget ch.erases lun.val with
    | some e =>
      if !e.holdoff then ch
      else
        let e' := { e with holdoff := false, wanted := false }
        { ch with
          erases := aput ch.erases lun.val (if e.wanted then meetErase e' else e'),
          issued := if e.wanted && decide (e.suspensions < 16) then [.eraseSuspend (pv s 0x5000 7)] else ch.issued }
    | none => ch) s

/-- A power-fail trigger suspends every running erase and ends a cache-sequential read on the anchor LUN (R302); an anchor
copy is cut, which leaves the full block in use (R259). -/
def suspendAll (s : State) : State :=
  onChans (List.finRange 8) (fun _ ch => { ch with
    erases := ch.erases.map fun (p : Nat × NandErase) =>
      (p.1, if p.2.suspended then p.2 else { p.2 with suspended := true, suspensions := p.2.suspensions + 1, programs := 0 }),
    cacheLun := if ch.cacheLun = some 0 then none else ch.cacheLun,
    copying := false,
    queue := ch.queue.filter (fun q => decide (q.id ≠ opCopy)),
    issued := (if ch.cacheLun = some 0 then [.readCacheEnd] else [])
      ++ suspendCommands s ch.erases (meetAll ch.erases) ++ ch.issued }) s

/-- The commands of an operation given to a channel's devices. -/
def giveCommands (c : ChanId) (cmds : List Onfi) (s : State) : State := onChan c (fun ch => { ch with issued := cmds }) s

/-- An operation of class 5 to 7 that has waited 50 ms is promoted to class 4 (R301). -/
def promote (c : ChanId) (id : Nat) (s : State) : State :=
  onQueue c (fun ch => match ch.queue.find? fun q => decide (q.id = id) with
    | none => ch
    | some o =>
      if o.cls < 5 || o.started then ch
      else { ch with
        queue := ch.queue.map (fun q => if q.id = id then { q with cls := 4 } else q),
        erases := meetLun o.lun ch.erases }) s

end Sys2Proof.Machine
end

