-- ==== Sys2Proof/Machine/Media.lean ====
section
/-! DEFINITION. What the NAND holds: blocks and regions (R292, R293, R315), programmed pages (R249, R297, R298), stripes
with their parity (R248, R305), the block tables (R294, R295), erases of blocks that nothing needs, and wear (R316). -/

namespace Sys2Proof.Machine

/-! ## The fitted devices (Table 9-1) -/

/-- Pages per block in the mode of a use: TLC in tier F, pSLC elsewhere. -/
def pagesIn (use : Fin 4) : Nat := if use = 2 then Config.tlcPages.val + 3 else Config.pslcPages.val + 1

/-- The blocks of a channel in ascending row-address order, for a number of chip enables. -/
def blockIds (ces : Nat) : List Nat :=
  (List.range ces).flatMap fun ce => (List.range Config.lunsPerTarget).flatMap fun l =>
    (List.range Config.blocksPerLun).map fun i => ce * 2 ^ 15 + l * 2 ^ Config.blockBits.val + i
def blocksOf (s : State) : List Nat := blockIds (pv s 0x5000 1)

/-! ## Blocks -/

/-- A block's table entry: as listed, else as the factory left it. -/
def blockAt (ch : Channel) (c : ChanId) (b : Nat) : NandBlock :=
  (aget ch.blocks b).getD ⟨0, (Config.blockAtFactory c.val b).2, false, (Config.blockAtFactory c.val b).1, false, 0, 0⟩

/-- A block's entry changed. -/
def onBlock (c : ChanId) (b : Nat) (f : NandBlock → NandBlock) (ch : Channel) : Channel :=
  { ch with blocks := aput ch.blocks b (f (blockAt ch c b)) }

/-- A good block; one that takes another page; one that can be taken: free, and no erase has begun on it. -/
def goodBlock (x : NandBlock) : Bool := !x.bad && !x.grown
def roomIn (x : NandBlock) : Bool := goodBlock x && !x.closed && decide (x.next < pagesIn x.use)
def freeBlock (ch : Channel) (c : ChanId) (b : Nat) : Bool :=
  goodBlock (blockAt ch c b) && decide ((blockAt ch c b).use = 0) && !(ch.erases.any fun p => decide (p.2.block = b))

/-- The block with the lowest erase count, the first of them on ties (R315). -/
def leastErased (ch : Channel) (c : ChanId) (bs : List Nat) : Option Nat :=
  bs.foldl (fun best b => match best with
    | none => some b
    | some a => if (blockAt ch c b).erases < (blockAt ch c a).erases then some b else some a) none

/-- A block erased: its pages are gone and its count is one more, saturating (Table 9-3). -/
def erased (c : ChanId) (b : Nat) (ch : Channel) : Channel :=
  onBlock c b (fun x => { x with erases := min (x.erases + 1) (2 ^ 28 - 1), closed := false, next := 0, owner := 0 })
    { ch with pages := ch.pages.filter (fun p => decide (p.1 / 2 ^ 12 ≠ b)), sinceTable := ch.sinceTable + 1 }

/-- A block put to a use: the free one of the candidates with the lowest erase count, erased first where it holds old
pages. -/
def takeBlock (c : ChanId) (use : Fin 4) (owner : Nat) (cands : List Nat) (ch : Channel) : Option Nat × Channel :=
  match leastErased ch c (cands.filter (freeBlock ch c)) with
  | none => (none, ch)
  | some b =>
    let ch := if (blockAt ch c b).next = 0 then ch else erased c b ch
    (some b, onBlock c b (fun x => { x with use := use, owner := owner }) ch)

/-- The block of a use and owner with room for `n` more pages, or a block newly taken. -/
def blockFor (c : ChanId) (use : Fin 4) (owner n : Nat) (cands : List Nat) (ch : Channel) : Option Nat × Channel :=
  match ch.blocks.find? fun p => decide (p.2.use = use) && decide (p.2.owner = owner) && roomIn p.2
      && decide (p.2.next + n ≤ pagesIn use) with
  | some p => (some p.1, ch)
  | none => takeBlock c use owner cands ch

/-! ## Pages (R297) -/

/-- The next page of a block programmed. -/
def programNext (c : ChanId) (b : Nat) (data : List Byte) (ch : Channel) : Channel :=
  let x := blockAt ch c b
  onBlock c b (fun x => { x with next := x.next + 1 }) { ch with
    pages := aput ch.pages (nandKey b x.next) ⟨data, false⟩, issued := [.program, .readStatus] }

/-- Bytes programmed (R316): 16 KiB for each page of a mode. -/
def countPage (use : Fin 4) (n : Nand) : Nand :=
  if use = 2 then { n with bytesT := n.bytesT + 16384 } else { n with bytesP := n.bytesP + 16384 }

/-- A unit programmed on a channel, its bytes as its page's Negative address makes them: that address; none where no block
is to be had. -/
def programUnit (c : ChanId) (use : Fin 4) (owner : Nat) (cands : List Nat) (data : Nat → List Byte) (n : Nand) :
    Option Nat × Nand :=
  match blockFor c use owner 1 cands n.chans[c] with
  | (none, _) => (none, n)
  | (some b, ch) =>
    let a := addressOf c (nandKey b (blockAt ch c b).next)
    (some a, countPage use (setChan c (fun _ => programNext c b (data a) ch) n))

/-- The page at a Negative address, where its channel is live and no codeword of it is lost. -/
def pageAt (n : Nand) (address : Nat) : Option (List Byte) :=
  let ch := n.chans[chanAt address]
  if ch.state = 2 then none
  else match aget ch.pages (keyAt address) with
    | some p => if p.bad then none else some p.data
    | none => none

/-- The bytes that the cells of a page hold, whether or not they can be read. -/
def cellsAt (n : Nand) (address : Nat) : Option (List Byte) :=
  (aget (n.chans[chanAt address]).pages (keyAt address)).map (·.data)

/-- A page found uncorrectable (R291). -/
def markBad (address : Nat) (n : Nand) : Nand :=
  setChan (chanAt address) (fun ch => { ch with
    pages := ch.pages.map fun (p : Nat × NandPage) => if p.1 = keyAt address then (p.1, { p.2 with bad := true }) else p }) n

/-! ## Parity and rebuilding (R248, R305) -/

/-- A unit of zeros, bytes filled up to whole units, and the bitwise sum of units. -/
def zeroUnit : List Byte := List.replicate 16384 0
def unitsOf : (n : Nat) → List Byte → List (List Byte)
  | 0, _ => []
  | n + 1, bs => slice 0 16384 bs :: unitsOf n (bs.drop 16384)
def asUnits (bs : List Byte) : List (List Byte) := unitsOf ((bs.length + 16383) / 16384) bs
def xorUnits (us : List (List Byte)) : List Byte := us.foldl xorBytes zeroUnit

/-- A unit read, or rebuilt from the other units of its stripe, all of which must be readable. -/
def allRead (us : List (Option (List Byte))) : Option (List (List Byte)) :=
  us.foldr (fun u acc => match u, acc with | some u, some r => some (u :: r) | _, _ => none) (some [])
def unitOrRebuilt (unit : Option (List Byte)) (others : List (Option (List Byte))) : Option (List Byte) :=
  match unit with
  | some u => some u
  | none => (allRead others).map xorUnits

/-! ## Erases of what nothing needs -/

/-- An erase begins on a LUN that runs none. -/
def beginErase (b : Nat) (ch : Channel) : Channel :=
  if (aget ch.erases (lunOf b).val).isSome then ch
  else { ch with erases := aput ch.erases (lunOf b).val ⟨b, false, 0, 0, false, false⟩, issued := [.erase, .readStatus] }

/-- Free blocks that hold old pages are erased, one at a time on each LUN. -/
def beginErases (c : ChanId) (ch : Channel) : Channel :=
  (ch.blocks.filter fun p => freeBlock ch c p.1 && decide (p.2.next ≠ 0)).foldl (fun ch p => beginErase p.1 ch) ch

/-! ## The block table (Table 9-3, R294, R295) -/

/-- The entry's word, and the entry that a word gives a block. -/
def blockWord (b : NandBlock) : U32 :=
  BitVec.ofNat 32 (b.use.val * 2 ^ 30 + (if b.bad then 2 ^ 29 else 0) + (if b.grown then 2 ^ 28 else 0) + min b.erases (2 ^ 28 - 1))
def withWord (w : Nat) (b : NandBlock) : NandBlock :=
  { b with bad := w.testBit 29, grown := w.testBit 28, erases := w % 2 ^ 28 }

/-- Blocks in groups of the 4087 entries that a page holds beside its header and its CRC. -/
def tableGroups : (n : Nat) → List Nat → List (List Nat)
  | 0, _ => []
  | n + 1, bs => if bs.isEmpty then [] else bs.take 4087 :: tableGroups n (bs.drop 4087)

/-- DEAD_MASK: the channels marked dead with cause 2, 3 or 4 (R309). -/
def markMask (n : Nand) : Byte := maskOf 8 fun c => decide ((n.chans[(Fin.ofNat 8 c)]).mark ≠ 0)

/-- A table page. -/
def tablePage (n : Nand) (c : ChanId) (seq : U32) (bs : List Nat) : List Byte :=
  withCrc32c (leBytes 4 0x5654424C ++ leBytes 4 seq.toNat ++ leBytes 1 c.val ++ [markMask n, 0, 0]
    ++ leBytes 4 (bs.headD 0) ++ List.replicate 16 0
    ++ bs.flatMap fun b => leBytes 4 (blockWord (blockAt n.chans[c] c b)).toNat)

/-- The table of a channel written anew, with the next SEQ, into the block of the pair with the older one, which is erased
first. -/
def rewriteTable (ids : List Nat) (c : ChanId) (n : Nand) : Nand :=
  let seq := (n.chans[c]).tableSeq + 1
  let n := setChan c (fun ch => { ch with tableSeq := seq, sinceTable := 0 }) n
  match (n.chans[c]).tables with
  | [old, new] =>
    let n := setChan c (fun ch => { erased c old ch with tables := [new, old], sinceTable := 0 }) n
    (tableGroups ids.length ids).foldl (fun n bs =>
      countPage 3 (setChan c (fun ch => programNext c old (tablePage n c seq bs) ch) n)) n
  | _ => n
def writeTable (c : ChanId) (s : State) : State := onNand (rewriteTable (blocksOf s) c) s

/-- The tables of every live channel. -/
def writeTables (s : State) : State := (liveChans s).foldl (fun (s : State) c => writeTable c s) s

/-- The pages of a block in ascending order, and whether a table page passes. -/
def blockPages (ch : Channel) (b : Nat) : List NandPage :=
  (ch.pages.filter fun p => decide (p.1 / 2 ^ 12 = b)).map (·.2)
def tablePageOk (c : ChanId) (p : NandPage) : Bool :=
  !p.bad && crc32cOk p.data && decide (fieldAt 0 4 p.data = 0x5654424C) && decide (fieldAt 8 1 p.data = c.val)

/-- The pages of a table block, where it has some and all pass; the authoritative ones of a channel: those with the highest
SEQ. -/
def tableIn (ch : Channel) (c : ChanId) (b : Nat) : Option (List NandPage) :=
  let ps := blockPages ch b
  if !ps.isEmpty && ps.all (tablePageOk c) then some ps else none
def tableSeqOf (ps : List NandPage) : Nat := fieldAt 4 4 ((ps.head?.map (·.data)).getD [])
def authoritativeTable (ch : Channel) (c : ChanId) : Option (List NandPage) :=
  (ch.tables.filterMap (tableIn ch c)).foldl (fun best ps => match best with
    | none => some ps
    | some qs => if tableSeqOf qs ≤ tableSeqOf ps then some ps else some qs) none

/-- The words of a table in block order. -/
def tableWords (ps : List NandPage) : List Nat :=
  ps.flatMap fun p => (List.range ((p.data.length - 36) / 4)).map fun k => fieldAt (32 + 4 * k) 4 p.data

/-- A channel's blocks as its authoritative table gives them (R478). -/
def loadTable (ids : List Nat) (c : ChanId) (ch : Channel) : Channel :=
  match authoritativeTable ch c with
  | none => ch
  | some ps => (ids.zip (tableWords ps)).foldl (fun ch p =>
      if blockWord (blockAt ch c p.1) = BitVec.ofNat 32 p.2 then ch else onBlock c p.1 (withWord p.2) ch)
      { ch with tableSeq := BitVec.ofNat 32 (tableSeqOf ps) }

/-- Grown bad blocks, 0x5040.06: those that a channel's table marks. -/
def grownBlocks (n : Nand) : Nat :=
  sum ((List.finRange 8).map fun c => ((n.chans[c]).blocks.filter fun p => p.2.grown).length)

/-! ## Regions (R292, R293, R299) -/

/-- Blocks of a channel that a Negative region may hold: good ones that are free or already Negative; those in use come
first, then those of the anchor LUN (R292). -/
def negCandidates (ids : List Nat) (c : ChanId) (ch : Channel) : List Nat :=
  let ok := fun (u : Fin 4) (b : Nat) => goodBlock (blockAt ch c b) && decide ((blockAt ch c b).use = u)
  let free := ids.filter (ok 0)
  ids.filter (ok 1) ++ free.filter (fun b => decide (lunOf b = 0)) ++ free.filter (fun b => decide (lunOf b ≠ 0))

/-- The bytes of a Negative region of a size in percent, and the blocks it takes on each live channel. -/
def regionBytes (s : State) (percent : Nat) : Nat := percent * (4096 * frameCount s) / 100
def regionBlocks (s : State) (percent : Nat) : Nat :=
  let share := (liveChans s).length * pagesIn 1 * 16384
  if share = 0 then 0 else (regionBytes s percent + share - 1) / share

/-- A channel's regions: the Negative region of `k` blocks, and tier F, which takes every other good block off the anchor
LUN. -/
def regionsOf (ids : List Nat) (k : Nat) (c : ChanId) (ch : Channel) : Channel :=
  let neg := (negCandidates ids c ch).take k
  { ch with
    region := neg,
    regionF := ids.filter fun b => goodBlock (blockAt ch c b) && decide (lunOf b ≠ 0) && !neg.contains b
      && decide ((blockAt ch c b).use ≠ 3) }

/-- The capacity of tier F for tiles: the data units of its stripes. -/
def capacityF (s : State) : Nat :=
  let blocks := sum ((liveChans s).map fun c => ((s.nand.chans[c]).regionF).length)
  blocks * pagesIn 2 * 16384 * s.nand.width.toNat / (s.nand.width.toNat + 1)

/-- The spare of a region on a channel has run out: its free good blocks are below 1 % of its blocks (R299). -/
def spareOut (ch : Channel) (c : ChanId) (bs : List Nat) : Bool :=
  decide (100 * (bs.filter (freeBlock ch c)).length < bs.length)
def spareLow (s : State) (c : ChanId) : Bool :=
  let ch := s.nand.chans[c]
  spareOut ch c ch.region || spareOut ch c ch.regionF

/-! ## Retirement (R298) -/

/-- A block retired: GROWN, counted, source 50 + 4c, the table rewritten; a spare pSLC block of the anchor LUN takes its
place in the Negative region. -/
def retired (ids : List Nat) (c : ChanId) (b : Nat) (ch : Channel) : Channel :=
  let spare := ids.find? fun x => decide (lunOf x = 0) && freeBlock ch c x && !ch.region.contains x && decide (x ≠ b)
  onBlock c b (fun x => { x with grown := true, closed := true, use := 0, owner := 0 }) { ch with
    erases := ch.erases.filter (fun p => decide (p.2.block ≠ b)),
    region := ch.region.filter (fun x => decide (x ≠ b))
      ++ (if ch.region.contains b then (match spare with | some x => [x] | none => []) else []),
    regionF := ch.regionF.filter (fun x => decide (x ≠ b)) }
def retire (c : ChanId) (b : Nat) (s : State) : State :=
  let s := onQueue c (retired (blocksOf s) c b) s
  raise (50 + 4 * c.val) (writeTable c (onNand (fun n => { n with grownCount := satInc n.grownCount }) s))

/-- A block that holds nothing that is needed: retired where it is closed, else free, to be erased. -/
def letGo (c : ChanId) (b : Nat) (s : State) : State :=
  if (blockAt s.nand.chans[c] c b).closed then retire c b s
  else onChan c (onBlock c b (fun x => { x with use := 0, owner := 0 })) s

/-- The blocks that satisfy a test become free at once, and what can be erased begins to be. -/
def freeBlocks (c : ChanId) (test : Nat → NandBlock → Bool) (s : State) : State :=
  let s := ((s.nand.chans[c]).blocks.filter fun p => test p.1 p.2).foldl (fun (s : State) p => letGo c p.1 s) s
  if chanDead s c then s else onChan c (beginErases c) s
def freeBlocksAll (test : ChanId → Nat → NandBlock → Bool) (s : State) : State :=
  (List.finRange 8).foldl (fun (s : State) c => freeBlocks c (test c) s) s

/-! ## Wear (R315, R316) -/

/-- Life used in percent, saturating at 255. -/
def lifeUsed (mean endurance : Nat) : Byte := satOf 8 (if endurance = 0 then 255 else mean * 100 / endurance)

/-- The mean erase count of a region's blocks over all channels. -/
def meanErases (n : Nand) (region : Channel → List Nat) : Nat :=
  let counts := (List.finRange 8).flatMap fun c => (region n.chans[c]).map fun b => (blockAt n.chans[c] c b).erases
  if counts.isEmpty then 0 else sum counts / counts.length

/-- Life used after erases: each upward crossing of 0x5040.03 makes source 51 + 4c pending on each live channel. -/
def updateLife (s : State) : State :=
  let p := lifeUsed (meanErases s.nand (·.region)) (pv s 0x5000 4)
  let t := lifeUsed (meanErases s.nand (·.regionF)) (pv s 0x5000 5)
  let level := pv s 0x5040 3
  let crossed := fun (old new : Byte) => decide (old.toNat < level) && decide (level ≤ new.toNat)
  let fires := crossed s.nand.lifeP p || crossed s.nand.lifeT t
  let s := onNand (fun n => { n with lifeP := p, lifeT := t }) s
  if fires then (liveChans s).foldl (fun (s : State) c => raise (51 + 4 * c.val) s) s else s

/-- Blocks of a region whose erase counts differ by more than 10 % of its endurance: the least-erased one that holds data
(R315). -/
def wornApart (ch : Channel) (c : ChanId) (bs : List Nat) (endurance : Nat) : Option Nat :=
  let counts := bs.map fun b => (blockAt ch c b).erases
  let high := counts.foldl max 0
  match leastErased ch c bs with
  | none => none
  | some b =>
    if endurance < 10 * (high - (blockAt ch c b).erases) && decide ((blockAt ch c b).use ≠ 0) then some b else none

end Sys2Proof.Machine
end

