-- ==== Sys2Proof/Machine/Anchor.lean ====
section
/-! DEFINITION. The anchor (R256 to R259): records of 128 bytes, where their copies go, what they make of the list of
generations, the copy of a full anchor block, and the scan of R260. -/

namespace Sys2Proof.Machine

/-- The Negative changed. -/
def onNeg (f : Neg → Neg) (s : State) : State := { s with neg := f s.neg }

/-! ## Records (R256, Tables 8-2 and 8-3, R258) -/

/-- A record: MAGIC, TYPE, FORMAT, what it says from 0x06 on, and the HMAC over all of it. -/
def recordOf (key : List Byte) (type : Byte) (body : List Byte) : List Byte :=
  let head := leBytes 4 0x5647454E ++ [type, 0x01] ++ slice 0 90 body
  head ++ hmac key head

/-- MAGIC, FORMAT and the HMAC match. -/
def recordValid (key : List Byte) (r : List Byte) : Bool :=
  decide (r.length = 128) && decide (fieldAt 0 4 r = 0x5647454E) && decide (fieldAt 5 1 r = 1)
    && decide (r.drop 96 = hmac key (r.take 96))
def recordType (r : List Byte) : Nat := fieldAt 4 1 r

/-- Flags as a word, bit 0 first; a generation's number or 0xFFFF_FFFF. -/
def flagWord (bs : List Bool) : Nat := bs.foldr (fun b n => (if b then 1 else 0) + 2 * n) 0
def genField (o : Option Nat) : List Byte := leBytes 4 (o.getD 0xFFFFFFFF)
def genAt (off : Nat) (r : List Byte) : Option Nat :=
  let n := fieldAt off 4 r
  if n = 0xFFFFFFFF then none else some n

/-- The generation header (Table 8-2), from 0x06 on. -/
def headerBody (g : Gen) : List Byte :=
  leBytes 2 (flagWord [g.base, g.consolidation, g.partialGen, g.powerFail, g.degraded]) ++ leBytes 4 g.gen
    ++ genField g.parent ++ [g.cause, g.target] ++ leBytes 1 g.width ++ [g.deadCh] ++ leBytes 4 g.geometry.toNat
    ++ leBytes 8 g.onTime.toNat ++ leBytes 4 g.keyId.toNat ++ [g.mask]

/-- The generation that a header record names. -/
def headerGen (r : List Byte) : Gen :=
  let flag := fun (k : Nat) => (fieldAt 6 2 r).testBit k
  { gen := fieldAt 8 4 r, parent := genAt 0xC r, base := flag 0, consolidation := flag 1, partialGen := flag 2,
    powerFail := flag 3, degraded := flag 4, cause := BitVec.ofNat 8 (fieldAt 0x10 1 r),
    target := BitVec.ofNat 8 (fieldAt 0x11 1 r), width := fieldAt 0x12 1 r, deadCh := BitVec.ofNat 8 (fieldAt 0x13 1 r),
    geometry := BitVec.ofNat 32 (fieldAt 0x14 4 r), onTime := BitVec.ofNat 64 (fieldAt 0x18 8 r),
    keyId := BitVec.ofNat 32 (fieldAt 0x20 4 r), mask := BitVec.ofNat 8 (fieldAt 0x24 1 r), commit := none,
    developed := false, superseded := false, staleAccepted := false, losses := [] }

/-- The commit record (Table 8-3), from 0x06 on. -/
def commitBody (g : Gen) (c : Commit) : List Byte :=
  leBytes 2 (flagWord [c.uncertain, c.heatPresent, c.degraded]) ++ leBytes 4 g.gen ++ genField g.parent
    ++ leBytes 4 c.nData ++ leBytes 4 c.nZero ++ leBytes 4 c.dataStripes ++ leBytes 4 c.mapStripes ++ leBytes 4 c.heatStripes
    ++ leBytes 4 c.mapCrc.toNat ++ leBytes 4 c.heatCrc.toNat ++ leBytes 4 c.ext0 ++ leBytes 4 c.ext1
    ++ leBytes 2 c.extPages ++ leBytes 2 c.uncRanks.toNat ++ leBytes 4 c.source
def recordCommit (r : List Byte) : Commit :=
  let flag := fun (k : Nat) => (fieldAt 6 2 r).testBit k
  { uncertain := flag 0, heatPresent := flag 1, degraded := flag 2, nData := fieldAt 0x10 4 r, nZero := fieldAt 0x14 4 r,
    dataStripes := fieldAt 0x18 4 r, mapStripes := fieldAt 0x1C 4 r, heatStripes := fieldAt 0x20 4 r,
    mapCrc := BitVec.ofNat 32 (fieldAt 0x24 4 r), heatCrc := BitVec.ofNat 32 (fieldAt 0x28 4 r),
    ext0 := fieldAt 0x2C 4 r, ext1 := fieldAt 0x30 4 r, extPages := fieldAt 0x34 2 r,
    uncRanks := BitVec.ofNat 16 (fieldAt 0x36 2 r), source := fieldAt 0x38 4 r }

/-- A mark record, and a loss record with at most nine ranges (Table 8-6). -/
def markBody (gen mark : Nat) : List Byte := [0, 0] ++ leBytes 4 gen ++ leBytes 4 mark
def lossBytes (l : Loss) : List Byte := leBytes 4 l.first ++ leBytes 3 l.count ++ leBytes 1 l.reason
def lossBody (gen : Nat) (ls : List Loss) : List Byte :=
  [0, 0] ++ leBytes 4 gen ++ leBytes 4 ls.length ++ ls.flatMap lossBytes
def recordLosses (r : List Byte) : List Loss :=
  (List.range (fieldAt 0xC 4 r)).map fun k =>
    ⟨fieldAt (0x10 + 8 * k) 4 r, fieldAt (0x14 + 8 * k) 3 r, fieldAt (0x17 + 8 * k) 1 r⟩

/-! ## What records make of the generations (R257, R258) -/

/-- A generation listed, the newest first; a second header of its number changes nothing. -/
def listGen (g : Gen) : List Gen → List Gen
  | [] => [g]
  | h :: r => if h.gen < g.gen then g :: h :: r else if h.gen = g.gen then h :: r else h :: listGen g r

/-- The generations that satisfy a test changed. -/
def changeGens (p : Gen → Bool) (f : Gen → Gen) (gs : List Gen) : List Gen := gs.map fun g => if p g then f g else g

/-- What a record adds: a header its generation, a commit record its figures, a mark (1 DEVELOPED, 2 SUPERSEDED for its
generation and every older one, 3 STALE_ACCEPTED) its standing, a loss record its ranges. -/
def takeRecord (gs : List Gen) (r : List Byte) : List Gen :=
  let n := fieldAt 8 4 r
  let on := fun (f : Gen → Gen) => changeGens (fun g => decide (g.gen = n)) f gs
  match recordType r with
  | 1 => listGen (headerGen r) gs
  | 2 => on fun g => { g with commit := some (recordCommit r) }
  | 3 => (match fieldAt 0xC 4 r with
    | 1 => on fun g => { g with developed := true }
    | 2 => changeGens (fun g => decide (g.gen ≤ n)) (fun g => { g with superseded := true }) gs
    | 3 => on fun g => { g with staleAccepted := true }
    | _ => gs)
  | 4 => on fun g => { g with losses := g.losses ++ recordLosses r }
  | _ => gs

/-! ## The anchor blocks (R257, R259) -/

/-- A record programmed on a channel, into the block in use, or into the other one of the pair while a full one is copied.
The block that it fills is to be copied. None where neither takes a page. -/
def anchorPut (c : ChanId) (r : List Byte) (n : Nand) : Option Nand :=
  let ch := n.chans[c]
  let put := fun (b : Nat) (copying : Bool) =>
    some (countPage 3 (setChan c (fun ch => { programNext c b r ch with copying := copying }) n))
  if ch.state = 2 then none
  else match ch.anchor with
    | [cur, other] =>
      if roomIn (blockAt ch c cur) then put cur (ch.copying || !decide ((blockAt ch c cur).next + 1 < pagesIn 3))
      else if roomIn (blockAt ch c other) then put other true
      else none
    | _ => none

/-- The same on the state: while a full block is copied, the copy holds the channel at class 2. -/
def anchorWrite (c : ChanId) (r : List Byte) (s : State) : Bool × State :=
  match anchorPut c r s.nand with
  | none => (false, s)
  | some n =>
    let s := onNand (fun _ => n) s
    (true, if (s.nand.chans[c]).copying then arrive c ⟨opCopy, 2, 0, true, true, 0, true⟩ s else s)

/-- The channels that take the copies of a generation's records. -/
def pairChannels (s : State) (gen : Nat) : List ChanId := (commitPair s gen).1.toList ++ (commitPair s gen).2.toList

/-- A record written on each channel of a commit pair: whether at least one copy is programmed, and the anchors then. -/
def putCopies (gen : Nat) (r : List Byte) (s : State) : Bool × State :=
  (pairChannels s gen).foldl (fun (w : Bool × State) c =>
    let v := anchorWrite c r w.2
    (w.1 || v.1, v.2)) (false, s)

/-- A record written, with what it makes of the generations. A commit record counts only where a copy is programmed
(R257, R268); of a header, a mark or a loss record that no anchor takes, the part keeps what it says (assumption 75). -/
def noteRecord (gen : Nat) (type : Byte) (body : List Byte) (s : State) : State :=
  let r := recordOf (recordKey s) type body
  onNeg (fun n => { n with gens := takeRecord n.gens r }) (putCopies gen r s).2
def commitRecord (g : Gen) (c : Commit) (s : State) : Option State :=
  let r := recordOf (recordKey s) 2 (commitBody g c)
  let w := putCopies g.gen r s
  if w.1 then some (onNeg (fun n => { n with gens := takeRecord n.gens r }) w.2) else none
def mark (gen code : Nat) (s : State) : State := noteRecord gen 3 (markBody gen code) s

/-! ## The scan (R260) -/

/-- The valid records of a channel, of both blocks of the pair, in page order. -/
def recordsOf (key : List Byte) (ch : Channel) : List (List Byte) :=
  (ch.anchor.flatMap (blockPages ch)).filterMap fun p => if !p.bad && recordValid key p.data then some p.data else none

/-- The generations that the anchors of the live channels name: headers first, then commit records, marks and losses. -/
def scannedGens (s : State) : List Gen :=
  let rs := (liveChans s).flatMap fun c => recordsOf (recordKey s) s.nand.chans[c]
  ([1, 2, 3, 4].flatMap fun t => rs.filter fun r => decide (recordType r = t)).foldl takeRecord []

end Sys2Proof.Machine
end

