-- ==== Sys2Proof/Machine/Flash.lean ====
section
/-! DEFINITION. Option flash (chapter *Option Flash*): pages and sectors, the queue of jobs, suspend and nesting,
aborts, the option block image, its load and its commit, the counter log's records. -/

namespace Sys2Proof.Machine

/-! ## Pages and bytes -/

/-- The key of a page, and the bank of a sector (two banks of 16 sectors). -/
def pageKey (sec page : Nat) : Nat := sec * 256 + page
def bankOf (sec : Fin 32) : Fin 2 := ⟨sec.val / 16, by have := sec.isLt; omega⟩
def sectorFin (n : Nat) : Fin 32 := Fin.ofNat 32 n

/-- A byte of the array (R181, R184): an unerased sector reads free bytes, an unlisted page 0xFF; the factory
calibration in sector 31 is a free value, the same for good. -/
def flashByte (s : State) (addr : Nat) : Byte :=
  if addr / 65536 = 31 then Config.factoryByte addr
  else match (s.flash.sectors[sectorFin (addr / 65536)]).unerased with
  | some n => Config.flashByte n addr
  | none => match aget s.flash.pages (addr / 256) with
    | some p => p.data.getD (addr % 256) 0xFF
    | none => 0xFF

/-- `len` bytes of the array from an address on. -/
def flashBytes (s : State) (addr len : Nat) : List Byte := (List.range len).map fun i => flashByte s (addr + i)

/-- A sector is unerased: its erase was aborted, or runs or is suspended and has not ended (R181, R201). -/
def sectorUnerased (s : State) (sec : Nat) : Bool :=
  (s.flash.sectors[sectorFin sec]).unerased.isSome ||
    (match s.flash.erase with | some e => decide (e.sector.val = sec) | none => false)

/-- A page is VALID, or INVALID, as every page of an unerased sector is (R181). -/
def pageValid (s : State) (sec page : Nat) : Bool :=
  !sectorUnerased s sec &&
    (match aget s.flash.pages (pageKey sec page) with | some p => p.valid | none => false)
def pageInvalid (s : State) (sec page : Nat) : Bool :=
  sectorUnerased s sec ||
    (match aget s.flash.pages (pageKey sec page) with | some p => !p.valid | none => false)

/-- A byte string cut into pages of 256 bytes, the last one filled with 0xFF (R179). -/
def toPages : Nat → List Byte → List (List Byte)
  | 0, _ => []
  | k + 1, bs =>
    if bs.isEmpty then []
    else (bs.take 256 ++ List.replicate (256 - min 256 bs.length) 0xFF) :: toPages k (bs.drop 256)

/-- The programs that write a byte string to the pages of a sector from a page on. -/
def programs (sec page : Nat) (bs : List Byte) : List FlashPrim :=
  (toPages 256 bs).zipIdx.map fun p => .program (sectorFin sec) (Fin.ofNat 256 (page + p.2)) p.1

/-- A page that is INVALID lies in a run of bytes. -/
def touchesInvalid (s : State) (addr len : Nat) : Bool :=
  (List.range ((addr + len + 255) / 256 - addr / 256)).any fun i =>
    pageInvalid s ((addr / 256 + i) / 256) ((addr / 256 + i) % 256)

/-- Flash state changed. -/
def onFlash (f : Flash → Flash) (s : State) : State := { s with flash := f s.flash }

/-! ## Check bits (R183) -/

/-- A read of a run of bytes finds a word with an error: an uncorrectable one, or one it corrects. -/
def readFinds (errs : WordErrors) (unc : Bool) (addr len : Nat) : Bool :=
  errs.any fun e => e.2 == unc && decide (addr < 8 * e.1 + 8) && decide (8 * e.1 < addr + len)

/-- A read counted by what it finds, with source 164 for an uncorrectable word. One read is one segment that the host asks
for, or one structure that the device loads (assumption 71). -/
def countRead (errs : WordErrors) (addr len : Nat) (s : State) : State :=
  let s := if readFinds errs false addr len then onFlash (fun f => { f with corrected := satInc f.corrected }) s else s
  if readFinds errs true addr len then
    raise 164 (onFlash (fun f => { f with uncorrectable := satInc f.uncorrectable }) s)
  else s

/-! ## Protection (R192, R194, R195) -/

/-- 0x4040.01, the mask that the next commit writes; `protMask` is the one in force (assumption 23). -/
def fwpMask (s : State) : Nat := pv s 0x4040 1

/-- Whether a program or erase of a sector is refused. -/
def sectorProtected (s : State) (sec : Nat) : Bool :=
  sec = 31 || (!s.supply.fwpHigh && ((sec ≤ 27 && s.flash.protMask.getLsbD sec)
    || (sec ≤ 1 && (s.flash.protMask.getLsbD 0 || s.flash.protMask.getLsbD 1))))

/-- The option block is protected and FWP_n is low (R194). -/
def optionProtected (s : State) : Bool := sectorProtected s 0

/-- The program store is protected and FWP_n is low (R195). -/
def storeProtected (s : State) : Bool := sectorProtected s 24 || sectorProtected s 25

/-! ## The option block (R186 to R190) -/

/-- The bytes of a persistent object's value. -/
def pBytes (s : State) (key size : Nat) : List Byte :=
  if key = okey 0x8200 1 then (List.range 192).flatMap fun n => leBytes 4 (entryOf s n)
  else leBytes size ((aget s.shadow key).getD (pDefault (small s) key))

/-- A record, padded to a multiple of 4 bytes (Table 6-3; assumption 4). -/
def optionRecord (s : State) (key : Nat) (r : Row) : List Byte :=
  let v := pBytes s key r.size
  let b := leBytes 2 (key / 256) ++ leBytes 1 (key % 256) ++ [tyCode r.ty] ++ leBytes 2 v.length ++ v
  b ++ List.replicate ((4 - b.length % 4) % 4) 0

/-- The image of a copy (R186): header, records in ascending order, CRC-32C. -/
def optionImage (s : State) (seq : U32) : List Byte :=
  let objs := persistentObjects (small s)
  let recs := objs.flatMap fun p => optionRecord s p.1 p.2
  let header := leBytes 4 0x4B4C424F ++ leBytes 2 1 ++ leBytes 2 64 ++ leBytes 4 seq.toNat ++ leBytes 4 recs.length
    ++ leBytes 4 (fwpMask s) ++ [if s.flash.progBank then 1 else 0, if s.flash.fwSelect then 1 else 0] ++ leBytes 2 0
    ++ leBytes 4 objs.length ++ List.replicate 36 0
  withCrc32c (header ++ recs)

/-- What a copy holds: SEQ, FWP_MASK, PROG_BANK, FW_SELECT, the shadow values and how many records were skipped. -/
structure Loaded where
  seq : U32
  mask : Nat
  bank : Bool
  fw : Bool
  shadow : Assoc Nat
  skipped : Nat
  deriving DecidableEq, Repr

/-- Whether an assignment of the fast bank, or an entry of a live source, is in range (R423, R425). -/
def assignInRange (a : Nat) : Bool := assignTarget a ≤ 4 && assignSource a ≤ 191
def entryInRange (s : State) (n e : Nat) : Bool :=
  !sourceLive s n || (entryTarget e ≤ 5 && !(small s && (entryTarget e = 3 || entryTarget e = 4)))

/-- A value of a persistent object is in its range (R187). -/
def valueOk (s : State) (key : Nat) (r : Row) (v : List Byte) : Bool :=
  if key = okey 0x8200 1 then (List.range 192).all fun n => entryInRange s n (fieldAt (4 * n) 4 v)
  else if key / 256 = 0x8300 then assignInRange (leNat v)
  else if r.ty = .record then true
  else if r.ty = .i16 then rangeOk (small s) r (signedOf 16 (leNat v))
  else rangeOk (small s) r (leNat v)

/-- A loaded value taken into the shadow registers. A record of 0x8300 that names a source or a target that the part has
not is in range and no write, so its value is taken as it stands (assumption 73). -/
def takeValue (s : State) (key : Nat) (v : List Byte) (m : Assoc Nat) : Assoc Nat :=
  if key = okey 0x8200 1 then
    (List.range 192).foldl (fun m n =>
      let e := if sourceLive s n then keepFields (srcKey n) (fieldAt (4 * n) 4 v) else srcDefault n
      if e = srcDefault n then adel m (srcKey n) else aput m (srcKey n) e) m
  else
    let x := keepFields key (leNat v)
    if x = pDefault (small s) key then adel m key else aput m key x

/-- The records of a copy, taken or skipped in turn (R187). -/
def takeRecords (s : State) : Nat → List Byte → Assoc Nat → Nat → Assoc Nat × Nat
  | 0, _, m, k => (m, k)
  | fuel + 1, bs, m, k =>
    if bs.length < 6 then (m, k)
    else
      let key := okey (fieldAt 0 2 bs) (fieldAt 2 1 bs)
      let len := fieldAt 4 2 bs
      let v := slice 6 len bs
      let rest := bs.drop ((6 + len + 3) / 4 * 4)
      let ok := existence (small s) (key / 256) (key % 256) = .done &&
        (match rowOf (key / 256) (key % 256) with
          | some r => r.pers && tyCode r.ty = bs.getD 3 0 && len = r.size && valueOk s key r v
          | none => false)
      if ok then takeRecords s fuel rest (takeValue s key v m) k else takeRecords s fuel rest m (k + 1)

/-- The bytes that a copy claims: header, records and CRC, or the header alone where they could not fit its sector. -/
def copyLen (s : State) (sec : Nat) : Nat :=
  let n := 64 + leNat (flashBytes s (sec * 65536 + 12) 4) + 4
  if 65536 < n then 64 else n

/-- A copy, where its CRC matches (R89). It fails where its sector is unerased or a page of it is INVALID, so that a commit
interrupted in it leaves it invalid (R188, R199), and an uncorrectable word counts as a CRC failure (R183). -/
def loadCopy (s : State) (sec : Nat) (errs : WordErrors) : Option Loaded :=
  let base := sec * 65536
  let len := leNat (flashBytes s (base + 12) 4)
  if 65536 < 64 + len + 4 || touchesInvalid s base (copyLen s sec) || readFinds errs true base (copyLen s sec) then none
  else
    let bs := flashBytes s base (64 + len + 4)
    if !crc32cOk bs then none
    else
      let mask := fieldAt 16 4 bs
      let m0 : Assoc Nat := if mask = 0 then [] else [(okey 0x4040 1, mask)]
      let r := takeRecords s (len / 4 + 1) ((bs.drop 64).take len) m0 0
      some ⟨BitVec.ofNat 32 (fieldAt 8 4 bs), mask, fieldAt 20 1 bs = 1, fieldAt 21 1 bs = 1, r.1, r.2⟩

/-- Whether a copy is stale against the loaded one (R190): it fails its CRC, now or as BOOT found it and no repair has been
tried since, or its bytes differ. -/
def copyStale (s : State) (loaded other : Nat) : Bool :=
  (loadCopy s other []).isNone || (!s.flash.copyValid.getLsbD other && s.flash.repair = 0)
    || copyLen s loaded ≠ copyLen s other
    || flashBytes s (loaded * 65536) (copyLen s loaded) ≠ flashBytes s (other * 65536) (copyLen s loaded)

/-! ## The counter log (R160, R161) -/

/-- The valid log records: sequence number, log slot, first page. -/
def logRecords (s : State) : List (Nat × Nat × Nat) :=
  [28, 29].flatMap fun sec => (List.range 254).filterMap fun p =>
    let base := sec * 65536 + p * 256
    if pageValid s sec p && pageValid s sec (p + 1) && pageValid s sec (p + 2)
        && leNat (flashBytes s base 4) = 0x5A4C4F47 && crc32cOk (flashBytes s base 768) then
      some (leNat (flashBytes s (base + 4) 4), sec, p)
    else none

/-- The record with the highest sequence number below a bound, and the authoritative record. -/
def newestBelow (rs : List (Nat × Nat × Nat)) (bound : Nat) : Option (Nat × Nat × Nat) :=
  rs.foldl (fun best r => if r.1 < bound then (match best with
    | some b => if b.1 < r.1 then some r else best
    | none => some r) else best) none
def authoritative (s : State) : Option (Nat × Nat × Nat) := newestBelow (logRecords s) (2 ^ 33)

/-- The bytes of a new record (Table 5-3). -/
def logRecord (s : State) (cause : Byte) : List Byte :=
  let seq := match authoritative s with | some r => r.1 + 1 | none => 1
  let slots := (List.finRange 16).flatMap fun n => (List.finRange 10).flatMap fun k => leBytes 4 (s.rails[n].counts[k]).toNat
  withCrc32c (leBytes 4 0x5A4C4F47 ++ leBytes 4 seq ++ [cause] ++ List.replicate 23 0 ++ slots
    ++ leBytes 4 (if s.cell.measured then s.cell.qFull else 0) ++ leBytes 4 s.cell.cycles.toNat
    ++ leBytes 4 s.cell.qRem ++ leBytes 4 s.cell.faultCount.toNat ++ List.replicate 76 0)

/-- Where the next record goes: the log slot without the authoritative record; slot 0 where there is none
(assumption 5). -/
def logTarget (s : State) : Nat := match authoritative s with | some r => if r.2.1 = 28 then 29 else 28 | none => 28

/-- The operations of a log write: an erase first where fewer than three erased pages remain (R161). -/
def logOps (s : State) (cause : Byte) : List FlashPrim :=
  let sec := logTarget s
  let w := (s.flash.sectors[sectorFin sec]).wptr
  if 253 < w then .erase (sectorFin sec) :: programs sec 0 (logRecord s cause) else programs sec w (logRecord s cause)

/-! ## Jobs -/

/-- The order in which queued work is taken (R204); the key store goes with the commits, an image with the program
store (assumption 6). -/
def jobClass : FlashKind → Nat
  | .log _ => 2 | .commit => 3 | .repair _ => 3 | .keys _ => 3 | .store _ => 4 | .image => 4 | .raw => 5

/-- The response of the bus path is ready: STATUS, LEN 0, and for a segmented write that is done its TOTAL. -/
def flashReply (a : Abort) (s : State) : State :=
  if !s.bus.busy then s
  else { s with bus := { s.bus with busy := false,
                                    resp := if a = .done then s.bus.resp else [abortCode a, 0, 0] } }

/-- A commit has ended (R463): 0x4030.02, source 154. -/
def commitEnded (completed : Bool) (s : State) : State :=
  raise 154 (onFlash (fun f => { f with
    commitRuns := false,
    dirty := if completed || f.copyOneDone then f.dirtySince else f.dirty,
    copyOneDone := false }) s)

/-- A job queued. -/
def queueJob (k : FlashKind) (ops : List FlashPrim) (s : State) : State :=
  onFlash (fun f => { f with jobs := f.jobs ++ [⟨f.nextJob, k, ops, false⟩], nextJob := f.nextJob + 1 }) s

/-- A job taken out of the queue. -/
def dropJob (id : Nat) (s : State) : State := onFlash (fun f => { f with jobs := f.jobs.filter fun j => j.id ≠ id }) s

/-- A job refused or timed out with an abort: the host is answered, a commit or repair ends without its effect. -/
def refuseJob (j : FlashJob) (a : Abort) (s : State) : State :=
  let s := dropJob j.id s
  let s := if a = .flashBusy then s else onFlash (fun f => { f with refused := satInc f.refused }) s
  match j.kind with
  | .raw => flashReply a (onFlash (fun f => { f with rawResult := 3 }) s)
  | .store _ => flashReply a (onFlash (fun f => { f with storeSound := false }) s)
  | .image => flashReply a (imageRejected s)
  | .commit => commitEnded false s
  | .repair _ => raise 165 (onFlash (fun f => { f with repair := 3 }) s)
  | .log _ => s
  | .keys sanitize =>
    if sanitize && decide (s.sec.sanitizeState = 1) then raise 149 { s with sec := { s.sec with sanitizeState := 3 } } else s

/-- What a job writes, taken when it starts (R188, R189, R161); a commit takes its first dirty mark anew. -/
def prepare (j : FlashJob) (s : State) : FlashJob × State :=
  match j.kind with
  | .commit =>
    let s := onFlash (fun f => { f with commitRuns := true, dirtySince := false, copyOneDone := false,
                                        loadedSeq := f.loadedSeq + 1 }) s
    let img := optionImage (onFlash (fun f => { f with
      progBank := if f.storeReady then f.storeBank else f.progBank }) s) s.flash.loadedSeq
    ({ j with ops := .erase 0 :: programs 0 0 img ++ .erase 1 :: programs 1 0 img, started := true }, s)
  | .repair c =>
    let src := if c = 0 then 1 else 0
    let img := flashBytes s (src * 65536) (copyLen s src)
    ({ j with ops := .erase (sectorFin c.val) :: programs c.val 0 img, started := true },
      onFlash (fun f => { f with repair := 1 }) s)
  | .log cause => ({ j with ops := logOps s cause, started := true }, s)
  | .keys sanitize =>
    let wr := fun (sec : Fin 32) => FlashPrim.program sec 0 (List.replicate 256 0xFF)
    ({ j with ops := if sanitize then [.erase 27, .erase 26, wr 26, wr 27] else [.erase 26, wr 26, .erase 27, wr 27],
              started := true }, { s with sec := { s.sec with writing := s.sec.keys } })
  | .store _ => ({ j with started := true }, s)
  | .raw => ({ j with started := true }, s)
  | .image => ({ j with started := true }, s)

/-- A job put back in the queue in its place. -/
def putJob (j : FlashJob) (s : State) : State :=
  onFlash (fun f => { f with jobs := f.jobs.map fun k => if k.id = j.id then j else k }) s

/-- Whether a job has an operation running or suspended. -/
def jobBusy (s : State) (j : FlashJob) : Bool :=
  (match s.flash.erase with | some e => decide (e.job = j.id) | none => false) ||
    (List.finRange 2).any fun b => match s.flash.prog[b] with | some p => decide (p.job = j.id) | none => false

/-- A program or erase may start (R206): AON supply at 2.80 V, and no abort in force but for the depletion log point. -/
def mayStart (s : State) (j : FlashJob) : Bool :=
  s.supply.aon && !s.supply.aonLow &&
    (!s.flash.held || decide (j.kind = .log 6))

/-- The abort with which an operation of the array is refused (R178, R181, R192, R202), `done` where none. Where several of
them hold, the spec does not say which abort wins: the model takes SECTOR_BUSY, then WRITE_PROTECTED, then PAGE_ORDER
(assumption 72). -/
def primRefused (s : State) : FlashPrim → Abort
  | .erase sec => if sectorProtected s sec.val then .writeProtected else .done
  | .program sec page _ =>
    if (match s.flash.erase with | some e => decide (e.sector = sec) | none => false) then .sectorBusy
    else if sectorProtected s sec.val then .writeProtected
    else if (s.flash.sectors[sec]).unerased.isSome || page.val < (s.flash.sectors[sec]).wptr
      || (aget s.flash.pages (pageKey sec.val page.val)).isSome then .pageOrder
    else .done

/-- A running erase suspended, or its suspension asked for within the first millisecond after a resume (R201, R203). -/
def askSuspend (s : State) : State :=
  onFlash (fun f => { f with erase := f.erase.map fun e =>
    if e.suspended then e else if e.holdoff then { e with wanted := true } else { e with suspended := true, programs := 0 } }) s

/-- The bank of the sector that a read of an object of option flash takes its bytes from. -/
def readBank (s : State) (q : FlashRead) : Fin 2 :=
  bankOf (sectorFin (if q.index = 0x4020 then s.flash.rawAddr.toNat / 65536 else 24))

/-- A read waits for the array in a bank: it goes before every queued program and erase of that bank (R204). -/
def readFirst (s : State) (sec : Fin 32) : Bool :=
  match s.flash.readWait with | some q => decide (readBank s q = bankOf sec) | none => false

/-- One operation started where nothing stands in its way (R200 to R202, R204). -/
def startPrim (j : FlashJob) (op : FlashPrim) (s : State) : Bool × State :=
  match op with
  | .erase sec =>
    if s.flash.erase.isSome || readFirst s sec then (false, s)
    else
      let n := satInc (s.flash.sectors[sec]).erases
      let reached := (s.flash.sectors[sec]).erases.toNat < 100000 && 100000 ≤ n.toNat
      let s := onFlash (fun f => { f with
        sectors := upd f.sectors sec (fun x => { x with erases := n }),
        endurance := if reached then f.endurance ||| BitVec.ofNat 32 (2 ^ sec.val) else f.endurance,
        erase := some ⟨sec, j.id, false, 0, false, false⟩ }) s
      (true, if reached then raise 163 s else s)
  | .program sec page data =>
    let running := (List.finRange 2).any fun b => (s.flash.prog[b]).isSome
    let s := askSuspend s
    let free := match s.flash.erase with
      | some e => e.suspended && e.programs < 4 && !running
      | none => (s.flash.prog[bankOf sec]).isNone
    if free && !readFirst s sec then
      (true, onFlash (fun f => { f with
        prog := upd f.prog (bankOf sec) (fun _ => some ⟨sec, page, data, j.id⟩),
        erase := f.erase.map fun e => { e with programs := e.programs + 1 } }) s)
    else (false, s)

/-- A queued job moved on by one operation, where it can be. -/
def tryJob (j : FlashJob) (s : State) : Bool × State :=
  if !mayStart s j || jobBusy s j then (false, s)
  else
    let j' := if j.started then (j, s) else if decide (j.kind = .commit) && optionProtected s then (j, s) else prepare j s
    if !j.started && decide (j.kind = .commit) && optionProtected s then (true, refuseJob j .writeProtected s)
    else match j'.1.ops with
      | [] => (false, s)
      | op :: _ =>
        let a := if decide (j.kind = .commit) then Abort.done else primRefused j'.2 op
        if a ≠ .done then (true, refuseJob j'.1 a j'.2)
        else
          let r := startPrim j'.1 op j'.2
          if r.1 then (true, putJob j'.1 r.2)
          else (false, match op with | .program _ _ _ => askSuspend s | .erase _ => s)

/-- The jobs in the order of R204. -/
def jobOrder (s : State) : List FlashJob :=
  [2, 3, 4, 5].flatMap fun c => s.flash.jobs.filter fun j => jobClass j.kind = c

/-- Whatever may start is started, at most one operation a turn. -/
def pump : Nat → State → State
  | 0, s => s
  | fuel + 1, s =>
    let r := (jobOrder s).foldl (fun (acc : Bool × State) j => if acc.1 then acc else tryJob j acc.2) (false, s)
    if r.1 then pump fuel r.2 else r.2

/-- The flash looks for work: at most the operations that can run at once, and those refused on the way. -/
def flashKick (s : State) : State := pump (s.flash.jobs.length + 3) s

/-- A log point (R159): deferred in EXPOSE and DEVELOP but for the depletion log. -/
def logPoint (cause : Byte) (s : State) : State :=
  if (decide (s.sys.st = .expose) || decide (s.sys.st = .develop)) && cause ≠ 6 then
    { s with log := { s.log with deferred := some cause } }
  else flashKick (queueJob (.log cause) [] s)

/-- A deferred log point made at entry to SETUP, RUN or HOLD. -/
def logDeferred (s : State) : State :=
  match s.log.deferred with
  | some c => logPoint c { s with log := { s.log with deferred := none } }
  | none => s

/-- A commit requested (R189, R191): held while one runs or the state does not allow it. -/
def requestCommit (s : State) : State :=
  if s.flash.commitRuns || !inSRF s then onFlash (fun f => { f with commitHeld := true }) s
  else if s.flash.jobs.any fun j => decide (j.kind = .commit) then s
  else flashKick (queueJob .commit [] s)

/-- A held commit runs once the state allows it and none is running. -/
def commitNow (s : State) : State :=
  if s.flash.commitHeld && inSRF s && !s.flash.commitRuns then
    requestCommit (onFlash (fun f => { f with commitHeld := false }) s)
  else s

/-- FAULT entered with a cause of Table 2-6; a commit held for this entry runs (R191). -/
def enterFault (code cause : Byte) (s : State) : State := commitNow (faultEntry code cause s)

/-- A P write accepted (R463): the shadow value and the dirty mark. -/
def writeP (key v : Nat) (s : State) : State :=
  onFlash (fun f => { f with dirty := true, dirtySince := true }) (pset key v s)

/-- A page being programmed becomes INVALID, with free bytes (R184, R205). -/
def abortProgram (s : State) (b : Fin 2) : State :=
  match s.flash.prog[b] with
  | some p =>
    let k := pageKey p.sector.val p.page.val
    let bytes := (List.range 256).map fun i => Config.flashByte s.free (k * 256 + i)
    drew (onFlash (fun f => { f with
      pages := aput f.pages k ⟨bytes, false⟩,
      sectors := upd f.sectors p.sector (fun x => { x with wptr := max x.wptr (p.page.val + 1) }),
      prog := upd f.prog b (fun _ => none) }) s)
  | none => s

/-- An erase belongs to a sanitize: a trigger before its second step ends leaves the old key store (R504; assumption 77). -/
def sanitizing (s : State) (e : FlashErase) : Bool :=
  s.flash.jobs.any fun j => decide (j.id = e.job) && decide (j.kind = .keys true)

/-- A sector being erased is unerased (R181, R205); a key store copy in it is lost, but for copy 0 in a sanitize. -/
def abortErase (s : State) : State :=
  match s.flash.erase with
  | some e => drew (onFlash (fun f => { f with
      sectors := upd f.sectors e.sector (fun x => { x with unerased := some s.free, wptr := 256 }),
      pages := f.pages.filter fun p => p.1 / 256 ≠ e.sector.val,
      erase := none }) { s with sec := { s.sec with
        copy0 := if e.sector = 26 && !sanitizing s e then none else s.sec.copy0,
        copy1 := if e.sector = 27 then none else s.sec.copy1 } })
  | none => s

/-- A started job ended by an abort: a log write is abandoned (R162, R164), a commit ends uncompleted, a repair fails,
the host is answered. -/
def abortJob (s : State) (j : FlashJob) : State :=
  match j.kind with
  | .log _ => raise 24 { s with log := { s.log with abandoned := satInc s.log.abandoned } }
  | .commit => commitEnded false s
  | .repair _ => raise 165 (onFlash (fun f => { f with repair := 3 }) s)
  | .raw => flashReply .done (onFlash (fun f => { f with rawResult := 2 }) s)
  | .store _ => flashReply .done (onFlash (fun f => { f with storeSound := false }) s)
  | .image => flashReply .done (imageRejected s)
  | .keys sanitize =>
    if sanitize && decide (s.sec.sanitizeState = 1) then raise 149 { s with sec := { s.sec with sanitizeState := 3 } } else s

/-- A job that an abort ends: one that has started and has work left. -/
def jobCut (j : FlashJob) : Bool := j.started && !j.ops.isEmpty

/-- Programs and erases aborted by a power-fail trigger or a low AON supply (R162, R164, R205, R206, R207): each is
counted, nothing starts until the abort is over, and started jobs end. -/
def flashAbort (s : State) : State :=
  let count := ((List.finRange 2).filter fun b => (s.flash.prog[b]).isSome).length + (if s.flash.erase.isSome then 1 else 0)
  let t := abortErase ((List.finRange 2).foldl abortProgram s)
  (s.flash.jobs.filter jobCut).foldl abortJob (onFlash (fun f => { f with
    held := f.held || decide (0 < count),
    aborted := satOf 32 (f.aborted.toNat + count),
    jobs := f.jobs.filter fun j => !jobCut j }) t)

/-- The operation that a job waited for has ended: it is taken off the job. -/
def opEnded (id : Nat) (s : State) : State :=
  onFlash (fun f => { f with jobs := f.jobs.map fun j => if j.id = id then { j with ops := j.ops.drop 1 } else j }) s

/-- The job of an identifier. -/
def jobOf (s : State) (id : Nat) : Option FlashJob := s.flash.jobs.find? fun j => j.id = id

/-- Whether a read of a sector must wait for the array, or is refused (R199, R202, R203). -/
def readWaits (s : State) (sec : Nat) : Bool :=
  (s.flash.prog[bankOf (sectorFin sec)]).isSome ||
    (match s.flash.erase with
      | some e => decide (bankOf e.sector = bankOf (sectorFin sec)) && !e.suspended && e.holdoff
      | none => false)
def readBusy (s : State) (sec : Nat) : Bool := sectorUnerased s sec

/-- A read in the bank of a running erase suspends it (R199, R201). -/
def readSuspends (sec : Nat) (s : State) : State :=
  match s.flash.erase with
  | some e => if bankOf e.sector = bankOf (sectorFin sec) then askSuspend s else s
  | none => s

/-- A powered AON die rebuilds every write pointer and every unerased mark by scanning the status bytes (R185); the
model keeps both with the pages, so the scan finds them as they are. -/
def scanFlash (s : State) : State :=
  onFlash (fun f => { f with
    sectors := updAll f.sectors (fun sec x => if x.unerased.isSome then { x with wptr := 256 } else
      { x with wptr := (f.pages.filter fun p => p.1 / 256 = sec.val).foldl (fun m p => max m (p.1 % 256 + 1)) 0 }),
    endurance := maskOf 32 fun i => 100000 ≤ (f.sectors[sectorFin i]).erases.toNat }) s

end Sys2Proof.Machine
end

