-- ==== Sys2Proof/Machine/Cell.lean ====
section
/-! DEFINITION. The backup cell keeper: coulomb counter, charge estimate, energy check and cell faults (R163, R165 to
R176, R511, R533). Energies are held in units of 10^-8 mJ, in which every term of R171 and R172 is whole. -/

namespace Sys2Proof.Machine

/-- The cell changed. -/
def onCell (f : Cell → Cell) (s : State) : State := { s with cell := f s.cell }

/-- Q_full in µAh: measured, or nominal and then 0x2500.01 as it stands (R163). -/
def qFull (s : State) : Nat := if s.cell.measured then s.cell.qFull else 1000 * pv s 0x2500 1

/-- Q_rem clamped to Q_full (R163, R166). -/
def clampQ (s : State) : State := onCell (fun c => { c with qRem := min c.qRem (qFull s) }) s

/-- Whether a clock runs (R81, R115): the PLL's, in holdover too, or the crystal's. -/
def clockRuns (s : State) : Bool := s.supply.pll || (s.supply.xtal && s.supply.oscValid)

/-- The module runs from the cell: the keeper switch is closed, or the AON die runs from VCELL, as it does when VSB is
absent (R30, R170). -/
def fromCell (s : State) : Bool := s.cell.switchOn || (!s.supply.vsbOk && s.cell.connected)

/-- Charging is in progress: the phases of Table 5-4 in which current flows into the cell. -/
def charging (s : State) : Bool :=
  decide (s.cell.phase = .precharge) || decide (s.cell.phase = .cc) || decide (s.cell.phase = .cv)

/-- There is no load and no charging (R533). -/
def noLoad (s : State) : Bool := !fromCell s && !charging s

/-- The 10 % level of a period of running from the cell (R170): source 28 once, and the depletion log point
(R159; assumption 10). -/
def tenPercent (s : State) : State :=
  if fromCell s && !s.cell.low10 && decide (s.cell.qRem * 10 < qFull s) then
    logPoint 6 (raise 28 (onCell (fun c => { c with low10 := true }) s))
  else s

/-- A period of running from the cell begins or ends. -/
def cellPeriod (s : State) : State :=
  if fromCell s then tenPercent (onCell (fun c => { c with
    onCell := true, low10 := c.low10 && c.onCell, rest := [] }) s)
  else onCell (fun c => { c with onCell := false, low10 := false }) s

/-- A keeper phase (0x2500.07): source 25 on each change; FULL sets Q_rem to Q_full (Table 5-4). -/
def setPhase (p : KeeperPhase) (s : State) : State :=
  if s.cell.phase = p then s
  else raise 25 (onCell (fun c => { c with
    phase := p,
    qRem := if p = .full then qFull s else c.qRem,
    chargeUs := if p = .full then 0 else c.chargeUs,
    fromFull := if p = .full then some 0 else if p = .discharging || p = .off || p = .suspended then c.fromFull
      else none }) s)

/-- Charging is stopped by a fault in force (Table 5-5), or limited to PRECHARGE (fault 0x06). -/
def chargeStopped (s : State) : Bool := s.cell.faults.any fun f => decide (1 ≤ f.toNat) && decide (f.toNat ≤ 4)
def prechargeOnly (s : State) : Bool := s.cell.faults.contains 6

/-- VIN in its operating range (Table 1-2), and the die between 0 °C and 70 °C (R165). -/
def vinInRange (k : KeeperSense) : Bool := decide (4500000 ≤ k.vinUv.toNat) && decide (k.vinUv.toNat ≤ 5500000)
def chargeWarm (k : KeeperSense) : Bool := decide (0 ≤ k.dieTemp.toInt) && decide (k.dieTemp.toInt ≤ 700)

/-- Charging may go on (R165, R168, R175): VIN and the temperature allow it, the charge has been estimated since AON
power-on, and no fault in force stops it. -/
def mayCharge (s : State) (k : KeeperSense) : Bool :=
  vinInRange k && chargeWarm k && s.cell.estimated && !chargeStopped s

/-- A phase change that the entry conditions of Table 5-4 on what the keeper measures, the faults in force and the cell's
connection allow. Charging ends in OFF where VIN or a fault stops it and in SUSPENDED outside the temperature window;
DISCHARGING is a period of running from the cell. -/
def phaseAllowed (s : State) (p : KeeperPhase) (k : KeeperSense) : Bool :=
  s.supply.aon && s.cell.connected &&
    (match p with
      | .precharge => mayCharge s k && (prechargeOnly s || decide (k.vcellUv.toNat < 3000000))
      | .cc => mayCharge s k && !prechargeOnly s && decide (3000000 ≤ k.vcellUv.toNat)
          && (decide (s.cell.phase ≠ .full) || decide (k.vcellUv.toNat + 100000 < 1000 * pv s 0x2500 2))
      | .cv => mayCharge s k && !prechargeOnly s && decide (1000 * pv s 0x2500 2 ≤ k.vcellUv.toNat)
      | .full => mayCharge s k && !prechargeOnly s && decide (s.cell.phase = .cv)
          && decide (k.currentMa.toNat < pv s 0x2500 4)
      | .off => !vinInRange k || chargeStopped s || !s.cell.estimated
      | .suspended => charging s && !chargeWarm k
      | .discharging => fromCell s)

/-- A charge seen without load, in the list of the last 10 min; a load or charging empties the list (R533). -/
def noteRest (s : State) : State :=
  let now := s.sys.aonTime.toNat
  onCell (fun c => { c with
    rest := if noLoad s then (now, c.qRem) :: c.rest.filter fun p => decide (now ≤ p.1 + 600000000) else [] }) s

/-- Q_rem has fallen by more than 333 µAh in some 10 min without load (R533). -/
def fallsAtRest (s : State) : Bool :=
  noLoad s && s.cell.rest.any fun p =>
    decide (s.sys.aonTime.toNat ≤ p.1 + 600000000) && decide (s.cell.qRem + 333 < p.2)

/-- CC and CV together have lasted more than 10 h (R533). -/
def chargedTooLong (s : State) : Bool := charging s && decide (36000000000 < s.cell.chargeUs)

/-- The coulomb counter's period (R81, R166, R167): Q_rem within 0 and Q_full, equivalent cycles, the measured Q_full at
the cutoff voltage after a discharge from FULL, the 10 % level. It counts on the AON clock, and not while none runs. -/
def coulomb (delta : Int) (s : State) : State :=
  if !s.supply.aon || !s.cell.connected || !clockRuns s then s
  else
    let s := noteRest s
    let full := qFull s
    let out := (-delta).toNat
    let s := onCell (fun c => { c with
      qRem := min full ((c.qRem : Int) + delta).toNat,
      cycles := if full ≤ c.drawn + out && full ≠ 0 then c.cycles + BitVec.ofNat 32 ((c.drawn + out) / full) else c.cycles,
      drawn := if full = 0 then c.drawn + out else (c.drawn + out) % full,
      fromFull := if 0 < delta then none else c.fromFull.map (· + out) }) s
    let s := match s.cell.fromFull with
      | some q =>
        if 0 < out && s.cell.vcellUv.toNat ≤ 1000 * pv s 0x2500 5 then
          clampQ (onCell (fun c => { c with qFull := q, measured := true, fromFull := none }) s)
        else s
      | none => s
    noteRest (tenPercent s)

/-- The charge estimated from VCELL at AON power-on (R168): the defaults of the cutoff and CV voltages. The spec states no
rounding; the estimate is rounded down to whole µAh (assumption 10). -/
def estimateOf (full vcellUv : Nat) : Nat := min full (9 * full * (vcellUv - 3000000) / (10 * 1100000))

/-! ## Energy (R171 to R174) -/

/-- E_avail in 10^-8 mJ. -/
def eAvail (s : State) : Nat := 1108800000 * s.cell.qRem

/-- The bytes of dirty write-back state in tiers S and D (R172; assumption 11). -/
def dirtyBytes (s : State) : Nat := sum (s.tiers.tiles.map fun p =>
  match p.2.s with
  | some c => if c.dirty ≠ 0 then c.data.length else match p.2.d with
    | some d => if d.dirty ≠ 0 then d.bytes.length else 0
    | none => 0
  | none => match p.2.d with | some d => if d.dirty ≠ 0 then d.bytes.length else 0 | none => 0)

/-- E_req for D frames to be exposed, in 10^-8 mJ (R172). -/
def eReq (s : State) (frames : Nat) : Nat :=
  let bExp := 1048576 + 2 * (frameCount s / 256) + 4100 * frames
  let bWb := 1310720 + dirtyBytes s
  10 ^ 8 * (600 + pv s 0x2500 6) + 68 * bExp + 100 * bWb

/-- E_avail and E_req in whole mJ: rounded down and up (R173). -/
def mjDown (e : Nat) : U32 := satOf 32 (e / 10 ^ 8)
def mjUp (e : Nat) : U32 := satOf 32 ((99999999 + e) / 10 ^ 8)

/-- The guarantee computed (R174): source 27 on each change of the bit. -/
def guaranteeNow (s : State) : State :=
  let full := eReq s (frameCount s)
  let ok := decide (full ≤ eAvail s)
  let changed := decide (ok ≠ s.cell.guarantee)
  let s := onCell (fun c => { c with guarantee := ok, eFull := mjUp full }) s
  if changed then raise 27 s else s

/-! ## Faults (R175, R176, R533) -/

/-- A fault detected: reported, counted, source 26; it stops the charging its row names. -/
def cellFault (code : Byte) (s : State) : State :=
  let s := raise 26 (onCell (fun c => { c with
    faults := code :: c.faults.filter fun f => f ≠ code,
    faultCode := code,
    faultCount := c.faultCount + 1,
    switchOn := c.switchOn && decide (code ≠ 5),
    owed := c.owed || decide (code.toNat ≤ 4) }) s)
  if code.toNat ≤ 4 then setPhase .off s else cellPeriod s

/-- A fault in force has ended: the code shows the latest one still in force. -/
def faultEnds (code : Byte) (s : State) : State :=
  onCell (fun c =>
    let left := c.faults.filter fun f => f ≠ code
    { c with faults := left, faultCode := if c.faultCode = code then left.headD 0 else c.faultCode }) s

/-- A write of 1 to 0x2500.11 in SETUP (R176); the charging time restarts (R533). -/
def clearFaults (s : State) : State :=
  onCell (fun c => { c with faults := c.faults.filter fun f => f = 5, faultCode := 0, owed := false, chargeUs := 0 }) s

/-- The keeper's switch (R511). -/
def switchClose (s : State) : State :=
  if s.supply.aon && s.cell.connected && !s.cell.faults.contains 5 then
    cellPeriod (onCell (fun c => { c with switchOn := true }) s)
  else s
def switchOpen (s : State) : State :=
  if s.supply.aon then faultEnds 5 (cellPeriod (onCell (fun c => { c with switchOn := false }) s)) else s

end Sys2Proof.Machine
end

