-- ==== Sys2Proof/Machine/Safelight.lean ====
section
/-! DEFINITION. Safelight (R220 to R235, R532): the rank model, the dirty map, the frame heat, the mode-register capture
and the veil; and host DRAM's own contents, which host commands write. -/

namespace Sys2Proof.Machine

/-- Safelight and the handover changed; one rank, one sub-channel changed. -/
def onLight (f : Light → Light) (s : State) : State := { s with light := f s.light }
def onRank (r : Fin 16) (f : RankModel → RankModel) (s : State) : State :=
  onLight (fun l => { l with ranks := upd l.ranks r f }) s
def onSub (k : Fin 8) (f : SubModel → SubModel) (s : State) : State :=
  onLight (fun l => { l with subs := upd l.subs k f }) s

/-- The ranks of a sub-channel that the module has. -/
def ranksOfSub (s : State) (k : Fin 8) : List (Fin 16) := (ranksThere s).filter fun r => subOfRank r = k

/-! ## Host DRAM (R211) -/

/-- What a frame holds. -/
def frameContent (s : State) (f : Nat) : BitVec 32768 :=
  match aget s.light.dram f with
  | some v => v
  | none => match s.light.fill[(Fin.ofNat 2 (f / 2 ^ 24))] with
    | some n => Config.frameAtPowerUp n f
    | none => 0

/-- A frame with bytes written from a place on; bytes beyond its end are not written. -/
def overwrite (v : BitVec 32768) (at_ : Nat) : List Byte → BitVec 32768
  | [] => v
  | b :: bs =>
    let v := if at_ < 4096 then
        (v &&& ~~~(BitVec.ofNat 32768 (255 * 2 ^ (8 * at_)))) ||| BitVec.ofNat 32768 (b.toNat * 2 ^ (8 * at_))
      else v
    overwrite v (at_ + 1) bs

/-- Host bytes written to a row: the row's bit 0 selects the 2 KiB half, the column the byte within it. -/
def writeRow (f row column : Nat) (data : List Byte) (s : State) : State :=
  let v := overwrite (frameContent s f) (row % 2 * 2048 + column) (data.take (2048 - column))
  onLight (fun l => { l with dram := aput l.dram f v }) s

/-- The array of a side is not preserved: each of its frames holds a free value from now on. -/
def scrambleSide (side : Fin 2) (s : State) : State :=
  drew (onLight (fun l => { l with
    dram := l.dram.filter fun p => p.1 / 2 ^ 24 ≠ side.val, fill := upd l.fill side (fun _ => some s.free) }) s)

/-! ## Dirty map and heat (R222 to R225) -/

def markDirty (fs : Ranges) (s : State) : State := onLight (fun l => { l with dirty := runion l.dirty fs }) s
def markAll (s : State) : State := onLight (fun l => { l with dirty := allFrames s }) s

/-- The heat of a group, and one added to it. -/
def heatOf (s : State) (g : Nat) : U16 := (aget s.light.heat g).getD 0
def addHeat (g : Nat) (s : State) : State := onLight (fun l => { l with heat := aput l.heat g (satInc (heatOf s g)) }) s

/-- Every group's heat halved, rounding down; a heat of 0 is not listed. -/
def halveHeat (s : State) : State :=
  onLight (fun l => { l with heat := (l.heat.map (fun (p : Nat × U16) => (p.1, p.2 >>> 1))).filter fun p => p.2 ≠ 0 }) s

/-! ## The rank model (R226) -/

/-- The state that a rank's model reads (Table 7-5): UNKNOWN under a veil, TRAIN while a training window is open. -/
def rankState (s : State) (r : Fin 16) : RankState :=
  let m := s.light.ranks[r]
  if s.light.subs[subOfRank r].veiled then .unknown else if m.trainAt.isSome then .train else m.st

/-- Whether a rank is in self-refresh as Safelight sees it. -/
def inSelfRefresh (s : State) (r : Fin 16) : Bool := decide (rankState s r = .sr) || decide (rankState s r = .srpd)

/-- Every rank of the module is in self-refresh. -/
def allParked (s : State) : Bool := (ranksThere s).all fun r => inSelfRefresh s r

/-- The state a rank's banks give it; a command that enters or exits no power state leaves one that it meets. -/
def bankState (m : RankModel) : RankState := if m.rows.isEmpty then .idle else .active
def settledState (m : RankModel) : RankState :=
  match m.st with
  | .pd => .pd | .sr => .sr | .srpd => .srpd
  | .reset => bankState m | .idle => bankState m | .active => bankState m | .train => bankState m | .unknown => bankState m

/-- A decoded command changes a rank's model: a refresh is no longer in progress. A training window that is open stays
open (Table 7-4). -/
def decoded (f : RankModel → RankModel) (dest : RankModel → RankState) (m : RankModel) : RankModel :=
  { f m with refreshing := false, st := dest (f m) }

/-- A training window or a veil is open somewhere (R240). From then on the writes to the array are numbered. -/
def blind (s : State) : Bool :=
  (List.finRange 8).any (fun k => s.light.subs[k].veiled) ||
    (ranksThere s).any fun r => (s.light.ranks[r]).trainAt.isSome
def watchWrites (s : State) : State := if blind s then s else onLight (fun l => { l with suspect := [] }) s

/-! ## The veil (R229 to R232) -/

/-- Each rank of a veiled sub-channel has been decoded to a certain state and the veil's cause has gone. -/
def veilOver (s : State) (k : Fin 8) : Bool :=
  s.light.subs[k].veiled && !s.light.subs[k].training && !s.light.subs[k].relock &&
    (ranksOfSub s k).all fun r => (s.light.ranks[r]).settled

/-- A veil ends where it can (R231): source 129. -/
def veilCheck (k : Fin 8) (s : State) : State :=
  if veilOver s k then raise 129 (onSub k (fun m => { m with veiled := false }) s) else s

/-- A veil begins (R229, R230, R232): UNKNOWN ranks, uncertain registers, every frame dirty, source 128. A cause that
arises under a veil is recorded and asks for certain states anew. -/
def veilBegins (k : Fin 8) (cause : Nat) (s : State) : State :=
  let was := s.light.subs[k].veiled
  let s := watchWrites s
  let s := onLight (fun l => { l with veilCause := BitVec.ofNat 8 cause }) s
  let s := if cause = 3 then onSub k (fun m => { m with training := true }) s else s
  let s := (ranksOfSub s k).foldl (fun (s : State) r => onRank r (fun m => { m with
    settled := false, certainNot := [(0, 256)] }) s) s
  if was then s
  else raise 128 (markAll (onLight (fun l => { l with
    subs := upd l.subs k (fun m => { m with veiled := true, veilAt := l.writes }), veils := satInc l.veils,
    quiet := false }) s))

/-! ## Host commands -/

/-- How a host command is met: Safelight is off, the controller holds the side, the command lies outside the geometry or
within a relock, or it is decoded (R229, R233). -/
inductive Met where
  | off
  | held
  | veil (cause : Nat)
  | decoded
  deriving DecidableEq, Repr

def meets (s : State) (r : RankId) (rowOk : Bool) : Met :=
  if !s.supply.aon || !s.sys.mainOn || !s.light.on then .off
  else if s.light.ctrl[r.side] then .held
  else if s.light.subs[subIx r.side r.sub].relock then .veil 4
  else if !rankThere s (rankIx r) || !rowOk then .veil 2
  else .decoded

/-- A host command while the controller holds the side (R233): counted; source 134 once in each handover. -/
def commandHeld (s : State) : State :=
  let seen := s.light.heldSeen
  let s := onLight (fun l => { l with heldCmds := satInc l.heldCmds, heldSeen := true }) s
  if seen then s else raise 134 s

/-- Safelight only listens (R28): a command that it does not decode reaches the DRAM all the same, where the rank is
populated, the module is not in DARK and the switches are on the host side. -/
def reaches (s : State) (r : RankId) (rowOk : Bool) : Bool :=
  s.supply.aon && decide (s.sys.st ≠ .dark) && !s.light.ctrl[r.side] && rankThere s (rankIx r) && rowOk

/-- A host command carried out as it is met: `array` is what it does to the DRAM, `f` what it does to the DRAM and to
Safelight's state where Safelight decodes it. A command on a side that is not populated lies outside the geometry; with no
rank to wait for, the veil that it begins ends at once (R231). -/
def hostCommand (r : RankId) (rowOk : Bool) (array f : State → State) (s : State) : State :=
  match meets s r rowOk with
  | .off => if reaches s r rowOk then array s else s
  | .held => commandHeld s
  | .veil c =>
    let k := subIx r.side r.sub
    let t := veilBegins k c s
    let t := if reaches s r rowOk then array t else t
    if sideThere s r.side.val then t else veilCheck k t
  | .decoded => f s

/-- A row within the geometry. -/
def rowInside (s : State) (row : Nat) : Bool := decide (row < 2 ^ (pv s 0x9000 3 + 1))

/-- The rows that a rank has open. -/
def openRow (r : Fin 16) (bank row : Nat) (s : State) : State :=
  onRank r (fun m => { m with rows := aput m.rows bank row }) s
def closeRows (r : Fin 16) (bank : Option Nat) (s : State) : State :=
  onRank r (fun m => { m with rows := match bank with | some b => adel m.rows b | none => [] }) s

/-- Activate: the row is open, its group one degree warmer. -/
def activateRow (r : Fin 16) (bank row : Nat) (s : State) : State :=
  addHeat (groupOf (frameOf r bank row)) (onRank r (decoded id (fun _ => .active)) (openRow r bank row s))

/-- A frame written while a training window or a veil is open is remembered with the number of the write (R240). -/
def noteArray (f : Nat) (s : State) : State :=
  if blind s then onLight (fun l => { l with suspect := aput l.suspect f l.writes, writes := l.writes + 1 }) s else s

/-- The bytes of a write-type command reach the open row of a bank. -/
def arrayWrite (r : Fin 16) (bank column : Nat) (data : List Byte) (s : State) : State :=
  match aget (s.light.ranks[r]).rows bank with
  | none => s
  | some row => noteArray (frameOf r bank row) (writeRow (frameOf r bank row) row column data s)

/-- Write: the frame of the open row holds the bytes written and is dirty (R222). -/
def writeOpen (r : Fin 16) (bank column : Nat) (data : List Byte) (s : State) : State :=
  let open_ := aget (s.light.ranks[r]).rows bank
  let s := arrayWrite r bank column data (onRank r (decoded id settledState) s)
  match open_ with
  | none => s
  | some row => markDirty [(frameOf r bank row, frameOf r bank row + 1)] s

/-- Read, mode-register read, NOP, refresh management: the bank model only. -/
def bankOnly (r : Fin 16) (s : State) : State := onRank r (decoded id settledState) s

/-- Precharge of one bank or of all; a precharge-all finds the rank out of self-refresh, and may end a veil. -/
def prechargeBanks (r : Fin 16) (bank : Option Nat) (s : State) : State :=
  let s := onRank r (decoded (fun m => { m with settled := m.settled || bank.isNone })
    (fun m => if bank.isNone then .idle else settledState m)) (closeRows r bank s)
  veilCheck (subOfRank r) s

/-- Refresh: in progress, the timer moves on. -/
def refreshRank (r : Fin 16) (s : State) : State :=
  onRank r (fun m => { decoded id settledState m with refreshing := true, refreshes := m.refreshes + 1 }) s

/-- Self-refresh entry; with every rank in self-refresh the quiet window of Table 7-8 runs. -/
def enterSelfRefresh (r : Fin 16) (pd : Bool) (s : State) : State :=
  let s := onRank r (decoded (fun m => { m with srpd := pd, settled := true }) (fun _ => if pd then .srpd else .sr))
    (closeRows r none s)
  let s := veilCheck (subOfRank r) s
  onLight (fun l => { l with quiet := allParked s }) s

/-- Self-refresh exit. -/
def exitSelfRefresh (r : Fin 16) (s : State) : State :=
  onLight (fun l => { l with quiet := false })
    (onRank r (decoded (fun m => { m with srpd := false }) (fun _ => .idle)) (closeRows r none s))

/-- Power-down entry and exit, within self-refresh or outside it. -/
def enterPowerDown (r : Fin 16) (s : State) : State :=
  onRank r (fun m =>
    if m.st = .sr || m.st = .srpd then decoded (fun m => { m with srpd := true }) (fun _ => .srpd) m
    else decoded id (fun _ => .pd) m) s
def exitPowerDown (r : Fin 16) (s : State) : State :=
  onRank r (fun m =>
    if m.st = .sr || m.st = .srpd then decoded (fun m => { m with srpd := false }) (fun _ => .sr) m
    else decoded id bankState m) s

/-- The keys of a register's captured value: for the FSP-WR set point where JEDEC duplicates it, else for all (R227). -/
def captureKeys (addr : Byte) (fspWr : Fin 3) : List Nat :=
  if Config.mrDuplicated addr then [fspWr.val * 256 + addr.toNat]
  else [addr.toNat, 256 + addr.toNat, 512 + addr.toNat]

/-- The reserved slot, 0x9030.01, and whether a write is one that R234 forbids. -/
def reservedSlot (s : State) : Nat := pv s 0x9030 1
def violates (s : State) (m : RankModel) (addr : Byte) (e : MrEffect) : Bool :=
  match e with
  | .fspOp k => decide (k.val = reservedSlot s)
  | _ => Config.mrDuplicated addr && decide (m.fspWr.val = reservedSlot s)

/-- What a mode-register write does to the rank's model as JEDEC defines the register; a window that opens is numbered. -/
def applyEffect (e : MrEffect) (writes : Nat) (m : RankModel) : RankModel :=
  decoded (fun m => match e with
    | .plain => m
    | .fspWr k => { m with fspWr := k }
    | .fspOp k => { m with fspOp := k }
    | .trainOpen => { m with trainAt := some (m.trainAt.getD writes) }
    | .trainClose => { m with trainAt := none }) settledState m

/-- Mode-register write (R227, R231, R235): captured; HANDOVER_SLOT_VIOLATION; a set-point change relocks Safelight. Under a
veil no CERTAIN bit returns to 1 (R229). -/
def modeWrite (r : Fin 16) (addr op : Byte) (e : MrEffect) (s : State) : State :=
  let k := subOfRank r
  let veiled := s.light.subs[k].veiled
  let bad := violates s s.light.ranks[r] addr e
  let s := watchWrites s
  let n := s.light.writes
  let s := onRank r (fun m => applyEffect e n { m with
    values := (captureKeys addr m.fspWr).foldl (fun v k => aput v k op) m.values,
    written := radd addr.toNat (addr.toNat + 1) m.written,
    certainNot := if veiled then m.certainNot else rcut addr.toNat (addr.toNat + 1) m.certainNot,
    wroteSlot := m.wroteSlot || bad }) s
  let s := onLight (fun l => { l with captures := l.captures + 1 }) s
  let s := match e with
    | .fspOp _ => onSub k (fun x => { x with relock := true }) s
    | .trainClose => onSub k (fun x => { x with training := false }) s
    | .plain => s | .fspWr _ => s | .trainOpen => s
  let s := veilCheck k s
  if bad then raise 130 (onLight (fun l => { l with violations := satInc l.violations, slotTrained := false }) s) else s

/-- A multi-purpose command: it opens a training window, closes the one that is open, or does neither (Table 7-4). -/
def mpc (r : Fin 16) (window : Option Bool) (s : State) : State :=
  let s := watchWrites s
  let n := s.light.writes
  onRank r (decoded (fun m => match window with
    | some true => { m with trainAt := some (m.trainAt.getD n) }
    | some false => { m with trainAt := none }
    | none => m) settledState) s

/-- The relock after a set-point change has ended (R220). -/
def relocked (k : Fin 8) (s : State) : State := veilCheck k (onSub k (fun x => { x with relock := false }) s)

/-- RESET_n on a side (R221, R532): ranks in RESET, captures reset, every frame of the side dirty, the array lost. -/
def resetSide (side : Fin 2) (s : State) : State :=
  let rs := (ranksThere s).filter fun r => sideOfRank r = side
  let s := rs.foldl (fun (s : State) r => onRank r (fun _ => { RankModel.init with settled := true }) s) s
  let s := (List.finRange 8).foldl (fun (s : State) (k : Fin 8) => if sideOfSub k = side then
      veilCheck k (onSub k (fun x => { x with training := false, relock := false }) s) else s) s
  onLight (fun l => { l with captures := l.captures + 1, quiet := false })
    (markDirty (framesOf s rs) (scrambleSide side s))

/-! ## What the observer shows -/

/-- The captured value of a register in a set point (Table 7-6, R532). -/
def captured (m : RankModel) (fsp addr : Nat) : Byte :=
  (aget m.values (fsp * 256 + addr)).getD ((Config.mrReset (BitVec.ofNat 8 addr)).getD 0)

/-- One byte of a rank's record of 0x9020 (Table 7-6): under a veil each CERTAIN bit is 0 (R229). -/
def captureByte (m : RankModel) (veiled : Bool) (off : Nat) : Byte :=
  if off < 0x300 then captured m (off / 256) (off % 256)
  else if off < 0x320 then maskOf 8 fun b => rmem ((off - 0x300) * 8 + b) m.written
  else if off < 0x340 then maskOf 8 fun b => !veiled && !rmem ((off - 0x320) * 8 + b) m.certainNot
  else 0

/-- Safelight starts at step 6 of Table 3-3, or when the main die powers up in Hold-Partial (R224, R225, R236). -/
def lightStart (s : State) : State :=
  let s := onLight (fun l => { l with
    on := true, baseline := false, heat := [], slotTrained := false, trainFails := 0, heldSeen := false,
    subs := famAll 8 SubModel.init, quiet := false }) s
  markAll s

/-- Rank models and captures as they are before any command: after a BOOT (R48). -/
def ranksFresh (s : State) : State := onLight (fun l => { l with ranks := famAll 16 RankModel.init }) s

end Sys2Proof.Machine
end

