-- ==== Sys2Proof/Machine/Flags.lean ====
section
/-! DEFINITION. The flags a rail slot and a program run carry, how they are set and how they are cleared: Table 4-6,
Table 5-1, Table 15-3, 0x2220.03, and the crystal status 0x1420.07. -/

namespace Sys2Proof.Machine

/-- The flags of 0x2100+n.03 (Table 4-6). -/
inductive SlotFlag where
  | uv | ov | short | rampSlow | rampFast | dischargeSlow | compDisagree | auditFail | compSuspect | keepViolation
  | enableBlocked | vinLow
  deriving DecidableEq, Repr

/-- The bit of a flag. -/
def flagBit : SlotFlag → Nat
  | .uv => 1 | .ov => 2 | .short => 3 | .rampSlow => 4 | .rampFast => 5 | .dischargeSlow => 6 | .compDisagree => 7
  | .auditFail => 8 | .compSuspect => 9 | .keepViolation => 10 | .enableBlocked => 11 | .vinLow => 12

/-- The counters of Table 5-2. -/
inductive RailCount where
  | uv | ov | short | coincident | rampSlow | rampFast | disagree | audit | enables | marginLimit
  deriving DecidableEq, Repr

def countFin : RailCount → Fin 10
  | .uv => 0 | .ov => 1 | .short => 2 | .coincident => 3 | .rampSlow => 4 | .rampFast => 5 | .disagree => 6
  | .audit => 7 | .enables => 8 | .marginLimit => 9

/-- A rail slot changed. -/
def onRail (n : SlotId) (f : RailSlot → RailSlot) (s : State) : State := { s with rails := upd s.rails n f }

/-- The running program changed. -/
def onRun (f : SeqRun → SeqRun) (s : State) : State := { s with seq := { s.seq with run := s.seq.run.map f } }

/-- A flag set on a slot (R140): sticky; newly set it makes source n pending; a running program notes it (R141). -/
def setFlag (n : SlotId) (fl : SlotFlag) (s : State) : State :=
  let old := s.rails[n].flags
  let s := onRun (fun r => { r with flagged := true }) (onRail n (fun x => { x with
    flags := x.flags ||| BitVec.ofNat 32 (2 ^ flagBit fl) }) s)
  if old.getLsbD (flagBit fl) then s else raise n.val s

/-- The number of the first three counters as an alert's place. -/
def alertOf : RailCount → Option (Fin 3)
  | .uv => some 0 | .ov => some 1 | .short => some 2 | _ => none

/-- An event counted (R156); a UV, OV or SHORT counter that reaches the alert count makes source 22 pending once
(R157). The test is made as the counter moves, at or above the count as it then stands, and a counter clear arms it
again (assumption 8). -/
def count (n : SlotId) (c : RailCount) (s : State) : State :=
  let s := onRail n (fun x => { x with counts := upd x.counts (countFin c) satInc }) s
  match alertOf c with
  | none => s
  | some a =>
    if pv s 0x2410 3 ≤ (s.rails[n].counts[countFin c]).toNat && !(s.rails[n].alerted[a]) then
      raise 22 (onRail n (fun x => { x with alerted := upd x.alerted a (fun _ => true) }) s)
    else s

/-- A write of 1s to 0x2100+n.03: bits 12 to 1 clear. -/
def clearSlotFlags (n : SlotId) (ones : U32) (s : State) : State :=
  onRail n (fun x => { x with flags := x.flags &&& ~~~ones }) s

/-- The margin status word (Table 5-1). -/
def marginCode : MarginState → Nat
  | .idle => 0 | .walking => 1 | .settled => 2 | .limit => 3 | .inactive => 4
def marginStatus (x : RailSlot) : Nat :=
  x.applied.toNat + 65536 * marginCode x.margin + (if x.clamped then 2 ^ 19 else 0)
    + (if x.limited then 2 ^ 20 else 0) + (if x.refused then 2 ^ 21 else 0)

/-- A write of 1s to 0x2310.(n+1). -/
def clearMarginFlags (n : SlotId) (ones : U32) (s : State) : State :=
  onRail n (fun x => { x with
    clamped := x.clamped && !ones.getLsbD 19,
    limited := x.limited && !ones.getLsbD 20,
    refused := x.refused && !ones.getLsbD 21 }) s

/-- The comparator state word (Table 15-3). -/
def compWord (x : RailSlot) : Nat :=
  let one := fun (c : Cmp) => (if c.uv then 1 else 0) + (if c.ov then 2 else 0) + (if c.short then 4 else 0)
  let a := x.cmpA.suspect
  let b := x.cmpB.suspect
  one x.cmpA + 8 * one x.cmpB + (if a || b then 2 ^ 12 else 0) + (if b && !a then 2 ^ 13 else 0)
    + (if a && b then 2 ^ 14 else 0)

/-- The slot state code of 0x2100+n.01. -/
def slotCode : SlotState → Nat
  | .off => 0 | .ramping => 1 | .inWindow => 2 | .uv => 3 | .ov => 4 | .latched => 5

/-- The run flags 0x2220.03 of a run. -/
def runFlagsOf (r : SeqRun) : Byte :=
  BitVec.ofNat 8 ((if r.corrected then 1 else 0) + (if r.mismatch then 2 else 0) + (if r.flagged then 4 else 0)
    + (if r.exited then 8 else 0))

/-- Any flag set in a run (R121, R141; assumption 7). -/
def anyRunFlag (r : SeqRun) : Bool := r.corrected || r.mismatch || r.flagged

/-- The crystal status 0x1420.07 (R79), and a write to it: bit 1 is cleared by 1. -/
def crystalWord (s : State) : Nat := (if s.sys.crystalLost then 1 else 0) + (if s.sys.crystalSeen then 2 else 0)
def clearCrystal (ones : Byte) (s : State) : State :=
  { s with sys := { s.sys with crystalSeen := s.sys.crystalSeen && !ones.getLsbD 1 } }

end Sys2Proof.Machine
end

