-- ==== Sys2Proof/Machine/Rails.lean ====
section
/-! DEFINITION. Rail slots: comparators and trip policy (R100 to R105), the short latch (R106 to R109), ramp supervision
(R110), and the margin loop (R145 to R155). -/

namespace Sys2Proof.Machine

/-! ## Switching a slot -/

/-- A slot's margin back to 0 without a walk (R151, R155). -/
def marginZero (x : RailSlot) : RailSlot := { x with request := 0, applied := 0, trim := 0, margin := .idle, steady := 0 }

/-- A slot switched off: its enable inactive and its margin request 0. -/
def slotOff (st : SlotState) (n : SlotId) (s : State) : State :=
  onRail n (fun x => { marginZero x with en := false, st := st, awaiting := false, blanked := false }) s

/-- A latch-off on UV or OV, or by the short latch: the slot stays in LATCHED, with no trim current (R103, R106, R107). -/
def latchOff (n : SlotId) (s : State) : State := onRail n (fun x => { x with driven := false }) (slotOff .latched n s)

/-- The current of SL_TRIM[n] in 6.25 nA (R144, R150, R151): the static trim from the enable edge on, with the loop's
on top of it, within the output's bounds; a slot that is unused or latched drives none. -/
def trimOutput (s : State) (n : SlotId) : Int :=
  if slotUsed s n && s.rails[n].driven then
    max (-8192) (min 8191 ((staticTrim s n).toInt + s.rails[n].trim.toInt))
  else 0

/-- The enable edge of a slot (R110, R119, R120, R144): RAMPING starts, the static trim is driven, blanking runs; the
comparators go on showing what they see. An ENABLE of a latched slot is suppressed (R107). A persistence-critical rail that
powers up ends slot training (R236). -/
def enableSlot (n : SlotId) (s : State) : State :=
  if s.rails[n].st = .latched then setFlag n .enableBlocked s
  else if s.rails[n].en then s
  else
    let s := onRail n (fun x => { x with
      en := true, st := .ramping, awaiting := true, rampOver := false, blanked := true, driven := true }) s
    let s := if critical s n then { s with light := { s.light with slotTrained := false } } else s
    count n .enables s

/-- A slot disabled; one that is latched or off stays as it is (R120). -/
def disableSlot (n : SlotId) (s : State) : State := if s.rails[n].en then slotOff .off n s else s

/-! ## Trips (R101 to R105) -/

/-- The combined UV or OV condition of a slot under its policy and its suspect marks. With both comparators suspect the
ADC decides. -/
def combined (s : State) (n : SlotId) (ov : Bool) : Bool :=
  let x := s.rails[n]
  let out := fun (c : Cmp) => if ov then c.ov else c.uv
  if x.cmpA.suspect && x.cmpB.suspect then
    let r := x.reading.toNat
    let hyst := (rail s n 1 : Int) * 50
    if ov then aboveOv s n r || (decide (x.st = .ov) && decide (ovLevel s n - hyst < 10000 * (r : Int)))
    else belowUv s n r || (decide (x.st = .uv) && decide (10000 * (r : Int) < uvLevel s n + hyst))
  else if x.cmpA.suspect then out x.cmpB
  else if x.cmpB.suspect then out x.cmpA
  else if rail s n 9 = 1 then out x.cmpA && out x.cmpB
  else out x.cmpA || out x.cmpB

/-- A UV or an OV trip (R103): flag, counter, slot state, and a latch-off where 0x2000+n.0A selects it. -/
def tripUv (n : SlotId) (s : State) : State :=
  let s := count n .uv (setFlag n .uv (onRail n (fun x => { x with st := .uv }) s))
  if (rail s n 0xA).testBit 1 then latchOff n s else s
def tripOv (n : SlotId) (s : State) : State :=
  let s := count n .ov (setFlag n .ov (onRail n (fun x => { x with st := .ov }) s))
  if (rail s n 0xA).testBit 0 then latchOff n s else s

/-- A slot whose trips count: enabled, in use, not latched. -/
def supervised (s : State) (n : SlotId) : Bool :=
  s.supply.aon && slotUsed s n && s.rails[n].en && decide (s.rails[n].st ≠ .latched)

/-- The trips that the slot's outputs now call for: OV first; no UV trip while RAMPING (R110). -/
def evalTrips (n : SlotId) (s : State) : State :=
  if !supervised s n then s
  else if combined s n true && decide (s.rails[n].st ≠ .ov) then tripOv n s
  else if combined s n false && decide (s.rails[n].st ≠ .uv) && decide (s.rails[n].st ≠ .ramping) then tripUv n s
  else s

/-- A slot that tripped, or left its ramp without entry, is back in its window once its outputs, combined as R110
combines them, show neither condition (assumption 24). A first entry is WINDOW_ENTRY's. -/
def backInWindow (n : SlotId) (s : State) : State :=
  let x := s.rails[n]
  if supervised s n && !x.awaiting && (decide (x.st = .uv) || decide (x.st = .ov)) && !combined s n true
      && !combined s n false then
    onRail n (fun x => { x with st := .inWindow }) s
  else s

/-- One comparator of a slot changed. -/
def onCmp (n : SlotId) (c : Comp) (f : Cmp → Cmp) (s : State) : State :=
  onRail n (fun x => match c with
    | .a => { x with cmpA := f x.cmpA }
    | .b => { x with cmpB := f x.cmpB }) s

/-- Comparators that differ for 50 µs (R102): the flag, the counter, and under AND a trip by the latest reading; with a
suspect comparator the policy does not decide (R105). -/
def disagree (n : SlotId) (s : State) : State :=
  let x := s.rails[n]
  if !supervised s n || (x.cmpA.uv = x.cmpB.uv && x.cmpA.ov = x.cmpB.ov) then s
  else
    let s := count n .disagree (setFlag n .compDisagree s)
    if rail s n 9 ≠ 1 || x.cmpA.suspect || x.cmpB.suspect then s
    else if aboveOv s n x.reading.toNat && decide (x.st ≠ .ov) then tripOv n s
    else if belowUv s n x.reading.toNat && decide (x.st ≠ .uv) && decide (x.st ≠ .ramping) then tripUv n s
    else s

/-! ## Short latch (R106 to R109) -/

/-- The short latch acts: the slot is latched, its counter and those of every RAMPING slot move. -/
def shortLatch (n : SlotId) (s : State) : State :=
  let ramping := (List.finRange 16).filter fun m => decide (m ≠ n) && decide (s.rails[m].st = .ramping)
  let s := count n .short (setFlag n .short (latchOff n s))
  ramping.foldl (fun (s : State) m => count m .coincident s) s

/-- A SHORT output changes (R100): asserted, it latches the slot at once unless the blanking time still runs. -/
def shortChanged (n : SlotId) (c : Comp) (asserts : Bool) (s : State) : State :=
  let s := onCmp n c (fun k => { k with short := asserts }) s
  if asserts && supervised s n && !s.rails[n].blanked then shortLatch n s else s

/-- The blanking time ends: an output already asserted latches the slot now. -/
def blankingEnd (n : SlotId) (s : State) : State :=
  if !s.rails[n].blanked then s
  else
    let s := onRail n (fun x => { x with blanked := false }) s
    if supervised s n && (s.rails[n].cmpA.short || s.rails[n].cmpB.short) then shortLatch n s else s

/-! ## Ramps (R110, R121) -/

/-- The slot first enters its window, `ticks` of 10 ns after its enable edge: its outputs, combined under its policy and
its suspect marks, show neither condition. -/
def windowEntered (n : SlotId) (ticks : Nat) (s : State) : State :=
  if !(supervised s n && s.rails[n].awaiting) || combined s n true || combined s n false then s
  else
    let s := onRail n (fun x => { x with
      st := .inWindow, awaiting := false, rampUs := satOf 32 (ticks / 100), rampRem := BitVec.ofNat 8 (ticks % 100) }) s
    if ticks < 100 * rail s n 7 then count n .rampFast (setFlag n .rampFast s) else s

/-- RAMP_SLOW set on a slot, and counted for each occurrence of R110 and of R121 (R156; assumption 8). -/
def rampSlowFlag (n : SlotId) (s : State) : State := count n .rampSlow (setFlag n .rampSlow s)

/-- The ramp window ends without entry (R110): RAMP_SLOW, the slot leaves RAMPING for UV; latched off where UV latches.
A slot that an OV trip took out of RAMPING has not entered either, and keeps its state (assumption 24). -/
def rampExpired (n : SlotId) (s : State) : State :=
  if !(supervised s n && s.rails[n].awaiting) || s.rails[n].rampOver then s
  else
    let s := rampSlowFlag n (onRail n (fun x => { x with
      rampOver := true, st := if x.st = .ramping then .uv else x.st }) s)
    if (rail s n 0xA).testBit 1 then latchOff n s else s

/-! ## Audit (R104, R105) -/

/-- Whether a comparator disagrees with the latest reading, which lies more than 0.3 % of target from the threshold. The
thresholds are those the comparators compare with, around the internal target, and the 0.3 % is of the nominal target,
the audit reference of R147. What else that reference is the spec does not say (assumption 24). -/
def auditFails (s : State) (n : SlotId) (c : Cmp) : Bool :=
  let r := 10000 * (s.rails[n].reading.toNat : Int)
  let tol := (rail s n 1 : Int) * 30
  let u := uvLevel s n
  let o := ovLevel s n
  let sh := (rail s n 1 : Int) * 100 * (rail s n 5 : Int)
  (c.uv && decide (u + tol < r)) || (!c.uv && decide (r < u - tol)) || (c.ov && decide (r < o - tol))
    || (!c.ov && decide (o + tol < r)) || (c.short && decide (sh + tol < r)) || (!c.short && decide (r < sh - tol))

/-- One comparator audited: AUDIT_FAIL and its counter, and after three in a row the suspect mark. -/
def auditOne (n : SlotId) (c : Comp) (s : State) : State :=
  let k := match c with | .a => s.rails[n].cmpA | .b => s.rails[n].cmpB
  if !auditFails s n k then onCmp n c (fun k => { k with streak := 0 }) s
  else
    let s := count n .audit (setFlag n .auditFail (onCmp n c (fun k => { k with streak := k.streak + 1 }) s))
    if k.streak + 1 = 3 && !k.suspect then
      evalTrips n (setFlag n .compSuspect (onCmp n c (fun k => { k with suspect := true }) s))
    else s

def auditSlot (n : SlotId) (s : State) : State :=
  if supervised s n then auditOne n .b (auditOne n .a s) else s

/-! ## Margins (R145 to R155) -/

/-- The margin loop runs on a slot (R151). -/
def loopRuns (s : State) (n : SlotId) : Bool :=
  pllRuns s && slotUsed s n && s.rails[n].en && decide (s.rails[n].st ≠ .ramping) && decide (s.rails[n].st ≠ .latched)

/-- A margin requested (R145): the loop walks towards it where it runs. -/
def requestMargin (n : SlotId) (steps : U16) (s : State) : State :=
  let runs := loopRuns s n
  onRail n (fun x => { x with
    request := steps,
    steady := 0,
    margin := if steps = x.applied then (if steps = 0 then .idle else x.margin) else if runs then .walking else .inactive }) s

/-- The sum of static and loop trim at a bound of the output, -51.2 µA or +51.19 µA in 6.25 nA (R150). -/
def trimAtBound (s : State) (n : SlotId) (loop : U16) : Bool :=
  let t := (staticTrim s n).toInt + loop.toInt
  decide (t ≤ -8192) || decide (8191 ≤ t)

/-- A loop trim with which the output's sum stays within its bounds: at a bound it is held there (R150). -/
def heldTrim (s : State) (n : SlotId) (loop : U16) : U16 :=
  let st := (staticTrim s n).toInt
  BitVec.ofInt 16 (max (-8192 - st) (min (8191 - st) loop.toInt))

/-- A conversion of a slot's reading: the walk, the settling and the limit (R147, R148, R150). At a bound the trim is
held and the internal target stays, until a new request. -/
def marginStep (n : SlotId) (loop : U16) (s : State) : State :=
  if !loopRuns s n || decide (s.rails[n].margin = .limit) then s
  else
    let s := onRail n (fun x => { x with
      trim := heldTrim s n loop,
      margin := if x.margin = .inactive && decide (x.request ≠ x.applied) then .walking else x.margin }) s
    let x := s.rails[n]
    if trimAtBound s n loop then
      count n .marginLimit (raise 21 (onRail n (fun x => { x with margin := .limit, limited := true }) s))
    else if x.margin ≠ .walking then s
    else if x.applied ≠ x.request then
      onRail n (fun x => { x with
        applied := if x.applied.slt x.request then x.applied + 1 else x.applied - 1, steady := 0 }) s
    else
      let d := 10000 * (x.reading.toNat : Int) - internal s n
      let near := decide (5000 * d ≤ internal s n) && decide (-(internal s n) ≤ 5000 * d)
      let s := onRail n (fun x => { x with steady := if near then x.steady + 1 else 0 }) s
      if s.rails[n].steady = 3 then
        raise 20 (onRail n (fun x => { x with margin := .settled }) s)
      else s

/-- A slot's reading in µV of a 16-bit code (R96, R97): 31.25 µV a step at the sense pins, scaled by the sense ratio in
thousandths, rounded down. Scaling the reading and comparing it with the rail's own thresholds is the same comparison as
scaling the thresholds. -/
def readingOf (s : State) (n : SlotId) (code : U16) : U32 := satOf 32 (code.toNat * 125 * rail s n 2 / 4000)

/-- A slot's conversion (R98): the reading, then the loop, then trips where the ADC decides them (R105). -/
def slotConverted (n : SlotId) (code : U16) (loop : U16) (s : State) : State :=
  if !slotUsed s n then s
  else
    let s := marginStep n loop (onRail n (fun x => { x with reading := readingOf s n code }) s)
    if !(s.rails[n].cmpA.suspect && s.rails[n].cmpB.suspect) then s else backInWindow n (evalTrips n s)

/-- Persistence-critical slots walk back to 0 at entry to EXPOSE and DEVELOP (R154). -/
def marginsBack (s : State) : State :=
  (List.finRange 16).foldl (fun (s : State) (n : SlotId) => if critical s n then requestMargin n 0 s else s) s

/-- Every margin 0 at once: HOLD entry and BOOT entry (R152, R155). -/
def marginsZero (s : State) : State := { s with rails := updAll s.rails (fun _ x => marginZero x) }

/-- BOOT entry ends the suspect marks (R105). -/
def suspectsEnd (s : State) : State :=
  { s with rails := updAll s.rails (fun _ x => { x with
      cmpA := { x.cmpA with suspect := false, streak := 0 }, cmpB := { x.cmpB with suspect := false, streak := 0 } }) }

/-- The AON supply is lost: every enable inactive, no trim driven, every slot OFF (R138). -/
def railsLost (s : State) : State :=
  { s with rails := updAll s.rails (fun _ x => { x with en := false, st := .off, driven := false }) }

/-- The slot that 0x2000+n.0B marks, disabled by the device itself: the highest one still enabled (R274). -/
def highestCritical (s : State) : Option SlotId :=
  ((List.finRange 16).filter fun n => critical s n && s.rails[n].en).getLast?

end Sys2Proof.Machine
end

