-- ==== Sys2Proof/Machine/Sequencer.lean ====
section
/-! DEFINITION. The sequencer (R116 to R142): the step word and its SECDED code, the directory, the start, the steps and
the end of a program. -/

namespace Sys2Proof.Machine

/-! ## The step word (R116 to R118) -/

/-- The code position of data bit i: the integers from 3 upward that are not powers of two (R117). -/
def dataPositions : List Nat := (List.range 60).filterMap fun k =>
  let p := k + 3
  if [4, 8, 16, 32].contains p then none else some p

/-- The XOR of the positions of the set data bits: its bit k is the check bit ck. -/
def checkOf (data : Nat) : Nat :=
  (dataPositions.zipIdx).foldl (fun x p => if data.testBit p.2 then Nat.xor x p.1 else x) 0

/-- Whether an odd number of the lowest `n` bits is set. -/
def oddBits (n w : Nat) : Bool := (List.range n).foldl (fun b i => xor b (w.testBit i)) false

/-- The 56 data bits of a step word after correction, and whether a bit was corrected; `none` is uncorrectable. -/
def decodeStep (w : U64) : Option (Nat × Bool) :=
  let data := bits 55 0 w.toNat
  let synd := Nat.xor (bits 61 56 w.toNat) (checkOf data)
  let wrong := oddBits 63 w.toNat
  if synd = 63 then none
  else if synd = 0 then some (data, wrong)
  else if !wrong then none
  else match (dataPositions.zipIdx).find? fun p => p.1 = synd with
    | some p => some (Nat.xor data (2 ^ p.2), true)
    | none => some (data, true)

/-- The check bits of 56 data bits placed above them: the word as it is stored (R117). -/
def encodeStep (data : Nat) : U64 :=
  let w := data + 2 ^ 56 * checkOf data
  BitVec.ofNat 64 (if oddBits 62 w then w + 2 ^ 62 else w)

/-- A step that Table 4-2 lists, with its fields. -/
structure StepWord where
  op : Nat
  arg : Nat
  mask : U16
  value : Nat
  deriving DecidableEq, Repr

/-- The fields of the data bits (Table 4-1). -/
def stepFields (d : Nat) : StepWord := ⟨bits 55 52 d, bits 51 48 d, BitVec.ofNat 16 (bits 47 32 d), bits 31 0 d⟩

/-- An opcode with a sub-function of Table 4-2. -/
def stepListed (w : StepWord) : Bool :=
  if w.op = 2 || w.op = 7 then decide (w.arg = 0)
  else if w.op = 1 || w.op = 6 || w.op = 8 then decide (w.arg ≤ 1)
  else if w.op = 3 || w.op = 4 then decide (w.arg ≤ 2)
  else decide (w.op = 5) && decide (w.arg ≤ 3)

/-- What the sequencer fetches: no step is due, the word leads to the safe exit, or a step; each with its correction
mark, which R118 notes whether or not Table 4-2 lists the step. A
program that runs past its last step meets no valid step (assumption 9). -/
inductive Fetched where
  | idle
  | bad (corrected : Bool)
  | step (w : StepWord) (corrected : Bool)
  deriving DecidableEq, Repr

def fetchStep (s : State) (flips : U64) : Fetched :=
  match s.seq.run with
  | none => .idle
  | some r =>
    if r.loading || decide (r.wait ≠ .none) || !pllRuns s then .idle
    else match r.words[r.pc]? with
      | none => .bad false
      | some w => match decodeStep (w ^^^ flips) with
        | none => .bad false
        | some (d, c) => if stepListed (stepFields d) then .step (stepFields d) c else .bad c

/-! ## The directory (R125, R126) -/

/-- A directory entry as stored, and its fields (Table 4-4). -/
def entryAt (s : State) (sub : Nat) : Nat := pv s 0x2210 sub
def dirCrc (e : Nat) : Nat := bits 127 96 e
def dirMaxRun (e : Nat) : Nat := bits 95 64 e
def dirValid (e : Nat) : Bool := e.testBit 48
def dirRole (e : Nat) : Nat := bits 47 40 e
def dirSafe (e : Nat) : Nat := bits 29 20 e
def dirLength (e : Nat) : Nat := bits 19 10 e + 1

/-- The steps that an entry's program occupies: from 256 × (subindex - 1), LENGTH long. -/
def dirRegion (s : State) (sub : Nat) : Nat × Nat := (256 * (sub - 1), 256 * (sub - 1) + dirLength (entryAt s sub))

/-- An entry rejected at load (R126). -/
def dirRejected (s : State) (sub : Nat) : Bool :=
  let e := entryAt s sub
  let r := dirRegion s sub
  (dirSafe e ≠ 0x3FF && dirLength e ≤ dirSafe e) || (dirValid e && (decide (4096 < r.2) ||
    ((List.range 16).any fun k =>
      let o := dirRegion s (k + 1)
      decide (k + 1 ≠ sub) && dirValid (entryAt s (k + 1)) && decide (o.1 < r.2) && decide (r.1 < o.2))))

/-- The sector of the active bank, and the first byte of an entry's words in it. -/
def storeActive (s : State) : Nat := if s.flash.progBank then 25 else 24
def storeBase (s : State) (sub : Nat) : Nat := storeActive s * 65536 + 2048 * (sub - 1)

/-- The step words of an entry in the active bank of the program store (R124, R196). -/
def storeWords (s : State) (sub : Nat) : List U64 :=
  (List.range (dirLength (entryAt s sub))).map fun i => BitVec.ofNat 64 (leNat (flashBytes s (storeBase s sub + 8 * i) 8))

/-- Whether an entry's program passes its load: not rejected, and the CRC over its words matches (R125, R128), which an
uncorrectable word fails (R183). -/
def programOk (s : State) (sub : Nat) (errs : WordErrors) : Bool :=
  !dirRejected s sub && !readFinds errs true (storeBase s sub) (8 * dirLength (entryAt s sub)) &&
    decide ((crc32c ((storeWords s sub).flatMap fun w => leBytes 8 w.toNat)).toNat = dirCrc (entryAt s sub))

/-- The valid entry with the lowest subindex of a role (R127). -/
def entryOfRole (s : State) (role : Nat) : Option Nat :=
  ((List.range 16).map (· + 1)).find? fun k => dirValid (entryAt s k) && dirRole (entryAt s k) = role

/-! ## Results (R141) -/

/-- The last result of a role, and a result recorded. -/
def setResult (role : Nat) (r : Byte) (s : State) : State :=
  if h : 1 ≤ role ∧ role ≤ 6 then
    { s with seq := { s.seq with results := upd s.seq.results ⟨role - 1, by omega⟩ (fun _ => r) } }
  else s

/-- The program in the step buffer ends with a result: 0x2220.01 to .03 and source 16. -/
def programEnds (result : Byte) (s : State) : State :=
  match s.seq.run with
  | none => s
  | some r => raise 16 (setResult r.role result { s with seq := { s.seq with run := none, runFlags := runFlagsOf r } })

/-- A program of an entry is being loaded into the step buffer (R128), which suspends an erase in the bank it is read from
(R199, R201); POWER_FAIL runs from its retention buffer. -/
def loadProgram (sub role : Nat) (s : State) : State :=
  let s := readSuspends (storeActive s) s
  { s with seq := { s.seq with run := some ⟨sub, role, true, [], 0, false, .none, false, false, false, false, 0⟩ } }
/-- POWER_FAIL at its trigger (R127 to R129). With an empty buffer the result is CRC_FAIL where the directory now has a
valid entry, one written after SETUP entry included, and NONE where it has none (assumption 59). -/
def runPowerFail (s : State) : State :=
  match s.seq.pfBuffer with
  | some (sub, words) =>
    { s with seq := { s.seq with run := some ⟨sub, 3, false, words, 0, false, .none, false, false, false, false, 0⟩ } }
  | none => setResult 3 (if (entryOfRole s 3).isSome then 6 else 0) s

/-- A role's program started where it has a valid entry; its result reads NONE otherwise (R127). -/
def startRole (role : Nat) (s : State) : State :=
  if role = 3 then runPowerFail s
  else match entryOfRole s role with
    | some sub => loadProgram sub role s
    | none => setResult role 0 s

/-- The POWER_FAIL program copied and checked at SETUP entry (R129): at most 64 steps. -/
def fillPowerFail (errs : WordErrors) (s : State) : State :=
  match entryOfRole s 3 with
  | some sub =>
    let ok := programOk s sub errs
    let s := countRead errs (storeBase s sub) (8 * dirLength (entryAt s sub)) (readSuspends (storeActive s) s)
    if ok && decide (dirLength (entryAt s sub) ≤ 64) then
      { s with seq := { s.seq with pfBuffer := some (sub, storeWords s sub) } }
    else setResult 3 6 { s with seq := { s.seq with pfBuffer := none } }
  | none => { s with seq := { s.seq with pfBuffer := none } }

/-- The running program stopped by a power-fail trigger, MR_n or RESET (R135, R139). -/
def preempt (s : State) : State := programEnds 7 s

/-- The safe exit (R119, R131, R132), with the result that the way there gives: a second one ends the program. The step
to go to is read from the directory entry as it stands now, for a program in the retention buffer too (assumption 59). -/
def safeExit (result : Byte) (s : State) : State :=
  match s.seq.run with
  | none => s
  | some r =>
    let safe := dirSafe (entryAt s r.sub)
    if r.exited then programEnds 5 s
    else
      let s := raise 18 (onRun (fun r => { r with exited := true, result := result, wait := .none, pc := safe }) s)
      if safe = 0x3FF then programEnds result s else s

/-- The program's next step, and a corrected word noted (R118). -/
def nextStep (s : State) : State := onRun (fun r => { r with pc := r.pc + 1, wait := .none }) s
def noteCorrected (c : Bool) (s : State) : State :=
  if c then onRun (fun r => { r with corrected := true }) { s with seq := { s.seq with corrected := satInc s.seq.corrected } }
  else s

/-- A step carried out when it is the one due: a bad word takes the safe exit, another opcode is not this command's. -/
def stepAs (op : Nat) (flips : U64) (f : StepWord → State → State) (s : State) : State :=
  match fetchStep s flips with
  | .idle => s
  | .bad c => safeExit 3 (noteCorrected c s)
  | .step w c => if w.op = op then f w (noteCorrected c s) else s

/-! ## The steps of Table 4-2 -/

/-- While the controller holds host DRAM for Exposure before its commit, or for Development, a persistence-critical
slot is not disabled by a step (R134). -/
def keepsSlots (s : State) : Bool :=
  (s.light.ctrl[(0 : Fin 2)] || s.light.ctrl[(1 : Fin 2)]) &&
    (match s.neg.exp with
      | some e => decide (e.phase ≠ .returning) && decide (e.phase ≠ .leaving)
      | none => s.neg.dev.isSome)

/-- ENABLE (R119, R120, R134). -/
def stepEnable (w : StepWord) (s : State) : State :=
  nextStep ((slotsOf w.mask).foldl (fun (s : State) n =>
    if w.arg = 0 then enableSlot n s
    else if keepsSlots s && critical s n && s.rails[n].en then setFlag n .keepViolation s
    else disableSlot n s) s)

/-- WAIT and WAIT_FOR start their two counters (R122). -/
def stepWait (_ : StepWord) (s : State) : State := onRun (fun r => { r with wait := .delay }) s
def stepWaitFor (w : StepWord) (s : State) : State := onRun (fun r => { r with wait := .cond w.arg w.mask }) s

/-- VIN not above V_PFW, as the latest conversion of VIN shows it: the spec does not say whether the ADC or the
comparator set of R112 judges it (assumption 24). -/
def vinLow (s : State) : Bool := decide (s.supply.vinUv.toNat ≤ vPfw s)

/-- A slot that fails the condition of a WAIT_FOR (R121): not in its window, not below 10 % of target, VIN not above
V_PFW. -/
def failsCondition (s : State) (arg : Nat) (n : SlotId) : Bool :=
  match arg with
  | 0 => decide (s.rails[n].st ≠ .inWindow) && slotUsed s n
  | 1 => decide (rail s n 1 ≤ s.rails[n].reading.toNat * 10) && slotUsed s n
  | _ => vinLow s

/-- Whether the condition of a WAIT_FOR holds (Table 4-2): VIN's does not depend on the mask. -/
def conditionFulfilled (s : State) (arg : Nat) (mask : U16) : Bool :=
  match arg with
  | 0 => (slotsOf mask).all fun n => !failsCondition s 0 n
  | 1 => (slotsOf mask).all fun n => !failsCondition s 1 n
  | _ => !vinLow s

/-- The flag that a WAIT_FOR's timeout gives a failing slot. -/
def timeoutFlag (arg : Nat) (n : SlotId) (s : State) : State :=
  match arg with
  | 0 => rampSlowFlag n s
  | 1 => setFlag n .dischargeSlow s
  | _ => setFlag n .vinLow s

/-- A WAIT_FOR has timed out (R121): every failing slot gets its flag, C becomes 0 where one did, the program goes on. -/
def waitTimedOut (arg : Nat) (mask : U16) (s : State) : State :=
  let failing := (slotsOf mask).filter fun n => failsCondition s arg n
  let s := failing.foldl (fun (s : State) n => timeoutFlag arg n s) s
  nextStep (onRun (fun r => { r with c := r.c && failing.isEmpty }) s)

/-- The two counters of a delay differed at some tick of it (R122): DELAY_MISMATCH, however the step ends. -/
def noteMismatch (mismatch : Bool) (s : State) : State :=
  onRun (fun r => { r with mismatch := r.mismatch || (mismatch && decide (r.wait ≠ .none)) }) s

/-- Both delay counters have expired (R122): DELAY_MISMATCH where they differed, and the step ends. -/
def waitExpired (mismatch : Bool) (s : State) : State :=
  let s := noteMismatch mismatch s
  match s.seq.run with
  | none => s
  | some r => match r.wait with
    | .none => s
    | .delay => nextStep s
    | .cond arg mask => waitTimedOut arg mask s

/-- CHECK (R98, R119): ARG 0x0 converts every one of its slots first; `codes` gives what each conversion reads. -/
def stepCheck (codes : Fam 16 U16) (w : StepWord) (s : State) : State :=
  let s := if w.arg = 0 then
      (slotsOf w.mask).foldl (fun (s : State) n =>
        if slotUsed s n then onRail n (fun x => { x with reading := readingOf s n codes[n] }) s else s) s
    else s
  let pass := (slotsOf w.mask).all fun n => match w.arg with
    | 0 => !belowUv s n s.rails[n].reading.toNat && !aboveOv s n s.rails[n].reading.toNat
    | 1 => !(s.rails[n].flags.getLsbD 1) && !(s.rails[n].flags.getLsbD 2)
    | _ => decide (s.rails[n].st ≠ .latched)
  nextStep (onRun (fun r => { r with c := pass }) s)

/-- JUMP (R119): a target at or beyond the program's length takes the safe exit, taken or not (assumption 9). -/
def stepJump (w : StepWord) (s : State) : State :=
  match s.seq.run with
  | none => s
  | some r =>
    let taken := match w.arg with | 0 => true | 1 => r.c | 2 => !r.c | _ => anyRunFlag r
    let target := bits 9 0 w.value
    if r.words.length ≤ target then safeExit 3 s
    else if !taken then nextStep s
    else onRun (fun r => { r with pc := target }) s

/-- TRIM (R145, R146, R154): clamped to the slot's limit; refused on a persistence-critical slot in EXPOSE and
DEVELOP. -/
def trimSlot (steps : U16) (n : SlotId) (s : State) : State :=
  if !slotUsed s n then s
  else if critical s n && (decide (s.sys.st = .expose) || decide (s.sys.st = .develop)) then
    onRail n (fun x => { x with refused := true }) s
  else
    let lim := pv s 0x2320 (n.val + 1)
    if lim < steps.toInt.natAbs then
      requestMargin n (if steps.toInt < 0 then BitVec.ofInt 16 (-(lim : Int)) else BitVec.ofNat 16 lim)
        (onRail n (fun x => { x with clamped := true }) s)
    else requestMargin n steps s
def stepTrim (w : StepWord) (s : State) : State :=
  let v : U16 := if w.arg = 0 then BitVec.ofNat 16 w.value else 0
  nextStep ((slotsOf w.mask).foldl (fun (s : State) n => trimSlot v n s) s)

/-- SIGNAL. -/
def stepSignal (w : StepWord) (s : State) : State :=
  raise 17 (nextStep { s with seq := { s.seq with signal := BitVec.ofNat 16 w.value } })

/-- END (R141): a result already given by the safe exit stays. -/
def stepEnd (w : StepWord) (s : State) : State :=
  match s.seq.run with
  | none => s
  | some r => programEnds (if r.exited then r.result else if w.arg = 1 then 8 else if anyRunFlag r then 2 else 1) s

/-- The copy into the step buffer has ended (R126, R128), which it cannot while its bank is programmed or an erase in it
cannot be suspended yet (R199, R203). -/
def loadEnded (errs : WordErrors) (s : State) : State :=
  match s.seq.run with
  | none => s
  | some r =>
    if !r.loading || readWaits s (storeActive s) then s
    else
      let ok := programOk s r.sub errs
      let t := countRead errs (storeBase s r.sub) (8 * dirLength (entryAt s r.sub)) s
      if ok then onRun (fun r => { r with loading := false, words := storeWords s r.sub }) t else programEnds 6 t

/-- The run-time limit is reached (R91, R131, R132): POWER_UP always has one. -/
def runTooLong (s : State) : State :=
  match s.seq.run with
  | none => s
  | some r =>
    if r.loading || (dirMaxRun (entryAt s r.sub) = 0 && r.role ≠ 1) then s
    else safeExit 4 s

end Sys2Proof.Machine
end

