-- ==== Sys2Proof/Machine/Negative.lean ====
section
/-! DEFINITION. The Negative (chapter *Exposure and Development*): the chain and its status (R258 to R262), how a generation
lies in NAND and is read back (R247 to R255, R279), the space of the region (R283, R284), kept segments and the report. -/

namespace Sys2Proof.Machine

/-! ## The chain (R257 to R260) -/

/-- C: the newest committed generation that no SUPERSEDED mark covers. -/
def newestC (s : State) : Option Gen := s.neg.gens.find? fun g => g.commit.isSome && !g.superseded

/-- H: the newest header whose CONSOLIDATION bit is clear. -/
def newestH (s : State) : Option Gen := s.neg.gens.find? fun g => !g.consolidation

/-- The generation of a number. -/
def genOf (s : State) (n : Nat) : Option Gen := s.neg.gens.find? fun g => g.gen = n

/-- A generation and its parents back to a base, newest first. -/
def chainFrom (s : State) : Nat → Option Gen → List Gen
  | 0, _ => []
  | _, none => []
  | fuel + 1, some g => g :: (match g.parent with
    | some p => if g.base then [] else chainFrom s fuel (genOf s p)
    | none => [])
def chainOf (s : State) (g : Option Gen) : List Gen := chainFrom s (s.neg.gens.length + 1) g

/-- The live chain: C's. -/
def liveChain (s : State) : List Gen := chainOf s (newestC s)
def inChain (s : State) (gen : Nat) : Bool := (liveChain s).any fun g => decide (g.gen = gen)

/-- The number of the next header: the newest header's plus 1. -/
def nextGen (s : State) : Nat := s.neg.gens.foldl (fun m g => max m g.gen) 0 + 1

/-- H blocks RUN while it has no commit and no STALE_ACCEPTED mark (Table 8-4). -/
def staleH (s : State) : Bool :=
  match newestH s with
  | none => false
  | some h => h.commit.isNone && !h.staleAccepted && (match newestC s with | some c => decide (c.gen < h.gen) | none => true)

/-- C carries a DEVELOPED mark, its own or, for a consolidation, that of the generation whose content it holds (R286). -/
def developedC (s : State) (c : Gen) : Bool :=
  c.developed || (c.consolidation && (match c.commit with
    | some k => (match genOf s k.source with | some g => g.developed | none => false)
    | none => false))

/-- 0x3000.01 by the first rule of Table 8-4 that applies. -/
def negStatus (s : State) : Byte :=
  match newestC s with
  | some c =>
    if c.keyId ≠ s.sec.keyId then 3
    else if c.geometry ≠ geometry s then 5
    else if staleH s then 2
    else if developedC s c then 4
    else 1
  | none => if staleH s then 2 else 0
def setStatus (s : State) : State := onNeg (fun n => { n with status := negStatus s }) s

/-- A status that leaves a generation pending (Table 8-4). -/
def pendingStatus (b : Byte) : Bool := b = 3 || b = 5 || b = 2 || b = 1

/-! ## How a generation lies in NAND (R247 to R255) -/

def ceilDiv (a b : Nat) : Nat := (a + b - 1) / b

/-- The channels of a generation's stripes: those live when it began. -/
def genChannels (g : Gen) : List ChanId := (List.finRange 8).filter fun c => decide (g.deadCh.toNat ≠ c.val)

/-- The tweaks of a frame and of the `n`-th 4 KiB of map, heat or extent data (R255). -/
def frameTweak (gen f : Nat) : Nat := gen * 2 ^ 32 + f
def metaTweak (gen n : Nat) : Nat := gen * 2 ^ 32 + 2 ^ 31 + n

/-- A unit of up to four 4 KiB parts, each encrypted under its tweak; places left over hold zeros as stored. -/
def sealUnit (key : List Byte) (parts : List (Nat × List Byte)) : List Byte :=
  slice 0 16384 (parts.flatMap fun p => xtsEncrypt key p.1 p.2)

/-- The 4 KiB at a place of a unit, decrypted. -/
def openPart (key : List Byte) (tweak pos : Nat) (unit : List Byte) : List Byte :=
  xtsDecrypt key tweak (slice (4096 * pos) 4096 unit)

/-- Unit `u` of the map, heat and extent data of a generation. -/
def sealMeta (key : List Byte) (gen u : Nat) (bs : List Byte) : List Byte :=
  sealUnit key ((List.range 4).map fun q => (metaTweak gen (4 * u + q), slice (4096 * q) 4096 bs))
def openMeta (key : List Byte) (gen u : Nat) (unit : List Byte) : List Byte :=
  (List.range 4).flatMap fun q => openPart key (metaTweak gen (4 * u + q)) q unit

/-- Things in groups of `k`. -/
def groupsIn {α : Type} (k : Nat) : (n : Nat) → List α → List (List α)
  | 0, _ => []
  | n + 1, xs => if xs.isEmpty then [] else xs.take k :: groupsIn k n (xs.drop k)
def inGroups {α : Type} (k : Nat) (xs : List α) : List (List α) := groupsIn k xs.length xs

/-- The stripes of units in order: W data units each, the last filled up with units of zeros. -/
def asStripes (w : Nat) (us : List (List Byte)) : List (List (List Byte)) :=
  (inGroups w us).map fun g => g ++ List.replicate (w - g.length) zeroUnit

/-- What a generation is to hold: its entries as frame, KIND and content in ascending exposure key, and its heat table. -/
structure GenData where
  entries : List (Nat × Nat × BitVec 32768)
  heat : List Byte

/-- The entries that take a data slot. -/
def slotEntries (d : GenData) : List (Nat × Nat × BitVec 32768) := d.entries.filter fun e => decide (e.2.1 ≠ 2)

/-- Data units: four frames each, in map order (R253). -/
def dataUnits (key : List Byte) (gen : Nat) (d : GenData) : List (List Byte) :=
  (inGroups 4 (slotEntries d)).map fun es => sealUnit key (es.map fun e => (frameTweak gen e.1, leBytes 4096 e.2.2.toNat))

/-- The map's plaintext (Table 8-1), and the stripes of map and heat: units counted from the map's first (R254). -/
def mapBytes (d : GenData) : List Byte := d.entries.flatMap fun e => leBytes 4 (mapEntry e.2.1 e.1).toNat
def metaStripes (key : List Byte) (gen w first : Nat) (bs : List Byte) : List (List (List Byte)) :=
  let plain := (asStripes w (asUnits bs)).flatten
  inGroups w (plain.zipIdx.map fun p => sealMeta key gen (w * first + p.2) p.1)

/-- A generation being written: the NAND, the pages of each channel in stripe order, and whether a block was not to be
had. -/
structure GenWrite where
  nand : Nand
  pages : Fam 8 (List Nat)
  full : Bool

/-- A unit on a channel's next good page; a channel that is dead by now takes none (R249, R311). -/
def writeUnit (owner : Nat) (cands : Channel → List Nat) (c : ChanId) (data : List Byte) (w : GenWrite) : GenWrite :=
  if (w.nand.chans[c]).state = 2 then w
  else match programUnit c 1 owner (cands w.nand.chans[c]) (fun _ => data) w.nand with
    | (some a, n) => { w with nand := n, pages := upd w.pages c (· ++ [a]) }
    | (none, _) => { w with full := true }

/-- Stripe `n`: the parity unit and the data units on their channels (R248). -/
def writeStripe (live : List ChanId) (owner : Nat) (cands : Channel → List Nat) (w : GenWrite)
    (p : List (List Byte) × Nat) : GenWrite :=
  let w := writeUnit owner cands (parityChannel live owner p.2) (xorUnits p.1) w
  p.1.zipIdx.foldl (fun w u => writeUnit owner cands (dataChannel live owner p.2 u.2) u.1 w) w

/-! ## Extent lists (R250) -/

/-- Pages that follow one another in a block as one entry: first page and count. -/
def extentRuns (pages : List Nat) : List (Nat × Nat) :=
  pages.foldr (fun a acc => match acc with
    | (b, n) :: r => if a + 1 = b && decide (blockOf a = blockOf b) then (a, n + 1) :: r else (a, 1) :: (b, n) :: r
    | [] => [(a, 1)]) []

/-- The list: for each channel the count of its entries and the entries. -/
def extentBytes (pages : Fam 8 (List Nat)) : List Byte :=
  (List.finRange 8).flatMap fun c =>
    leBytes 4 (extentRuns pages[c]).length
      ++ (extentRuns pages[c]).flatMap fun p => leBytes 8 (extentEntry p.2 (BitVec.ofNat 32 p.1)).toNat

/-- The pages of each channel that a list's bytes name. -/
def readExtents : (n : Nat) → List Byte → List (List Nat)
  | 0, _ => []
  | n + 1, bs =>
    let k := fieldAt 0 4 bs
    ((List.range k).flatMap fun i =>
        let e := fieldAt (4 + 8 * i) 8 bs
        (List.range (bits 47 32 e)).map (bits 31 0 e + ·)) :: readExtents n (bs.drop (4 + 8 * k))

/-- A copy of the extent list on a channel, in consecutive pages: the address of its first page. -/
def writeExtents (owner : Nat) (cands : Channel → List Nat) (us : List (List Byte)) (c : ChanId) (w : GenWrite) :
    Nat × GenWrite :=
  match blockFor c 1 owner us.length (cands w.nand.chans[c]) w.nand.chans[c] with
  | (none, _) => (0xFFFFFFFF, { w with full := true })
  | (some b, ch) =>
    let first := addressOf c (nandKey b (blockAt ch c b).next)
    let n := us.foldl (fun n u => countPage 1 (setChan c (programNext c b u) n)) (setChan c (fun _ => ch) w.nand)
    (first, { w with nand := n })

/-- Everything of a generation but its records: data, map and heat stripes, then the two extent list copies; the figures
that its commit record gives. -/
def writeGeneration (key : List Byte) (g : Gen) (cands : Channel → List Nat) (pair : List ChanId) (d : GenData)
    (base : Commit) (n : Nand) : Option (Commit × Nand) :=
  let live := genChannels g
  let data := asStripes g.width (dataUnits key g.gen d)
  let map := metaStripes key g.gen g.width 0 (mapBytes d)
  let heat := metaStripes key g.gen g.width map.length d.heat
  let w := (data ++ map ++ heat).zipIdx.foldl (writeStripe live g.gen cands) ⟨n, famAll 8 [], false⟩
  let exts := (asUnits (extentBytes w.pages)).zipIdx.map fun p =>
    sealMeta key g.gen (g.width * (map.length + heat.length) + p.2) p.1
  let e := pair.foldl (fun (e : List Nat × GenWrite) c =>
    let x := writeExtents g.gen cands exts c e.2
    (e.1 ++ [x.1], x.2)) ([], w)
  if e.2.full then none
  else some ({ base with
    nData := (slotEntries d).length, nZero := d.entries.length - (slotEntries d).length,
    dataStripes := data.length, mapStripes := map.length, heatStripes := heat.length,
    mapCrc := crc32c (mapBytes d), heatCrc := crc32c d.heat, extPages := exts.length,
    ext0 := e.1.getD 0 0xFFFFFFFF, ext1 := e.1.getD 1 0xFFFFFFFF }, e.2.nand)

/-! ## Reading a generation back (R253, R277, R279) -/

/-- The extent list, from the first copy whose pages can all be read. -/
def extentsOf (n : Nand) (key : List Byte) (g : Gen) (c : Commit) : Option (List (List Nat)) :=
  let copy := fun (first : Nat) =>
    (allRead ((List.range c.extPages).map fun i => pageAt n (first + i))).map fun us =>
      readExtents 8 (us.zipIdx.flatMap fun p => openMeta key g.gen (g.width * (c.mapStripes + c.heatStripes) + p.2) p.1)
  if c.extPages = 0 then none else match copy c.ext0 with | some e => some e | none => copy c.ext1

/-- The stored unit of a channel in stripe `st`, by a way of reading pages. -/
def stripeUnit (read : Nat → Option (List Byte)) (ext : List (List Nat)) (st : Nat) (c : ChanId) : Option (List Byte) :=
  match (ext.getD c.val [])[st]? with | some a => read a | none => none

/-- Data unit `j` of stripe `st`, read or rebuilt from the other units. -/
def dataUnit (read : Nat → Option (List Byte)) (g : Gen) (ext : List (List Nat)) (st j : Nat) : Option (List Byte) :=
  let live := genChannels g
  let own := dataChannel live g.gen st j
  unitOrRebuilt (stripeUnit read ext st own)
    ((live.filter fun c => decide (c ≠ own)).map fun c => stripeUnit read ext st c)

/-- Unit `u` of the map and heat stripes. -/
def metaUnit (read : Nat → Option (List Byte)) (key : List Byte) (g : Gen) (c : Commit) (ext : List (List Nat)) (u : Nat) :
    Option (List Byte) :=
  (dataUnit read g ext (c.dataStripes + u / g.width) (u % g.width)).map (openMeta key g.gen u)

/-- The entries of map unit `u`: the words of 4096, or of what is left in the last unit. -/
def mapUnitWords (c : Commit) (u : Nat) (bs : List Byte) : List Nat :=
  (List.range (min 4096 (c.nData + c.nZero - 4096 * u))).map fun i => fieldAt (4 * i) 4 bs

/-- A committed generation as it can be read: its extents, the words of each map unit that was read, each frame's KIND and
data slot, and the ranges of exposure keys that lost map units leave unknown. -/
structure GenView where
  gen : Gen
  commit : Commit
  ext : List (List Nat)
  words : List (Option (List Nat))
  slots : Assoc (Nat × Nat)
  lost : List (Nat × Nat)

/-- Frames listed with KIND and slot, counting slots through a list of map units; a unit that could not be read takes the
slots that its cells name, so that those after it keep theirs. -/
def listSlots : List (Option (List Nat) × List Nat) → Nat → Assoc (Nat × Nat)
  | [], _ => []
  | (read, cells) :: r, i =>
    let own := match read with
      | some ws => (ws.foldl (fun (acc : List (Nat × Nat × Nat) × Nat) w =>
          let kind := bits 31 30 w
          (acc.1 ++ [(bits 24 0 w, kind, acc.2)], if kind = 2 then acc.2 else acc.2 + 1)) ([], i)).1
      | none => []
    own.foldl (fun m e => aput m e.1 e.2) (listSlots r (i + (cells.filter fun w => decide (bits 31 30 w ≠ 2)).length))

/-- The keys between the last key of the unit before a lost one and the first key of the unit after it: from the first
number on, below the second (R279). -/
def lostRange (words : List (Option (List Nat))) (u : Nat) : Nat × Nat :=
  let keys := fun (ws : List (Option (List Nat))) => (ws.filterMap id).flatten.map fun w => exposureKey (bits 24 0 w)
  (match (keys (words.take u)).getLast? with | some k => k + 1 | none => 0,
    match (keys (words.drop u)).head? with | some k => k | none => 2 ^ 32)

/-- The view of a generation; none where it has no valid commit record or neither copy of its extent list can be read. -/
def viewOf (s : State) (g : Gen) : Option GenView :=
  match g.commit with
  | none => none
  | some c => match extentsOf s.nand (negKey s) g c with
    | none => none
    | some ext =>
      let us := List.range (ceilDiv (c.nData + c.nZero) 4096)
      let words := us.map fun u => (metaUnit (pageAt s.nand) (negKey s) g c ext u).map (mapUnitWords c u)
      let cells := us.map fun u => match metaUnit (cellsAt s.nand) (negKey s) g c ext u with
        | some bs => mapUnitWords c u bs
        | none => List.replicate 4096 (2 ^ 30)
      some { gen := g, commit := c, ext := ext, words := words, slots := listSlots (words.zip cells) 0,
             lost := (us.filter fun u => (words.getD u none).isNone).map (lostRange words) }

/-- The map's check: of its plaintext, once every unit was read or rebuilt (R281). -/
def mapPasses (v : GenView) : Bool :=
  v.words.any Option.isNone || decide (crc32c ((v.words.filterMap id).flatten.flatMap (leBytes 4)) = v.commit.mapCrc)

/-- The heat snapshot, where HEAT_PRESENT is set and HEAT_CRC matches (R278). -/
def snapshotOf (s : State) (v : GenView) : Option (Assoc U16) :=
  let groups := groupsOf s
  let us := (List.range (ceilDiv (2 * groups.length) 16384)).map fun u =>
    metaUnit (pageAt s.nand) (negKey s) v.gen v.commit v.ext (v.gen.width * v.commit.mapStripes + u)
  match allRead us with
  | none => none
  | some us =>
    let bs := slice 0 (2 * groups.length) us.flatten
    if v.commit.heatPresent && decide (crc32c bs = v.commit.heatCrc) then
      some (groups.zipIdx.foldl (fun m p => let h := fieldAt (2 * p.2) 2 bs
        if h = 0 then m else aput m p.1 (BitVec.ofNat 16 h)) [])
    else none

/-- What a chain gives for a frame: content and whether it is UNCERTAIN, zeros, nothing because a unit is lost, or no
entry. -/
inductive Found where
  | data (v : BitVec 32768) (unc : Bool) (gen : Nat)
  | zero
  | lost (reason : Nat)
  | absent

/-- The frames of a list of losses for a reason. -/
def lossSet (ls : List Loss) (reason : Nat) : Ranges :=
  ls.foldl (fun acc l => if l.reason = reason then radd l.first (l.first + l.count) acc else acc) []

/-- The content of a data slot. -/
def slotContent (s : State) (v : GenView) (f i : Nat) : Option (BitVec 32768) :=
  let p := slotPlace v.gen.width i
  (dataUnit (pageAt s.nand) v.gen v.ext p.1 p.2.1).map fun u =>
    BitVec.ofNat 32768 (leNat (openPart (negKey s) (frameTweak v.gen.gen f) p.2.2 u))

/-- What one member of a chain gives for a frame. -/
def foundIn (s : State) (v : GenView) (f : Nat) : Found :=
  if rmem f (lossSet v.gen.losses 1) then .lost 1
  else if rmem f (lossSet v.gen.losses 2) then .lost 2
  else match aget v.slots f with
    | some (kind, i) =>
      if kind = 2 then .zero
      else (match slotContent s v f i with
        | some x => .data x (decide (kind = 3)) v.gen.gen
        | none => .lost 1)
    | none =>
      if v.lost.any fun r => decide (r.1 ≤ exposureKey f) && decide (exposureKey f < r.2) then .lost 2
      else if v.gen.base then .zero else .absent

/-- What the newest member that says something gives (R277). -/
def found (s : State) : List GenView → Nat → Found
  | [], _ => .zero
  | v :: r, f => match foundIn s v f with
    | .absent => found s r f
    | x => x

/-- The views of the live chain, and whether it can be restored: every member down to a base has a commit record, and its
map passes (R281). -/
def chainViews (s : State) : List GenView := (liveChain s).filterMap (viewOf s)
def chainReadable (s : State) : Bool :=
  decide ((chainViews s).length = (liveChain s).length) && (chainViews s).all mapPasses
    && (match (liveChain s).getLast? with | some g => g.base | none => false)

/-- The data, map and heat units of a generation on dead channels, which each read rebuilds and counts (R305, R310). A
rebuild on a live channel counts with the read that finds it necessary. -/
def rebuiltUnits (s : State) (v : GenView) : Nat :=
  let stripes := v.commit.dataStripes + v.commit.mapStripes + v.commit.heatStripes
  ((List.range (stripes * v.gen.width)).filter fun u =>
    let st := u / v.gen.width
    let j := u % v.gen.width
    chanDead s (dataChannel (genChannels v.gen) v.gen.gen st j) && (dataUnit (pageAt s.nand) v.gen v.ext st j).isSome).length

/-- The LUN of the first three or more consecutive pages among some (R303). -/
def sequenceLun (pages : List Nat) : Option (Fin 16) :=
  ((extentRuns pages).find? fun p => decide (3 ≤ p.2)).map fun p => lunOf (blockOf p.1)

/-- Where a chain is read, each channel reads such pages with READ CACHE SEQUENTIAL, until the work ends. -/
def readsInSequence (s : State) : State :=
  let vs := chainViews s
  (liveChans s).foldl (fun (s : State) c => match vs.findSome? fun v => sequenceLun (v.ext.getD c.val []) with
    | some l => onChan c (beginSequence l) s
    | none => s) s
def sequencesEnd (s : State) : State := onChans (liveChans s) (fun _ ch => endSequence ch) s

/-! ## Space (R283, R284) -/

/-- The stripes of a generation with `d` data slots, `e` map entries and `g` groups at width `w`. -/
def stripesFor (w d e g : Nat) : Nat :=
  ceilDiv d (4 * w) + ceilDiv (ceilDiv e 4096) w + ceilDiv (ceilDiv (2 * g) 16384) w

/-- The pages that a generation takes on a channel of its commit pair: its stripes, and an extent list of one entry a
block. -/
def pagesFor (w d e g : Nat) : Nat :=
  let n := stripesFor w d e g
  n + ceilDiv (8 * (4 + 8 * ceilDiv n (pagesIn 1))) 16384

/-- The free pages of the Negative region on a channel. -/
def freePages (s : State) (c : ChanId) : Nat :=
  let ch := s.nand.chans[c]
  pagesIn 1 * (ch.region.filter (freeBlock ch c)).length

/-- Free space of the region, and what the live chain holds, in bytes. -/
def freeSpace (s : State) : Nat := 16384 * sum ((liveChans s).map (freePages s))
def chainSpace (s : State) : Nat :=
  16384 * sum ((List.finRange 8).flatMap fun c => ((s.nand.chans[c]).blocks.filter fun p =>
    decide (p.2.use = 1) && inChain s p.2.owner).map fun p => p.2.next)

/-- A generation of so many data slots and entries fits the free space of every live channel; a base of the whole module
does. -/
def fits (s : State) (d e : Nat) : Bool :=
  !(liveChans s).isEmpty && (liveChans s).all fun c =>
    decide (pagesFor s.nand.width.toNat d e (frameCount s / 256) ≤ freePages s c)
def fitsBase (s : State) : Bool := fits s (frameCount s) (frameCount s)

/-- 0x3000.07 follows the free space: source 39 on each change. -/
def updateFits (s : State) : State :=
  let b := fitsBase s
  if b = s.neg.baseFits then s else raise 39 (onNeg (fun n => { n with baseFits := b }) s)

/-- The blocks of generations that satisfy a test become free at once, and 0x3000.07 follows. -/
def freeGens (test : Nat → Bool) (s : State) : State :=
  updateFits (freeBlocksAll (fun _ _ x => decide (x.use = 1) && test x.owner) s)

/-! ## The copy of a full anchor block (R259) -/

/-- The records that a copy takes along: those of the live chain; the newest header and H's, and the marks that R260 and
R261 still need. -/
def keptRecord (s : State) (r : List Byte) : Bool :=
  let n := fieldAt 8 4 r
  inChain s n || decide (n + 1 = nextGen s) || (match newestH s with | some h => decide (h.gen = n) | none => false)
    || (decide (recordType r = 3) && decide (fieldAt 0xC 4 r = 2))

/-- The copy ends: every such record of the full block that the other block does not hold yet is programmed there, the full
block is erased, or retired where a program had failed in it, and the other one is in use. -/
def anchorCopied (c : ChanId) (s : State) : State :=
  let ch := s.nand.chans[c]
  match ch.anchor with
  | [full, other] =>
    let have_ := (blockPages ch other).map (·.data)
    let rs := ((blockPages ch full).map (·.data)).filter fun r =>
      recordValid (recordKey s) r && keptRecord s r && !have_.contains r
    let s := onNand (fun n => rs.foldl (fun n r => countPage 3 (setChan c (programNext c other r) n)) n) s
    let s := depart c opCopy (onChan c (fun ch => { ch with copying := false, anchor := [other, full] }) s)
    if (blockAt s.nand.chans[c] c full).closed then
      let s := retire c full s
      onChan c (fun ch =>
        let t := takeBlock c 3 0 ((blocksOf s).filter fun b => decide (lunOf b = 0)) ch
        { t.2 with anchor := other :: t.1.toList }) s
    else onChan c (erased c full) s
  | _ => s

/-- Every copy under way ends that nothing of class 1 holds back. -/
def anchorCopies (s : State) : State :=
  ((liveChans s).filter fun c => (s.nand.chans[c]).copying && !heldBack s.nand.chans[c] 2).foldl
    (fun (s : State) c => anchorCopied c s) s

/-! ## The restore report (R280, R282, Table 8-6) -/

/-- A loss range in pieces that the 24-bit count of Table 8-6 holds. -/
def lossPieces (reason : Nat) : (n : Nat) → (a b : Nat) → List Loss
  | 0, _, _ => []
  | n + 1, a, b => if b ≤ a then [] else
    let m := min (b - a) (2 ^ 24 - 1)
    ⟨a, m, reason⟩ :: lossPieces reason n (a + m) b

/-- The loss ranges sorted by first frame, adjacent ones of a reason merged; a frame is listed once, a kept one as kept. -/
def mergedLosses (ls : List Loss) : List Loss :=
  let r3 := lossSet ls 3
  let r4 := rdiff (lossSet ls 4) r3
  let r1 := rdiff (rdiff (lossSet ls 1) r3) r4
  let r2 := rdiff (rdiff (rdiff (lossSet ls 2) r3) r4) r1
  let tagged := [(1, r1), (2, r2), (3, r3), (4, r4)].flatMap fun p => p.2.flatMap fun q => lossPieces p.1 4 q.1 q.2
  (tagged.foldl (fun acc l => aput acc l.first l) []).map (·.2)

/-- The losses that patrol recorded for a chain. -/
def chainLosses (ch : List Gen) : List Loss := ch.flatMap fun g => g.losses

/-- The commit records of a chain. -/
def chainCommits (ch : List Gen) : List Commit := ch.filterMap (·.commit)

/-- The report as it is built at SETUP entry, and at DEVELOP entry from Hold-Partial. -/
def builtReport (s : State) : Report :=
  let c := newestC s
  let ch := chainOf s c
  { Report.empty with
    status := s.neg.status,
    gen := c.map (·.gen),
    staleGen := (newestH s).bind fun h => match c with
      | some c => if c.gen < h.gen then some h.gen else none
      | none => if h.commit.isSome then none else some h.gen,
    chainLen := ch.length,
    flags := BitVec.ofNat 8 ((if (chainCommits ch).any (·.uncertain) then 1 else 0)
      + (if (c.map (·.partialGen)).getD false then 2 else 0)
      + (if ch.any (·.degraded) || (chainCommits ch).any (·.degraded) then 4 else 0)),
    genTime := (c.map (·.onTime)).getD 0,
    ranges := mergedLosses (chainLosses ch) }

/-- Frames in the loss list. -/
def lossCount (r : Report) : Nat := sum (r.ranges.map (·.count))

/-- The report's bytes. -/
def reportBytes (r : Report) : List Byte :=
  leBytes 2 1 ++ [r.status, r.result] ++ genField r.gen ++ genField r.staleGen ++ leBytes 1 r.chainLen ++ [r.flags]
    ++ leBytes 2 r.uncRanks.toNat ++ leBytes 4 r.nData ++ leBytes 4 r.nZero ++ leBytes 4 r.nUnc
    ++ leBytes 4 (lossCount r) ++ leBytes 4 r.ranges.length ++ leBytes 4 r.duration.toNat ++ leBytes 8 r.genTime.toNat
    ++ List.replicate 16 0 ++ r.ranges.flatMap lossBytes

/-! ## Kept segments (R271 to R273) -/

/-- The heat of a segment: the sum over its groups and all ranks. -/
def segmentHeat (s : State) (k : Nat) : Nat :=
  sum (s.light.heat.map fun p => if segmentOf s (p.1 * 256) = k then p.2.toNat else 0)

/-- The segments kept in Hold-Partial: the K hottest, ties to the lower index, or those set in the fixed mask. -/
def keptMask (s : State) : Byte :=
  if pv s 0x3040 3 = 1 then BitVec.ofNat 8 (pv s 0x3040 4)
  else
    let better := fun (i j : Nat) => decide (segmentHeat s j < segmentHeat s i)
      || (decide (segmentHeat s i = segmentHeat s j) && decide (i < j))
    maskOf 8 fun k => ((List.range 8).filter fun j => better j k).length < pv s 0x3040 2

/-- The frames of the kept segments of a partial generation. -/
def keptFrames (s : State) (g : Gen) : Ranges := if g.partialGen then segmentFrames s g.mask else []

/-! ## Marks (R258, R261, R262) -/

/-- RUN_DISCARD: C, or H where no C exists, and everything older superseded, their blocks free. -/
def discardPending (s : State) : State :=
  let top : Option Nat := match newestC s with | some c => some c.gen | none => (newestH s).map fun (h : Gen) => h.gen
  match top with
  | none => s
  | some n => freeGens (fun k => decide (k ≤ n)) (mark n 2 s)

/-- The value that 0x3020.02 takes in STALE. -/
def staleValue (s : State) : U32 :=
  match newestC s with | some c => BitVec.ofNat 32 c.gen | none => 0xFFFFFFFF

/-- The STALE_ACCEPTED mark for H: its blocks are free and the status moves. -/
def acceptStaleNow (s : State) : State :=
  match newestH s with
  | none => s
  | some h =>
    let s := freeGens (fun k => decide (k = h.gen)) (mark h.gen 3 s)
    onNeg (fun n => { n with status := if (newestC s).isSome then 1 else 0 }) s

end Sys2Proof.Machine
end

