-- ==== Sys2Proof/Machine/Exposure.lean ====
section
/-! DEFINITION. Takeovers and returns of the bus (R218, R236 to R244), and what writes generations: Exposures (R263 to R268,
R283) and consolidations (R285, R286). -/

namespace Sys2Proof.Machine

/-! ## Takeover (R218, R236 to R241) -/

/-- Both sides on the controller side; on the LL6440 side B stays on the host side (R217). -/
def bothTaken (s : State) : State :=
  onLight (fun l => { l with
    ctrl := updAll l.ctrl (fun side _ => side = 0 || !small s),
    takeovers := satInc l.takeovers, heldSeen := false, quiet := false, returning := famAll 2 false }) s

/-- The voluntary takeover at the end of the quiet window: source 131. -/
def takeVoluntary (s : State) : State :=
  raise 131 (onLight (fun l => { l with lastTakeover := 1, uncertain := 0, afterForced := false }) (bothTaken s))

/-- The ranks that the fence finds uncertain: in TRAIN, or of a veiled sub-channel (R240, R264). -/
def uncertainRanks (s : State) : U16 :=
  maskOf 16 fun i =>
    let r : Fin 16 := Fin.ofNat 16 i
    rankThere s r && (decide (rankState s r = .train) || decide (rankState s r = .unknown))

/-- Where the interval of R240 begins: the number of array writes seen when the earliest training window or veil that is
open at the fence opened. -/
def blindSince (s : State) : Option Nat :=
  let trains := (ranksThere s).filterMap fun r => (s.light.ranks[r]).trainAt
  let veils := (List.finRange 8).filterMap fun k =>
    if s.light.subs[k].veiled then some s.light.subs[k].veilAt else none
  (trains ++ veils).foldl (fun best n => match best with | some b => some (min b n) | none => some n) none

/-- The frames written in that interval hold free values from the fence on. -/
def blurSuspects (s : State) : State :=
  match blindSince s with
  | none => onLight (fun l => { l with suspect := [] }) s
  | some n =>
    drew (onLight (fun l => { l with
      dram := (l.suspect.filter fun (p : Nat × Nat) => decide (n ≤ p.2)).foldl
        (fun d p => aput d p.1 (Config.frameAtPowerUp s.free p.1)) l.dram,
      suspect := [] }) s)

/-- The fence and the forced sequence (R238, R239, R241): training modes are left and every rank ends in self-refresh,
whatever its model read; sources 131 and 133. -/
def takeForced (cause : Byte) (s : State) : State :=
  let unc := uncertainRanks s
  let s := bothTaken (blurSuspects s)
  let s := onLight (fun l => { l with
    lastTakeover := 2, forcedCause := cause, fenceTime := s.sys.aonTime, forced := satInc l.forced,
    uncertain := unc, afterForced := true, fence := none,
    subs := updAll l.subs (fun _ m => { m with training := false }),
    ranks := updAll l.ranks (fun _ m => { m with
      st := .sr, trainAt := none, rows := [], refreshing := false, srpd := false }) }) s
  raise 133 (raise 131 s)

/-! ## A generation begins (R263 to R265, R283) -/

/-- The dirty frames of the module. -/
def dirtyFrames (s : State) : Ranges := rinter s.light.dirty (allFrames s)

/-- The capture set of the running Exposure at the instant of the takeover (R60, R273). -/
def captureSet (s : State) (e : Expo) (mask : Byte) : Ranges :=
  if e.kept then (match newestC s with | some c => segmentFrames s c.mask | none => allFrames s)
  else if e.target = 2 then rdiff (dirtyFrames s) (segmentFrames s mask)
  else dirtyFrames s

/-- The frames that a base holds: every valid one, but in Hold-Partial none of a kept segment. -/
def baseFrames (s : State) (e : Expo) (mask : Byte) : Ranges :=
  if e.target = 2 then rdiff (allFrames s) (segmentFrames s mask) else allFrames s

/-- An Exposure writes a base where no committed parent exists, the capture set holds every valid frame, or a delta with
every captured frame counted as DATA would not fit (R263, R283). -/
def needsBase (s : State) (set : Ranges) : Bool :=
  (newestC s).isNone || decide (rcount set = frameCount s) || !fits s (rcount set) (rcount set)

/-- The blocks of some generations go, in their order, until a base of `d` data frames fits. -/
def reclaim (d : Nat) : List Gen → State → State
  | [], s => s
  | g :: r, s => if fits s d d then s else reclaim d r (freeGens (fun k => decide (k = g.gen)) s)

/-- A base that runs out of space: C is superseded first, then the live chain's blocks go, the oldest first (R283). -/
def makeRoom (d : Nat) (s : State) : State :=
  if fits s d d then s
  else match newestC s with
    | none => s
    | some c => reclaim d (liveChain s).reverse (mark c.gen 2 s)

/-- A captured frame's KIND: 3 UNCERTAIN where its rank is marked, 2 ZERO, 1 DATA (R264). -/
def frameKind (unc : U16) (f : Nat) (v : BitVec 32768) : Nat :=
  if unc.getLsbD (f / 2 ^ 21) then 3 else if v = 0 then 2 else 1

/-- Frames as entries in ascending exposure key, from what each holds; a base holds no ZERO entries (R251 to R253). -/
def entriesOf (base : Bool) (frames : Ranges) (content : Nat → Option (Nat × BitVec 32768)) : List (Nat × Nat × BitVec 32768) :=
  ((((rlist frames).foldl (fun (m : Assoc Nat) f => aput m (exposureKey f) f) []).map (·.2)).filterMap fun f =>
    (content f).map fun p => (f, p)).filter fun e => !(base && decide (e.2.1 = 2))

/-- What an Exposure's generation holds: the captured frames as DRAM holds them, and the heat table of the takeover. -/
def exposedData (s : State) (g : Gen) (e : Expo) : GenData :=
  { entries := entriesOf g.base e.frames fun f => some (frameKind e.uncRanks f (frameContent s f), frameContent s f),
    heat := (groupsOf s).flatMap fun k => leBytes 2 ((aget e.heat k).getD 0).toNat }

/-- The header of a generation that begins now. -/
def newHeader (s : State) (base : Bool) (parent : Option Nat) (cause target : Byte) (powerFail : Bool) (mask : Byte) : Gen :=
  { gen := nextGen s, parent := parent, base := base, consolidation := false, partialGen := target = 2,
    powerFail := powerFail, degraded := decide (s.nand.width = 6), cause := cause, target := target,
    width := s.nand.width.toNat,
    deadCh := match deadChans s with | d :: _ => BitVec.ofNat 8 d.val | [] => 0xFF,
    geometry := geometry s, onTime := s.sys.aonTime, keyId := s.sec.keyId, mask := mask, commit := none,
    developed := false, superseded := false, staleAccepted := false, losses := [] }

/-- A header pair written (R265 step 1). -/
def putHeader (g : Gen) (s : State) : State := noteRecord g.gen 1 (headerBody g) s

/-- The takeover has put DRAM under the controller: the header pair is programmed, base or delta, with its parent. -/
def beginGeneration (s : State) : State :=
  match s.neg.exp with
  | none => s
  | some e =>
    let mask : Byte := if e.target = 2 then keptMask s else 0
    let set := captureSet s e mask
    let base := needsBase s set
    let frames := if base then baseFrames s e mask else set
    let g := newHeader s base (if base then none else (newestC s).map (·.gen)) e.cause e.target e.powerFail mask
    let e := { e with gen := g.gen, frames := frames, heat := s.light.heat, uncRanks := s.light.uncertain,
                      since := s.sys.aonTime.toNat }
    let used := (entriesOf base frames fun f => some (frameKind e.uncRanks f (frameContent s f), frameContent s f)).length
    let s := putHeader g (if base then makeRoom used s else s)
    onNeg (fun n => { n with exp := some e, lastGen := some g.gen, captured := BitVec.ofNat 32 (rcount set) }) s

/-- What follows once the controller holds the bus: slot training where slot trained reads 0 (R236), else the work. -/
def afterTakeover (s : State) : State :=
  let trained := s.light.slotTrained
  match s.neg.exp with
  | some _ =>
    onNeg (fun n => { n with exp := n.exp.map fun e => { e with phase := if trained then .writing else .training } })
      (beginGeneration s)
  | none => onNeg (fun n => { n with dev := n.dev.map fun d => { d with phase := if trained then .maps else .training } }) s

/-- A power-fail trigger in a Hold-Partial Exposure makes its target Hold-Deep (R46): the generation then captures the
kept segments' dirty frames as well. Its header, programmed already, says PARTIAL; a new one takes its place
(assumption 76). -/
def captureWhole (s : State) : State :=
  match s.neg.exp with
  | some e =>
    (match genOf s e.gen with
    | some g =>
      if g.commit.isSome || !g.partialGen then s
      else
        let h := { newHeader s g.base g.parent e.cause 1 true 0 with onTime := g.onTime }
        let frames := if g.base then allFrames s else runion e.frames (dirtyFrames s)
        onNeg (fun n => { n with exp := some { e with gen := h.gen, frames := frames }, lastGen := some h.gen,
                                 captured := BitVec.ofNat 32 (rcount (runion e.frames (dirtyFrames s))) })
          (putHeader h s)
    | none => s)
  | none => s

/-! ## Commit (R257, R266, R267, R284, R287) -/

/-- The time since the first DRAM access, in µs. -/
def expoTime (s : State) (e : Expo) : U32 := if e.gen = 0 then 0 else satOf 32 (s.sys.aonTime.toNat - e.since)

/-- The most that an Exposure draws, in mJ (R287). -/
def energyBound (bData bMeta bZero : Nat) : Nat := (60000000000 + 68 * (bData + bMeta) + 10 * bZero) / 100000000

/-- What the coulomb counter saw leave the cell since EXPOSE was entered, in mJ, and never more than the bound. -/
def expoEnergy (s : State) (e : Expo) (bound : Nat) : U32 :=
  satOf 32 (min bound ((e.charge - s.cell.qRem) * s.cell.vcellUv.toNat * 36 / 10000000))

/-- The bound of an Exposure that has committed, and of one that has not. -/
def committedBound (s : State) (e : Expo) (c : Commit) : Nat :=
  energyBound (4096 * c.nData) (4 * (c.nData + c.nZero) + 2 * (frameCount s / 256) + 16384 * c.extPages)
    (4096 * (rcount e.frames - c.nData))
def cutBound (s : State) (e : Expo) : Nat :=
  energyBound (4096 * rcount e.frames) (4 * rcount e.frames + 2 * (frameCount s / 256) + 1048576) 0

/-- The generation written and its commit record pair programmed; none where it does not fit or no copy of the record can
be programmed (R268). -/
def writtenGeneration (g : Gen) (e : Expo) (s : State) : Option State :=
  let first : Commit := {
    uncertain := decide (e.uncRanks ≠ 0), heatPresent := true, degraded := e.degraded, nData := 0, nZero := 0,
    dataStripes := 0, mapStripes := 0, heatStripes := 0, mapCrc := 0, heatCrc := 0, ext0 := 0, ext1 := 0, extPages := 0,
    uncRanks := e.uncRanks, source := g.gen }
  match writeGeneration (negKey s) g (·.region) (pairChannels s g.gen) (exposedData s g e) first s.nand with
  | none => none
  | some (c, n) => commitRecord g c (onNand (fun _ => n) s)

/-- The commit record pair is programmed: dirty bits of the capture set clear, baseline is 1, a base frees what it
replaces; sources 34 and 42, 0x3010. -/
def commitGeneration (e : Expo) (s : State) : Option State :=
  match genOf s e.gen with
  | none => none
  | some g => (writtenGeneration g e s).map fun s =>
    let s := if g.base then freeGens (fun k => decide (k ≠ g.gen)) s else updateFits s
    let s := onLight (fun l => { l with dirty := rdiff l.dirty e.frames, baseline := true }) s
    let bound := match (genOf s g.gen).bind (·.commit) with | some c => committedBound s e c | none => 0
    let s := onNeg (fun n => { n with
      result := 1, duration := expoTime s e, energy := expoEnergy s e bound, consWanted := n.consWanted || e.degraded }) s
    let s := workEnds opExpose (updateLife (raise 34 s))
    if e.uncRanks ≠ 0 then raise 42 s else s

/-- An Exposure ended without a commit (R268): 2 ABANDONED, 3 FAILED, 4 CUT; source 35. -/
def exposureEnds (result : Byte) (s : State) : State :=
  match s.neg.exp with
  | none => s
  | some e =>
    let committed := match genOf s e.gen with | some g => g.commit.isSome | none => false
    let s := workEnds opExpose (onNeg (fun n => { n with exp := none }) s)
    if committed && decide (e.gen ≠ 0) then s
    else raise 35 (onNeg (fun n => { n with
      result := result, duration := expoTime s e, energy := expoEnergy s e (cutBound s e) }) s)

/-! ## The return of the bus (R242 to R244, R488) -/

/-- The bus goes back to the host: Table 7-10 begins on each side the controller holds. -/
def beginReturn (s : State) : State := onLight (fun l => { l with returning := l.ctrl, fence := none }) s

/-- A side's return has ended (R243, R244): the switches on the host side, its ranks in self-refresh, sources 132 and 135.
With every rank in self-refresh the host has parked, until it exits (R237). -/
def sideReturned (side : Fin 2) (us : U32) (s : State) : State :=
  let s := onLight (fun l => { l with
    ctrl := upd l.ctrl side (fun _ => false), returning := upd l.returning side (fun _ => false), returnTime := us,
    ranks := updAll l.ranks (fun r m =>
      if sideOfRank r = side then { m with st := if m.srpd then .srpd else .sr, rows := [], refreshing := false }
      else m) }) s
  let s := onLight (fun l => { l with quiet := allParked s }) s
  let back := (ranksThere s).filter fun r => !s.light.ctrl[sideOfRank r]
  let unc := back.any fun r => s.light.subs[subOfRank r].veiled || decide ((s.light.ranks[r]).certainNot ≠ [])
  let s := raise 132 (onLight (fun l => { l with mrUncertain := unc }) s)
  if unc then raise 135 s else s

/-! ## Consolidation (R285, R286) -/

/-- The blocks that a consolidation may take: in RUN its programs stay off the anchor LUN (R302). -/
def consBlocks (ch : Channel) : List Nat := ch.region.filter fun b => decide (lunOf b ≠ 0)

/-- What C's chain holds of a frame, as a base would list it. -/
def chainContent (s : State) (vs : List GenView) (f : Nat) : Option (Nat × BitVec 32768) :=
  match found s vs f with
  | .data v unc _ => some (if unc then 3 else 1, v)
  | .zero => none
  | .lost _ => none
  | .absent => none

/-- The content of C's chain as a base, and the frames that the chain has lost. -/
def consData (s : State) (c : Gen) : GenData :=
  let vs := chainViews s
  { entries := entriesOf true (rdiff (allFrames s) (keptFrames s c)) (chainContent s vs),
    heat := (groupsOf s).flatMap fun k =>
      leBytes 2 (((vs.head?.bind (snapshotOf s)).bind fun h => aget h k).getD 0).toNat }
def chainLost (s : State) (c : Gen) : List Loss :=
  let vs := chainViews s
  mergedLosses ((rlist (rdiff (allFrames s) (keptFrames s c))).flatMap fun f => match found s vs f with
    | .lost r => [⟨f, 1, r⟩]
    | .data _ _ _ => []
    | .zero => []
    | .absent => [])

/-- A loss record for a generation, nine ranges to a record (R258). -/
def noteLosses (gen : Nat) (ls : List Loss) (s : State) : State :=
  (inGroups 9 ls).foldl (fun (s : State) l => noteRecord gen 4 (lossBody gen l) s) s

/-- The free space off the anchor LUN holds the base. -/
def consFits (s : State) (d : Nat) : Bool :=
  !(liveChans s).isEmpty && (liveChans s).all fun c =>
    let ch := s.nand.chans[c]
    decide (pagesFor s.nand.width.toNat d d (frameCount s / 256) ≤ pagesIn 1 * ((consBlocks ch).filter (freeBlock ch c)).length)

/-- A consolidation starts in RUN where the chain can be read and the free space holds its base: its header names no
parent and has CONSOLIDATION set; its work waits at class 6. -/
def startCons (s : State) : State :=
  let s := onNeg (fun n => { n with consWanted := false }) s
  match newestC s, s.neg.cons with
  | some c, none =>
    if decide (s.sys.st = .run) && chainReadable s && consFits s (consData s c).entries.length then
      let h := newHeader s true none c.cause c.target c.powerFail c.mask
      let g := { h with consolidation := true, partialGen := c.partialGen, onTime := c.onTime, geometry := c.geometry }
      workBegins opCons 6 (onNeg (fun n => { n with cons := some g.gen }) (putHeader g s))
    else s
  | _, _ => s

/-- At RUN entry and after a commit: a chain of more deltas than 0x3010.06, or a write of 1 still owed (R311). -/
def autoCons (s : State) : State :=
  if s.neg.consWanted || decide (pv s 0x3010 6 < (liveChain s).length - 1) then startCons s else s

/-- Abandoned at EXPOSE entry and at main-die power-down: its header stays and is ignored. -/
def dropCons (s : State) : State :=
  match s.neg.cons with
  | some g => freeGens (fun k => decide (k = g)) (workEnds opCons (onNeg (fun n => { n with cons := none }) s))
  | none => s

/-- A consolidation's base written and committed; none where blocks or anchors give out. -/
def writtenCons (g c : Gen) (k : Commit) (s : State) : Option State :=
  match writeGeneration (negKey s) g consBlocks (pairChannels s g.gen) (consData s c) { k with source := c.gen } s.nand with
  | none => none
  | some (k, n) => (commitRecord g k (onNand (fun _ => n) s)).map (noteLosses g.gen (chainLost s c))

/-- What a consolidation's commit record says of the chain that it stands for (R286). -/
def consRecord (s : State) (g c : Gen) : Commit :=
  let commits := chainCommits (liveChain s)
  { uncertain := commits.any (·.uncertain), heatPresent := (commits.head?.map (·.heatPresent)).getD false,
    degraded := decide (g.width = 6), nData := 0, nZero := 0, dataStripes := 0, mapStripes := 0, heatStripes := 0,
    mapCrc := 0, heatCrc := 0, ext0 := 0, ext1 := 0, extPages := 0,
    uncRanks := commits.foldl (fun m c => m ||| c.uncRanks) 0, source := c.gen }

/-- Committed: it takes C's status by its SOURCE and frees what it replaces; source 40. One that cannot be written is
abandoned. -/
def consCommitted (s : State) : State :=
  match s.neg.cons with
  | none => s
  | some n =>
    if (List.finRange 8).any fun ch => heldBack s.nand.chans[ch] 6 then s
    else match genOf s n, newestC s with
    | some g, some c => if !chainReadable s then dropCons s else
      (match writtenCons g c (consRecord s g c) s with
      | none => dropCons s
      | some s =>
        let s := workEnds opCons (onNeg (fun x => { x with cons := none }) s)
        updateLife (raise 40 (freeGens (fun k => decide (k ≠ n)) s)))
    | _, _ => dropCons s

end Sys2Proof.Machine
end

