-- ==== Sys2Proof/Machine/Development.lean ====
section
/-! DEFINITION. Development (R277 to R282), and FAULT out of EXPOSE and DEVELOP (R50, R268, R281). -/

namespace Sys2Proof.Machine

/-! ## What Development writes (R277, R279, R280) -/

/-- The frames of kept segments that C leaves in DRAM, and those that Development writes. -/
def keptOfC (s : State) : Ranges := match newestC s with | some c => keptFrames s c | none => []
def developTargets (s : State) (d : Devel) : Ranges :=
  if d.partialWake then rdiff (allFrames s) (keptOfC s) else allFrames s

/-- Frames that Development takes from the chain: every target but the kept segments, which are lost after a Hold-Deep
wake. -/
def restored (s : State) (d : Devel) : Ranges := rdiff (developTargets s d) (keptOfC s)

/-- The loss list of a Development: what the chain has lost, and the kept segments as KEPT after a Hold-Partial wake and as
PARTIAL_LOST after a Hold-Deep wake. -/
def developLosses (s : State) (d : Devel) : List Loss :=
  let vs := chainViews s
  mergedLosses (((rlist (restored s d)).flatMap fun f => match found s vs f with
      | .lost r => [(⟨f, 1, r⟩ : Loss)]
      | .data _ _ _ => []
      | .zero => []
      | .absent => [])
    ++ (keptOfC s).map fun p => ⟨p.1, p.2 - p.1, if d.partialWake then 3 else 4⟩)

/-- What Development writes to a frame. -/
def developed (s : State) (vs : List GenView) (d : Devel) (f : Nat) : BitVec 32768 :=
  if rmem f (restored s d) then (match found s vs f with
    | .data v _ _ => v
    | .zero => 0
    | .lost _ => 0
    | .absent => 0)
  else 0

/-- The segment masks of every rank (R273, R277). -/
def maskSegments (m : Byte) (s : State) : State :=
  onLight (fun l => { l with ranks := updAll l.ranks (fun _ x => { x with masked := m }) }) s

/-- Host DRAM once the last frame has been written; after a Hold-Partial wake the masks were cleared before. Every unit
that had to be rebuilt counts. -/
def developFrames (s : State) (d : Devel) : State :=
  let targets := developTargets s d
  let vs := chainViews s
  let dram := (rlist (allFrames s)).filterMap fun f =>
    let v := if rmem f targets then developed s vs d f else frameContent s f
    if v = 0 then none else some (f, v)
  let rebuilt := sum (vs.map (rebuiltUnits s))
  let s := if d.partialWake then maskSegments 0 s else s
  onNand (fun n => { n with rebuilds := satOf 32 (n.rebuilds.toNat + rebuilt) })
    (onLight (fun l => { l with dram := dram, fill := famAll 2 none }) s)

/-! ## The report completed (R282) -/

/-- The time since DEVELOP was entered, in µs. -/
def develTime (s : State) (d : Devel) : U32 := satOf 32 (s.sys.aonTime.toNat - d.since)

/-- The report when the frames have been written. -/
def completeReport (s : State) (d : Devel) : Report :=
  let ls := developLosses s d
  let vs := chainViews s
  let data := (rlist (restored s d)).filterMap fun f => match found s vs f with
    | .data _ unc g => some (unc, g)
    | .zero => none
    | .lost _ => none
    | .absent => none
  { s.neg.report with
    result := if ls.isEmpty then 1 else 2,
    uncRanks := vs.foldl (fun m v => if data.any (fun e => decide (e.2 = v.gen.gen)) then m ||| v.commit.uncRanks else m) 0,
    nData := data.length,
    nZero := rcount (developTargets s d) - data.length,
    nUnc := (data.filter fun e => e.1).length,
    duration := develTime s d,
    ranges := ls }

/-- The report when Development fails: complete where its frames were written, else with the ranges known so far. -/
def failedReport (s : State) (d : Devel) : Report :=
  if d.phase = .returning || d.phase = .returned then { completeReport s d with result := 3 }
  else { s.neg.report with result := 3, duration := develTime s d, ranges := mergedLosses s.neg.report.ranges }

/-- The DEVELOPED mark is programmed (R223, R225, R278): the mark, the heat, the dirty bits, the report; sources 36, 37. -/
def developmentEnds (d : Devel) (s : State) : State :=
  match newestC s with
  | none => s
  | some c =>
    let rep := completeReport s d
    let loss := rep.ranges.foldl (fun acc l => radd l.first (l.first + l.count) acc) []
    let heat := (((chainViews s).head?).bind (snapshotOf s)).getD s.light.heat
    let s := workEnds opDevelop (mark c.gen 1 s)
    let s := onLight (fun l => { l with dirty := rinter l.dirty loss, baseline := true, heat := heat }) s
    raise 37 (raise 36 (onNeg (fun n => { n with dev := none, devResult := rep.result, report := rep }) s))

/-! ## FAULT from EXPOSE and DEVELOP (R50, R268, R281) -/

/-- The rails that feed host DRAM go off, and what it held is lost. -/
def dramOff (s : State) : State :=
  let s := (List.finRange 16).foldl (fun (s : State) (n : SlotId) => if critical s n then disableSlot n s else s) s
  scrambleSide 0 (scrambleSide 1 s)

/-- Development fails: the report is completed; sources 36 and 37. -/
def developmentFails (s : State) : State :=
  match s.neg.dev with
  | some d => raise 37 (raise 36 (workEnds opDevelop (onNeg (fun n => { n with
      dev := none, devResult := 3, report := failedReport s d }) s)))
  | none => s

/-- FAULT entered: the Exposure ends as FAILED or the Development as FAILED, and the bus returns where VIN is present. VIN
counts as present at or above V_PFW: a VIN_BELOW_V_PFW warning clears it (assumption 74). -/
def persistenceFault (code : Byte) (s : State) : State :=
  let exposing := s.neg.exp.isSome
  let s := enterFault code 0x0C (workEnds opTrigger (developmentFails (exposureEnds 3 s)))
  if exposing && !s.supply.vinOk then dramOff s else beginReturn s

end Sys2Proof.Machine
end

