-- ==== Sys2Proof/Machine/Enlarger.lean ====
section
/-! DEFINITION. The Enlarger tile format (R362 to R377): the layout of an encoded tile, its decoder, the nine acceptance
checks of Table 11-4 and the deterministic encoder. -/

namespace Sys2Proof.Machine

/-! ## Layout (R363 to R365) -/

/-- Fields of the header (Table 11-1). -/
def tileMagic (bs : List Byte) : Nat := fieldAt 0 2 bs
def tileVersion (bs : List Byte) : Nat := fieldAt 2 1 bs
def tileElem (bs : List Byte) : Nat := fieldAt 3 1 bs
def tileStrips (bs : List Byte) : Nat := fieldAt 4 2 bs
def tileDict (bs : List Byte) : Bool := (fieldAt 6 1 bs).testBit 0
def tileEncLen (bs : List Byte) : Nat := fieldAt 8 4 bs
def tileCrc (bs : List Byte) : Nat := fieldAt 12 4 bs

/-- CODE and LEN of a strip (Table 11-2). -/
def stripCode (bs : List Byte) (k : Nat) : Nat := bits 15 13 (fieldAt (32 + 2 * k) 2 bs)
def stripLen (bs : List Byte) (k : Nat) : Nat := bits 8 0 (fieldAt (32 + 2 * k) 2 bs)

/-- The dictionary of 16 bytes, and where the payloads start. -/
def tileDictionary (bs : List Byte) : List Byte := slice (32 + 2 * tileStrips bs) 16 bs
def payloadBase (bs : List Byte) : Nat := 32 + 2 * tileStrips bs + (if tileDict bs then 16 else 0)

/-- Each strip's code and payload, cut one after another (R364). -/
def cutStrips : List (Nat × Nat) → List Byte → List (Nat × List Byte)
  | [], _ => []
  | (code, len) :: r, bs => (code, slice 0 len bs) :: cutStrips r (bs.drop len)
def tileParts (bs : List Byte) : List (Nat × List Byte) :=
  cutStrips ((List.range (tileStrips bs)).map fun k => (stripCode bs k, stripLen bs k)) (bs.drop (payloadBase bs))

/-! ## Strip codes (R367 to R370) -/

/-- Field `i` of `w` bits, packed LSB-first. -/
def packed (w i n : Nat) : Nat := n / 2 ^ (w * i) % 2 ^ w

/-- Fields of `w` bits packed LSB-first into whole bytes. -/
def packFields (w : Nat) (fs : List Nat) : List Byte :=
  leBytes ((w * fs.length + 7) / 8) ((fs.zipIdx).foldl (fun acc p => acc + p.1 * 2 ^ (w * p.2)) 0)

/-- Element width in bits, delta width, and payload length of a DELTA strip whose first byte is `b`. -/
def deltaWidth (b : Nat) : Nat := 8 * 2 ^ bits 7 6 b
def deltaBits (b : Nat) : Nat := bits 5 0 b
def deltaLen (w d : Nat) : Nat := 1 + w / 8 + ((256 / (w / 8) - 1) * d + 7) / 8

/-- The decoding loop of R368, with the elements so far newest first. -/
def undelta (w d : Nat) (fields : Nat) : Nat → Nat → List Nat → List Nat
  | 0, _, xs => xs.reverse
  | n + 1, i, xs =>
    let z := packed d i fields
    let step := if z % 2 = 1 then 2 ^ w - (z / 2 + 1) % 2 ^ w else z / 2
    undelta w d fields n (i + 1) ((xs.headD 0 + step) % 2 ^ w :: xs)

/-- A DELTA strip decoded. -/
def decodeDelta (p : List Byte) : List Byte :=
  let b := fieldAt 0 1 p
  let w := deltaWidth b
  let base := fieldAt 1 (w / 8) p
  let fields := leNat (p.drop (1 + w / 8))
  (undelta w (deltaBits b) fields (256 / (w / 8) - 1) 0 [base]).flatMap (leBytes (w / 8))

/-- The index of an element in the index plane, and the escapes of a strip. -/
def splitIndex (p : List Byte) (i : Nat) : Nat := packed 4 i (leNat (p.take 64))
def splitEscapes (p : List Byte) : Nat := ((List.range 128).filter fun i => splitIndex p i = 15).length

/-- The elements of a SPLIT strip, with the count of escapes met so far. -/
def unsplit (dict p : List Byte) (esc sm : Nat) : Nat → Nat → Nat → List Nat
  | 0, _, _ => []
  | n + 1, i, e =>
    let idx := splitIndex p i
    let exp := if idx = 15 then packed 5 e esc else (dict.getD idx 0).toNat
    let f := packed 11 i sm
    (f / 1024 * 32768 + exp % 32 * 1024 + f % 1024) :: unsplit dict p esc sm n (i + 1) (if idx = 15 then e + 1 else e)

/-- A SPLIT strip decoded. -/
def decodeSplit (dict p : List Byte) : List Byte :=
  let eb := (5 * splitEscapes p + 7) / 8
  (unsplit dict p (leNat (slice 64 eb p)) (leNat (slice (64 + eb) 176 p)) 128 0 0).flatMap (leBytes 2)

/-- One strip decoded into 256 bytes (Table 11-3). -/
def decodeStrip (dict : List Byte) (code : Nat) (p : List Byte) : List Byte :=
  match code with
  | 0 => slice 0 256 p
  | 1 => List.replicate 256 0
  | 2 => (List.range 256).map fun i => p.getD (i % p.length) 0
  | 3 => decodeDelta p
  | _ => decodeSplit dict p

/-- A tile decoded. -/
def decodeTile (bs : List Byte) : List Byte :=
  (tileParts bs).flatMap fun p => decodeStrip (tileDictionary bs) p.1 p.2

/-! ## Acceptance (Table 11-4) -/

/-- LEN is allowed for its code, and at most 256 (Table 11-2). Where a DELTA's width code or delta width is one that R368
does not admit, R368 gives no length, and check 8 fails (assumption 45). -/
def lenAllowed (code : Nat) (p : List Byte) : Bool :=
  match code with
  | 0 => decide (p.length = 256)
  | 1 => decide (p.length = 0)
  | 2 => decide (p.length = 1) || decide (p.length = 2) || decide (p.length = 4)
  | 3 => decide (1 ≤ p.length) && decide (p.length ≤ 256) &&
      (decide (bits 7 6 (fieldAt 0 1 p) = 3) || decide (deltaWidth (fieldAt 0 1 p) < deltaBits (fieldAt 0 1 p))
        || decide (p.length = deltaLen (deltaWidth (fieldAt 0 1 p)) (deltaBits (fieldAt 0 1 p))))
  | 4 => decide (p.length ≤ 256) && decide (p.length = 240 + (5 * splitEscapes p + 7) / 8)
  | _ => false

/-- Check 7: the dictionary's entries, and no index of a SPLIT strip points to an unused one. -/
def dictOk (bs : List Byte) (parts : List (Nat × List Byte)) : Bool :=
  let d := tileDictionary bs
  !tileDict bs || (d.getD 15 0 = 0xFF && (d.take 15).all (fun b => b.toNat ≤ 0x1F || b = 0xFF)
    && parts.all fun p => p.1 ≠ 4 || (List.range 128).all fun i =>
      splitIndex p.2 i = 15 || d.getD (splitIndex p.2 i) 0 ≠ 0xFF)

/-- Check 8. -/
def deltaOk (p : Nat × List Byte) : Bool :=
  p.1 ≠ 3 || (bits 7 6 (fieldAt 0 1 p.2) ≠ 3 && deltaBits (fieldAt 0 1 p.2) ≤ deltaWidth (fieldAt 0 1 p.2))

/-- Checks 2 to 9 in their order: the reason of the first that fails, 0 where all pass. -/
def structureReason (elem kib : Nat) (bs : List Byte) : Nat :=
  let parts := tileParts bs
  let split := parts.any fun p => p.1 = 4
  if tileMagic bs ≠ 0x4C45 || tileVersion bs ≠ 1 then 2
  else if tileElem bs ≠ elem || tileStrips bs ≠ kib * 4 then 3
  else if tileEncLen bs ≠ payloadBase bs + sum ((List.range (tileStrips bs)).map (stripLen bs)) then 4
  else if !(parts.all fun p => lenAllowed p.1 p.2) then 5
  else if (tileDict bs ≠ split) || (split && elem ≠ 1) then 6
  else if !dictOk bs parts then 7
  else if !(parts.all deltaOk) then 8
  else if tileCrc bs ≠ (crc32c (decodeTile bs)).toNat then 9
  else 0

/-- Every check of a pre-encoded write (R374). -/
def malformedReason (elem kib offset : Nat) (bs : List Byte) : Nat :=
  if offset ≠ 0 || bs.length ≠ tileEncLen bs then 1 else structureReason elem kib bs

/-- A stored tile decodes: its structure and its CRC pass (R377). -/
def storedOk (elem kib : Nat) (bs : List Byte) : Bool :=
  decide (bs.length = tileEncLen bs) && decide (structureReason elem kib bs = 0)

/-! ## The encoder (R371, R372) -/

/-- The elements of `w` bits of a byte string. -/
def elements (w : Nat) (bs : List Byte) : List Nat :=
  (List.range (bs.length / (w / 8))).map fun i => fieldAt (i * (w / 8)) (w / 8) bs

/-- The bits that hold a number. -/
def bitLength (n : Nat) : Nat := if n = 0 then 0 else Nat.log2 n + 1

/-- The zigzag of the difference of two elements of `w` bits. -/
def zigzag (w a b : Nat) : Nat :=
  let d := (b + 2 ^ w - a) % 2 ^ w
  if d < 2 ^ (w - 1) then 2 * d else 2 * (2 ^ w - d) - 1

/-- The DELTA candidate of a width. -/
def deltaCandidate (w : Nat) (strip : List Byte) : List Byte :=
  let xs := elements w strip
  let zs := List.zipWith (zigzag w) xs (xs.drop 1)
  let d := zs.foldl (fun m z => max m (bitLength z)) 0
  let code := if w = 8 then 0 else if w = 16 then 64 else 128
  leBytes 1 (code + d) ++ leBytes (w / 8) (xs.headD 0) ++ packFields d zs

/-- How often an exponent occurs in a tile, and the dictionary: most frequent first, ties to the lower exponent. -/
def exponentOf (x : Nat) : Nat := bits 14 10 x
def buildDict (tile : List Byte) : List Byte :=
  let xs := (elements 16 tile).map exponentOf
  let n := fun (e : Nat) => (xs.filter fun x => x = e).length
  let rank := fun (e : Nat) => ((List.range 32).filter fun o => decide (n e < n o) || (decide (n o = n e) && decide (o < e))).length
  (List.range 15).map (fun k => match (List.range 32).find? fun e => rank e = k && 0 < n e with
    | some e => BitVec.ofNat 8 e
    | none => 0xFF) ++ [0xFF]

/-- An exponent's index in the dictionary, 15 for an escape. -/
def dictIndex (dict : List Byte) (e : Nat) : Nat :=
  ((List.range 15).find? fun i => dict.getD i 0xFF = BitVec.ofNat 8 e).getD 15

/-- The SPLIT candidate. -/
def splitCandidate (dict strip : List Byte) : List Byte :=
  let xs := elements 16 strip
  let esc := (xs.map exponentOf).filter fun e => dictIndex dict e = 15
  packFields 4 (xs.map fun x => dictIndex dict (exponentOf x)) ++ packFields 5 esc
    ++ packFields 11 (xs.map fun x => x / 32768 * 1024 + x % 1024)

/-- Whether a strip repeats its first `n` bytes. -/
def repeats (n : Nat) (strip : List Byte) : Bool :=
  (List.range strip.length).all fun i => strip.getD i 0 = strip.getD (i % n) 0

/-- The code and payload that the encoder takes for a strip. -/
def encodeStrip (elem : Nat) (dict strip : List Byte) : Nat × List Byte :=
  if strip.all fun b => b = 0 then (1, [])
  else if repeats 1 strip then (2, strip.take 1)
  else if repeats 2 strip then (2, strip.take 2)
  else if repeats 4 strip then (2, strip.take 4)
  else
    let cs := if elem = 0 then [(3, deltaCandidate 8 strip), (3, deltaCandidate 16 strip), (3, deltaCandidate 32 strip)]
      else [(3, deltaCandidate 16 strip), (4, splitCandidate dict strip)]
    cs.foldl (fun best c => if c.2.length < 256 && c.2.length < best.2.length then c else best) (0, strip)

/-- A tile's strips of 256 bytes. -/
def strips (kib : Nat) (tile : List Byte) : List (List Byte) :=
  (List.range (kib * 4)).map fun k => slice (256 * k) 256 tile

/-- The encoded tile. -/
def encodeTile (elem kib : Nat) (tile : List Byte) : List Byte :=
  let dict := buildDict tile
  let parts := (strips kib tile).map (encodeStrip elem dict)
  let withDict := parts.any fun p => p.1 = 4
  let dir := parts.flatMap fun p => leBytes 2 (p.1 * 8192 + p.2.length)
  let body := dir ++ (if withDict then dict else []) ++ parts.flatMap (·.2)
  leBytes 2 0x4C45 ++ [1] ++ leBytes 1 elem ++ leBytes 2 (kib * 4) ++ [if withDict then 1 else 0, 0]
    ++ leBytes 4 (32 + body.length) ++ leBytes 4 (crc32c tile).toNat ++ List.replicate 16 0 ++ body

end Sys2Proof.Machine
end

