-- ==== Sys2Proof/Machine/TierF.lean ====
section
/-! DEFINITION. Tier F in NAND (R297, R305, R310, R492): the stripes that hold the encoded tiles, how units are placed in
them and read back, and which blocks they still need. -/

namespace Sys2Proof.Machine

/-- The tweak of a 4 KiB quarter of a tier F page (R492), and a unit under it. -/
def fTweak (address q : Nat) : Nat := 2 ^ 62 + address * 4 + q
def sealF (key : List Byte) (address : Nat) (bs : List Byte) : List Byte :=
  sealUnit key ((List.range 4).map fun q => (fTweak address q, slice (4096 * q) 4096 bs))
def openF (key : List Byte) (address : Nat) (unit : List Byte) : List Byte :=
  (List.range 4).flatMap fun q => openPart key (fTweak address q) q unit

/-- The stripe that is being filled, or the next one over the live channels. -/
def currentStripe (live : List ChanId) (n : Nand) : Nat × FStripe :=
  match n.openStripe.bind fun i => (aget n.stripes i).map fun st => (i, st) with
  | some p => p
  | none => (n.nextStripe, ⟨live, [], none⟩)

/-- A stripe is closed: its parity unit is programmed, where its channel is live. -/
def closeStripe (i : Nat) (st : FStripe) (n : Nand) : Nand :=
  let c := parityChannel st.live 0 i
  let p := xorUnits (st.units.filterMap (cellsAt n))
  let r := if (n.chans[c]).state = 2 then (none, n) else programUnit c 2 0 (n.chans[c]).regionF (fun _ => p) n
  { r.2 with stripes := aput r.2.stripes i { st with parity := r.1 }, openStripe := none }

/-- The stripe being filled is closed as it stands: its live channels are no longer the live ones. -/
def closeOpen (n : Nand) : Nand :=
  match n.openStripe.bind fun i => (aget n.stripes i).map fun st => (i, st) with
  | some p => closeStripe p.1 p.2 n
  | none => n

/-- A unit put into the stripe being filled, on the channel of its place (R248); the stripe is closed once it is full. -/
def putUnitF (key : List Byte) (live : List ChanId) (bs : List Byte) (n : Nand) : Option (Nat × Nat) × Nand :=
  let (i, st) := currentStripe live n
  let j := st.units.length
  let c := dataChannel st.live 0 i j
  match programUnit c 2 0 (n.chans[c]).regionF (fun a => sealF key a bs) n with
  | (none, _) => (none, n)
  | (some a, n) =>
    let st := { st with units := st.units ++ [a] }
    let n := { n with stripes := aput n.stripes i st, openStripe := some i, nextStripe := max n.nextStripe (i + 1) }
    (some (i, j), if st.units.length + 1 = st.live.length then closeStripe i st n else n)

/-- All units of an encoded tile; none where one finds no page. -/
def putTile (key : List Byte) (live : List ChanId) (bs : List Byte) (n : Nand) : Option (List (Nat × Nat)) × Nand :=
  (asUnits bs).foldl (fun r u => match r.1 with
    | none => r
    | some ps => let q := putUnitF key live u r.2
      (q.1.map fun p => ps ++ [p], q.2)) (some [], n)

/-- The page of a unit. -/
def unitPage (n : Nand) (u : Nat × Nat) : Option Nat := (aget n.stripes u.1).bind fun st => st.units[u.2]?

/-- A unit's stored bytes: from its page, or rebuilt from the rest of its stripe (R305, R310). -/
def storedUnit (n : Nand) (u : Nat × Nat) : Option (List Byte) :=
  match aget n.stripes u.1 with
  | none => none
  | some st => unitOrRebuilt ((st.units[u.2]?).bind (pageAt n))
      ((st.parity.bind (pageAt n)) :: (st.units.eraseIdx u.2).map (pageAt n))

/-- A unit that can only be rebuilt. -/
def needsRebuild (n : Nand) (u : Nat × Nat) : Bool :=
  ((unitPage n u).bind (pageAt n)).isNone && (storedUnit n u).isSome

/-- The encoded bytes of a tier F copy, where every unit of it can be read or rebuilt; how many of its units lie on a dead
channel, so that each read rebuilds them (R310). -/
def bytesF (s : State) (f : CopyF) : Option (List Byte) :=
  if f.units.isEmpty then none
  else (allRead (f.units.map fun u => (storedUnit s.nand u).bind fun b =>
    (unitPage s.nand u).map fun a => openF (tierKey s) a b)).map fun us => us.flatten.take f.len
def rebuildsF (s : State) (f : CopyF) : Nat :=
  (f.units.filter fun u => match unitPage s.nand u with | some a => chanDead s (chanAt a) | none => false).length

/-- The channel and LUN of a page; those of a copy's units; those that a read of a copy needs, which for a unit that can
only be rebuilt are those of the rest of its stripe (R305). -/
def placeOf (a : Nat) : ChanId × Fin 16 := (chanAt a, lunOf (blockOf a))
def placesF (s : State) (f : CopyF) : List (ChanId × Fin 16) := f.units.filterMap fun u => (unitPage s.nand u).map placeOf
def readPlaces (s : State) (f : CopyF) : List (ChanId × Fin 16) :=
  f.units.flatMap fun u => match aget s.nand.stripes u.1 with
    | none => []
    | some st => (if needsRebuild s.nand u then st.parity.toList ++ st.units.eraseIdx u.2 else (st.units[u.2]?).toList).map placeOf

/-- The stripes of a copy with units that can only be rebuilt. -/
def weakStripes (s : State) (f : CopyF) : List Nat := ((f.units.filter (needsRebuild s.nand)).map (·.1)).dedup

/-- A stripe with a unit on a dead channel (R310). -/
def onDead (s : State) (f : CopyF) : Bool :=
  f.units.any fun u => match unitPage s.nand u with | some a => chanDead s (chanAt a) | none => false

/-! ## What is still needed -/

/-- The copies of tier F that tiles refer to. -/
def copiesF (s : State) : List CopyF := s.tiers.tiles.flatMap fun p => p.2.f.toList ++ p.2.former.toList

/-- Stripes that no tile refers to are forgotten, and full or closed blocks of tier F without a needed page become free. -/
def collectF (s : State) : State :=
  let used := (copiesF s).flatMap fun f => f.units.map (·.1)
  let s := onNand (fun n => { n with stripes := n.stripes.filter fun p => used.contains p.1 || decide (n.openStripe = some p.1) }) s
  let pages := s.nand.stripes.flatMap fun p => p.2.units ++ p.2.parity.toList
  freeBlocksAll (fun c b x => decide (x.use = 2) && (x.closed || decide (pagesIn 2 ≤ x.next))
    && !(pages.any fun a => decide (chanAt a = c) && decide (blockOf a = b))) s

/-- Every block of tier F becomes free (R495, R504). -/
def releaseF (s : State) : State :=
  freeBlocksAll (fun _ _ x => decide (x.use = 2)) (onNand (fun n => { n with stripes := [], openStripe := none }) s)

end Sys2Proof.Machine
end

