-- ==== Sys2Proof/Machine/Tiers.lean ====
section
/-! DEFINITION. The tiered store (chapter *Tiers, Accounts and Streams*): the Stream Table and its cache, quotas and
drain reserves, reads and writes of tiles, heat and placement, write-back and the tier save, sealing and deletion. -/

namespace Sys2Proof.Machine

/-- The tiered store changed. -/
def onTiers (f : Tiers → Tiers) (s : State) : State := { s with tiers := f s.tiers }

/-- An account as the index of a per-account thing. -/
def acc4 (a : Nat) : Fin 4 := Fin.ofNat 4 a

/-! ## Stream Table entries (R323 to R326) -/

/-- An entry before anything is written to it: VALID 0, with the CRC of its bytes. -/
def blankEntry : List Byte := List.replicate 62 0 ++ leBytes 2 (crc16 (List.replicate 62 0)).toNat

/-- The entry of a stream in the table. -/
def tableEntry (s : State) (stream : Nat) : List Byte := (aget s.tiers.table stream).getD blankEntry

/-- Fields of an entry (Tables 10-2 and 10-3). -/
def eFlags (e : List Byte) : Nat := fieldAt 0 2 e
def eValid (e : List Byte) : Bool := (eFlags e).testBit 0
def eEncoded (e : List Byte) : Bool := (eFlags e).testBit 1
def eSealed (e : List Byte) : Bool := (eFlags e).testBit 2
def eWriteback (e : List Byte) : Bool := (eFlags e).testBit 3
def eMayDegrade (e : List Byte) : Bool := (eFlags e).testBit 4
def eIsProof (e : List Byte) : Bool := (eFlags e).testBit 5
def eLatency (e : List Byte) : Nat := bits 7 6 (eFlags e)
def ePin (e : List Byte) : Nat := bits 10 8 (eFlags e)
def eKib (e : List Byte) : Nat := fieldAt 2 1 e
def eElem (e : List Byte) : Nat := fieldAt 3 1 e
def eCount (e : List Byte) : Nat := fieldAt 4 4 e
def eProof (e : List Byte) : Nat := fieldAt 8 2 e
def eDeadline (e : List Byte) : Nat := fieldAt 0xA 2 e
def eCookie (e : List Byte) : Nat := fieldAt 0xC 4 e
def eVersion (e : List Byte) : Nat := fieldAt 0x10 4 e

/-- The CRC of an entry matches (R326), and a valid entry is well formed (R325). -/
def entryCrcOk (e : List Byte) : Bool := decide (fieldAt 0x3E 2 e = (crc16 (e.take 62)).toNat)
def entryFormed (e : List Byte) : Bool :=
  !(eSealed e && eWriteback e) && !(eIsProof e && (eWriteback e || eMayDegrade e)) && !(eMayDegrade e && eWriteback e)
    && decide (1 ≤ eKib e) && decide (eKib e ≤ 64) && decide (1 ≤ eCount e) && decide (eCount e ≤ 16777216)
    && decide (eElem e ≤ 1) && decide (ePin e ≤ 3)

/-- A stream's entry as the store last took it: from the cache, else from the table. -/
def entryNow (s : State) (stream : Nat) : List Byte :=
  match s.tiers.cache.find? fun p => p.1 = stream with | some p => p.2 | none => tableEntry s stream

/-- An entry fetched for a request (R328): most recently used first, at most 256 kept; a CRC failure faults the stream
until an invalidation, with source 88 + n. -/
def fetchEntry (stream : Nat) (s : State) : Option (List Byte) × State :=
  if s.tiers.torn.contains stream then (none, s)
  else match s.tiers.cache.find? fun p => p.1 = stream with
    | some p => (some p.2, onTiers (fun t => { t with cache := p :: t.cache.filter fun q => q.1 ≠ stream }) s)
    | none =>
      let e := tableEntry s stream
      if entryCrcOk e then (some e, onTiers (fun t => { t with cache := ((stream, e) :: t.cache).take 256 }) s)
      else (none, raise (88 + accountOf stream) (onTiers (fun t => { t with torn := stream :: t.torn }) s))

/-! ## Tiles -/

/-- The key of a tile, and a key's stream and tile. -/
def tileKey (stream tile : Nat) : Nat := stream * 2 ^ 24 + tile
def keyStream (k : Nat) : Nat := k / 2 ^ 24
def keyTile (k : Nat) : Nat := k % 2 ^ 24

/-- A tile that nothing has written. -/
def Tile.none : Tile := ⟨.none, .none, .none, .none, 0, false, false, .none⟩
def tileAt (s : State) (k : Nat) : Tile := (aget s.tiers.tiles k).getD Tile.none

/-- A tile changed; a tile of no copy, no heat and no mark is not listed. -/
def setTile (k : Nat) (t : Tile) (s : State) : State :=
  onTiers (fun x => { x with tiles := if t = Tile.none then adel x.tiles k else aput x.tiles k t }) s
def onTile (k : Nat) (f : Tile → Tile) (s : State) : State := setTile k (f (tileAt s k)) s

/-- Tier F holds the tile's program whole; one is still to end. -/
def inTierF (t : Tile) : Bool := match t.f with | some f => f.ended | none => false
def onTheWay (t : Tile) : Bool := match t.f with | some f => !f.ended | none => false

/-- A copy of a tile stands in a drain reserve. -/
def inReserve (t : Tile) : Bool :=
  (match t.s with | some c => c.reserve | none => false) || (match t.d with | some c => c.reserve | none => false)

/-- Whether a tile has ever been written, and is dirty. -/
def tileWritten (t : Tile) : Bool := t.s.isSome || t.d.isSome || t.f.isSome || t.spoiled || t.lost
def tileDirty (t : Tile) : Bool :=
  (match t.s with | some c => decide (c.dirty ≠ 0) | none => false) ||
    (match t.d with | some c => decide (c.dirty ≠ 0) | none => false)

/-- The tiles of an account. -/
def tilesOf (s : State) (a : Nat) : List (Nat × Tile) := s.tiers.tiles.filter fun p => accountOf (keyStream p.1) = a

/-! ## Quotas (R320 to R322, R354) -/

/-- An account's quota in tray slots, in tier D pages and in tier F bytes; 0 in 0x6010.09 to .0C is an equal share. -/
def quotaS (s : State) (a : Nat) : Nat := pv s 0x6010 (a + 1)
def quotaD (s : State) (a : Nat) : Nat := 256 * pv s 0x6010 (a + 5)
def accounts (s : State) : Nat := if small s then 2 else 4
def quotaF (s : State) (a : Nat) : Nat :=
  let q := pv s 0x6010 (a + 9)
  if q = 0 then s.nand.tierFBytes.toNat / accounts s else 1048576 * q

/-- An account's share of the drain reserves, in slots and in pages (R320). -/
def reserveS (s : State) : Nat := 8 / accounts s
def reserveD (s : State) : Nat := (if small s then 128 else 256) * 256 / accounts s

/-- Pages of an encoded tile, and what an account uses. -/
def pagesOf (bs : List Byte) : Nat := (4095 + bs.length) / 4096
def usedS (s : State) (a : Nat) (res : Bool) : Nat :=
  ((tilesOf s a).filter fun p => match p.2.s with | some c => c.reserve == res | none => false).length
def usedD (s : State) (a : Nat) (res : Bool) : Nat :=
  sum ((tilesOf s a).map fun p => match p.2.d with | some c => if c.reserve == res then pagesOf c.bytes else 0 | none => 0)

/-- The PIN of a tile's stream. -/
def pinOf (s : State) (k : Nat) : Nat := ePin (entryNow s (keyStream k))

/-- The coldest of some tiles: least heat, then the lowest key. -/
def coldest (ts : List (Nat × Tile)) : Option Nat :=
  (ts.foldl (fun (b : Option (Nat × Tile)) p => match b with
    | none => some p
    | some q => if p.2.heat < q.2.heat then some p else some q) none).map (·.1)

/-- Tiles that tier D may lose: clean, not pinned there, and their tier F program ended (R333). -/
def evictableD (s : State) (a : Nat) : List (Nat × Tile) :=
  (tilesOf s a).filter fun p => match p.2.d with
    | some c => decide (c.dirty = 0) && !c.reserve && decide (pinOf s p.1 ≠ 2) && inTierF p.2
    | none => false

/-- Room made in tier D: the coldest evictable tiles go until `need` pages fit in the quota. -/
def makeRoomD (a need : Nat) : Nat → State → Bool × State
  | 0, s => (decide (usedD s a false + need ≤ quotaD s a), s)
  | fuel + 1, s =>
    if usedD s a false + need ≤ quotaD s a then (true, s)
    else match coldest (evictableD s a) with
      | none => (false, s)
      | some k => makeRoomD a need fuel (onTile k (fun t => { t with d := none }) s)

/-- An account's use of the drain reserve: source 92 + n, at most once an epoch. -/
def reserveUsed (a : Nat) (s : State) : State :=
  if s.tiers.reserveSeen[acc4 a] then s
  else raise (92 + a) (onTiers (fun t => { t with reserveSeen := upd t.reserveSeen (acc4 a) (fun _ => true) }) s)

/-- Pages of private DRAM that no tile lies in: the first `n` (assumption 77). -/
def freePagesD (s : State) (n : Nat) : List Nat :=
  let used := s.tiers.tiles.flatMap fun p => (p.2.d.map (·.pages)).getD []
  ((List.range (used.length + n)).filter fun i => !used.contains i).take n

/-- A tile's copy in tier D. -/
def putD (k : Nat) (bs : List Byte) (dirty : U16) (reserve : Bool) (s : State) : State :=
  onTile k (fun t => { t with d := some ⟨bs, freePagesD s (pagesOf bs), dirty, reserve⟩ }) s

/-- What private DRAM holds in a page of tier D: 4 KiB of an encoded tile under K_tier, with the tweak of the page (R492). A
tile is held in the state in the clear, beside its pages. -/
def dTweak (page : Nat) : Nat := 2 ^ 63 + page
def privateDram (s : State) (page : Nat) : Option (List Byte) :=
  ((s.tiers.tiles.filterMap fun p => p.2.d).find? fun c => c.pages.contains page).map fun c =>
    xtsEncrypt (tierKey s) (dTweak page) (slice (4096 * c.pages.idxOf page) 4096 c.bytes)

/-- A tile's encoded bytes put into tier D: from the quota, else, where `reserve` allows it, from the drain reserve. -/
def placeD (k : Nat) (bs : List Byte) (dirty : U16) (reserve : Bool) (s : State) : Bool × State :=
  let a := accountOf (keyStream k)
  let old := tileAt s k
  let s0 := onTile k (fun t => { t with d := none }) s
  let r := makeRoomD a (pagesOf bs) (s.tiers.tiles.length + 1) s0
  if r.1 then (true, putD k bs dirty false r.2)
  else if reserve && usedD r.2 a true + pagesOf bs ≤ reserveD s then
    (true, reserveUsed a (putD k bs dirty true r.2))
  else (false, setTile k old s)

/-- The tier F version of a tile whose program has ended (R297, R344): its own, until then the former one. The one that holds
what the tile holds: the former one only where the program under way brings nothing new. -/
def endedF (t : Tile) : Option CopyF := t.f.bind fun f => if f.ended then some f else t.former
def readableF (t : Tile) : Option CopyF := t.f.bind fun f => if f.ended || f.since.isNone then endedF t else none

/-- The bytes of a tray copy as it leaves the tray: a tile that arrived encoded and was not written since keeps the bytes
of its copy below; any other is encoded (R371). -/
def leavingBytes (s : State) (k : Nat) (c : CopyS) : List Byte :=
  let e := entryNow s (keyStream k)
  let below := match (tileAt s k).d with | some d => some d.bytes | none => (readableF (tileAt s k)).bind (bytesF s)
  let anew := encodeTile (eElem e) (eKib e) c.data
  if eEncoded e && decide (c.dirty = 0) then below.getD anew else anew

/-- The newest encoded bytes of a tile above tier F. -/
def upperBytes (s : State) (k : Nat) : Option (List Byte) :=
  match (tileAt s k).s with
  | some c => some (leavingBytes s k c)
  | none => (tileAt s k).d.map (·.bytes)

/-- What a tile uses of its account's tier F quota (R322): the tier F copy it has, or the one it will have once its dirty
data is written down. -/
def useF (s : State) (k : Nat) (t : Tile) : Nat :=
  if tileDirty t then ((upperBytes s k).map (·.length)).getD 0 else (t.f.map (·.len)).getD 0
def usedF (s : State) (a : Nat) : Nat := sum ((tilesOf s a).map fun p => useF s p.1 p.2)

/-- A tray copy written down to tier D with its dirty mask, and its slot freed (R340, R342). -/
def writeDown (k : Nat) (reserve : Bool) (s : State) : Bool × State :=
  match (tileAt s k).s with
  | none => (true, s)
  | some c =>
    if c.dirty = 0 then (true, onTile k (fun t => { t with s := none }) s)
    else
      let below : U16 := match (tileAt s k).d with | some d => d.dirty | none => 0
      let r := placeD k (leavingBytes s k c) (c.dirty ||| below) reserve s
      if r.1 then (true, onTile k (fun t => { t with s := none }) r.2) else (false, s)

/-- Tiles that the tray may lose: not pinned there, and either clean with a copy below, or dirty ones that can be written
down. -/
def slotTiles (s : State) (a : Nat) (dirty : Bool) : List (Nat × Tile) :=
  (tilesOf s a).filter fun p => match p.2.s with
    | some c => decide (pinOf s p.1 ≠ 1) && !c.reserve && (decide (c.dirty ≠ 0) == dirty)
        && (dirty || p.2.d.isSome || (readableF p.2).isSome)
    | none => false

/-- A tray slot claimed for an account (R321, R322, R354): from the quota, by evicting its coldest tile, or from the
drain reserve; the answer says whether one was had and whether it is the reserve's. -/
def claimSlot (a : Nat) (s : State) : Option Bool × State :=
  if usedS s a false < quotaS s a then (some false, s)
  else if quotaS s a = 0 then
    if usedS s a true < reserveS s then (some true, reserveUsed a s) else (none, s)
  else match coldest (slotTiles s a false) with
    | some k => (some false, onTile k (fun t => { t with s := none }) s)
    | none =>
      let r := match coldest (slotTiles s a true) with
        | some k => writeDown k false s
        | none => (false, s)
      if r.1 then (some false, r.2)
      else if usedS s a true < reserveS s then (some true, reserveUsed a s) else (none, s)

/-- The tray slot of a tile's own copy, or one claimed for it. -/
def slotFor (k a : Nat) (s : State) : Option Bool × State :=
  if (tileAt s k).s.isSome then (some false, s) else claimSlot a s

/-! ## Tier F (R297, R305, R340, R344) -/

/-- The earlier of two admission numbers. -/
def earlier (a b : Option Nat) : Option Nat :=
  match a, b with
  | some x, some y => some (min x y)
  | some x, none => some x
  | none, y => y

/-- The oldest write that a new tier F program of a tile is the first to bring there. -/
def sinceOf (t : Tile) : Option Nat :=
  earlier t.since (t.f.bind fun f => if f.ended then none else f.since)

/-- A write not yet in tier F: the oldest one is remembered. -/
def noteWrite (k order : Nat) (s : State) : State := onTile k (fun t => { t with since := earlier t.since (some order) }) s

/-- The units of a tile placed in tier F; none on blank NAND, whose writes wait (R296), or where no block is to be had. -/
def placeUnits (bs : List Byte) (s : State) : List (Nat × Nat) × State :=
  if s.nand.blank then ([], s)
  else
    let r := putTile (tierKey s) (liveChans s) bs s.nand
    match r.1 with
    | some us => (us, onNand (fun _ => r.2) s)
    | none => ([], s)

/-- The program of a tile waits at a class on the channels and LUNs of its units. -/
def queueProgram (k cls : Nat) (f : CopyF) (s : State) : State :=
  (placesF s f).foldl (fun (s : State) p => arrive p.1 ⟨opProgram k, cls, p.2, false, true, 0, false⟩ s)
    (workEnds (opProgram k) s)

/-- A tile's encoded bytes go to tier F. They count once the program has ended, the former version until then. `brings` is
the oldest write that reaches tier F with them, `left` the oldest one that does not. -/
def programF (k : Nat) (bs : List Byte) (save cls : Nat) (ended : Bool) (brings left : Option Nat) (s : State) : State :=
  let t := tileAt s k
  let p := placeUnits bs s
  let done := ended && !p.1.isEmpty
  let f : CopyF := ⟨p.1, bs.length, save, done, brings⟩
  let s := onTile k (fun t => { t with f := some f, since := left, former := if done then none else endedF t }) p.2
  if done then workEnds (opProgram k) s else queueProgram k cls f s

/-- The newest bytes of a tile go to tier F. -/
def toTierF (k : Nat) (bs : List Byte) (save cls : Nat) (ended : Bool) (s : State) : State :=
  programF k bs save cls ended (sinceOf (tileAt s k)) none s

/-- The class of a tile's writes: write-back or ingest (Table 9-4). -/
def writeClass (s : State) (k : Nat) : Nat := if eWriteback (entryNow s (keyStream k)) then 4 else 5

/-- A tile's program has ended: the tile is readable from NAND, and copies above that tier F now has are dirty no more. -/
def programEnded (k : Nat) (s : State) : State :=
  let held := fun (t : Tile) => (t.f.bind (bytesF s))
  collectF (workEnds (opProgram k) (onTile k (fun t => { t with
    f := t.f.map fun f => { f with ended := true }, former := none,
    s := if t.since.isNone then t.s.map fun c => { c with dirty := 0 } else t.s,
    d := t.d.map fun c => if t.since.isNone || decide (held t = some c.bytes) then { c with dirty := 0 } else c }) s))

/-- The sequence number of the save record before. -/
def saveSeq (s : State) : Nat := match s.tiers.save with | some r => r.seq | none => 0

/-- A dirty tile written to tier F with the save's sequence number; it stays dirty where it finds no room. -/
def saveTile (seq : Nat) (k : Nat) (s : State) : State :=
  match upperBytes s k with
  | some bs =>
    let s := toTierF k bs seq 4 true s
    (match (tileAt s k).f with
      | some f => if f.ended then programEnded k s else s
      | none => s)
  | none => s

/-- A tile whose units found no page is placed again. -/
def placeAgain (k : Nat) (s : State) : State :=
  match (tileAt s k).f, upperBytes s k with
  | some f, some bs => if f.units.isEmpty && !f.ended then toTierF k bs f.save (writeClass s k) false s else s
  | _, _ => s
def placeWaiting (s : State) : State := (s.tiers.tiles.map (·.1)).foldl (fun (s : State) k => placeAgain k s) s

/-- A wordline program ends, once it has started. During the tier save it is a dirty tile's copy of the save that is
programmed. -/
def tierFEnds (k : Nat) (s : State) : State :=
  if s.nand.blank then s
  else if s.tiers.saving && tileDirty (tileAt s k) then saveTile (saveSeq s + 1) k s
  else match (tileAt s k).f with
    | none => s
    | some f =>
      if f.ended then s
      else if f.units.isEmpty then placeAgain k s
      else if opStarted s (opProgram k) then programEnded k s else s

/-- Dirty tier D data of the write-back age goes to tier F at class 4 (R342); newer data in the tray stays dirty. What the
reserve drains is on its way already. -/
def writeBack (k : Nat) (s : State) : State :=
  let t := tileAt s k
  match t.d with
  | some d => if d.dirty = 0 || (inReserve t && onTheWay t) then s else
      programF k d.bytes 0 4 false (sinceOf t)
        (match t.s with | some c => if c.dirty = 0 then none else t.since | none => none) s
  | none => s

/-- A tile moved to other units at class 7 (R305, R307, R310, R315): what it holds and what it brings stay as they were. -/
def relocateTile (k : Nat) (s : State) : State :=
  let t := tileAt s k
  match t.f with
  | some f => if !f.ended then s else (match bytesF s f with
      | some bs => programF k bs f.save 7 false none t.since s
      | none => s)
  | none => s

/-- The tiles with a unit in a stripe, and a stripe relocated. -/
def tilesInStripe (s : State) (i : Nat) : List Nat :=
  (s.tiers.tiles.filter fun p => match p.2.f with | some f => f.units.any fun u => decide (u.1 = i) | none => false).map (·.1)
def relocateStripe (i : Nat) (s : State) : State := (tilesInStripe s i).foldl (fun (s : State) k => relocateTile k s) s

/-! ## Spoiled tiles (R352) -/

/-- A tile whose tier F unit is unrecovered: rewritten from a copy above, else spoiled with source 80 + n. -/
def unitLost (k : Nat) (s : State) : State :=
  let t := tileAt s k
  if !tileWritten t then s
  else match upperBytes s k with
    | some bs => toTierF k bs ((t.f.map (·.save)).getD 0) 7 false s
    | none =>
      if t.spoiled then s
      else raise (80 + accountOf (keyStream k))
        (collectF (onTile k (fun t => { t with spoiled := true, f := none, former := none }) s))

/-- 0x6060: the spoiled list, and an account's part of it. -/
def spoiledBytes (s : State) (only : Option Nat) : List Byte :=
  s.tiers.tiles.flatMap fun p =>
    if p.2.spoiled && (match only with | some a => decide (accountOf (keyStream p.1) = a) | none => true) then
      leBytes 2 (keyStream p.1) ++ [0, 0] ++ leBytes 4 (keyTile p.1)
    else []

/-! ## Deadlines and proof tiles (R346 to R349) -/

/-- The class 3 reads queued on the LUN of a tile's first unit. -/
def readsAhead (s : State) (k : Nat) : Nat :=
  match ((readableF (tileAt s k)).map (placesF s)).bind List.head? with
  | some (c, l) => ((s.nand.chans[c]).queue.filter fun o =>
      decide (o.cls = 3) && decide (o.lun = l) && decide (o.id ≠ opRead k)).length
  | none => 0

/-- The predicted completion of a tile, in ns. -/
def predict (s : State) (k : Nat) (kib : Nat) : Nat :=
  let t := tileAt s k
  let base := if t.s.isSome then 1200 else if t.d.isSome then 4000
    else 1000 * (pv s 0x6050 3 + pv s 0x6050 4 * readsAhead s k)
  base + kib * 320

/-- The proof link of an entry is usable. -/
def linkOk (s : State) (stream : Nat) (e : List Byte) : Bool :=
  let p := eProof e
  let q := entryNow s p
  decide (p ≠ 0xFFFF) && decide (p < 4096) && eValid q && entryCrcOk q && entryFormed q
    && decide (accountOf p = accountOf stream) && eIsProof q && eSealed q && decide (eCount q = eCount e)

/-- Proof service exists for the request's stream. -/
def mayProve (s : State) (stream : Nat) (full : Bool) (e : List Byte) : Bool :=
  eMayDegrade e && !full && (pv s 0x6050 1).testBit (accountOf stream) && linkOk s stream e

/-- The proof tile would be earlier where the tile itself would be late. -/
def proofBetter (s : State) (stream tile left : Nat) (e : List Byte) : Bool :=
  let p := predict s (tileKey stream tile) (eKib e)
  let pk := tileKey (eProof e) tile
  let q := predict s pk (eKib (entryNow s (eProof e)))
  tileWritten (tileAt s pk) && decide (1000 * left < p) && decide (q < p)

/-- A request served from its proof tile: counted, source 96 + n at most once an epoch. -/
def proofServed (a : Nat) (s : State) : State :=
  let seen := s.tiers.proofSeen[acc4 a]
  let s := onTiers (fun t => { t with proofs := upd t.proofs (acc4 a) satInc,
                                      proofSeen := upd t.proofSeen (acc4 a) (fun _ => true) }) s
  if seen then s else raise (96 + a) s

/-! ## Reads (R338, R377) -/

/-- The units that a FAULT took away (R52): by the self-test result, or the NAND where two channels are dead. In a FAULT
whose binding state is not 1 the store delivers nothing to a port (R496; assumption 53). -/
def storeFailed (s : State) : Bool :=
  decide (s.sys.st = .fault) && (decide (s.sys.selfTest &&& 0x5B ≠ 0) || decide (s.sec.binding ≠ 1))
def nandFailed (s : State) : Bool := decide (s.sys.st = .fault) && decide (2 ≤ (deadChans s).length)

/-- The encoded bytes of a tier D copy that passes its checks (R377); one that fails them is dropped and counted. -/
def takeD (k : Nat) (e : List Byte) (s : State) : Option (List Byte) × State :=
  match (tileAt s k).d with
  | none => (none, s)
  | some c =>
    if Config.tierDGood s.free && storedOk (eElem e) (eKib e) c.bytes then (some c.bytes, drew s)
    else (none, onTile k (fun t => { t with d := none })
      (onTiers (fun x => { x with decodeFails := satInc x.decodeFails }) (drew s)))

/-- What a read of a tile finds: its decoded bytes, that it must wait for a tier D page, or no valid copy. -/
inductive Fetch where
  | data (bs : List Byte)
  | waits
  | gone

/-- Work of an earlier class is in the way of a tile's tier F read (R301). -/
def readHeld (s : State) (k cls : Nat) : Bool :=
  match readableF (tileAt s k) with
  | some f => (readPlaces s f).any fun p => heldBack s.nand.chans[p.1] cls
  | none => false

/-- A tier F copy read at class 3 or behind it: it stages through tier D, from the quota or the drain reserve (R338,
R353, R354). Units rebuilt for a dead channel are counted, and the stripes of rebuilt ones are relocated (R305, R310). -/
def takeF (k : Nat) (e : List Byte) (s : State) : Fetch × State :=
  match readableF (tileAt s k) with
  | none => (if (tileAt s k).f.isSome then .waits else .gone, s)
  | some f => match bytesF s f with
    | none => (.gone, s)
    | some bs =>
      if !storedOk (eElem e) (eKib e) bs then (.gone, onTiers (fun x => { x with decodeFails := satInc x.decodeFails }) s)
      else if readHeld s k 3 then (.waits, s)
      else
        let r := placeD k bs 0 true s
        if !r.1 then (.waits, s)
        else
          let n := rebuildsF s f
          let s := onNand (fun x => { x with rebuilds := satOf 32 (x.rebuilds.toNat + n) }) r.2
          (.data (decodeTile bs), (weakStripes s f).foldl (fun (s : State) i => relocateStripe i s) s)

/-- A tier D copy read; one that fails its checks is discarded, and where it was dirty no valid copy remains (R377). -/
def readD (k : Nat) (e : List Byte) (dirty : U16) (s : State) : Fetch × State :=
  match takeD k e s with
  | (some bs, s) => (.data (decodeTile bs), s)
  | (none, s) => if dirty = 0 then takeF k e s else (.gone, s)

/-- A tile read from the highest tier that holds a valid copy. -/
def readTile (k : Nat) (e : List Byte) (s : State) : Fetch × State :=
  match (tileAt s k).s, (tileAt s k).d with
  | some c, _ => (.data c.data, s)
  | none, some d => readD k e d.dirty s
  | none, none => takeF k e s

/-! ## Writes (R338 to R341, R376) -/

/-- The last malformed tile of an account. -/
def recordMalformed (a stream tile reason : Nat) (s : State) : State :=
  onTiers (fun t => { t with malformed := upd t.malformed (acc4 a) (fun m =>
    ⟨BitVec.ofNat 16 stream, BitVec.ofNat 8 reason, BitVec.ofNat 32 tile, satInc m.count⟩) }) s

/-- The dirty mask bits that a write of `len` bytes at `off` covers: one for each 4 KiB. -/
def coverMask (off len : Nat) : U16 :=
  maskOf 16 fun i => decide (4096 * i < off + len) && decide (off < 4096 * (i + 1)) && decide (0 < len)

/-- Bytes written over a tile's bytes. -/
def mergeAt (off : Nat) (data old : List Byte) : List Byte := old.take off ++ data ++ old.drop (off + data.length)

/-- A tile's bytes before a write: what it holds, or free bytes where nothing has written it. -/
def beforeWrite (k : Nat) (e : List Byte) (s : State) : Fetch × State :=
  if tileWritten (tileAt s k) then readTile k e s
  else (.data ((List.range (1024 * eKib e)).map fun i => Config.unwrittenByte s.free i), drew s)

/-- A written tile in tier D, with its dirty mask; none where neither quota nor reserve has room. -/
def storeD (k : Nat) (enc : List Byte) (dirty : U16) (s : State) : Option State :=
  let r := placeD k enc dirty true s
  if r.1 then some r.2 else none

/-- The tile has a tray copy. -/
def storeS (k : Nat) (data : List Byte) (dirty : U16) (reserve : Bool) (s : State) : State :=
  onTile k (fun t => { t with s := some ⟨data, dirty, reserve⟩ }) s

/-- A written tile stored: into the tray, or on a PIN 3 stream into tier D at once. Weights go on to tier F, and so does
write-back state that stands in a reserve, which is to drain (R354); other write-back state is marked dirty. None where the
write must wait for a tier D page. -/
def storeTile (k : Nat) (e : List Byte) (data enc : List Byte) (mask : U16) (slot : Bool) (s : State) : Option State :=
  let wb := eWriteback e
  let s := onTile k (fun t => { t with spoiled := false, lost := false }) s
  let sMask : U16 := match (tileAt s k).s with | some c => c.dirty | none => 0
  let dMask : U16 := match (tileAt s k).d with | some c => c.dirty | none => 0
  let stored : Option State :=
    if ePin e = 3 then storeD k enc (if wb then mask ||| dMask ||| sMask else 0) (onTile k (fun t => { t with s := none }) s)
    else if eEncoded e then (storeD k enc (if wb then mask ||| dMask ||| sMask else 0) s).map (storeS k data 0 slot)
    else if wb then some (storeS k data (mask ||| sMask) slot s)
    else (storeD k enc 0 s).map (storeS k data 0 slot)
  stored.map fun s => if !wb || inReserve (tileAt s k) then toTierF k enc 0 (writeClass s k) false s else s

/-- A tile has drained from the reserve once tier F has it, with every write to it (R354). -/
def drained (s : State) (k : Nat) : Bool := !inReserve (tileAt s k) || (inTierF (tileAt s k) && (tileAt s k).since.isNone)

/-- The tile without its copies in the reserve: a clean one leaves where another tier holds what it holds. -/
def withoutReserve (t : Tile) : Tile :=
  { t with
    s := t.s.bind fun c => if c.reserve && decide (c.dirty = 0) && (t.d.isSome || inTierF t) then none else some c,
    d := t.d.bind fun c => if c.reserve && decide (c.dirty = 0) && inTierF t then none else some c }

/-- Requests that name a tile; the tile that a request takes its data from; a tile that an active request names. -/
def namesTile (r : Req) : Bool := decide (r.op = 1) || decide (r.op = 2)
def sourceKey (r : Req) : Nat :=
  if r.proof then tileKey (eProof (r.entry.getD [])) r.tile else tileKey r.stream r.tile
def inRequest (s : State) (k : Nat) : Bool :=
  (List.finRange 4).any fun p => (s.ports[p]).active.any fun r => namesTile r && decide (sourceKey r = k)

/-- What no active request names any more returns to the reserve (R354). -/
def returnReserve (k : Nat) (s : State) : State := if inRequest s k then s else onTile k withoutReserve s

/-! ## Heat and placement (R336, R337) -/

/-- One request more names the tile. -/
def addTileHeat (k : Nat) (s : State) : State := onTile k (fun t => { t with heat := satInc t.heat }) s

/-- Decay: heat − (heat >> k). -/
def decayHeat (s : State) : State :=
  let sh := pv s 0x6040 2
  onTiers (fun t => { t with tiles := t.tiles.map fun (p : Nat × Tile) =>
    (p.1, { p.2 with heat := p.2.heat - (p.2.heat >>> sh) }) }) s

/-- Tiles in the order of placement: more heat first, then the lower stream and the lower tile. -/
def byHeat (ts : List (Nat × Tile)) : List (Nat × Tile) :=
  (ts.foldl (fun acc p => aput acc ((0xFFFF - p.2.heat.toNat) * 2 ^ 40 + p.1) p) []).map (·.2)

/-- The tiles that a tier takes, in order. -/
def wantedS (s : State) (a : Nat) : List Nat :=
  let ts := (tilesOf s a).filter fun p => tileWritten p.2 && !p.2.spoiled && !p.2.lost
  let pinned := byHeat (ts.filter fun p => decide (pinOf s p.1 = 1))
  let hot := byHeat (ts.filter fun p => decide (pinOf s p.1 ≠ 1) && decide (pinOf s p.1 ≠ 3) && decide (pv s 0x6040 3 ≤ p.2.heat.toNat))
  ((pinned ++ hot).take (quotaS s a)).map (·.1)

/-- The pages that a tile takes in tier D. -/
def pagesWanted (s : State) (k : Nat) (t : Tile) : Nat :=
  match t.d with
  | some d => pagesOf d.bytes
  | none => match t.s with
    | some c => pagesOf (leavingBytes s k c)
    | none => match readableF t with | some f => (4095 + f.len) / 4096 | none => 0

/-- Tiles taken in order, each that still fits in what is left of the quota. -/
def takeFitting (s : State) : Nat → List (Nat × Tile) → List Nat
  | _, [] => []
  | room, p :: r => let n := pagesWanted s p.1 p.2
    if n ≤ room then p.1 :: takeFitting s (room - n) r else takeFitting s room r

def wantedD (s : State) (a : Nat) : List Nat :=
  let ts := (tilesOf s a).filter fun p => tileWritten p.2 && !p.2.spoiled && !p.2.lost
  let pin := fun (k : Nat) => decide (pinOf s k = 1) || decide (pinOf s k = 2)
  takeFitting s (quotaD s a)
    (byHeat (ts.filter fun p => pin p.1) ++ byHeat (ts.filter fun p => !pin p.1 && decide (pv s 0x6040 4 ≤ p.2.heat.toNat)))

/-- A tile moved up into the tray, where a slot is free. -/
def liftS (k : Nat) (s : State) : State :=
  let a := accountOf (keyStream k)
  let t := tileAt s k
  if t.s.isSome || quotaS s a ≤ usedS s a false || (t.d.isNone && readHeld s k 5) then s
  else
    let e := entryNow s (keyStream k)
    match t.d with
    | some d => (match takeD k e s with
      | (some bs, s) => storeS k (decodeTile bs) 0 false s
      | (none, s) => if d.dirty = 0 then s else unitLost k s)
    | none => (match (readableF t).bind (bytesF s) with
      | some bs => if storedOk (eElem e) (eKib e) bs then storeS k (decodeTile bs) 0 false s else s
      | none => s)

/-- A tile moved up into tier D, where its pages fit. -/
def liftD (k : Nat) (s : State) : State :=
  let a := accountOf (keyStream k)
  let t := tileAt s k
  if t.d.isSome then s
  else
    let bs := match t.s with
      | some c => some (leavingBytes s k c)
      | none => if readHeld s k 5 then none else (readableF t).bind (bytesF s)
    match bs with
    | some bs => if usedD s a false + pagesOf bs ≤ quotaD s a then putD k bs 0 false s else s
    | none => s

/-- Placement of an account at the end of an epoch. -/
def placeAccount (a : Nat) (s : State) : State :=
  let ws := wantedS s a
  let s := (slotTiles s a false).foldl (fun (s : State) p =>
    if ws.contains p.1 then s else onTile p.1 (fun t => { t with s := none }) s) s
  let s := ws.foldl (fun (s : State) k => liftS k s) s
  let wd := wantedD s a
  let s := (evictableD s a).foldl (fun (s : State) p =>
    if wd.contains p.1 then s else onTile p.1 (fun t => { t with d := none }) s) s
  wd.foldl (fun (s : State) k => liftD k s) s

/-- A tile heat epoch ends: decay, then placement account by account; the once-an-epoch sources are free again. -/
def tileEpoch (s : State) : State :=
  let s := onTiers (fun t => { t with proofSeen := famAll 4 false, reserveSeen := famAll 4 false }) (decayHeat s)
  (List.range (accounts s)).foldl (fun (s : State) a => placeAccount a s) s

/-! ## The tier save and the load (R343 to R345) -/

/-- The hottest 131,072 tiles. -/
def heatSnapshot (s : State) : Assoc U16 :=
  ((byHeat (s.tiers.tiles.filter fun p => p.2.heat ≠ 0)).take 131072).foldl (fun acc p => aput acc p.1 p.2.heat) []

/-- The save begins: the Stream Table image and the dirty list are written; BAR2 writes are dropped from now on. -/
def saveBegins (s : State) : State :=
  onTiers (fun t => { t with
    saving := true,
    cut := some ⟨saveSeq s + 1, false, t.table, (t.tiles.filter fun p => tileDirty p.2).map (·.1), []⟩ }) s

/-- The order of the dirty tiles (R343): those of tier S before those of tier D, by ascending LATENCY, account, stream and
tile. -/
def saveRank (s : State) (p : Nat × Tile) : Nat :=
  let inS := match p.2.s with | some c => decide (c.dirty ≠ 0) | none => false
  ((if inS then 0 else 4) + eLatency (entryNow s (keyStream p.1))) * 2 ^ 40 + p.1
def dirtyTiles (s : State) : List Nat :=
  ((s.tiers.tiles.filter fun p => tileDirty p.2).foldl (fun (m : Assoc Nat) p => aput m (saveRank s p) p.1) []).map (·.2)

/-- The programs that run end normally. -/
def programsEnd (s : State) : State :=
  (s.tiers.tiles.map (·.1)).foldl (fun (s : State) k => match (tileAt s k).f with
    | some f => if !f.ended && !f.units.isEmpty then programEnded k s else s
    | none => s) s

/-- The save ends: every dirty tile, the heat snapshot and the save record are written; source 102. -/
def saveEnds (s : State) : State :=
  let seq := saveSeq s + 1
  let dirty := (s.tiers.tiles.filter fun p => tileDirty p.2).map (·.1)
  let image := s.tiers.table
  let list := match s.tiers.cut with | some c => c.dirtyList | none => dirty
  let s := programsEnd ((dirtyTiles s).foldl (fun (s : State) k => saveTile seq k s) s)
  raise 102 (onTiers (fun t => { t with save := some ⟨seq, true, image, list, heatSnapshot s⟩, cut := none, saving := false }) s)

/-- The main die has lost power: the tray and private DRAM hold nothing. Tiles keep what tier F holds; a program that
had not ended leaves the former version. -/
def tiersLost (s : State) : State :=
  onTiers (fun t => { t with
    table := [], cache := [], torn := [], saving := false, ready := false, invalBus := none,
    tiles := (t.tiles.map fun (p : Nat × Tile) =>
      (p.1, { p.2 with s := none, d := none, f := endedF p.2, former := none, heat := 0, since := none })).filter fun p => p.2 ≠ Tile.none }) s

/-- The load at main-die power-up: the newest image, the save record, lost tiles with source 84 + n, heat; source 103. -/
def tierLoad (s : State) : State :=
  let table := match s.tiers.cut with
    | some c => c.table
    | none => (s.tiers.save.map (·.table)).getD []
  let seq := match s.tiers.cut with | some c => c.seq | none => 0
  let lost := match s.tiers.cut with
    | some c => c.dirtyList.filter fun k => match (tileAt s k).f with | some f => f.save ≠ seq | none => true
    | none => []
  let heat := (s.tiers.save.map (·.heat)).getD []
  let s := onTiers (fun t => { t with
    table := table, ready := true, curators := 0x0F, coreOf := Vector.ofFn (fun p => p),
    loaded := if t.cut.isSome then 2 else if t.save.isSome then 1 else 0,
    tiles := t.tiles.map fun (p : Nat × Tile) => (p.1, { p.2 with heat := (aget heat p.1).getD 0 }) }) s
  let s := lost.foldl (fun (s : State) k => onTile k (fun t => { t with lost := true }) s) s
  let s := (List.range (accounts s)).foldl (fun (s : State) a =>
    if lost.any fun k => decide (accountOf (keyStream k) = a) then raise (84 + a) s else s) s
  raise 103 (onTiers (fun t => { t with cut := none, save := match t.cut with
    | some c => some { c with complete := false, heat := heat }
    | none => t.save }) s)

/-- Every tier F block, the saved image and the save record are released, every entry starts with VALID 0, every tier
is empty (R495, R504). -/
def tiersReleased (s : State) : State :=
  releaseF (onTiers (fun t => { t with
    table := [], cache := [], torn := [], sealed := [], deleting := [], tiles := [], save := none, cut := none }) s)

/-! ## Sealing, deletion, invalidation (R331, R333 to R335) -/

/-- A deleted stream: the admission number from which its requests are none of the older entry's. -/
def deletedAt (s : State) (stream : Nat) : Option Nat := (s.tiers.deleting.find? fun p => decide (p.1 = stream)).map (·.2)

/-- Every write to a stream admitted under an entry without SEALED has ended, and what it wrote has reached tier F. -/
def streamQuiet (s : State) (stream : Nat) : Bool :=
  s.tiers.tiles.all fun p => keyStream p.1 ≠ stream || (!tileDirty p.2 &&
    (match p.2.f with | some f => f.ended | none => true))
def noWrites (s : State) (stream : Nat) : Bool :=
  (List.finRange 4).all fun p => (s.ports[p].active).all fun r =>
    decide (r.op ≠ 2) || decide (r.stream ≠ stream) || r.ended.isSome || (match r.entry with | some e => eSealed e | none => false)

/-- The stream is sealed, where its entry in use has SEALED set and everything earlier has reached tier F. -/
def sealNow (stream : Nat) (s : State) : State :=
  let e := entryNow s stream
  if eValid e && eSealed e && !s.tiers.sealed.contains stream && streamQuiet s stream && noWrites s stream then
    onTiers (fun t => { t with sealed := stream :: t.sealed }) s
  else s

/-- A deleted stream's tiles are freed once the requests under the older entry have ended. -/
def deleteNow (stream : Nat) (s : State) : State :=
  let busy := fun (n : Nat) => (s.ports[acc4 (accountOf stream)].active).any fun r =>
    decide (r.stream = stream) && r.ended.isNone && decide (r.op ≤ 3) && decide (r.order < n)
  if (match deletedAt s stream with | some n => !busy n | none => false) then
    collectF (onTiers (fun t => { t with
      deleting := t.deleting.filter (fun x => decide (x.1 ≠ stream)), sealed := t.sealed.filter (fun x => x ≠ stream),
      tiles := t.tiles.filter (fun p => keyStream p.1 ≠ stream) }) s)
  else s

/-- Cached entries of one stream, of an account's streams, or of all are dropped, and their TORN faults end. -/
def dropEntries (keep : Nat → Bool) (s : State) : State :=
  onTiers (fun t => { t with cache := t.cache.filter (fun p => keep p.1), torn := t.torn.filter keep }) s
def invalidateDone (who : Option PortId) (stream : Nat) (s : State) : State :=
  match who with
  | none => dropEntries (fun x => stream ≠ 0xFFFF && x ≠ stream) s
  | some p => dropEntries (fun x => if stream = 0xFFFF then accountOf x ≠ p.val else x ≠ stream) s

/-- The wait graph: requests that wait for each other. Under R300, R321, R353 and R354 it has no cycle, so the sweep
ends none (R355). -/
def waitCycles (_s : State) : List (PortId × U16) := []

/-- The live core that serves the fewest ports, the lowest number on ties (R356). -/
def liveCore (s : State) (c : Nat) : Bool := s.tiers.curators.getLsbD c
def nextCore (s : State) : Option (Fin 4) :=
  let load := fun (c : Fin 4) => ((List.finRange 4).filter fun p => s.tiers.coreOf[p] = c).length
  ((List.finRange 4).filter fun c => liveCore s c.val).foldl (fun b c => match b with
    | none => some c
    | some d => if load c < load d then some c else some d) none

/-- An account that a core served goes to the next live core (R356). -/
def moveAccount (c : Fin 4) (s : State) (p : Fin 4) : State :=
  if s.tiers.coreOf[p] = c then
    (match nextCore s with
      | some d => onTiers (fun t => { t with coreOf := upd t.coreOf p (fun _ => d) }) s
      | none => s)
  else s

/-- A core fails: its ports go to live cores, sources and counts. -/
def coreFails (c : Fin 4) (s : State) : State :=
  if !liveCore s c.val then s
  else
    let s := onTiers (fun t => { t with
      curators := t.curators &&& ~~~(BitVec.ofNat 8 (2 ^ c.val)), failures := satInc t.failures }) s
    raise 100 ((List.finRange 4).foldl (moveAccount c) s)

end Sys2Proof.Machine
end

