-- ==== Sys2Proof/Machine/Nand.lean ====
section
/-! DEFINITION. The NAND subsystem's events (R289 to R316): erases and failures, unit reads and rebuilds, patrol, dead
channels and degraded mode, regions and blank NAND. -/

namespace Sys2Proof.Machine

/-! ## Erases and failures (R295, R298, R316) -/

/-- An erase of a block runs, and is not suspended. -/
def eraseRuns (ch : Channel) (b : Nat) : Bool := ch.erases.any fun p => decide (p.2.block = b) && !p.2.suspended

/-- A block erase ends: the block is free at its count, the table is rewritten every 10,000 erases. -/
def eraseEnds (c : ChanId) (b : Nat) (s : State) : State :=
  if !eraseRuns s.nand.chans[c] b then s
  else
    let s := onQueue c (fun ch => beginErases c (erased c b { ch with
      erases := ch.erases.filter (fun p => decide (p.2.block ≠ b)) })) s
    updateLife (updateFits (if 10000 ≤ (s.nand.chans[c]).sinceTable then writeTable c s else s))

/-- An erase fails: the block is retired at once. -/
def eraseFails (c : ChanId) (b : Nat) (s : State) : State :=
  if eraseRuns s.nand.chans[c] b then updateFits (retire c b s) else s

/-- A tile whose program runs in a block. -/
def programsIn (s : State) (c : ChanId) (b : Nat) (f : CopyF) : Bool :=
  !f.ended && f.units.any fun u => match unitPage s.nand u with
    | some a => decide (chanAt a = c) && decide (blockOf a = b)
    | none => false

/-- A tile's unended program begun again with the same bytes. -/
def programAgain (k : Nat) (s : State) : State :=
  let t := tileAt s k
  match t.f with
  | some f => (match bytesF s f with
    | some bs => programF k bs f.save (writeClass s k) false f.since t.since s
    | none => s)
  | none => s

/-- A program fails: its page is left out and its block closed to further programs, so that the unit goes to the next good
page (R249); a tile under way there is programmed anew. The block is retired once none of its data is still needed. -/
def programFails (c : ChanId) (b : Nat) (s : State) : State :=
  let again := (s.tiers.tiles.filter fun p => match p.2.f with | some f => programsIn s c b f | none => false).map (·.1)
  let s := onChan c (onBlock c b (fun x => { x with closed := true, next := x.next + 1 })) s
  let s := again.foldl (fun (s : State) k => programAgain k s) s
  if (blockAt s.nand.chans[c] c b).use = 0 then updateFits (retire c b s) else s

/-! ## What a page holds (R306, Table 9-5) -/

/-- What a programmed page holds: an anchor record, a table page, a unit of a tier F stripe, frames, part of the map or
something else of a generation of the live chain, or nothing that is needed. -/
inductive Holds where
  | anchor
  | table
  | stripe (i : Nat) (unit : Option Nat)
  | frames (gen : Nat) (fs : List Nat)
  | map (gen : Nat) (keys : Nat × Nat)
  | other (gen : Nat)
  | nothing

/-- The tier F stripe and unit of a page; no unit for a parity unit. -/
def stripeAt (n : Nand) (a : Nat) : Option (Nat × Option Nat) :=
  n.stripes.findSome? fun p =>
    if p.2.parity = some a then some (p.1, none)
    else if p.2.units.contains a then some (p.1, some (p.2.units.idxOf a)) else none

/-- The stripe of a generation to which a page belongs, and the data unit that it is. -/
def genStripeAt (v : GenView) (a : Nat) : Option Nat :=
  let pages := v.ext.getD (chanAt a).val []
  if pages.contains a then some (pages.idxOf a) else none
def genUnitAt (v : GenView) (a st : Nat) : Option Nat :=
  (List.range v.gen.width).find? fun j => decide (dataChannel (genChannels v.gen) v.gen.gen st j = chanAt a)

/-- The frames whose data lies in unit `u`. -/
def framesOfUnit (v : GenView) (u : Nat) : List Nat :=
  (v.slots.filter fun p => decide (p.2.1 ≠ 2) && decide (p.2.2 / 4 = u)).map (·.1)

/-- What a page of a generation's view holds. -/
def viewHolds (v : GenView) (a : Nat) : Holds :=
  match genStripeAt v a with
  | none => .other v.gen.gen
  | some st => match genUnitAt v a st with
    | none => .other v.gen.gen
    | some j =>
      let u := (st - v.commit.dataStripes) * v.gen.width + j
      if st < v.commit.dataStripes then .frames v.gen.gen (framesOfUnit v (st * v.gen.width + j))
      else if st < v.commit.dataStripes + v.commit.mapStripes && decide (u < v.words.length) then
        .map v.gen.gen (lostRange (v.words.set u none) u)
      else .other v.gen.gen

/-- What a page holds. -/
def holdsAt (s : State) (a : Nat) : Holds :=
  let ch := s.nand.chans[chanAt a]
  let b := blockOf a
  if ch.anchor.contains b then .anchor
  else if ch.tables.contains b then .table
  else match stripeAt s.nand a with
    | some (i, j) => .stripe i j
    | none =>
      let x := blockAt ch (chanAt a) b
      if x.use = 1 && inChain s x.owner then (match (genOf s x.owner).bind (viewOf s) with
        | some v => viewHolds v a
        | none => .other x.owner)
      else .nothing

/-- The pages of the other units of a page's stripe; none for a page of no stripe. -/
def matesOf (s : State) (a : Nat) : List (Option Nat) :=
  match stripeAt s.nand a with
  | some (i, j) => (match aget s.nand.stripes i with
    | some st => (match j with
      | some j => st.parity :: (st.units.eraseIdx j).map some
      | none => st.units.map some)
    | none => [])
  | none =>
    let x := blockAt s.nand.chans[chanAt a] (chanAt a) (blockOf a)
    match (genOf s x.owner).bind (viewOf s) with
    | none => []
    | some v => if x.use ≠ 1 then [] else match genStripeAt v a with
      | none => []
      | some st => ((genChannels v.gen).filter fun c => decide (c ≠ chanAt a)).map fun c => (v.ext.getD c.val [])[st]?

/-- A page that can be rebuilt from its stripe (R305). -/
def rebuildable (s : State) (a : Nat) : Bool :=
  let ms := matesOf s a
  !ms.isEmpty && ms.all fun m => (m.bind (pageAt s.nand)).isSome

/-! ## Reads of units (R291, R305) -/

/-- The bit errors of a codeword at the first read-retry level, from 0 to the highest, at which it decodes. -/
def wordDecoded (top : Nat) (w : List (Option Nat)) : Option Nat := ((w.take (top + 1)).filterMap id).head?

/-- The most bit errors of a unit's eight codewords; none where one is uncorrectable. -/
def worstWord (top : Nat) (r : UnitRead) : Option Nat :=
  (r.words.toList.map (wordDecoded top)).foldl (fun m w => match m, w with
    | some a, some b => some (max a b)
    | _, _ => none) (some 0)

/-- The highest read-retry level that a read tries, and the commands it gives. -/
def levelsTried (top : Nat) (r : UnitRead) : Nat :=
  (r.words.toList.map fun w => min top ((w.takeWhile Option.isNone).length)).foldl max 0
def readCommands (s : State) (r : UnitRead) : List Onfi :=
  [.read, .readStatus] ++ (List.range (levelsTried (pv s 0x5000 0xA) r)).flatMap fun k =>
    [.setFeatures (pv s 0x5000 9) (some (k + 1)), .read, .readStatus]

/-- A page after a read: uncorrectable or not, as the latest read found it; so are the mates that a rebuild needs. -/
def setBad (a : Nat) (bad : Bool) (n : Nand) : Nand :=
  setChan (chanAt a) (fun ch => { ch with
    pages := ch.pages.map fun (p : Nat × NandPage) => if p.1 = keyAt a then (p.1, { p.2 with bad := bad }) else p }) n
def noteRead (a : Nat) (r : UnitRead) (s : State) : State :=
  let worst := worstWord (pv s 0x5000 0xA) r
  let lost := if worst.isSome then [] else
    (matesOf s a).filterMap fun m => m.bind fun b => if r.mates.contains (chanAt b) then some b else none
  let s := giveCommands (chanAt a) (readCommands s r) s
  onNand (fun n => lost.foldl (fun n b => setBad b true n) (setBad a worst.isNone n)) s

/-- A rebuild counted; that of a tier F unit has its stripe relocated at class 7. -/
def rebuilt (h : Holds) (s : State) : State :=
  let s := onNand (fun n => { n with rebuilds := satInc n.rebuilds }) s
  match h with
  | .stripe i _ => relocateStripe i s
  | .anchor => s
  | .table => s
  | .frames _ _ => s
  | .map _ _ => s
  | .other _ => s
  | .nothing => s

/-- The tiles that a lost unit of a stripe belongs to (R352). -/
def unitTiles (s : State) (i : Nat) (unit : Option Nat) : List Nat :=
  match unit with
  | some j => (s.tiers.tiles.filter fun p => match p.2.f with | some f => f.units.contains (i, j) | none => false).map (·.1)
  | none => []
def tilesLost (i : Nat) (unit : Option Nat) (s : State) : State :=
  (unitTiles s i unit).foldl (fun (s : State) k => unitLost k s) s

/-- The loss ranges of some frames, and the frames whose exposure key lies in a range (R279). -/
def lossesOf (frames : List Nat) (reason : Nat) : List Loss :=
  (frames.foldl (fun acc f => radd f (f + 1) acc) []).flatMap fun p => lossPieces reason 4 p.1 p.2
def keyRange (s : State) (keys : Nat × Nat) : List Nat :=
  (rlist (allFrames s)).filter fun f => decide (keys.1 ≤ exposureKey f) && decide (exposureKey f < keys.2)

/-- Development meets a unit that cannot be rebuilt: its frames join the loss list. -/
def developLoss (ls : List Loss) (s : State) : State :=
  if s.sys.st = .develop then
    onNeg (fun n => { n with report := { n.report with ranges := n.report.ranges ++ ls } }) s
  else s

/-- What an unrecovered unit means for its reader. -/
def lostToReader (h : Holds) (s : State) : State :=
  match h with
  | .stripe i j => tilesLost i j s
  | .frames _ fs => developLoss (lossesOf fs 1) s
  | .map _ ks => developLoss (lossesOf (keyRange s ks) 2) s
  | .anchor => s
  | .table => s
  | .other _ => s
  | .nothing => s

/-- A unit read ends: a unit with an uncorrectable codeword is rebuilt, or has the outcome of its reader. -/
def unitRead (c : ChanId) (key : Nat) (r : UnitRead) (s : State) : State :=
  let a := addressOf c key
  if (aget (s.nand.chans[c]).pages key).isNone then s
  else
    let h := holdsAt s a
    let s := noteRead a r s
    if (worstWord (pv s 0x5000 0xA) r).isSome then s
    else if rebuildable s a then rebuilt h s
    else lostToReader h s

/-! ## Patrol (R306 to R308, R310, R315) -/

/-- A page that holds needed data: system blocks, the live chain, tier F. -/
def needed (s : State) (c : ChanId) (key : Nat) : Bool :=
  let ch := s.nand.chans[c]
  let b := key / 2 ^ 12
  ch.anchor.contains b || ch.tables.contains b || (stripeAt s.nand (addressOf c key)).isSome
    || (decide ((blockAt ch c b).use = 1) && inChain s (blockAt ch c b).owner)
def neededPages (s : State) (c : ChanId) : List Nat := ((s.nand.chans[c]).pages.map (·.1)).filter (needed s c)

/-- The next page that patrol reads on a channel. -/
def patrolNext (s : State) (c : ChanId) : Option Nat :=
  (neededPages s c).find? fun key => decide ((s.nand.chans[c]).patrolAt ≤ key)

/-- Patrol may read a page: its operation has started, or nothing of an earlier class is in its way and no erase runs on
its LUN. -/
def patrolMay (ch : Channel) (lun : Fin 16) : Bool :=
  if ch.queue.any fun o => decide (o.id = opPatrol) then ch.queue.any fun o => decide (o.id = opPatrol) && o.started
  else !heldBack ch 7 && !(ch.queue.any fun o => !o.all && decide (o.lun = lun))
    && (match aget ch.erases lun.val with | some e => e.suspended | none => true)

/-- An operation has waited 50 ms: patrol's next read is one of those that can. -/
def promoted (c : ChanId) (id : Nat) (s : State) : State :=
  match patrolNext s c with
  | some key => if id = opPatrol && decide (s.sys.st = .run) then
      arrive c ⟨opPatrol, 4, lunOf (key / 2 ^ 12), false, false, 0, false⟩ s else promote c id s
  | none => promote c id s

/-- Where a codeword has too many bit errors (R307): a tier F stripe is relocated, a system block rewritten into its pair,
and for a generation of the live chain a consolidation starts. -/
def relocate (c : ChanId) (h : Holds) (s : State) : State :=
  let counted := onNand (fun n => { n with relocations := satInc n.relocations }) s
  match h with
  | .stripe i _ => relocateStripe i counted
  | .anchor => arrive c ⟨opCopy, 2, 0, true, true, 0, true⟩ (onChan c (fun ch => { ch with copying := true }) counted)
  | .table => writeTable c counted
  | .frames _ _ => startCons counted
  | .map _ _ => startCons counted
  | .other _ => startCons counted
  | .nothing => s

/-- A loss record for a generation of the live chain, in the anchors of its commit pair: source 41. -/
def lossRecord (gen : Nat) (ls : List Loss) (s : State) : State := raise 41 (noteLosses gen ls s)

/-- The copy of a lost anchor record: the same record, readable on another live channel, is programmed here again. -/
def rewriteRecord (a : Nat) (s : State) : State :=
  match cellsAt s.nand a with
  | some r =>
    if (liveChans s).any fun d => decide (d ≠ chanAt a) && (recordsOf (recordKey s) s.nand.chans[d]).contains r
    then (anchorWrite (chanAt a) r s).2 else s
  | none => s

/-- What patrol does for an unrecovered unit (Table 9-5). -/
def unrecovered (a : Nat) (h : Holds) (s : State) : State :=
  let s := raise (49 + 4 * (chanAt a).val) (onNand (fun n => { n with
    unrecovered := satInc n.unrecovered, reported := (chanAt a, keyAt a) :: n.reported }) s)
  match h with
  | .stripe i j => tilesLost i j s
  | .frames g fs => lossRecord g (lossesOf fs 1) s
  | .map g ks => lossRecord g (lossesOf (keyRange s ks) 2) s
  | .anchor => rewriteRecord a s
  | .table => writeTable (chanAt a) s
  | .other _ => s
  | .nothing => s

/-- What patrol does with what a read found. -/
def patrolled (a : Nat) (r : UnitRead) (s : State) : State :=
  let h := holdsAt s a
  let s := noteRead a r s
  match worstWord (pv s 0x5000 0xA) r with
  | some n => if pv s 0x5020 3 < n then relocate (chanAt a) h s else s
  | none =>
    if rebuildable s a then rebuilt h s
    else if s.nand.reported.contains (chanAt a, keyAt a) then s
    else unrecovered a h s

/-- Work that patrol has besides (R310, R315): stripes with a unit on a dead channel, and the least-erased block of a region
whose counts lie too far apart, are moved. -/
def tilesInBlock (s : State) (c : ChanId) (b : Nat) : List Nat :=
  (s.tiers.tiles.filter fun p => match p.2.f with
    | some f => f.units.any fun u => match unitPage s.nand u with
      | some a => decide (chanAt a = c) && decide (blockOf a = b)
      | none => false
    | none => false).map (·.1)
def levelWear (c : ChanId) (s : State) : State :=
  let ch := s.nand.chans[c]
  let s := match wornApart ch c ch.regionF (pv s 0x5000 5) with
    | some b => (tilesInBlock s c b).foldl (fun (s : State) k => relocateTile k s) s
    | none => s
  match wornApart ch c ch.region (pv s 0x5000 4) with
  | some b => if inChain s (blockAt ch c b).owner then startCons s else s
  | none => s
def leaveDead (s : State) : State :=
  ((s.tiers.tiles.filter fun p => match p.2.f with | some f => onDead s f | none => false).map (·.1)).foldl
    (fun (s : State) k => relocateTile k s) s

/-- Where patrol stands after a page: the pass ends with the last needed page of every live channel. Progress reads 1000 at
its end, until the next pass reads a page. -/
def passGoesOn (c : ChanId) (key : Nat) (s : State) : State :=
  let s := onChan c (fun ch => { ch with patrolAt := key + 1 }) s
  let all := (liveChans s).flatMap fun d => (neededPages s d).map fun k => decide (k < (s.nand.chans[d]).patrolAt)
  let done := (all.filter id).length
  let permille := if all.isEmpty then 1000 else 1000 * done / all.length
  let s := onNand (fun n => { n with progress := BitVec.ofNat 16 permille }) s
  if (liveChans s).all fun d => (patrolNext s d).isNone then
    onNand (fun n => { n with progress := 1000, passes := satInc n.passes, reported := [],
                              chans := updAll n.chans (fun _ ch => { ch with patrolAt := 0 }) }) s
  else s

/-- Patrol reads the next page, in RUN only (R306). -/
def patrolStep (c : ChanId) (r : UnitRead) (s : State) : State :=
  match patrolNext s c with
  | none => s
  | some key =>
    if s.sys.st ≠ .run || !patrolMay s.nand.chans[c] (lunOf (key / 2 ^ 12)) then s
    else passGoesOn c key (leaveDead (levelWear c (patrolled (addressOf c key) r (depart c opPatrol s))))

/-! ## Dead channels (R309 to R314) -/

/-- The stripe width of what is written from now on; the stripe of tier F being filled is closed where the live channels
are others than its own (R310, R314). -/
def updateWidth (s : State) : State :=
  let live := liveChans s
  onNand (fun n =>
    let n := { n with width := if decide (live.length = 8) then 7 else 6 }
    if n.openStripe.isSome && decide ((currentStripe live n).2.live ≠ live) then closeOpen n else n) s

/-- A channel that is dead does nothing more: source 48 + 4c. -/
def markDead (c : ChanId) (cause : Byte) (s : State) : State :=
  raise (48 + 4 * c.val) (onChan c (fun ch => { ch with
    state := 2, cause := cause, mark := if cause = 1 then ch.mark else cause, queue := [], erases := [], copying := false,
    cacheLun := none }) s)

/-- A channel declared dead while the module runs; every live table takes its mark for causes 2 to 4. -/
def declareDead (c : ChanId) (cause : Byte) (s : State) : State :=
  let s := markDead c cause s
  updateFits (updateWidth (if cause = 1 then s else writeTables s))

/-- A cause of R309 holds: a failed self-test for 1, too little spare for 4; 2 and 3 are the devices' own. -/
def deadCause (s : State) (c : ChanId) (cause : Nat) : Bool :=
  if cause = 1 then s.sys.selfTest.getLsbD (8 + c.val) else if cause = 4 then spareLow s c else decide (cause ≠ 0)

/-- What a dead channel means for the state (R268, R281, R311, R313). -/
def afterDead (s : State) : State :=
  let two := decide (2 ≤ (deadChans s).length)
  match s.sys.st with
  | .run => if two then enterFault 4 0x0C s else s
  | .expose => match s.neg.exp with
    | some e =>
      let committed := decide (e.phase = .returning) || decide (e.phase = .leaving)
      if two && !committed then persistenceFault 6 s
      else onNeg (fun n => { n with exp := n.exp.map fun e => { e with degraded := e.degraded || !committed } }) s
    | none => s
  | .develop => if two then persistenceFault 7 s else s
  | .dark => s | .boot => s | .setup => s | .hold => s | .fault => s

/-- The commands of boot and bus training on a channel (Table 9-2). -/
def bootCommands (s : State) : List Onfi :=
  [.reset, .readId, .readParameterPage, .setFeatures (pv s 0x5000 6) none, .odtConfigure, .volumeSelect, .zqLong,
    .readDqTraining, .writeDqTrainingTx, .writeDqTrainingRx]

/-- One channel after the self-test (R92, R314, R478): dead by its bit or its mark, else live, its blocks as its table
gives them. -/
def channelTested (result : U16) (s : State) (c : ChanId) : State :=
  let s := giveCommands c (bootCommands s) s
  if result.getLsbD (8 + c.val) then markDead c 1 s
  else if (s.nand.chans[c]).mark ≠ 0 then onChan c (fun ch => { ch with state := 2, cause := ch.mark }) s
  else onChan c (fun ch => loadTable (blocksOf s) c { ch with state := 1, cause := 0 }) s

/-- NAND is blank where no live channel has a valid table (R296). -/
def noTables (s : State) : Bool := (liveChans s).all fun c => (authoritativeTable s.nand.chans[c] c).isNone
def channelsTested (result : U16) (s : State) : State :=
  let s := updateWidth ((List.finRange 8).foldl (channelTested result) s)
  onNand (fun n => { n with blank := noTables s, grownCount := BitVec.ofNat 32 (grownBlocks n) }) s

/-- A write of 1 to 0x5010.0B in SETUP: the marks go, in every live table. -/
def clearMarks (s : State) : State :=
  writeTables (onNand (fun n => { n with chans := updAll n.chans (fun _ ch => { ch with mark := 0 }) }) s)

/-! ## Regions (R292, R293, R296) -/

/-- The regions of a size in percent; on blank NAND tier F reads 0 until its tables are built. -/
def setRegions (percent : Nat) (s : State) : State :=
  let ids := blocksOf s
  let k := regionBlocks s percent
  let s := onChans (liveChans s) (fun c ch => regionsOf ids k c ch) s
  updateLife (onNand (fun n => { n with
    regionPct := percent, negBytes := BitVec.ofNat 64 (regionBytes s percent),
    tierFBytes := if n.blank then 0 else BitVec.ofNat 64 (capacityF s) }) s)

/-- Blank NAND is set up after SETUP entry: not in BOOT, nor in a FAULT entered from it. -/
def buildsBlank (s : State) : Bool :=
  s.nand.blank && s.sys.mainOn && decide (s.sys.st ≠ .boot) && !(decide (s.sys.st = .fault) && decide (s.sys.prev = .boot))

/-- The system blocks of a channel: the first four good blocks of its anchor LUN. -/
def systemBlocks (ids : List Nat) (c : ChanId) (ch : Channel) : Channel :=
  match ids.filter fun b => decide (lunOf b = 0) && freeBlock ch c b with
  | a :: b :: t :: u :: _ =>
    [a, b, t, u].foldl (fun ch x => onBlock c x (fun y => { y with use := 3 }) ch) { ch with anchor := [a, b], tables := [t, u] }
  | _ => ch

/-- The tables of blank NAND are built and the regions allocated, at the size in force since SETUP entry; tier F writes go
on. -/
def blankBuilt (s : State) : State :=
  if !buildsBlank s then s
  else
    let ids := blocksOf s
    let s := onNand (fun n => { n with blank := false }) (onChans (liveChans s) (systemBlocks ids) s)
    placeWaiting (updateFits (writeTables (setRegions s.nand.regionPct s)))

/-- A write to 0x5030.01 that R293 refuses: the region does not fit in the free and Negative blocks of a live channel, or
not the live chain's blocks in the region. -/
def chainBlocks (s : State) (c : ChanId) : Nat :=
  ((s.nand.chans[c]).blocks.filter fun p => decide (p.2.use = 1) && inChain s p.2.owner).length
def regionRefused (s : State) (percent : Nat) : Bool :=
  let k := regionBlocks s percent
  (liveChans s).any fun c =>
    decide ((negCandidates (blocksOf s) c s.nand.chans[c]).length < k) || decide (k < chainBlocks s c)

end Sys2Proof.Machine
end

