-- ==== Sys2Proof/Machine/Security.lean ====
section
/-! DEFINITION. Security (R490 to R507): keys and the binding token, sessions, firmware images, sanitize. -/

namespace Sys2Proof.Machine

/-- Security changed. -/
def onSec (f : Sec → Sec) (s : State) : State := { s with sec := f s.sec }

/-! ## Keys (Table 17-1) -/

/-- A new epoch secret with a binding, or with none. -/
def newStore (s : State) (token : Option (List Byte)) : KeyStore :=
  let e := Config.random s.free
  ⟨e, token.map (verifierOf s e), sessionKeyOf (token.getD zeroToken)⟩

/-! ## Sessions (R497, R498) -/

/-- A session closes: source 145 where it was open. -/
def closeSession (s : State) : State :=
  let open_ := decide (s.sec.session = 2)
  let s := onSec (fun x => { x with session := 0, challenge := none }) s
  if open_ then raise 145 s else s

/-- AUTH_FAILED is returned: source 146. -/
def authFails (s : State) : Abort × State := (.authFailed, raise 146 s)

/-- A read of 0xA020.01: 32 random bytes, and the session state 1. -/
def readChallenge (s : State) : Abort × List Byte × State :=
  if s.sec.locked then (.authFailed, [], raise 146 s)
  else
    let c := leBytes 32 (Config.random s.free).toNat
    let s := closeSession s
    (.done, c, drew (onSec (fun x => { x with session := 1, challenge := some c, challengeAt := s.sys.aonTime.toNat }) s))

/-- What a response must carry: HMAC-SHA-256 under S of the challenge and the serial number. -/
def responseFor (s : State) (c : List Byte) : List Byte := hmac s.sec.keys.session (c ++ leBytes 16 s.ident.serial.toNat)

/-- A response is right and in time. -/
def responseGood (s : State) (mac : List Byte) : Bool :=
  match s.sec.challenge with
  | none => false
  | some c => decide (s.sec.session = 1) && decide (s.sys.aonTime.toNat ≤ 10000000 + s.sec.challengeAt)
      && decide (mac = responseFor s c)

/-- A write of 0xA020.02. -/
def writeResponse (mac : List Byte) (s : State) : Abort × State :=
  if responseGood s mac then
    (.done, raise 144 (onSec (fun x => { x with session := 2, challenge := none, failures := 0 }) s))
  else
    let s := closeSession s
    authFails (onSec (fun x => { x with
      failures := x.failures + 1, locked := x.locked || decide (3 ≤ x.failures + 1), authFailures := satInc x.authFailures }) s)

/-- The 60 s of a lockout end. -/
def lockoutEnds (s : State) : State := onSec (fun x => { x with locked := false, failures := if x.locked then 0 else x.failures }) s

/-! ## The binding (R493 to R495) -/

/-- The binding state set: a change is source 147 and closes an open session. -/
def setBinding (b : Byte) (key : U32) (s : State) : State :=
  let changed := decide (s.sec.binding ≠ b)
  let s := onSec (fun x => { x with binding := b, keyId := key }) s
  if changed then raise 147 (closeSession s) else s

/-- The binding state at SETUP entry. -/
def bindingAtSetup (s : State) : State :=
  match s.sec.keys.verifier with
  | none => setBinding 3 0 s
  | some v => if v = verifierOf s s.sec.keys.secret zeroToken then
      setBinding 1 (keyIdOf s s.sec.keys.secret zeroToken) s
    else setBinding 0 0 s

/-- A write of 0xA010.01 in SETUP. -/
def presentToken (token : List Byte) (s : State) : Abort × State :=
  if s.sys.st ≠ .setup then (.deviceState, s)
  else if 8 ≤ s.sec.tokenWrites then authFails s
  else
    let v := verifierOf s s.sec.keys.secret token
    let id := keyIdOf s s.sec.keys.secret token
    let s := onSec (fun x => { x with token := some token, tokenWrites := x.tokenWrites + 1 }) s
    let s := match s.sec.keys.verifier with
      | some r => if r = v then setBinding 1 id s else setBinding 2 0 s
      | none =>
        let s := onSec (fun x => { x with keys := { x.keys with verifier := some v, session := sessionKeyOf token } }) s
        setBinding 1 id (flashKick (queueJob (.keys false) [] s))
    (.done, setStatus s)

/-- SETUP is left for RUN (R495). -/
def rebind (s : State) : State :=
  if s.sec.binding = 1 then s
  else if s.sec.binding = 3 then
    let s := onSec (fun x => { x with keys := { x.keys with
      verifier := some (verifierOf s x.keys.secret zeroToken), session := sessionKeyOf zeroToken } }) s
    setBinding 1 (keyIdOf s s.sec.keys.secret zeroToken) (flashKick (queueJob (.keys false) [] s))
  else
    let token := if s.sec.binding = 2 then s.sec.token.getD zeroToken else zeroToken
    let k := newStore s (some token)
    let s := drew (onSec (fun x => { x with keys := k }) s)
    setBinding 1 (keyIdOf s k.secret token) (flashKick (queueJob (.keys false) [] (tiersReleased s)))

/-- A key store copy of sector 26 or 27 as a load finds it: an uncorrectable word fails it (R183). Its bytes are one page
(assumption 6). -/
def keyCopy (errs : WordErrors) (sec : Nat) (c : Option KeyStore) : Option KeyStore :=
  if readFinds errs true (sec * 65536) 256 then none else c

/-- The key store loaded at BOOT step 5 (R491): copy 0, or copy 1 where it fails. -/
def loadKeys (errs : WordErrors) (s : State) : State :=
  let c0 := keyCopy errs 26 s.sec.copy0
  let s := countRead errs (26 * 65536) 256 (readSuspends 26 s)
  let s := if c0.isSome then s else countRead errs (27 * 65536) 256 s
  match c0, keyCopy errs 27 s.sec.copy1 with
  | some k, _ => onSec (fun x => { x with keys := k }) s
  | none, some k => onSec (fun x => { x with keys := k }) s
  | none, none => drew (onSec (fun x => { x with keys := newStore s none }) s)

/-! ## Firmware (R499 to R503) -/

/-- The first byte of an image, and the image that an update writes. -/
def imageBase (b : Bool) : Nat := if b then 16 * 65536 else 2 * 65536
def updateImage (s : State) : Bool := !s.flash.fwSelect

/-- Fields of an image in option flash. -/
def imageField (s : State) (b : Bool) (off : Nat) : Nat := leNat (flashBytes s (imageBase b + off) 4)

/-- Layout, key and signature hold (R499 but its last line), and the version is not below the rollback level. -/
def imageSound (s : State) (b : Bool) : Bool :=
  let len := imageField s b 0xC
  let key := flashBytes s (imageBase b + 0x20) 97
  decide (imageField s b 0 = 0x4946575A) && decide (256 + len + 96 ≤ 524288)
    && decide (sha384 key = leBytes 48 Config.vendorKeyHash.toNat)
    && signatureHolds key (flashBytes s (imageBase b) (256 + len)) (flashBytes s (imageBase b + 256 + len) 96)
def imageRecent (s : State) (b : Bool) : Bool := decide (s.ident.rollback.toNat ≤ imageField s b 4)
def imageValid (s : State) (b : Bool) : Bool := imageSound s b && imageRecent s b

/-- The bytes of an image that its verification reads: code and signature where they fit, the header at least. -/
def imageSpan (s : State) (b : Bool) : Nat :=
  let n := 256 + imageField s b 0xC + 96
  if n ≤ 524288 then n else 256

/-- An image whose verification meets an uncorrectable word fails it (R183); the words it reads are counted. -/
def imageReads (errs : WordErrors) (s : State) (b : Bool) : Bool := !readFinds errs true (imageBase b) (imageSpan s b)
def countImage (errs : WordErrors) (b : Bool) (s : State) : State := countRead errs (imageBase b) (imageSpan s b) s

/-- The image that runs: the one FW_SELECT names, else the other. -/
def imageToRun (errs : WordErrors) (s : State) : Option Bool :=
  let good := fun (b : Bool) => imageValid s b && imageReads errs s b
  if good s.flash.fwSelect then some s.flash.fwSelect
  else if good (!s.flash.fwSelect) then some (!s.flash.fwSelect) else none

/-- 0xA030.03 follows the image that is not selected. -/
def inactiveNow (errs : WordErrors) (s : State) : State :=
  let b := updateImage s
  onSec (fun x => { x with inactiveVersion := if imageValid s b && imageReads errs s b then BitVec.ofNat 32 (imageField s b 4) else 0 }) s

/-- 0xA030.02 changes: source 148. -/
def setUpdate (v : Byte) (s : State) : State :=
  if s.sec.update = v then s else raise 148 (onSec (fun x => { x with update := v }) s)

/-- The LAST segment has been programmed: the image is verified. A refused value abandons the transfer (R458). -/
def verifyUpdate (errs : WordErrors) (s : State) : Abort × State :=
  let b := updateImage s
  let a : Abort := if !imageSound s b || !imageReads errs s b then .signatureInvalid else if !imageRecent s b then .versionRollback else .done
  let s := inactiveNow errs (countImage errs b s)
  if a = .done then (a, setUpdate 3 (onSec (fun x => { x with readyB := b }) s))
  else (a, raise 156 (setUpdate 4 { s with bus := { s.bus with abandonedSegs := satInc s.bus.abandonedSegs } }))

/-- A write of 1 to 0xA030.04 (R502). -/
def activate (s : State) : Abort × State :=
  if s.sec.session ≠ 2 then (.sessionRequired, s)
  else if s.sec.update ≠ 3 then (.valueRange, s)
  else (.done, requestCommit (onFlash (fun f => { f with fwSelect := s.sec.readyB }) s))

/-- The rollback level advances at SETUP entry (R503); an inactive image below it is no valid one. -/
def advanceRollback (s : State) : State :=
  let level := BitVec.ofNat 32 (imageField s s.sec.running 8)
  if level ≤ s.ident.rollback then s
  else if s.ident.rollbackRows < 32 then
    onSec (fun x => { x with inactiveVersion := if level ≤ x.inactiveVersion then x.inactiveVersion else 0 })
      { s with ident := { s.ident with rollback := level, rollbackRows := s.ident.rollbackRows + 1 } }
  else raise 150 s

/-! ## Sanitize (R504) -/

/-- A write of 0xA040.01. One that meets a sanitize under way starts no second one. -/
def sanitizeFrom (code : U32) (s : State) : Abort × State :=
  if s.sys.st ≠ .setup && s.sys.st ≠ .fault then (.deviceState, s)
  else if s.sec.session ≠ 2 then (.sessionRequired, s)
  else if code ≠ 0x53414E49 then (.valueRange, s)
  else if s.sec.sanitizeState = 1 then (.done, s)
  else (.done, flashKick (queueJob (.keys true) [] (onSec (fun x => { x with sanitizeState := 1 }) s)))

/-- Step 2 has ended: no copy holds the old secret; a new one, no binding and state 3 are what step 3 programs. -/
def sanitized (s : State) : State :=
  let k := newStore s none
  let s := drew (onSec (fun x => { x with
    keys := k, writing := k, token := none, sanitizeState := 2, sanitizeCount := satInc x.sanitizeCount, blocksOwed := true }) s)
  setStatus (raise 149 (setBinding 3 0 s))

/-- Steps 4 and 5: every Negative and tier F block is free, the tray and private DRAM are empty. -/
def releaseBlocks (s : State) : State :=
  if !s.sec.blocksOwed || !s.sys.mainOn then s
  else
    let s := onSec (fun x => { x with blocksOwed := false }) (tiersReleased s)
    setStatus (freeGens (fun _ => true) (onNeg (fun n => { n with gens := [], cons := none }) s))

end Sys2Proof.Machine
end

