-- ==== Sys2Proof/Machine/FlashEvents.lean ====
section
/-! DEFINITION. What ends in option flash and what reaches it from the host: page programs, erases, suspensions, queue
timeouts, commits and repairs (R178 to R209, R463), raw access and the two segmented writes that are programmed as they
arrive (R196, R501). -/

namespace Sys2Proof.Machine

/-! ## Reads of the array (R183, R184, R196, R199, R201 to R204, R208) -/

/-- The raw address, its sector, and the bytes from it to the end of the sector. -/
def rawSector (s : State) : Nat := s.flash.rawAddr.toNat / 65536
def rawLeft (s : State) : Nat := 65536 - s.flash.rawAddr.toNat % 65536

/-- The record before the authoritative one, 0xB010.02. -/
def previousLog (s : State) : Option (Nat × Nat × Nat) :=
  (authoritative s).bind fun a => newestBelow (logRecords s) a.1

/-- The bytes of the array that a DOMAIN shows, as first byte and length: raw data, the active bank of the program store, a
log record; none where there is no such record. -/
def flashArea (s : State) (i b : Nat) : Nat × Nat :=
  if i = 0x4020 then (s.flash.rawAddr.toNat, rawLeft s)
  else if i = 0x2200 then ((if s.flash.progBank then 25 else 24) * 65536, 32768)
  else match (if b = 1 then authoritative s else previousLog s) with
    | some r => (r.2.1 * 65536 + r.2.2 * 256, 768)
    | none => (0, 0)

/-- How a segmented read ends: done with its bytes, waiting for the array, or refused. -/
inductive RawAnswer where
  | bytes (total : Nat) (data : List Byte)
  | waits
  | no (a : Abort)
  deriving DecidableEq, Repr

/-- A read carried out: its check bits are counted, and a raw read leaves its result and moves the address on (R183, R184,
R208, R209). -/
def takeArray (q : FlashRead) (s : State) : RawAnswer × State :=
  let area := flashArea s q.index q.sub
  let at_ := area.1 + q.off
  let n := min q.len (area.2 - q.off)
  let t := countRead q.errs at_ n s
  if readFinds q.errs true at_ n then (.no .flashUncorrectable, t)
  else (.bytes area.2 (flashBytes s at_ n),
    if q.index = 0x4020 then onFlash (fun f => { f with
      rawResult := if touchesInvalid s at_ n then 1 else 0,
      rawAddr := BitVec.ofNat 32 ((f.rawAddr.toNat + n) % 2097152) }) t
    else t)

/-- A read of the array: it suspends an erase in its bank, is refused in a sector whose erase is suspended or aborted, and
waits while its bank is programmed or an erase in it cannot be suspended yet (R199, R202, R203). -/
def readArray (q : FlashRead) (s : State) : RawAnswer × State :=
  let area := flashArea s q.index q.sub
  if area.2 < q.off then (.no .valueRange, s)
  else if area.2 = 0 then (.bytes 0 [], s)
  else
    let sec := area.1 / 65536
    let s := readSuspends sec s
    if readBusy s sec then (.no .sectorBusy, onFlash (fun f => { f with refused := satInc f.refused }) s)
    else if readWaits s sec then (.waits, onFlash (fun f => { f with readWait := some q }) s)
    else takeArray q s

/-- A waiting read is served on the bus once the array lets it. -/
def serveWaiting (s : State) : State :=
  match s.flash.readWait with
  | none => s
  | some q =>
    let r := readArray q (onFlash (fun f => { f with readWait := none }) s)
    match r.1 with
    | .waits => r.2
    | .no a => flashReply a r.2
    | .bytes total data =>
      flashReply .done { r.2 with bus := { r.2.bus with
        resp := [0] ++ leBytes 2 data.length ++ leBytes 4 total ++ data } }

/-- A waiting read that has not been served after 2 s (R204). -/
def readTimeout (s : State) : State :=
  match s.flash.readWait with
  | none => s
  | some _ => flashReply .flashBusy (onFlash (fun f => { f with readWait := none }) s)

/-! ## The end of a job -/

/-- A job has no operation left: what it was for is done. A commit and a log write wait for their own rows; the program
store's last job makes its bank ready for the next commit, where every other one of the transfer was done (R197). -/
def jobEnds (j : FlashJob) (errs : WordErrors) (s : State) : State :=
  match j.kind with
  | .commit => s
  | .log _ => s
  | .repair _ => raise 165 (onFlash (fun f => { f with repair := 2 }) (dropJob j.id s))
  | .raw => flashReply .done (onFlash (fun f => { f with rawResult := 0 }) (dropJob j.id s))
  | .store last => flashReply .done (onFlash (fun f => { f with storeReady := f.storeReady || (last && f.storeSound) })
      (dropJob j.id s))
  | .keys sanitize => (if sanitize then releaseBlocks else id) (dropJob j.id s)
  | .image =>
    if s.sec.update = 2 then (let r := verifyUpdate errs (dropJob j.id s); flashReply r.1 r.2)
    else flashReply .done (dropJob j.id s)

/-- The key store copy of a sector holds what its rewrite programs. -/
def copyWritten (sec : Nat) (s : State) : State :=
  onSec (fun x => { x with
    copy0 := if sec = 26 then some x.writing else x.copy0, copy1 := if sec = 27 then some x.writing else x.copy1 }) s
def copyErased (sec : Nat) (s : State) : State :=
  onSec (fun x => { x with copy0 := if sec = 26 then none else x.copy0, copy1 := if sec = 27 then none else x.copy1 }) s

/-- An operation of a job has ended; a read that waited goes before the work that is queued (R204). -/
def afterOp (id : Nat) (errs : WordErrors) (s : State) : State :=
  let s := opEnded id s
  let s := match jobOf s id with
    | none => s
    | some j =>
      let s := match j.kind, j.ops with
        | .commit, .erase 1 :: _ => onFlash (fun f => { f with copyOneDone := true }) s
        | _, _ => s
      if j.ops.isEmpty then jobEnds j errs s else s
  flashKick (serveWaiting s)

/-- A page program ends (R178 to R181): the page is VALID, the write pointer lies behind it. -/
def pageEnds (b : Fin 2) (errs : WordErrors) (s : State) : State :=
  match s.flash.prog[b] with
  | none => s
  | some p =>
    let keys := match jobOf s p.job with | some j => (match j.kind with | .keys _ => true | _ => false) | none => false
    let data := if keys then keyPage s s.sec.writing else p.data
    let s := onFlash (fun f => { f with
      pages := aput f.pages (pageKey p.sector.val p.page.val) ⟨data, true⟩,
      sectors := upd f.sectors p.sector (fun x => { x with wptr := max x.wptr (p.page.val + 1) }),
      prog := upd f.prog b (fun _ => none) }) s
    afterOp p.job errs (if keys then copyWritten p.sector.val s else s)

/-- A sector erase ends (R180, R182): every page is ERASED. -/
def eraseDone (s : State) : State :=
  match s.flash.erase with
  | none => s
  | some e =>
    if e.suspended then s
    else
      let s := onFlash (fun f => { f with
        pages := f.pages.filter (fun p => decide (p.1 / 256 ≠ e.sector.val)),
        sectors := upd f.sectors e.sector (fun x => { x with wptr := 0, unerased := none }),
        erase := none }) s
      let s := copyErased e.sector.val s
      let wipes := match jobOf s e.job with
        | some j => (match j.kind with | .keys z => z && decide (e.sector = 26) | _ => false)
        | none => false
      afterOp e.job [] (if wipes then sanitized s else s)

/-- A suspended erase resumes once no program runs and no read waits (R203). -/
def eraseGoesOn (s : State) : State :=
  match s.flash.erase with
  | none => s
  | some e =>
    if e.suspended && s.flash.prog[(0 : Fin 2)].isNone && s.flash.prog[(1 : Fin 2)].isNone && s.flash.readWait.isNone then
      flashKick (onFlash (fun f => { f with erase := some { e with suspended := false, holdoff := true, programs := 0 } }) s)
    else s

/-- 1 ms after the resume a suspend that waited takes effect. -/
def holdoffOver (s : State) : State :=
  match s.flash.erase with
  | none => s
  | some e =>
    if !e.holdoff then s
    else
      let e := { e with holdoff := false, wanted := false, suspended := e.suspended || e.wanted }
      flashKick (serveWaiting (onFlash (fun f => { f with erase := some e }) s))

/-- A queued request that has not started after 2 s (R204), or the waiting read; a key store rewrite stays queued. -/
def queueTimeout (id : Option Nat) (s : State) : State :=
  match id.bind (jobOf s) with
  | none => if id.isNone then readTimeout s else s
  | some j => if j.started then s else match j.kind with
    | .keys _ => s
    | _ => refuseJob j .flashBusy s

/-! ## Commits and repairs (R188 to R191, R463) -/

/-- A write of 1 to 0x4030.01. -/
def commitAsked (s : State) : Abort × State :=
  if optionProtected s then (.writeProtected, s) else (.done, requestCommit s)

/-- The commit timer: it runs from P writes accepted since the last commit began. -/
def commitTimed (s : State) : State := if s.flash.dirtySince then requestCommit s else s

/-- The mask and the program bank that a completed commit wrote are in force from its end on (R192, R197; assumption
23). -/
def blockInForce (s : State) : State :=
  let bank := decide (leNat (flashBytes s 0x14 1) = 1)
  onFlash (fun f => { f with
    protMask := BitVec.ofNat 32 (leNat (flashBytes s 0x10 4)), progBank := bank,
    storeReady := f.storeReady && decide (bank ≠ f.storeBank) }) s

/-- A commit whose pages have all been programmed ends. -/
def commitDone (s : State) : State :=
  match s.flash.jobs.find? fun j => decide (j.kind = .commit) && j.started && j.ops.isEmpty with
  | none => s
  | some j => flashKick (commitNow (blockInForce (commitEnded true (dropJob j.id s))))

/-- The stale copy is rewritten from the loaded one (R190). -/
def repairDue (s : State) : Option (Fin 2) :=
  if s.sys.optCopy = 0 && copyStale s 0 1 then some 1
  else if s.sys.optCopy = 1 && copyStale s 1 0 then some 0 else none
def repairStarts (s : State) : State :=
  if !inSRF s || bootFault s || s.flash.jobs.any fun j => (match j.kind with | .repair _ => true | _ => false) then s
  else match repairDue s with
    | some c => flashKick (queueJob (.repair c) [] (onFlash (fun f => { f with repair := 1 }) s))
    | none => s

/-- A log record has been programmed (R161): source 23. -/
def logDone (s : State) : State :=
  match s.flash.jobs.find? fun j => (match j.kind with | .log _ => true | _ => false) && j.started && j.ops.isEmpty with
  | none => s
  | some j =>
    flashKick (raise 23 (dropJob j.id s))

/-! ## Raw access (R177, R208, R209) -/

/-- What Table 6-1 lets the host do with a sector: the abort of a read, and of a program or erase. -/
def rawReadAllowed (sec : Nat) : Abort :=
  if sec = 26 || sec = 27 then .accessDenied else if sec = 30 then .valueRange else .done
def rawWriteAllowed (s : State) (sec : Nat) : Abort :=
  if sec = 30 then .valueRange
  else if 10 ≤ sec && sec ≤ 15 then .done
  else if sec ≤ 1 && decide (s.sys.st = .fault) && s.sys.faultCause = 1 then .done
  else .accessDenied

/-- The states of raw access. -/
def rawState (s : State) (reading : Bool) : Bool := inSRF s || (reading && decide (s.sys.st = .hold))

/-- A raw read of up to `len` bytes at an offset. -/
def readRaw (off len : Nat) (errs : WordErrors) (s : State) : RawAnswer × State :=
  let a := rawReadAllowed (rawSector s)
  if !rawState s true then (.no .deviceState, s)
  else if rawLeft s < off then (.no .valueRange, s)
  else if a ≠ .done then (.no a, s)
  else readArray ⟨0x4020, 2, off, len, errs⟩ s

/-- A raw request refused: 0x4020.04 reads REFUSED. -/
def rawRefused (a : Abort) (s : State) : Abort × State := (a, onFlash (fun f => { f with rawResult := 3 }) s)

/-- A raw job queued; the host's response waits for its end. -/
def rawJob (ops : List FlashPrim) (resp : List Byte) (s : State) : State :=
  flashKick (queueJob .raw ops { s with bus := { s.bus with busy := true, resp := resp } })

/-- A write of 0x4020.02: whole pages from the raw address. -/
def programRaw (data : List Byte) (resp : List Byte) (s : State) : Abort × State :=
  let a := rawWriteAllowed s (rawSector s)
  if !rawState s false then (.deviceState, s)
  else if s.flash.rawAddr.toNat % 256 ≠ 0 then rawRefused .valueRange s
  else if data.length = 0 || rawLeft s < data.length then rawRefused .lengthMismatch s
  else if a ≠ .done then rawRefused a s
  else (.done, rawJob (programs (rawSector s) (s.flash.rawAddr.toNat % 65536 / 256) data) resp s)

/-- A write of a sector to 0x4020.03. -/
def eraseRaw (sec : Byte) (resp : List Byte) (s : State) : Abort × State :=
  if !rawState s false then (.deviceState, s)
  else if 31 < sec.toNat then (.valueRange, s)
  else
    let a := rawWriteAllowed s sec.toNat
    if a ≠ .done then rawRefused a s
    else (.done, rawJob [.erase (sectorFin sec.toNat)] resp s)

/-! ## Segments that are programmed as they arrive (R196, R501) -/

/-- The pages that a segment completes, and what is left of it for the next one; the last segment leaves nothing. -/
def segmentPages (g : OpenSeg) (data : List Byte) (last : Bool) : List Byte × List Byte :=
  let all := g.data ++ data
  let n := if last then all.length else all.length / 256 * 256
  (all.take n, all.drop n)

/-- The byte of the area at which those pages begin. -/
def segmentBase (g : OpenSeg) : Nat := g.taken - g.data.length

/-- Programs over the sectors of an area that begins at a sector. -/
def areaPrograms (sec base : Nat) (bs : List Byte) : List FlashPrim :=
  (toPages 2048 bs).zipIdx.map fun p =>
    let page := base / 256 + p.2
    .program (sectorFin (sec + page / 256)) (Fin.ofNat 256 (page % 256)) p.1

/-- Work for the flash, for which the response waits; a segment that gives none is answered at once. -/
def segmentJob (kind : FlashKind) (ops : List FlashPrim) (s : State) : State :=
  if ops.isEmpty then s else flashKick (queueJob kind ops { s with bus := { s.bus with busy := true } })

/-- The sector of a bank of the program store. -/
def storeSector (bank : Bool) : Nat := if bank then 25 else 24

/-- A transfer of 0x2200 opened: it goes to the bank that is inactive now, and a transfer that had ended before is gone
(R196, R197). -/
def storeOpened (s : State) : State :=
  onFlash (fun f => { f with storeReady := false, storeBank := !f.progBank, storeSound := true }) s

/-- A segment of 0x2200: with the first one the bank is erased, with the last one it waits for a commit (R197). -/
def storeSegment (g : OpenSeg) (data : List Byte) (last : Bool) (s : State) : OpenSeg × State :=
  let p := segmentPages g data last
  let s := if g.taken = 0 then storeOpened s else s
  let sec := storeSector s.flash.storeBank
  let erase := if g.taken = 0 then [FlashPrim.erase (sectorFin sec)] else []
  ({ g with taken := g.taken + data.length, data := p.2 },
    segmentJob (.store last) (erase ++ areaPrograms sec (segmentBase g) p.1) s)

/-- A segment of 0xA030.01: the image that FW_SELECT does not name is erased first, and is no valid one from then on; the last
segment is verified. -/
def imageSegment (g : OpenSeg) (data : List Byte) (last : Bool) (s : State) : OpenSeg × State :=
  let p := segmentPages g data last
  let sec := imageBase (updateImage s) / 65536
  let erase := if g.taken = 0 then (List.range 8).map fun i => FlashPrim.erase (sectorFin (sec + i)) else []
  let s := if g.taken = 0 then onSec (fun x => { x with inactiveVersion := 0 }) (setUpdate 1 s) else s
  let s := if last then setUpdate 2 s else s
  ({ g with taken := g.taken + data.length, data := p.2 },
    segmentJob .image (erase ++ areaPrograms sec (segmentBase g) p.1) s)

end Sys2Proof.Machine
end

