-- ==== Sys2Proof/Machine/Ports.lean ====
section
/-! DEFINITION. The tile ports (R379 to R414): queues, doorbells and halts, admission, the four request opcodes and their
completions, invalidation, BAR2, links and port resets. -/

namespace Sys2Proof.Machine

/-! ## When a port fetches (R383, R385, R390) -/

/-- READY: the port may fetch, in RUN and FAULT. -/
def portReady (s : State) : Bool := s.sys.mainOn && (decide (s.sys.st = .run) || decide (s.sys.st = .fault))

/-- The port fetches: FETCHING reads 1, the tier state is loaded (R345), and no disable waits for active requests (R385). -/
def fetching (s : State) (p : PortId) : Bool :=
  portReady s && s.tiers.ready && s.ports[p].enable && !s.ports[p].closing && !s.ports[p].halted && decide (s.ports[p].link = 3)

/-- A submission queue holds entries. -/
def ringHolds (r : Ring) : Bool := decide (r.size ≠ 0) && decide (r.head ≠ r.tail)

/-- The queue that the next entry comes from (R391): SQ0 until it has given ARB entries in a row, then one from SQ1. -/
def nextQueue (t : TilePort) : Option Bool :=
  match ringHolds t.sq0, ringHolds t.sq1 with
  | true, true => some (decide (t.arb.toNat ≤ t.burst))
  | true, false => some false
  | false, true => some true
  | false, false => none

/-- The next index of a ring. -/
def ringNext (r : Ring) (i : U16) : U16 := if r.size = 0 then 0 else BitVec.ofNat 16 ((i.toNat + 1) % r.size.toNat)

/-! ## Doorbells, halts, enable (R384, R385, R389, R393) -/

/-- A halt with a QERR code: source 113 + 4p. A port that is halted stays as it is. -/
def haltPort (p : PortId) (code : Byte) (s : State) : State :=
  if s.ports[p].halted then s
  else raise (113 + 4 * p.val) (onPort p (fun t => { t with
    halted := true, qerr := code, halts := satInc t.halts, lastQerr := code }) s)

/-- A doorbell of a queue: 0 and 1 the tails of SQ0 and SQ1, 2 the head of the CQ. -/
def doorbell (p : PortId) (q : Fin 3) (v : U16) (s : State) : State :=
  let t := s.ports[p]
  let size := if q = 0 then t.sq0.size else if q = 1 then t.sq1.size else t.cq.size
  if t.link ≠ 3 then s
  else if size ≤ v then haltPort p (BitVec.ofNat 8 (q.val + 2)) s
  else onPort p (fun t =>
    if q = 0 then { t with sq0 := { t.sq0 with tail := v } }
    else if q = 1 then { t with sq1 := { t.sq1 with tail := v } }
    else { t with cq := { t.cq with head := v } }) s

/-- A queue as R384 checks it: a size that is a power of two from 16 to 4096, a base aligned to 4 KiB. -/
def ringOk (r : Ring) : Bool :=
  [16, 32, 64, 128, 256, 512, 1024, 2048, 4096].contains r.size.toNat && decide (r.base.toNat % 4096 = 0)

/-- ENABLE written 1. -/
def enablePort (p : PortId) (s : State) : State :=
  let t := s.ports[p]
  if t.link ≠ 3 || t.enable then s
  else if ringOk t.sq0 && ringOk t.sq1 && ringOk t.cq then
    onPort p (fun t => { t with
      enable := true, halted := false, qerr := 0, phase := true, burst := 0,
      sq0 := { t.sq0 with head := 0, tail := 0 },
      sq1 := { t.sq1 with head := 0, tail := 0 },
      cq := { t.cq with head := 0, tail := 0 } }) s
  else onPort p (fun t => { t with qerr := 1, lastQerr := 1 }) s

/-- ENABLE written 0: it reads 0 once no request is active. -/
def disablePort (p : PortId) (s : State) : State :=
  if s.ports[p].link ≠ 3 || !s.ports[p].enable then s
  else if s.ports[p].active.isEmpty then onPort p (fun t => { t with enable := false, closing := false }) s
  else onPort p (fun t => { t with closing := true }) s

/-! ## Requests -/

/-- The active request of a tag: the one that holds it. -/
def reqOf (s : State) (p : PortId) (tag : U16) : Option Req :=
  (s.ports[p].active).find? fun r => r.heldTag && decide (r.tag = tag)

/-- One request changed, found by its admission number. -/
def onReq (p : PortId) (order : Nat) (f : Req → Req) (s : State) : State :=
  onPort p (fun t => { t with active := t.active.map fun r => if r.order = order then f r else r }) s

/-- A request ends: it stands behind those that ended before it (R401). -/
def endReq (p : PortId) (r : Req) (st : Status) (bytes : Nat) (detail : Nat) (proof : Bool) (s : State) : State :=
  let done := { r with ended := some ⟨statusCode st, BitVec.ofNat 32 bytes, BitVec.ofNat 16 detail, proof⟩ }
  onPort p (fun t => { t with active := (t.active.filter fun x => decide (x.order ≠ r.order)) ++ [done] }) s

/-- An earlier request that names the same tile and is still under way, where one of the two writes (R341, R397). -/
def behind (s : State) (p : PortId) (r : Req) : Bool :=
  (s.ports[p].active).any fun x => x.ended.isNone && decide (x.order < r.order) && namesTile x
    && decide (x.stream = r.stream) && decide (x.tile = r.tile) && (decide (x.op = 2) || decide (r.op = 2))

/-- A request waits for its stream to be sealed (R333), or for the tiles of a deleted stream of its number to be freed
(R335). -/
def sealWaits (s : State) (r : Req) : Bool :=
  (match r.entry with | some e => eSealed e && !s.tiers.sealed.contains r.stream | none => false) ||
    (match deletedAt s r.stream with | some n => decide (n < r.order) | none => false)

/-- No curator core is live (R356). -/
def noCore (s : State) : Bool := (nextCore s).isNone

/-- A tile whose only copy is in tier F. -/
def onlyInF (t : Tile) : Bool := t.s.isNone && t.d.isNone && t.f.isSome

/-- The tier F read of a tile queued at a class on the channels and LUNs that it needs (R301, R305), class 3 for a READ,
class 5 for a WRITE; taken out of the queues. -/
def queueRead (k cls due : Nat) (s : State) : State :=
  if onlyInF (tileAt s k) then
    ((((readableF (tileAt s k)).map (readPlaces s)).getD []).foldl
      (fun (s : State) q => arrive q.1 ⟨opRead k, cls, q.2, false, false, due, false⟩ s) s)
  else s
def unqueueRead (k : Nat) (s : State) : State := workEnds (opRead k) s

/-- The instant by which a READ is due, 0 where it has no deadline (R350). -/
def dueOf (r : Req) : Nat := if r.deadline = 0 then 0 else r.admitted + r.deadline

/-! ## Admission (R391, R395, R398; Tables 12-3 and 12-4) -/

/-- The request that a descriptor spells. -/
def reqFrom (bs : List Byte) (sq : Bool) (order now : Nat) : Req :=
  { tag := BitVec.ofNat 16 (fieldAt 2 2 bs), op := BitVec.ofNat 8 (fieldAt 0 1 bs),
    flags := BitVec.ofNat 8 (fieldAt 1 1 bs), stream := fieldAt 4 2 bs, tile := fieldAt 8 4 bs,
    len := fieldAt 0xC 4 bs, off := fieldAt 0x10 4 bs, deadline := fieldAt 6 2 bs,
    buffer := BitVec.ofNat 64 (fieldAt 0x18 8 bs), user := BitVec.ofNat 64 (fieldAt 0x20 8 bs), sq := sq,
    order := order, entry := none, admitted := now, proof := false, sent := false, heldTag := true, ended := none }

/-- Checks 1 to 4; `none` where they pass. -/
def checkFirst (s : State) (p : PortId) (r : Req) : Option Status :=
  if r.op.toNat < 1 || 4 < r.op.toNat then some .opcodeInvalid
  else if (reqOf s p r.tag).isSome then some .tagInUse
  else if r.op = 4 then none
  else if !streamThere s r.stream then some .streamAbsent
  else if r.stream / 0x400 ≠ p.val then some .streamForeign
  else none

/-- What check 5 finds wrong with a fetched entry. -/
def checkEntry : Option (List Byte) → Option Status
  | none => some .streamTorn
  | some e => if !eValid e then some .streamAbsent else if !entryFormed e then some .streamInvalid else none

/-- Checks 6 to 8. -/
def checkLast (s : State) (r : Req) (e : List Byte) : Option Status :=
  if !namesTile r then none
  else if eCount e ≤ r.tile then some .tileRange
  else if r.buffer.toNat % 4 ≠ 0 || r.len = 0
      || ((decide (r.op = 1) || !eEncoded e) && decide (1024 * eKib e < r.off + r.len)) then some .rangeInvalid
  else if r.op = 2 && (s.tiers.sealed.contains r.stream || eSealed e) && !(tileAt s (tileKey r.stream r.tile)).spoiled then
    some .streamSealed
  else none

/-- A request that has passed every check: heat, the deadline in force, the choice of its source (R336, R347). -/
def admitted (p : PortId) (r : Req) (e : List Byte) (s : State) : State :=
  let k := tileKey r.stream r.tile
  let s := if namesTile r then addTileHeat k s else s
  let dl := if r.flags.getLsbD 0 then r.deadline else eDeadline e
  let turn := r.op = 1 && decide (dl ≠ 0) && mayProve s r.stream (r.flags.getLsbD 1) e
    && proofBetter s r.stream r.tile dl e
  let r := { r with deadline := dl, proof := turn, entry := some e }
  let s := if r.op = 1 then queueRead (sourceKey r) 3 (dueOf r) s else s
  let s := onPort p (fun t => { t with active := t.active ++ [r] }) s
  if noCore s && namesTile r then endReq p r .curatorLost 0 0 false s else s

/-- A descriptor admitted from a queue. -/
def acceptRequest (p : PortId) (sq : Bool) (bs : List Byte) (s : State) : State :=
  let s := onPort p (fun t => { t with
    sq0 := if sq then t.sq0 else { t.sq0 with head := ringNext t.sq0 t.sq0.head },
    sq1 := if sq then { t.sq1 with head := ringNext t.sq1 t.sq1.head } else t.sq1,
    burst := if sq then 0 else t.burst + 1,
    admissions := t.admissions + 1 }) s
  let r := reqFrom bs sq s.ports[p].admissions s.sys.aonTime.toNat
  match checkFirst s p r with
  | some st => endReq p { r with heldTag := decide (st ≠ .tagInUse) } st 0 0 false s
  | none =>
    if r.op = 4 then onPort p (fun t => { t with active := t.active ++ [r] }) s
    else
      let f := fetchEntry r.stream s
      let s := f.2
      match checkEntry f.1 with
      | some .streamAbsent =>
        let held := (s.tiers.tiles.any fun x => decide (keyStream x.1 = r.stream)) || s.tiers.sealed.contains r.stream
        let s := if held && (deletedAt s r.stream).isNone then
            onTiers (fun t => { t with deleting := (r.stream, r.order) :: t.deleting }) s else s
        endReq p r .streamAbsent 0 0 false s
      | some st => endReq p r st 0 0 false s
      | none =>
        let e := f.1.getD []
        let s := sealNow r.stream s
        match checkLast s r e with
        | some st => endReq p { r with entry := some e } st 0 0 false s
        | none => admitted p r e s

/-- A descriptor arrives for a port that fetches and has a free active slot. -/
def descriptorArrives (p : PortId) (bs : List Byte) (s : State) : State :=
  match nextQueue s.ports[p] with
  | some sq => if fetching s p && decide (s.ports[p].active.length < 64) then acceptRequest p sq bs s else s
  | none => s

/-- A descriptor read that fails or does not complete in 50 ms (R392). -/
def descriptorLost (p : PortId) (s : State) : State :=
  match nextQueue s.ports[p] with
  | some _ => if fetching s p && decide (s.ports[p].active.length < 64) then haltPort p 5 s else s
  | none => s

/-! ## READ (R347 to R353, R396) -/

/-- What a port puts on its link. -/
def sendOut (p : PortId) (bs : List Byte) (s : State) : State := onPort p (fun t => { t with out := bs }) s

/-- A READ's data taken at class 3 from the highest tier that has the tile, and what is done with it. It waits while its
NAND read has not started (R54, R301), while no tier D page can be had for staging, or no tray slot (R341, R353, R354). A
tile of which no valid copy is left is spoiled (R352). -/
def readInto (p : PortId) (r : Req) (k : Nat) (e : List Byte) (use : List Byte → State → State) (s : State) : State :=
  let s := queueRead k 3 (dueOf r) s
  if !opStarted s (opRead k) then s
  else match readTile k e s with
    | (.waits, s) => s
    | (.gone, s) => endReq p r .tileSpoiled 0 0 false (unitLost k (unqueueRead k s))
    | (.data bs, s) => match slotFor k (accountOf r.stream) s with
      | (none, _) => s
      | (some _, s) => use bs (unqueueRead k s)

/-- A tile that no request can be served from, by its marks (R327, R345, R352) or a FAULT (R52). -/
def unserved (s : State) (k : Nat) : Option Status :=
  let t := tileAt s k
  if t.spoiled then some .tileSpoiled
  else if t.lost then some .stateLost
  else if !tileWritten t then some .tileEmpty
  else if nandFailed s && onlyInF t then some .deviceFault
  else none

/-- A READ served from its proof tile (R347, R352): the part of the requested window that the proof tile has. -/
def readProof (p : PortId) (r : Req) (e : List Byte) (s : State) : State :=
  let k := tileKey (eProof e) r.tile
  match unserved s k with
  | some st => endReq p r st 0 0 false (unqueueRead k s)
  | none => readInto p r k (entryNow s (eProof e)) (fun bs s =>
      let out := (bs.drop r.off).take r.len
      proofServed (accountOf r.stream) (endReq p r .proofServed out.length 0 true (sendOut p out s))) s

/-- A READ served at full precision. -/
def readFull (p : PortId) (r : Req) (e : List Byte) (s : State) : State :=
  let k := tileKey r.stream r.tile
  match unserved s k with
  | some st =>
    if (tileAt s k).spoiled && mayProve s r.stream (r.flags.getLsbD 1) e then
      readProof p { r with proof := true } e (onReq p r.order (fun r => { r with proof := true }) (unqueueRead k s))
    else endReq p r st 0 0 false (unqueueRead k s)
  | none => readInto p r k e (fun bs s => endReq p r .ok r.len 0 false (sendOut p (slice r.off r.len bs) s)) s

/-- The READ of a tag is served, where nothing holds it back. -/
def serveRead (p : PortId) (tag : U16) (s : State) : State :=
  match reqOf s p tag with
  | none => s
  | some r =>
    if r.op ≠ 1 || r.ended.isSome || behind s p r || sealWaits s r then s
    else if noCore s then endReq p r .curatorLost 0 0 false s
    else if storeFailed s then endReq p r .deviceFault 0 0 false s
    else match r.entry with
      | none => s
      | some e => if r.proof then readProof p r e s else readFull p r e s

/-- The second look at the switch lead before the deadline (R348). -/
def switchCheck (p : PortId) (tag : U16) (s : State) : State :=
  match reqOf s p tag with
  | none => s
  | some r => match r.entry with
    | none => s
    | some e =>
      if r.op = 1 && r.ended.isNone && !r.sent && !r.proof && decide (r.deadline ≠ 0)
          && mayProve s r.stream (r.flags.getLsbD 1) e
          && proofBetter s r.stream r.tile (min r.deadline (pv s 0x6050 2)) e then
        queueRead (tileKey (eProof e) r.tile) 3 (dueOf r)
          (unqueueRead (tileKey r.stream r.tile) (onReq p r.order (fun r => { r with proof := true }) s))
      else s

/-! ## WRITE (R338, R341, R374 to R376, R396, R402) -/

/-- A write's bytes, after every check, as they are stored: decoded bytes, encoded bytes, the bits it covers. Where no tray
slot or no tier D page can be had, it waits. -/
def writeStore (p : PortId) (r : Req) (e : List Byte) (data enc : List Byte) (mask : U16) (s : State) : State :=
  let k := tileKey r.stream r.tile
  let a := accountOf r.stream
  if !s.nand.blank && decide (quotaF s a < usedF s a - useF s k (tileAt s k) + enc.length) then
    endReq p r .quotaExceeded 0 0 false s
  else
    match slotFor k a s with
    | (none, _) => s
    | (some res, s1) =>
      let res := match (tileAt s1 k).s with | some c => c.reserve | none => res
      match storeTile k e data enc mask res (noteWrite k r.order s1) with
      | some s2 => endReq p r .ok r.len 0 false s2
      | none => s

/-- A WRITE of a stream whose tiles arrive encoded (R374). -/
def writeEncoded (p : PortId) (r : Req) (e : List Byte) (bs : List Byte) (s : State) : State :=
  let reason := malformedReason (eElem e) (eKib e) r.off bs
  if reason ≠ 0 then
    endReq p r .tileMalformed 0 reason false (recordMalformed (accountOf r.stream) r.stream r.tile reason s)
  else writeStore p r e (decodeTile bs) bs (coverMask 0 (1024 * eKib e)) s

/-- A WRITE of plain bytes into a tile: a spoiled or lost tile takes only a whole one (R345, R352). -/
def writePlain (p : PortId) (r : Req) (e : List Byte) (bs : List Byte) (s : State) : State :=
  let k := tileKey r.stream r.tile
  let t := tileAt s k
  let whole := decide (r.off = 0) && decide (r.len = 1024 * eKib e)
  if !whole && t.spoiled then endReq p r .tileSpoiled 0 0 false s
  else if !whole && t.lost then endReq p r .stateLost 0 0 false s
  else if !whole && nandFailed s && onlyInF t then endReq p r .deviceFault 0 0 false s
  else if whole then writeStore p r e bs (encodeTile (eElem e) (eKib e) bs) (coverMask 0 r.len) s
  else
    let s := queueRead k 5 0 s
    if !opStarted s (opRead k) then s
    else match beforeWrite k e s with
      | (.waits, s) => s
      | (.gone, s) => endReq p r .tileSpoiled 0 0 false (unitLost k (unqueueRead k s))
      | (.data old, s) =>
        let data := mergeAt r.off bs old
        writeStore p r e data (encodeTile (eElem e) (eKib e) data) (coverMask r.off r.len) (unqueueRead k s)

/-- The tier save of a power-down has ended: what a write brought now would be lost with the main die (R36). -/
def savedAlready (s : State) : Bool :=
  match s.sys.leaving with | some (_, .save) => false | some (_, .program) => true | some (_, .disable) => true | none => false

/-- The WRITE of a tag is served with what its buffer read returned. -/
def serveWrite (p : PortId) (tag : U16) (data : BufferRead) (s : State) : State :=
  match reqOf s p tag with
  | none => s
  | some r =>
    if r.op ≠ 2 || r.ended.isSome || behind s p r || sealWaits s r || savedAlready s then s
    else if noCore s then endReq p r .curatorLost 0 0 false s
    else if storeFailed s then endReq p r .deviceFault 0 0 false s
    else match data, r.entry with
      | .fault, _ => endReq p r .bufferFault 0 0 false s
      | .data _, none => s
      | .data bs, some e =>
        if eEncoded e then writeEncoded p r e (slice 0 r.len bs) s else writePlain p r e (slice 0 r.len bs) s

/-! ## FLUSH and NOP (R396) -/

/-- Whether every write to the stream admitted before a request has had its tier F program ended. -/
def flushed (s : State) (p : PortId) (r : Req) : Bool :=
  !((s.ports[p].active).any fun x => decide (x.op = 2) && decide (x.stream = r.stream) && decide (x.order < r.order)
      && x.ended.isNone) &&
    s.tiers.tiles.all fun x => decide (keyStream x.1 ≠ r.stream) ||
      ((match x.2.since with | some n => decide (r.order ≤ n) | none => true) &&
        (match x.2.f with
          | some f => f.ended || (match f.since with | some n => decide (r.order ≤ n) | none => true)
          | none => true))

def serveFlush (p : PortId) (tag : U16) (s : State) : State :=
  match reqOf s p tag with
  | none => s
  | some r =>
    if r.op ≠ 3 || r.ended.isSome || sealWaits s r then s
    else if storeFailed s || (nandFailed s && !flushed s p r) then endReq p r .deviceFault 0 0 false s
    else if flushed s p r then endReq p r .ok 0 0 false s
    else s

def serveNop (p : PortId) (tag : U16) (s : State) : State :=
  match reqOf s p tag with
  | none => s
  | some r => if r.op ≠ 4 || r.ended.isSome then s else endReq p r .ok 0 0 false s

/-! ## Completion (R394, R399 to R401) -/

/-- The CQ has an entry that its head has released: a ring holds at most SIZE - 1 entries. -/
def cqFree (t : TilePort) : Bool := decide (t.cq.size ≠ 0) && decide (ringNext t.cq t.cq.tail ≠ t.cq.head)

/-- The completion descriptor of a request. -/
def completionOf (t : TilePort) (r : Req) (d : Done) (st : Byte) : CqEntry :=
  { tag := r.tag, status := st, phase := t.phase, proof := d.proof, sq := r.sq, sq0Head := t.sq0.head,
    sq1Head := t.sq1.head, bytes := d.bytes, version := BitVec.ofNat 32 ((r.entry.map eVersion).getD 0),
    cookie := BitVec.ofNat 32 ((r.entry.map eCookie).getD 0), detail := d.detail, user := r.user }

/-- Its 32 bytes (Table 12-5). -/
def completionBytes (c : CqEntry) : List Byte :=
  leBytes 2 c.tag.toNat ++ [c.status] ++ leBytes 1 ((if c.phase then 1 else 0) + (if c.proof then 2 else 0) + (if c.sq then 4 else 0))
    ++ leBytes 2 c.sq0Head.toNat ++ leBytes 2 c.sq1Head.toNat ++ leBytes 4 c.bytes.toNat ++ leBytes 4 c.version.toNat
    ++ leBytes 4 c.cookie.toNat ++ leBytes 2 c.detail.toNat ++ [0, 0] ++ leBytes 8 c.user.toNat

/-- A READ served at full precision has missed its deadline (R350). -/
def missed (s : State) (r : Req) (d : Done) : Bool :=
  decide (d.status = 0) && decide (r.op = 1) && decide (r.deadline ≠ 0)
    && decide (r.deadline < s.sys.aonTime.toNat - r.admitted)

/-- The completion of a request is written: its slot is free, what it held returns to the reserve, and a port that was
disabled reads ENABLE 0 once no request is active (R385). -/
def writeCompletion (p : PortId) (r : Req) (d : Done) (s : State) : State :=
  let late := missed s r d
  let a := accountOf r.stream
  let st := if late then statusCode .deadlineMissed else d.status
  let s := if late then onTiers (fun t => { t with misses := upd t.misses (acc4 a) satInc }) s else s
  let s := onPort p (fun t =>
    let active := t.active.filter fun x => decide (x.order ≠ r.order)
    let tail := ringNext t.cq t.cq.tail
    let open_ := t.enable && !(t.closing && active.isEmpty)
    { t with
      active := active, cqOut := t.cqOut ++ [completionOf t r d st], completed := t.completed + 1,
      cq := { t.cq with tail := tail }, phase := if tail = 0 then !t.phase else t.phase,
      enable := open_, closing := t.closing && open_ }) s
  if namesTile r then returnReserve (sourceKey r) s else s

/-- The buffer of a READ that ends with a status that delivers no data holds a free value (R402, Table 12-7). -/
def bufferLeft (p : PortId) (r : Req) (d : Done) (s : State) : State :=
  if r.op = 1 && decide (0x10 ≤ d.status.toNat) then
    drew (sendOut p ((List.range r.len).map fun i => Config.bufferByte s.free i) s)
  else s

/-- A WRITE that holds a drain reserve completes once its tile has drained to tier F (R354). -/
def drains (s : State) (r : Req) (d : Done) : Bool := decide (r.op = 2) && decide (d.status = 0) && !drained s (sourceKey r)

/-- A request whose completion can be written. -/
def mayComplete (s : State) (r : Req) : Bool := match r.ended with | some d => !drains s r d | none => false

/-- The request of a port that ended first is completed, if it bears this tag (R401); one that drains is passed over. -/
def complete (p : PortId) (tag : U16) (s : State) : State :=
  match (s.ports[p].active).find? (mayComplete s) with
  | none => s
  | some r => match r.ended with
    | none => s
    | some d =>
      if r.tag ≠ tag || !cqFree s.ports[p] || s.ports[p].link ≠ 3 then s
      else deleteNow r.stream (writeCompletion p r d (bufferLeft p r d s))

/-! ## Invalidation (R331, R386) and BAR2 (R387, R388, R496) -/

/-- An invalidation under way ends. -/
def invalidationEnds (path : Path) (s : State) : State :=
  match path with
  | .bus => match s.tiers.invalBus with
    | some st => onTiers (fun t => { t with invalBus := none }) (invalidateDone none st s)
    | none => s
  | .tunnel p => match (s.ports[p]).inval with
    | some st => onPort p (fun t => { t with inval := none }) (invalidateDone (some p) st s)
    | none => s

/-- An invalidation is written: by the host, or by a port for its own account's streams. -/
def invalidateFrom (path : Path) (stream : U16) (s : State) : State :=
  let s1 := invalidationEnds path s
  match path with
  | .bus => if s.sys.mainOn then onTiers (fun t => { t with invalBus := some stream.toNat }) s1 else s
  | .tunnel p =>
    if s.ports[p].link ≠ 3 then s
    else if stream ≠ 0xFFFF && decide (stream.toNat / 0x400 ≠ p.val) then raise (115 + 4 * p.val) s
    else onPort p (fun t => { t with inval := some stream.toNat }) s1

/-- A TLP that lies within one entry. -/
def withinEntry (off len : Nat) : Bool :=
  decide (0 < len) && decide (off + len ≤ 65536) && decide (off / 64 = (off + len - 1) / 64)

/-- An entry with its reserved fields at 0: FLAGS [15:11] and the bytes from 0x14 to 0x3D (R16, R324). -/
def entryKept (e : List Byte) : List Byte :=
  e.zipIdx.map fun p => if p.2 = 1 then p.1 &&& 0x07 else if 0x14 ≤ p.2 && p.2 ≤ 0x3D then 0 else p.1

/-- A BAR2 write: one entry updated as a unit, or dropped. -/
def bar2Store (p : PortId) (off : Nat) (data : List Byte) (s : State) : State :=
  if s.ports[p].link ≠ 3 then s
  else if s.tiers.saving then
    raise (115 + 4 * p.val) (onPort p (fun t => { t with dropped := satInc t.dropped }) s)
  else if !withinEntry off data.length then raise (115 + 4 * p.val) s
  else
    let st := p.val * 0x400 + off / 64
    onTiers (fun t => { t with table := aput t.table st (entryKept (mergeAt (off % 64) data (tableEntry s st))) }) s

/-- A BAR2 read: an entry's bytes, zeros while the binding state is not 1, or Unsupported Request. -/
def bar2Fetch (p : PortId) (off len : Nat) (s : State) : State :=
  if s.ports[p].link ≠ 3 then s
  else if !withinEntry off len then
    raise (115 + 4 * p.val) (onPort p (fun t => { t with out := [], unsupported := true }) s)
  else
    let bs := if s.sec.binding = 1 then slice (off % 64) len (tableEntry s (p.val * 0x400 + off / 64)) else List.replicate len 0
    onPort p (fun t => { t with out := bs, unsupported := false }) s

/-! ## Links and resets (R381, R408 to R411) -/

/-- A port that is enabled presents itself from the main die's power-up in BOOT on (R381). -/
def portsUp (s : State) : State :=
  { s with ports := updAll s.ports (fun p t =>
      { t with link := if portThere s p && decide (pv s 0x7200 1 ≠ 0) && decide (pv s (0x7000 + p.val) 1 = 1) then 1 else 0 }) }

/-- A link comes up on a port that waits for one (R379, R409). -/
def linkComesUp (p : PortId) (speed width : Byte) (s : State) : State :=
  if !s.sys.mainOn || !portThere s p || (s.ports[p].link ≠ 1 && s.ports[p].link ≠ 2) then s
  else
    let sp := min (max 1 speed.toNat) (pv s (0x7000 + p.val) 2)
    let wd := min (max 1 width.toNat) (pv s (0x7000 + p.val) 3)
    release (targetOfPort p) (raise (112 + 4 * p.val) (onPort p (fun t => { t with
      link := 3, speed := BitVec.ofNat 8 sp, width := BitVec.ofNat 8 wd }) s))

/-- Whether a kind of port reset takes the link down, and whether it reaches a port whose link is down. -/
def dropsLink : ResetKind → Bool
  | .dlDown => true | .hot => true | .perst => true | .flr => false | .d3 => false | .d0 => false

/-- A port reset (Table 12-9, R409, R439). -/
def resetPort (p : PortId) (kind : ResetKind) (s : State) : State :=
  let t := s.ports[p]
  let up := decide (t.link = 3)
  if !s.sys.mainOn || !portThere s p || (!up && decide (kind ≠ .perst)) then s
  else
    let busy := !t.active.isEmpty
    let s := (t.active.filter fun r => decide (r.op = 1) && r.ended.isNone).foldl (fun (s : State) (r : Req) =>
      unqueueRead (sourceKey r) s) s
    let down := dropsLink kind && up
    let s := onPort p (fun t => { TilePort.init with
      link := if down then 1 else t.link, speed := if down then 0 else t.speed, width := if down then 0 else t.width,
      admissions := t.admissions, cqOut := [], completed := t.completed,
      gone := satOf 32 (t.gone.toNat + t.active.length), losses := if down then satInc t.losses else t.losses,
      halts := t.halts, lastQerr := t.lastQerr, correctable := t.correctable, uncorrectable := t.uncorrectable,
      dropped := t.dropped, inval := t.inval, msix := if kind = .d3 then t.msix else MsixState.init,
      table := if kind = .d3 then t.table else [], out := [] }) s
    let s := (t.active.filter namesTile).foldl (fun (s : State) (r : Req) => returnReserve (sourceKey r) s) s
    let s := if down then raise (112 + 4 * p.val) s else s
    let s := if busy then raise (114 + 4 * p.val) s else s
    resetTarget (targetOfPort p) s

/-- Every link goes down before the main die does (R57, R411); the port reads Detect from then on (R32, R410). -/
def portsDown (s : State) : State :=
  (List.finRange 4).foldl (fun (s : State) (p : PortId) => resetPort p .dlDown s) s

/-- A power-fail trigger ends every active request that has not ended with STATE_PREEMPT (R55). -/
def preemptPort (p : PortId) (s : State) : State :=
  (s.ports[p].active.filter fun r => r.ended.isNone).foldl (fun (s : State) (r : Req) =>
    endReq p r .statePreempt 0 0 false (unqueueRead (sourceKey r) s)) s
def preemptAll (s : State) : State := (List.finRange 4).foldl (fun (s : State) p => preemptPort p s) s

/-- MSI-X enabled or unmasked (R427, R431): what is held is issued without coalescing, what the PBA holds is sent. -/
def setMsix (p : PortId) (m : MsixState) (s : State) : State :=
  if s.ports[p].link ≠ 3 then s
  else
    let t := targetOfPort p
    let was := held s t
    let s := onPort p (fun x => { x with msix := m }) s
    let s := if !m.enable then onTgt t (fun g => { g with outN := false, outF := false, pbaN := false, pbaF := false }) s
      else onTgt t (fun g => { g with pbaN := g.pbaN && (m.functionMask || m.maskN), pbaF := g.pbaF && (m.functionMask || m.maskF) }) s
    if was && !held s t then release t s else s

/-- A PCIe error (R412); the reset after one that the port cannot recover is taken as a hot reset. -/
def pcieError (p : PortId) (uncorrectable recoverable : Bool) (s : State) : State :=
  if s.ports[p].link ≠ 3 then s
  else if !uncorrectable then onPort p (fun t => { t with correctable := satInc t.correctable }) s
  else
    let s := raise (115 + 4 * p.val) (onPort p (fun t => { t with uncorrectable := satInc t.uncorrectable }) s)
    if recoverable then s else resetPort p .hot s

/-! ## The wait graph (R355) -/

/-- A request chosen to break a cycle ends with WAIT_CYCLE, and is counted. -/
def endCycle (s : State) (m : PortId × U16) : State :=
  match reqOf s m.1 m.2 with
  | some r => raise 101 (endReq m.1 r .waitCycle 0 0 false (onTiers (fun t => { t with cycles := satInc t.cycles }) s))
  | none => s

/-- Each cycle's newest member ends with WAIT_CYCLE. -/
def sweep (s : State) : State :=
  (waitCycles s).foldl endCycle s

end Sys2Proof.Machine
end

