-- ==== Sys2Proof/Machine/States.lean ====
section
/-! DEFINITION. The device states and what moves between them (chapters *Device States* and *Clocks, Resets and Boot*):
entries, the power-fail triggers, main-die power-downs, resets, wakes, and the AON supply. BOOT's own steps are in Boot. -/

namespace Sys2Proof.Machine

/-- The record of states and boots changed; the pins, supplies and clocks changed. -/
def onSys (f : Sys → Sys) (s : State) : State := { s with sys := f s.sys }
def onSupply (f : Supply → Supply) (s : State) : State := { s with supply := f s.supply }

/-! ## Power of the main die (R31, R57, R217, R224, R381, R436 to R438) -/

/-- The tiered store has state that a save can write (R36, R343), at once or when blank NAND has been set up (R296). -/
def maySave (s : State) : Bool := s.sys.mainOn && s.tiers.ready && (!s.nand.blank || buildsBlank s)

/-- The main die is powered: in BOOT each side's switches go to the host side; Safelight starts; ports present
themselves; delivery to the supervisor target is released. -/
def mainUp (boot : Bool) (s : State) : State :=
  let s := onSys (fun y => { y with mainOn := true }) s
  let s := if boot then ranksFresh (onLight (fun l => { l with
      ctrl := famAll 2 false, returning := famAll 2 false, uncertain := 0, afterForced := false }) s) else s
  release 5 (portsUp (lightStart (closeWindows s)))

/-- The main die loses its power: links go down, the session closes, a consolidation is abandoned, the tray and private
DRAM are lost. What the host reads of it from now on is what it read last (R32). -/
def mainDown (s : State) : State :=
  if !s.sys.mainOn then s
  else
    let s := tiersLost (dropCons (closeSession (portsDown s)))
    let s := onNand (fun n => { n with chans := updAll n.chans (fun _ ch => { ch with
      queue := [], erases := [], copying := false, cacheLun := none }) }) s
    let s := onLight (fun l => { l with
      on := false, baseline := false, quiet := false, fence := none, returning := famAll 2 false, heat := [] }) s
    let s := onSupply (fun p => { p with mainTemp := Config.mainTemp s.sys.aonTime.toNat }) s
    closeWindows (onSys (fun y => { y with mainOn := false }) s)

/-- The PLL and with it the timebase stop; the core runs from the AON clock (R71, Table 3-1). -/
def pllOff (s : State) : State := onSupply (fun p => { p with pll := false, clock := .aon }) s
def pllOn (s : State) : State :=
  onSys (fun y => { y with pllWait := false }) (onSupply (fun p => { p with pll := true, clock := .timebase }) s)

/-! ## BOOT entry (R88, R105, R152, R155, R174, R462) -/

/-- Rail objects of persistence V at their defaults. Live readings and states stay. -/
def railsVolatile (s : State) : State :=
  suspectsEnd { s with rails := updAll s.rails (fun _ x => { marginZero x with
    flags := 0, rampUs := 0, rampRem := 0, refused := false, limited := false, clamped := false }) }

/-- Every V object that no chapter gives another reset. The guarantee bit is among them (R174): its reset is no change
that the keeper computes, so it makes source 27 not pending (assumption 27). -/
def volatileReset (s : State) : State :=
  let s := railsVolatile s
  { s with
    supply := { s.supply with recovered := 0 },
    seq := { s.seq with results := famAll 6 0, runFlags := 0, signal := 0, corrected := 0 },
    cell := { s.cell with eAvail := 0, eReq := 0, guarantee := false, eFull := 0 },
    flash := { s.flash with corrected := 0, uncorrectable := 0, aborted := 0, refused := 0, rawAddr := 0, rawResult := 0,
                            copyValid := 0, repair := 0, loadedSeq := 0, skipped := 0 },
    light := { s.light with veilCause := 0, veils := 0, violations := 0, heldCmds := 0, mrUncertain := false,
                            lastTakeover := 0, forcedCause := 0, fenceTime := 0, takeovers := 0, forced := 0,
                            trainings := 0, trainingFailures := 0, returnTime := 0, captures := 0 },
    neg := { s.neg with status := 0, baseFits := false, result := 0, lastGen := none, captured := 0, duration := 0,
                        energy := 0, devResult := 0, report := Report.empty },
    nand := { s.nand with negBytes := 0, tierFBytes := 0, passes := 0, relocations := 0, rebuilds := 0, unrecovered := 0 },
    tiers := { s.tiers with loaded := 0, cycles := 0, failures := 0, proofs := famAll 4 0, misses := famAll 4 0,
                            malformed := famAll 4 ⟨0, 0, 0, 0⟩, decodeFails := 0 },
    ports := updAll s.ports (fun _ t => { TilePort.init with admissions := t.admissions }),
    bus := { s.bus with mode := 0, pecErrors := 0, frameErrors := 0, ibiWon := 0, ibiNacked := 0, abandonedSegs := 0 },
    sec := { s.sec with binding := 0, keyId := 0, update := 0, readyB := false, token := none, tokenWrites := 0 } }

/-- BOOT is entered: it waits for the PLL (Table 3-3). -/
def bootEntry (cause : Byte) (s : State) : State :=
  let s := pllOff (closeSession s)
  let s := onSupply (fun p => { p with counting := false, triggered := false }) s
  let s := onNeg (fun n => { n with exp := none, dev := none }) s
  enter .boot cause (onSys (fun y => { y with
    bootEntries := satInc y.bootEntries, bootAt := y.aonTime.toNat, pllWait := true, testDone := false,
    testFailed := false, powerUpDone := false, leaving := none, wakingPartial := false, depth := 0 }) s)

/-- BOOT entered from DARK or HOLD. -/
def bootFrom (cause : Byte) (s : State) : State := bootEntry cause (volatileReset s)

/-! ## RUN entry (R159, R174, R175, R191, R285, R311, R313) -/

/-- RUN is entered: what was held for it happens, and a FAULT that is owed follows. -/
def enterRun (cause : Byte) (s : State) : State :=
  let s := enter .run cause (onSupply (fun p => { p with triggered := false }) s)
  let s := guaranteeNow (commitNow (logDeferred s))
  if s.cell.owed then enterFault 5 0x0C (onCell (fun c => { c with owed := false }) s)
  else if 2 ≤ (deadChans s).length then enterFault 4 0x0C s
  else autoCons s

/-! ## EXPOSE and DEVELOP entry (R44, R54, R55, R154, R276, R286) -/

/-- An Exposure before its takeover. -/
def newExpo (s : State) (phase : ExpPhase) (cause target : Byte) (powerFail kept : Bool) : Expo :=
  { phase := phase, target := target, cause := cause, powerFail := powerFail, kept := kept, wakeLatched := false,
    degraded := false, gen := 0, frames := [], heat := [], uncRanks := 0, since := 0, charge := s.cell.qRem }

/-- The Exposure's work at its class (Table 9-4). -/
def exposeWork (powerFail : Bool) (s : State) : State := workBegins opExpose (if powerFail then 1 else 2) (workEnds opExpose s)

/-- EXPOSE is entered with a target: source 33, margins of persistence-critical slots go back, a consolidation is
abandoned. A forced takeover waits for its fence, a voluntary one for the host to park. Other NAND work queues behind the
Exposure from now on (R54). -/
def beginExpose (cause target : Byte) (powerFail : Bool) (s : State) : State :=
  let s := enter .expose cause (onSys (fun y => { y with depth := target }) s)
  let s := onNeg (fun n => { n with exp := some (newExpo s (if powerFail then .fence else .park) cause target powerFail false) }) s
  let s := onLight (fun l => { l with fence := if powerFail then some cause else none }) s
  marginsBack (exposeWork powerFail (dropCons (raise 33 s)))

/-- DEVELOP is entered, from SETUP or after a Hold-Partial wake; with two dead channels it cannot complete (R281). -/
def enterDevelop (cause : Byte) (fromPartial : Bool) (s : State) : State :=
  let s := enter .develop cause (onSys (fun y => { y with wakingPartial := false }) s)
  let s := onNeg (fun n => { n with dev := some ⟨.takeover, fromPartial, s.sys.aonTime.toNat⟩ }) s
  let s := if fromPartial then onNeg (fun n => { n with report := builtReport s }) s else s
  let s := marginsBack (workBegins opDevelop 2 s)
  if 2 ≤ (deadChans s).length then persistenceFault 7 s else s

/-! ## Wakes (R53, R61 to R64, R81) -/

/-- A wake in HOLD: Hold-Deep leads to BOOT, and so does a lost crystal; Hold-Partial waits for the PLL and then runs
PARTIAL_EXIT. From then on 0x1400.03 reads the wake's cause while 0x1400.01 still reads HOLD (assumption 37). -/
def wake (cause : Byte) (s : State) : State :=
  if s.sys.st ≠ .hold || s.sys.wakingPartial then s
  else if s.sys.depth = 2 && s.supply.xtal then
    onSys (fun y => { y with wakingPartial := true, pllWait := true, cause := cause })
      (onSupply (fun p => { p with triggered := false }) s)
  else bootFrom cause s

/-! ## Leaving for HOLD or DARK (R49, R57, R58, R137, R159, R274) -/

/-- The four conditions under which the module leaves DARK hold, and can be sampled (R65, R76, R77). -/
def insertionHolds (s : State) : Bool :=
  s.supply.insDetLow && s.supply.vsbOk && s.supply.pfailLow && s.supply.vinOk && s.supply.oscValid && s.supply.xtal

/-- The debounce count starts where DARK finds every condition held, and ends where one lapses. -/
def debounce (s : State) : State :=
  onSupply (fun p => { p with counting := decide (s.sys.st = .dark) && s.supply.aon && insertionHolds s }) s

/-- What the cold segments, masked out of self-refresh, held is lost (R273). -/
def coldLost (s : State) : State :=
  let cold := rlist (segmentFrames s (s.light.ranks[(0 : Fin 16)]).masked)
  drew (onLight (fun l => { l with dram := cold.foldl (fun d f => aput d f (Config.frameAtPowerUp s.free f)) l.dram }) s)

/-- HOLD is reached: in Hold-Deep host DRAM is off, in Hold-Partial its cold segments are. A WAKE that came too late for R63
wakes the module now. -/
def finishHold (s : State) : State :=
  let s := if s.sys.depth = 1 then scrambleSide 0 (scrambleSide 1 s) else coldLost s
  let late := match s.neg.exp with | some e => e.wakeLatched | none => false
  let s := marginsZero (pllOff (mainDown s))
  let s := enter .hold 0x0A (onSys (fun y => { y with leaving := none }) (onNeg (fun n => { n with exp := none }) s))
  let s := logPoint 2 (logDeferred s)
  if late then wake 0x03 s else s

/-- DARK is reached. -/
def finishDark (cause : Byte) (s : State) : State :=
  debounce (enter .dark cause (onSys (fun y => { y with leaving := none, pllWait := false }) (pllOff (mainDown s))))

/-- The sequence program of a power-down has ended, or there is none. -/
def leaveDisable (l : Leave) (s : State) : State :=
  match l with
  | .dark c => finishDark c s
  | .hold =>
    if s.sys.depth = 1 && (highestCritical s).isSome then
      onSys (fun y => { y with leaving := some (.hold, .disable) }) s
    else finishHold s

/-- The program of a power-down: POWER_DOWN, or PARTIAL_ENTRY where the target is Hold-Partial. -/
def leaveRole (s : State) : Leave → Nat
  | .dark _ => 2
  | .hold => if s.sys.depth = 2 then 4 else 2

/-- That program is started once no other runs; without the PLL none can run (R130). -/
def leaveProgram (l : Leave) (s : State) : State :=
  let s := onSys (fun y => { y with leaving := some (l, .program) }) s
  if s.seq.run.isSome then s
  else if !pllRuns s then leaveDisable l s
  else
    let s := startRole (leaveRole s l) s
    if s.seq.run.isNone then leaveDisable l s else s

/-- A main-die power-down begins with the tier save. -/
def beginLeave (l : Leave) (s : State) : State :=
  if maySave s then saveBegins (onSys (fun y => { y with leaving := some (l, .save) }) s) else leaveProgram l s

/-- The tier save ends (R343); a WAKE latched meanwhile still leads back to RUN. On blank NAND it waits (R296). -/
def tierSaveEnds (s : State) : State :=
  match s.sys.leaving with
  | some (l, .save) =>
    if s.nand.blank then s else
    let s := saveEnds s
    (match l, s.neg.exp with
      | .hold, some e =>
        if e.wakeLatched && !e.powerFail then
          beginReturn (onSys (fun y => { y with leaving := none })
            (onNeg (fun n => { n with exp := some { e with phase := .returning } }) s))
        else leaveProgram l s
      | _, _ => leaveProgram l s)
  | _ => s

/-- The next persistence-critical slot is disabled (R274). -/
def criticalDisabled (s : State) : State :=
  match s.sys.leaving with
  | some (.hold, .disable) =>
    let s := match highestCritical s with | some n => disableSlot n s | none => s
    if (highestCritical s).isNone then finishHold s else s
  | _ => s

/-- A failed self-test enters FAULT once POWER_UP has ended (Table 3-5). -/
def bootTestFault (s : State) : State :=
  if decide (s.sys.st = .boot) && s.sys.testDone && s.sys.testFailed && s.sys.powerUpDone && s.sys.leaving.isNone then
    enterFault 2 0x0E s
  else s

/-- A program has just ended: what waited for it goes on. -/
def afterProgram (before s : State) : State :=
  match before.seq.run, s.seq.run with
  | some r, none =>
    (match s.sys.leaving with
      | some (l, .program) => if r.role = leaveRole s l then leaveDisable l s else leaveProgram l s
      | _ =>
        if decide (s.sys.st = .boot) && r.role = 1 then bootTestFault (onSys (fun y => { y with powerUpDone := true }) s)
        else if s.sys.wakingPartial && r.role = 5 then enterDevelop s.sys.cause true (mainUp false s)
        else s)
  | _, _ => s

/-! ## Power-fail triggers (R43 to R47, R55, R60, R135 to R137, R205, R302, R511) -/

/-- Every channel suspends its erases and starts no more class 3 to 7 work, until the main die is off (R302). -/
def channelsStop (s : State) : State :=
  let s := suspendAll s
  if s.sys.mainOn then workBegins opTrigger 1 s else s

/-- What every trigger does: option flash operations are aborted and NAND work stops, then the keeper switch closes;
a depletion log point that the period of running from the cell brings is written after the abort (R159, R170). -/
def triggerCommon (s : State) : State := switchClose (cellPeriod (channelsStop (serveWaiting (flashAbort s))))

/-- POWER_FAIL starts; a program that may be stopped is stopped first (R135, R136). -/
def powerFailProgram (s : State) : State :=
  match s.seq.run with
  | some r => if r.role = 2 || r.role = 3 then s else startRole 3 (preempt s)
  | none => startRole 3 s

/-- The kept segments of the partial generation C are exposed: a delta over it (R60, R270). The header pair goes first. -/
def exposeKept (cause : Byte) (s : State) : State :=
  let phase : ExpPhase := if s.light.slotTrained then .writing else .training
  let s := onSys (fun y => { y with depth := 1, leaving := none }) s
  beginGeneration (exposeWork true (onNeg (fun n => { n with exp := some (newExpo s phase cause 1 true true) }) s))

/-- The newest generation is partial and the Exposure has committed it. -/
def partialCommitted (s : State) (e : Expo) : Bool :=
  match genOf s e.gen with | some g => g.commit.isSome && g.partialGen | none => false

/-- A return under way stops: sides not yet returned stay with the controller, a side already returned is taken again. -/
def stopReturn (cause : Byte) (s : State) : State :=
  let gone := (List.finRange 2).any fun side => sideThere s side.val && !s.light.ctrl[side]
  let s := onLight (fun l => { l with returning := famAll 2 false }) s
  if gone then takeForced cause s else s

/-- A power-down that waited for a program which a trigger has stopped goes on, where no POWER_FAIL program runs now
(R127, R135). -/
def resumeLeave (s : State) : State :=
  match s.sys.leaving, s.seq.run with
  | some (l, .program), none => leaveProgram l s
  | _, _ => s

/-- A trigger in EXPOSE: the target becomes Hold-Deep, a CHECKPOINT or latched WAKE is cancelled, and the Exposure goes on
(R46; assumption 84). -/
def powerFailExpose (cause : Byte) (s : State) : State :=
  match s.neg.exp with
  | none => s
  | some e =>
    if e.powerFail then s
    else
      let s := onSys (fun y => { y with cause := cause, depth := 1 }) s
      let e := { e with target := 1, powerFail := true, wakeLatched := false }
      let s := powerFailProgram (onNeg (fun n => { n with exp := some e }) s)
      let s := if e.phase = .returning || e.phase = .leaving then s else exposeWork true s
      match e.phase with
      | .park => onLight (fun l => { l with fence := some cause })
          (onNeg (fun n => { n with exp := some { e with phase := .fence, cause := cause } }) s)
      | .fence => onNeg (fun n => { n with exp := some { e with cause := cause } }) s
      | .training => captureWhole s
      | .writing => captureWhole s
      | .returning =>
        let s := stopReturn cause s
        if partialCommitted s e then exposeKept cause s
        else beginLeave .hold (onNeg (fun n => { n with exp := some { e with phase := .leaving } }) s)
      | .leaving => if partialCommitted s e then exposeKept cause s else resumeLeave s

/-- A trigger in BOOT, SETUP, DEVELOP or FAULT: no Exposure; any program is stopped, POWER_DOWN runs, then DARK (R45,
R137). -/
def powerFailDark (cause : Byte) (s : State) : State :=
  match s.sys.leaving with
  | some _ => s
  | none =>
    let s := sequencesEnd (workEnds opDevelop (onNeg (fun n => { n with dev := none }) s))
    let s := onSys (fun y => { y with cause := cause, pllWait := false }) s
    let s := match s.seq.run with
      | some r => if r.role = 2 || r.role = 3 then s else preempt s
      | none => s
    beginLeave (.dark cause) s

/-- The Exposure of the kept segments starts once the PLL has locked: no divided clock runs before (R72), so neither
POWER_FAIL nor a program of the header pair starts earlier (R60, R129). -/
def keptExposure (cause : Byte) (s : State) : State :=
  exposeKept cause (powerFailProgram (match s.seq.run with | some _ => preempt s | none => s))

/-- A trigger in Hold-Partial: the main die is powered, EXPOSE is entered with the margins of persistence-critical slots
going back (R154), and the kept segments are exposed, at PLL lock where the PLL does not run yet (R60, R129). -/
def powerFailPartial (cause : Byte) (s : State) : State :=
  let s := mainUp false (onSys (fun y => { y with wakingPartial := false, pllWait := !s.supply.pll, depth := 1 }) s)
  let s := marginsBack (raise 33 (dropCons (enter .expose cause s)))
  if s.supply.pll then keptExposure cause s else s

/-- A power-fail trigger with its cause: the response of the state. Only the first trigger is answered. -/
def powerFail (cause : Byte) (s : State) : State :=
  if !s.supply.aon then s
  else
    let s := onSupply (fun p => { p with triggered := true, counting := false }) (triggerCommon s)
    match s.sys.st with
    | .dark => s
    | .run => powerFailProgram (preemptAll (beginExpose cause 1 true s))
    | .expose => powerFailExpose cause s
    | .hold => if s.sys.depth = 2 then powerFailPartial cause s else onSys (fun y => { y with cause := cause }) s
    | .boot => powerFailDark cause s
    | .setup => powerFailDark cause s
    | .develop => powerFailDark cause s
    | .fault => powerFailDark cause s

/-! ## Progress of an Exposure and a Development -/

/-- The quiet window ends with every rank in self-refresh: the voluntary takeover (R237, Table 7-8). -/
def quietEnds (s : State) : State :=
  let waits := (match s.neg.exp with | some e => decide (e.phase = .park) | none => false) ||
    (match s.neg.dev with | some d => decide (d.phase = .takeover) && !d.partialWake | none => false)
  let held := match s.neg.dev with | some d => decide (d.phase = .takeover) && d.partialWake | none => false
  if held || (waits && s.light.quiet && allParked s) then afterTakeover (takeVoluntary s) else s

/-- The 20 ms in which the host parks end (R69): the takeover is forced, with cause 0x03. -/
def parkEnds (s : State) : State :=
  match s.neg.exp with
  | some e =>
    if e.phase = .park then
      onLight (fun l => { l with fence := some 0x03 }) (onNeg (fun n => { n with exp := some { e with phase := .fence } }) s)
    else s
  | none => s

/-- The fence falls (R238). -/
def fenceFalls (s : State) : State :=
  match s.light.fence with
  | some cause => if s.sys.st = .expose then afterTakeover (takeForced cause s) else s
  | none => s

/-- Whether slot training runs, and what it leads to (R236). -/
def training (s : State) : Bool :=
  (match s.neg.exp with | some e => decide (e.phase = .training) | none => false) ||
    (match s.neg.dev with | some d => decide (d.phase = .training) | none => false)
def trainingEnds (pass : Bool) (s : State) : State :=
  if !training s || !pllRuns s then s
  else
    let s := onLight (fun l => { l with
      trainings := satInc l.trainings, slotTrained := pass, trainFails := if pass then 0 else l.trainFails + 1,
      trainingFailures := if pass then l.trainingFailures else satInc l.trainingFailures }) s
    if pass then onNeg (fun n => { n with
        exp := n.exp.map fun e => { e with phase := .writing }, dev := n.dev.map fun d => { d with phase := .maps } }) s
    else if 2 ≤ s.light.trainFails then persistenceFault 8 (onLight (fun l => { l with trainFails := 0 }) s)
    else s

/-- After the commit of a Hold-Partial Exposure every cold segment is masked on every rank (R273). -/
def maskCold (s : State) : State :=
  match newestC s with
  | some g => if s.sys.depth = 2 then maskSegments (~~~g.mask) s else s
  | none => s

/-- The generation is written and its commit record pair programmed (R257, R265, R266, R275): the bus returns, or the way to
HOLD begins. Where it cannot be written, or no copy of its record programmed, FAULT (R268). On blank NAND nothing can be
programmed yet. -/
def commitWritten (s : State) : State :=
  match s.neg.exp with
  | none => s
  | some e =>
    if e.phase ≠ .writing || !pllRuns s || s.nand.blank then s
    else match commitGeneration e s with
      | none => persistenceFault 6 s
      | some s =>
        if !e.powerFail && (decide (e.target = 0) || e.wakeLatched) then
          beginReturn (onNeg (fun n => { n with exp := some { e with phase := .returning } }) s)
        else beginLeave .hold (maskCold (onNeg (fun n => { n with exp := some { e with phase := .leaving } }) s))

/-- A side is back with the host (R242, R244); once every side is, EXPOSE leads to RUN and DEVELOP to its mark. -/
def returnEnds (side : Fin 2) (us : U32) (s : State) : State :=
  if !(s.light.returning[side] && s.light.ctrl[side]) then s
  else
    let s := sideReturned side us s
    if (List.finRange 2).any fun k => s.light.returning[k] then s
    else match s.neg.exp, s.neg.dev with
      | some e, _ =>
        if e.phase = .returning then enterRun 0x0A (onNeg (fun n => { n with exp := none }) s) else s
      | none, some d =>
        if d.phase = .returning then onNeg (fun n => { n with dev := some { d with phase := .returned } }) s else s
      | none, none => s

/-- The chain's maps are loaded and resolved (R276), with READ CACHE SEQUENTIAL where pages follow one another (R303); a
member that fails, or two dead channels, end Development (R281). -/
def mapsLoaded (s : State) : State :=
  match s.neg.dev with
  | some d =>
    if d.phase ≠ .maps || !pllRuns s then s
    else if chainReadable s && decide ((deadChans s).length < 2) then
      readsInSequence (onNeg (fun n => { n with dev := some { d with phase := .writing } }) s)
    else persistenceFault 7 s
  | none => s

/-- The last frame is written and the return begins (R277). -/
def lastFrame (s : State) : State :=
  match s.neg.dev with
  | some d =>
    if d.phase ≠ .writing || !pllRuns s then s
    else beginReturn (sequencesEnd (onNeg (fun n => { n with dev := some { d with phase := .returning } }) (developFrames s d)))
  | none => s

/-- The DEVELOPED mark is programmed: RUN is entered at that instant (R278). -/
def markWritten (s : State) : State :=
  match s.neg.dev with
  | some d => if d.phase ≠ .returned then s else enterRun 0x0B (developmentEnds d s)
  | none => s

/-! ## Resets (R83 to R87, R139, R440) -/

/-- MR_n or RESET: a program is stopped, an Exposure abandoned, the tiers saved, and BOOT entered. -/
def mainReset (source : Byte) (s : State) : State :=
  let s := volatileReset s
  let s := match s.seq.run with | some _ => preempt s | none => s
  let s := onSys (fun y => { y with resetSource := source, leaving := none }) (exposureEnds 2 s)
  let s := if maySave s && !s.nand.blank then saveEnds (if s.tiers.saving then s else saveBegins s) else s
  bootEntry 0x09 (resetSources (mainDown s))

/-- The supervisor core alone restarts (R87): until the restart ends, at most 5 ms later, the bus target answers nothing;
how long it takes is a free value. -/
def watchdog (s : State) : State :=
  if !s.supply.aon then s
  else raise 162 (drew (onSys (fun y => { y with
    wdogRestarts := satInc y.wdogRestarts, resetSource := 4,
    restartEnd := y.aonTime.toNat + Config.restartTime s.free % 5001 }) s))

/-! ## State requests (R39, R40, Table 2-4) -/

/-- A transition is in progress. -/
def inProgress (s : State) : Bool :=
  decide (s.sys.st = .expose) || decide (s.sys.st = .develop) || s.sys.leaving.isSome || s.sys.wakingPartial

/-- The frames that an Exposure of a target would expose, as the energy check counts them (R172). -/
def framesToExpose (s : State) (onlyCold : Bool) : Nat :=
  let veiled := (List.finRange 8).any fun k => s.light.subs[k].veiled
  let dirty := if veiled then allFrames s else dirtyFrames s
  if onlyCold then
    let kept := segmentFrames s (keptMask s)
    rcount (rdiff dirty kept) + rcount (rinter kept (allFrames s))
  else rcount dirty

/-- The energy check at a request (R173): both values are recorded. -/
def energyCheck (frames : Nat) (s : State) : Bool × State :=
  (decide (eReq s frames ≤ eAvail s), onCell (fun c => { c with
    eAvail := mjDown (eAvail s), eReq := mjUp (eReq s frames) }) s)

/-- An Exposure by request: RUN, the energy check, then EXPOSE with its target. -/
def exposeRequest (target : Byte) (s : State) : Abort × State :=
  let r := energyCheck (framesToExpose s (decide (target = 2))) s
  if !r.1 then (.energyLow, r.2)
  else if target = 2 && pv s 0x3040 1 ≠ 1 then (.deviceState, r.2)
  else (.done, beginExpose 0x03 target false r.2)

/-- The guards of DEVELOP in the order of Table 2-4. -/
def developGuard (s : State) : Abort :=
  if !allParked s then .busNotParked
  else if s.sec.binding ≠ 1 || s.neg.status = 3 then .negativeLocked
  else if s.neg.status = 2 then .negativeStale
  else if s.neg.status ≠ 1 then .noNegative
  else .done

/-- WAKE: in HOLD it wakes; in EXPOSE with a Hold target it is latched (R63). -/
def wakeRequest (s : State) : Abort × State :=
  if s.sys.st = .hold then (.done, wake 0x03 s)
  else if s.sys.st = .expose && s.sys.depth ≠ 0 then
    (.done, onNeg (fun n => { n with exp := n.exp.map fun e => { e with wakeLatched := true } }) s)
  else (.deviceState, s)

/-- The states of a request code. -/
def requestState (code : Nat) (s : State) : Bool :=
  if code ≤ 3 then decide (s.sys.st = .setup)
  else if code ≤ 6 then decide (s.sys.st = .run)
  else decide (s.sys.st = .setup) || decide (s.sys.st = .fault)

/-- RUN: refused while a Negative waits (R262). -/
def runRequest (s : State) : Abort × State :=
  if pendingStatus s.neg.status then (.negativePending, s) else (.done, enterRun 0x03 (rebind s))

/-- DEVELOP. -/
def developRequest (s : State) : Abort × State :=
  if developGuard s = .done then (.done, enterDevelop 0x03 false s) else (developGuard s, s)

/-- A write of a request code to 0x1410.01. -/
def stateRequest (code : Nat) (s : State) : Abort × State :=
  if code = 7 then wakeRequest s
  else if inProgress s then (.stateBusy, s)
  else if !requestState code s then (.deviceState, s)
  else if code = 1 then runRequest s
  else if code = 2 then (.done, enterRun 0x03 (rebind (discardPending s)))
  else if code = 3 then developRequest s
  else if code = 4 then exposeRequest 1 s
  else if code = 5 then exposeRequest 2 s
  else if code = 6 then exposeRequest 0 s
  else (.done, mainReset 3 s)

/-! ## The AON supply (R76, R138, R170, R185, R440, Table 3-2) -/

/-- The AON die has lost its supply: nothing on it runs, every slot enable is inactive, host DRAM holds nothing. -/
def aonLost (cause : Byte) (s : State) : State :=
  let s := flashAbort (exposureEnds 4 s)
  let s := scrambleSide 0 (scrambleSide 1 (railsLost (mainDown s)))
  let s := onNeg (fun n => { n with dev := none }) (onFlash (fun f => { f with jobs := [], readWait := none }) s)
  { s with
    supply := { s.supply with aon := false, pll := false, counting := false, oscValid := false, clock := .aon },
    seq := { s.seq with run := none },
    cell := { s.cell with phase := .off, switchOn := false },
    sys := { s.sys with st := .dark, prev := s.sys.st, cause := cause, leaving := none, wakingPartial := false,
                        pllWait := false },
    bus := { s.bus with enabled := false, busy := false, seg := none, tunSeg := famAll 4 none },
    irq := { s.irq with fastLow := false, wakeLow := false } }

/-- VCELL falls to the cutoff with VSB absent (R170): the cell is disconnected, the Exposure is cut. -/
def depleted (s : State) : State :=
  if s.supply.vsbOk || !s.supply.aon || !s.cell.connected then s
  else aonLost 0x0D (onCell (fun c => { c with connected := false }) s)

/-- The counters and charge figures that the authoritative record carries (R163). A record that meets an uncorrectable
word fails its CRC (R183). -/
def loadLog (errs : WordErrors) (s : State) : State :=
  let base := fun (r : Nat × Nat × Nat) => r.2.1 * 65536 + r.2.2 * 256
  let all := logRecords s
  let s := all.foldl (fun (s : State) r => countRead errs (base r) 768 s) s
  match newestBelow (all.filter fun r => !readFinds errs true (base r) 768) (2 ^ 33) with
  | none => s
  | some r =>
    let base := r.2.1 * 65536 + r.2.2 * 256
    let word := fun (off : Nat) => leNat (flashBytes s (base + off) 4)
    let s := { s with rails := updAll s.rails (fun n x => { x with
      counts := Vector.ofFn fun k => BitVec.ofNat 32 (word (0x20 + 40 * n.val + 4 * k.val)) }) }
    let q := word 0x2A0
    onSys (fun y => { y with prevDark := if fieldAt 8 1 (flashBytes s base 16) = 6 then 0x0D else 0 })
      (onCell (fun c => { c with
        measured := decide (q ≠ 0), qFull := if q = 0 then 300000 else q, cycles := BitVec.ofNat 32 (word 0x2A4),
        faultCount := BitVec.ofNat 32 (word 0x2AC) }) s)

/-- The NAND after an AON power-on: what its cells and its tables hold stays, patrol starts again (R306). -/
def nandKept (n : Nand) : Nand :=
  { Nand.init with
    blank := n.blank, lifeP := n.lifeP, lifeT := n.lifeT, bytesP := n.bytesP, bytesT := n.bytesT, grownCount := n.grownCount,
    stripes := n.stripes, openStripe := n.openStripe, nextStripe := n.nextStripe,
    chans := updAll n.chans (fun _ ch => { ch with
      state := 0, cause := 0, queue := [], erases := [], copying := false, cacheLun := none, patrolAt := 0, issued := [] }) }

/-- AON power-on (Table 3-2, code 0x01): everything on the AON die starts anew; option flash, NAND and what the module
was made with stay, and so do the levels at the pins. -/
def aonUp (straps : BitVec 2) (errs : WordErrors) (s : State) : State :=
  let p := s.supply
  let f := s.flash
  let s := { s with
    supply := { Supply.init with straps := straps, insDetLow := p.insDetLow, vsbOk := p.vsbOk, pfailLow := p.pfailLow,
                                 vinOk := p.vinOk, fwpHigh := p.fwpHigh, oscValid := false, xtal := p.xtal },
    sys := Sys.init, rails := famAll 16 RailSlot.init, seq := Seq.init, log := Log.init,
    cell := { Cell.init with onCell := !p.vsbOk },
    flash := { Flash.init with sectors := f.sectors, pages := f.pages, nextJob := f.nextJob },
    shadow := [],
    light := { Light.init with dram := s.light.dram, fill := s.light.fill },
    neg := { Neg.init with gens := s.neg.gens },
    nand := nandKept s.nand,
    tiers := { Tiers.init with tiles := s.tiers.tiles, save := s.tiers.save, cut := s.tiers.cut, sealed := s.tiers.sealed,
                               deleting := s.tiers.deleting.map fun p => (p.1, 0) },
    ports := famAll 4 TilePort.init, irq := Irq.init,
    bus := { Bus.init with staticAddr := 0x2C + straps.zeroExtend 7 },
    sec := { Sec.init with copy0 := s.sec.copy0, copy1 := s.sec.copy1, blocksOwed := s.sec.blocksOwed } }
  loadLog errs (scanFlash s)

/-- The oscillator is valid: the I3C pins are enabled and INS_DET is sampled (R76, R518). -/
def oscillatorStarts (s : State) : State :=
  if !s.supply.aon then s
  else debounce { onSupply (fun p => { p with oscValid := true }) s with bus := { s.bus with enabled := true } }

end Sys2Proof.Machine
end

