-- ==== Sys2Proof/Machine/Clock.lean ====
section
/-! DEFINITION. What passes with time when no command waits: 1 µs of AON-powered time (0xB000.04), of the residency of
the device state (0xB020) and, in RUN, of RUN time (0xB000.05), and of the charging time of R533; and a copy of a full anchor
block that is under way ends (R259). DESIGN CHOICE (assumption 20). -/

namespace Sys2Proof.Machine

/-- The RUN time after 1 µs in a device state. -/
def runTimeAfter (y : Sys) : Nat := if y.st = .run then y.runUs + 1 else y.runUs

/-- The residency counters after 1 µs in a device state. -/
def residencyAfter (y : Sys) : Fam 8 U64 :=
  y.residency.set (stFin y.st) (y.residency[stFin y.st] + 1)

/-- The time in CC and CV after 1 µs in a keeper phase (R533). -/
def chargeTimeAfter (c : Cell) : Nat := if c.phase = .cc || c.phase = .cv then c.chargeUs + 1 else c.chargeUs

/-- Copies of full anchor blocks end, where the main die runs. -/
def copiesEnd (s : State) : State := if s.sys.mainOn && pllRuns s then anchorCopies s else s

/-- One microsecond; an unpowered AON die counts nothing. -/
def tick (s : State) : State :=
  if s.supply.aon then
    copiesEnd <| onCell (fun c => { c with chargeUs := chargeTimeAfter c })
      (onSys (fun y => { y with aonTime := y.aonTime + 1, runUs := runTimeAfter y, residency := residencyAfter y }) s)
  else s

end Sys2Proof.Machine
end

