-- ==== Sys2Proof/Machine/Values.lean ====
section
/-! DEFINITION. What each object reads as: live readings, states, counters and stored values (Tables 2-2, 10-6, 12-10,
13-10, 14-9, 15-1 to 15-7, 16-1 to 16-5). A main-die object reads the value it last held while that die is off (R32). -/

namespace Sys2Proof.Machine

/-- A Bool and an optional generation number as numbers. -/
def flag (b : Bool) : Nat := if b then 1 else 0
def genWord (g : Option Nat) : Nat := g.getD 0xFFFFFFFF

/-- The member of a family of slots, targets, ports or channels that an index names. -/
def slotAt (i base : Nat) : SlotId := Fin.ofNat 16 (i - base)
def targetAt (i : Nat) : TargetId := Fin.ofNat 6 (i - 0x8100)
def portAt (i base : Nat) : PortId := Fin.ofNat 4 (i - base)

/-! ## Identity, bus and state -/

def identityValue (s : State) (b : Nat) : Nat :=
  match b with
  | 1 => match s.ident.part with | .ll6480 => 0x6480 | .ll6440 => 0x6440
  | 2 => match s.ident.stepping with | .a2 => 0xA2 | .b0 => 0xB0
  | 3 => leNat [0x5A, 0x61, 0x72, 0x77, 0x69, 0x63, 0x65, 0x6E]
  | 4 => s.ident.serial.toNat
  | _ => s.ident.fwVersion.toNat

def busValue (s : State) (b : Nat) : Nat :=
  match b with
  | 1 => s.bus.staticAddr.toNat
  | 2 => match s.bus.dynAddr with | some a => a.toNat | none => 0
  | 3 => s.bus.mode.toNat
  | 5 => s.bus.pecErrors.toNat
  | 6 => s.bus.frameErrors.toNat
  | 7 => s.bus.ibiWon.toNat
  | 8 => s.bus.ibiNacked.toNat
  | _ => s.bus.abandonedSegs.toNat

def stateValue (s : State) (b : Nat) : Nat :=
  match b with
  | 1 => (stCode s.sys.st).toNat
  | 2 => (stCode s.sys.prev).toNat
  | 3 => s.sys.cause.toNat
  | 4 => s.sys.depth.toNat
  | 5 => s.sys.faultCause.toNat
  | _ => s.sys.transitions.toNat

def bootValue (s : State) (b : Nat) : Nat :=
  match b with
  | 1 => s.sys.resetSource.toNat
  | 2 => s.sys.optCopy.toNat
  | 3 => s.sys.selfTest.toNat
  | 4 => s.sys.bootTime.toNat
  | 5 => s.sys.bootEntries.toNat
  | 6 => s.sys.wdogRestarts.toNat
  | 7 => crystalWord s
  | _ => s.sys.prevDark.toNat

/-! ## Rails, sequencer, log and cell -/

def railValue (s : State) (n : SlotId) (b : Nat) : Nat :=
  let x := s.rails[n]
  match b with
  | 1 => slotCode x.st
  | 2 => x.reading.toNat
  | 3 => x.flags.toNat
  | 5 => x.rampUs.toNat
  | 6 => compWord x
  | _ => x.rampRem.toNat

def sequencerValue (s : State) (b : Nat) : Nat :=
  match b with
  | 1 => leNat ((List.finRange 6).map fun r => s.seq.results[r])
  | 2 => match s.seq.run with | some r => r.sub | none => 0
  | 3 => s.seq.runFlags.toNat
  | 4 => s.seq.signal.toNat
  | _ => s.seq.corrected.toNat

/-- The counters of a slot, Table 5-2. -/
def counterRecord (s : State) (n : SlotId) : List Byte :=
  (List.finRange 10).flatMap fun k => leBytes 4 (s.rails[n].counts[k]).toNat

def logValue (s : State) (b : Nat) : Nat :=
  match b with
  | 5 => s.log.abandoned.toNat
  | _ => match authoritative s with | some r => r.1 | none => 0

def phaseCode : KeeperPhase → Nat
  | .off => 0 | .precharge => 1 | .cc => 2 | .cv => 3 | .full => 4 | .suspended => 5 | .discharging => 6

def cellValue (s : State) (b : Nat) : Nat :=
  match b with
  | 7 => phaseCode s.cell.phase
  | 8 => s.cell.vcellUv.toNat
  | 9 => s.cell.qRem
  | 0xA => qFull s
  | 0xB => s.cell.cycles.toNat
  | 0xC => s.cell.faultCode.toNat
  | 0xD => s.cell.eAvail.toNat
  | 0xE => s.cell.eReq.toNat
  | 0xF => flag s.cell.guarantee
  | _ => s.cell.eFull.toNat

/-! ## The Negative, option flash, NAND -/

def negativeValue (s : State) (b : Nat) : Nat :=
  match b with
  | 1 => s.neg.status.toNat
  | 2 => genWord ((newestC s).map (·.gen))
  | 3 => genWord ((newestH s).map (·.gen))
  | 4 => (chainOf s (newestC s)).length
  | 5 => freeSpace s
  | 6 => chainSpace s
  | _ => flag s.neg.baseFits

def exposureValue (s : State) (b : Nat) : Nat :=
  match b with
  | 1 => s.neg.result.toNat
  | 2 => genWord s.neg.lastGen
  | 3 => s.neg.captured.toNat
  | 4 => s.neg.duration.toNat
  | _ => s.neg.energy.toNat

/-- Flash activity, 0x4000.01. -/
def flashActivity (s : State) : Nat :=
  if s.flash.prog[(0 : Fin 2)].isSome || s.flash.prog[(1 : Fin 2)].isSome then 1
  else match s.flash.erase with
    | some e => if e.suspended then 3 else 2
    | none => 0

def flashValue (s : State) (b : Nat) : Nat :=
  match b with
  | 1 => flashActivity s
  | 2 => s.flash.corrected.toNat
  | 3 => s.flash.uncorrectable.toNat
  | 4 => s.flash.aborted.toNat
  | 5 => s.flash.refused.toNat
  | _ => s.flash.endurance.toNat

def commitValue (s : State) (b : Nat) : Nat :=
  match b with
  | 2 => if s.flash.commitRuns then 2 else flag s.flash.dirty
  | 3 => s.flash.copyValid.toNat
  | 4 => s.flash.repair.toNat
  | 5 => s.flash.loadedSeq.toNat
  | _ => s.flash.skipped.toNat

/-- The fitted NAND, from its parameter pages: LUNs per channel (Table 9-1), and bytes in TLC mode. -/
def lunsFitted (s : State) : Nat := min 16 (max 4 (pv s 0x5000 1 * Config.lunsPerTarget))
def nandCapacity (s : State) : Nat := 8 * (blocksOf s).length * pagesIn 2 * 16384

def channelValue (s : State) (b : Nat) : Nat :=
  match b with
  | 9 => (deadMask s).toNat
  | 0xA => s.nand.width.toNat
  | _ => (s.nand.chans[Fin.ofNat 8 (b - 1)]).state.toNat + 256 * (s.nand.chans[Fin.ofNat 8 (b - 1)]).cause.toNat

def patrolValue (s : State) (b : Nat) : Nat :=
  match b with
  | 4 => s.nand.progress.toNat
  | 5 => s.nand.passes.toNat
  | 6 => s.nand.relocations.toNat
  | 7 => s.nand.rebuilds.toNat
  | _ => s.nand.unrecovered.toNat

def wearValue (s : State) (b : Nat) : Nat :=
  match b with
  | 1 => s.nand.lifeP.toNat
  | 2 => s.nand.lifeT.toNat
  | 4 => s.nand.bytesP.toNat
  | 5 => s.nand.bytesT.toNat
  | _ => s.nand.grownCount.toNat

/-! ## Tiers, ports and the distributor -/

def tierValue (s : State) (b : Nat) : Nat :=
  if b = 1 then s.tiers.curators.toNat
  else if b = 2 then s.tiers.cycles.toNat
  else if b = 3 then s.tiers.failures.toNat
  else if b ≤ 7 then (s.tiers.proofs[Fin.ofNat 4 (b - 4)]).toNat
  else (s.tiers.misses[Fin.ofNat 4 (b - 8)]).toNat

/-- The last malformed tile of an account (R376). -/
def malformedRecord (m : Malformed) : List Byte :=
  leBytes 2 m.stream.toNat ++ [m.reason, 0] ++ leBytes 4 m.tile.toNat ++ leBytes 4 m.count.toNat

def portValue (s : State) (p : PortId) (b : Nat) : Nat :=
  let t := s.ports[p]
  match b with
  | 1 => t.link.toNat
  | 2 => t.speed.toNat
  | 3 => t.width.toNat
  | 4 => t.active.length
  | 5 => t.completed.toNat
  | 6 => t.gone.toNat
  | 7 => t.losses.toNat
  | 8 => t.halts.toNat
  | 9 => t.lastQerr.toNat
  | 0xA => t.correctable.toNat
  | 0xB => t.uncorrectable.toNat
  | _ => t.dropped.toNat

/-- The bitmaps of a target (Table 13-8): PENDING where routed to it or ACTIVE_PENDING and owned by it; ACTIVE where
owned by it. -/
def pendingBit (s : State) (t : TargetId) (n : SourceId) : Bool :=
  let x := s.irq.src[n]
  (decide (x.st = .pending) && (decide (route s n.val = some (false, t)) || decide (route s n.val = some (true, t))))
    || (decide (x.st = .activePending) && decide (x.owner = t))
def activeBit (s : State) (t : TargetId) (n : SourceId) : Bool :=
  let x := s.irq.src[n]
  decide (x.owner = t) && (decide (x.st = .active) || decide (x.st = .activePending))
def bitmapBytes (f : SourceId → Bool) : List Byte :=
  (List.range 24).map fun k => maskOf 8 fun b => f (Fin.ofNat 192 (8 * k + b))

def distributorValue (s : State) (b : Nat) : Nat :=
  if b ≤ 6 then (s.irq.tgt[Fin.ofNat 6 (b - 1)]).spurious.toNat
  else if b ≤ 0xC then (s.irq.tgt[Fin.ofNat 6 (b - 7)]).notified.toNat
  else s.irq.merged.toNat

/-! ## Observer -/

def handoverValue (s : State) (b : Nat) : Nat :=
  let l := s.light
  match b with
  | 1 => l.lastTakeover.toNat
  | 2 => l.forcedCause.toNat
  | 3 => l.fenceTime.toNat
  | 4 => flag l.slotTrained
  | 5 => flag l.mrUncertain
  | 6 => l.takeovers.toNat
  | 7 => l.forced.toNat
  | 8 => l.trainings.toNat
  | 9 => l.trainingFailures.toNat
  | _ => l.returnTime.toNat

/-- The veiled sub-channels, 0x9050.01: bit 4 × SIDE + SUBCH. -/
def veiledMask (s : State) : Byte :=
  maskOf 8 fun k => s.light.subs[Fin.ofNat 8 k].veiled && sideThere s (k / 4)

def veilValue (s : State) (b : Nat) : Nat :=
  match b with
  | 1 => (veiledMask s).toNat
  | 2 => s.light.veilCause.toNat
  | 3 => s.light.veils.toNat
  | 4 => s.light.violations.toNat
  | _ => s.light.heldCmds.toNat

/-- The capture, 0x9020.01 (R228, R480): side B reads 0 on the LL6440. -/
def captureBytes (s : State) : List Byte :=
  (List.finRange 16).flatMap fun r => (List.range 1024).map fun o =>
    if small s && decide (8 ≤ r.val) then 0 else captureByte s.light.ranks[r] s.light.subs[subOfRank r].veiled o

/-- The heat table, 0x9040.02 (R225), and the dirty summary, 0x9060.03 (R487); both are empty in retention (R481). -/
def heatBytes (s : State) : List Byte :=
  if s.sys.mainOn then (groupsOf s).flatMap fun g => leBytes 2 (heatOf s g).toNat else []
def summaryBytes (s : State) : List Byte :=
  if s.sys.mainOn then
    let d := dirtyFrames s
    (List.range 65536).map fun k => maskOf 8 fun b =>
      let lo := 64 * (8 * k + b)
      decide (rcount (rinter d [(lo, lo + 64)]) ≠ 0)
  else []

/-! ## Security and diagnostics -/

def securityValue (s : State) (b : Nat) : Nat :=
  match b with
  | 1 => flag s.ident.lifecycle
  | 2 => s.sec.binding.toNat
  | 3 => s.sec.keyId.toNat
  | 4 => s.sec.authFailures.toNat
  | _ => s.sec.session.toNat

def firmwareValue (s : State) (b : Nat) : Nat :=
  match b with
  | 2 => s.sec.update.toNat
  | 3 => s.sec.inactiveVersion.toNat
  | _ => s.ident.rollback.toNat

def sensorValue (s : State) (b : Nat) : Nat :=
  match b with
  | 1 => s.supply.dieTemp.toNat
  | 2 => (if s.sys.mainOn then Config.mainTemp s.sys.aonTime.toNat else s.supply.mainTemp).toNat
  | 3 => s.supply.vsbUv.toNat
  | 4 => s.sys.aonTime.toNat
  | _ => min (s.sys.runUs / 1000000) (2 ^ 32 - 1)

/-- The valid records in each log slot, 0xB010.03. -/
def logOccupancy (s : State) : List Byte :=
  [28, 29].flatMap fun sec => leBytes 1 ((logRecords s).filter fun r => r.2.1 = sec).length

/-! ## Any object -/

/-- A value that is a number and no persistent object. -/
def liveNumber (s : State) (i b : Nat) : Nat :=
  if i = 0x1000 then identityValue s b
  else if i = 0x1100 then busValue s b
  else if i = 0x1400 then stateValue s b
  else if i = 0x1420 then bootValue s b
  else if i = 0x2020 then (if b = 5 then s.supply.vinUv.toNat else s.supply.recovered.toNat)
  else if 0x2100 ≤ i && i < 0x2110 then railValue s (slotAt i 0x2100) b
  else if i = 0x2220 then sequencerValue s b
  else if i = 0x2300 then (s.rails[Fin.ofNat 16 (b - 1)]).request.toNat
  else if i = 0x2310 then marginStatus s.rails[Fin.ofNat 16 (b - 1)]
  else if i = 0x2410 then logValue s b
  else if i = 0x2500 then cellValue s b
  else if i = 0x3000 then negativeValue s b
  else if i = 0x3010 then exposureValue s b
  else if i = 0x3020 then s.neg.devResult.toNat
  else if i = 0x4000 then flashValue s b
  else if i = 0x4010 then (s.flash.sectors[Fin.ofNat 32 (b - 1)]).erases.toNat
  else if i = 0x4020 then (if b = 1 then s.flash.rawAddr.toNat else s.flash.rawResult.toNat)
  else if i = 0x4030 then commitValue s b
  else if i = 0x5000 then (if b = 2 then lunsFitted s else nandCapacity s)
  else if i = 0x5010 then channelValue s b
  else if i = 0x5020 then patrolValue s b
  else if i = 0x5030 then (if b = 2 then s.nand.negBytes.toNat else s.nand.tierFBytes.toNat)
  else if i = 0x5040 then wearValue s b
  else if i = 0x6020 then (if b = 1 then (if small s then 0xC0400000 else 0x180400000) else s.tiers.loaded.toNat)
  else if i = 0x6030 then flag s.tiers.invalBus.isSome
  else if i = 0x6070 then tierValue s b
  else if i = 0x6080 then s.tiers.decodeFails.toNat
  else if 0x7100 ≤ i && i < 0x7104 then portValue s (portAt i 0x7100) b
  else if 0x8100 ≤ i && i < 0x8106 then flag (s.irq.tgt[targetAt i]).disable
  else if i = 0x8400 then distributorValue s b
  else if i = 0x9000 then frameCount s
  else if i = 0x9010 then handoverValue s b
  else if i = 0x9020 then s.light.captures.toNat
  else if i = 0x9050 then veilValue s b
  else if i = 0x9060 then (if b = 1 then rcount (dirtyFrames s) else flag s.light.baseline)
  else if i = 0xA000 then securityValue s b
  else if i = 0xA030 then firmwareValue s b
  else if i = 0xA040 then (if b = 2 then s.sec.sanitizeState.toNat else s.sec.sanitizeCount.toNat)
  else if i = 0xB000 then sensorValue s b
  else (s.sys.residency[Fin.ofNat 8 (b - 1)]).toNat

/-- The bytes that a READ of an object without side effects returns. Subindex 0x00 is a U8. -/
def objectBytes (s : State) (i b : Nat) : List Byte :=
  if b = 0 then leBytes 1 ((highestSub i).getD 0)
  else match rowOf i b with
    | none => []
    | some r =>
      if r.pers then leBytes r.size (pv s i b)
      else if i = 0x2400 then counterRecord s (Fin.ofNat 16 (b - 1))
      else if i = 0x6080 && decide (b ≤ 4) then malformedRecord s.tiers.malformed[Fin.ofNat 4 (b - 1)]
      else if i = 0xB010 then logOccupancy s
      else leBytes r.size (liveNumber s i b)

/-- The bytes of a DOMAIN that is not read from option flash, as a path reads it: an engine sees its own account's spoiled tiles only. -/
def domainBytes (s : State) (path : Path) (i b : Nat) : List Byte :=
  if i = 0x3030 then reportBytes s.neg.report
  else if i = 0x6060 then spoiledBytes s (match path with | .bus => none | .tunnel p => some p.val)
  else if 0x8100 ≤ i && i < 0x8106 then
    bitmapBytes (if b = 8 then pendingBit s (targetAt i) else activeBit s (targetAt i))
  else if i = 0x8200 then pBytes s (okey 0x8200 1) 768
  else if i = 0x9020 then captureBytes s
  else if i = 0x9040 then heatBytes s
  else if i = 0x9060 then summaryBytes s
  else []

end Sys2Proof.Machine
end

