-- ==== Sys2Proof/Machine/Od.lean ====
section
/-! DEFINITION. Access to the object dictionary (R455 to R461, R466, R470 to R489): the checks in the order of R461, reads,
writes and segments, and the effects that a write has beyond the value it stores. -/

namespace Sys2Proof.Machine

/-! ## Existence, path, class (R415, R461, R466) -/

/-- Claim and complete subindices that only BAR0 reaches. -/
def claimOnly (i b : Nat) : Bool := decide (0x8101 ≤ i) && decide (i ≤ 0x8105) && decide (5 ≤ b) && decide (b ≤ 7)

/-- The engine access mask (Table 14-8). -/
def engineReads (p : PortId) (i b : Nat) : Bool :=
  let n := p.val
  [0x1000, 0x1400, 0x6020, 0x6040, 0x6050, 0x6060, 0x7200, 0x7000 + n, 0x7100 + n, 0x8101 + n].contains i
    || (i = 0x6010 && [n + 1, n + 5, n + 9].contains b)
    || (i = 0x6070 && [1, n + 4, n + 8].contains b)
    || (i = 0x6080 && [n + 1, 5].contains b)
def engineWrites (p : PortId) (i b : Nat) : Bool := decide (i = 0x8101 + p.val) && decide (b = 1)

/-- Whether a path reaches an object. -/
def pathCheck (path : Path) (write : Bool) (i b : Nat) : Abort :=
  if claimOnly i b then .accessDenied
  else match path with
    | .bus => .done
    | .tunnel p => if (if write then engineWrites p i b else engineReads p i b) then .done else .accessDenied

/-- The access class of an object: subindex 0x00 is RO. -/
def accOf (i b : Nat) : Acc := if b = 0 then .ro else match rowOf i b with | some r => r.acc | none => .ro

/-- Whether the class allows the access (Table 14-7). -/
def classCheck (write : Bool) (a : Acc) : Abort :=
  match a, write with
  | .ro, true => .readOnly
  | .wo, false => .writeOnly
  | _, _ => .done

/-! ## State (Tables 2-7 and 14-7, R32, R94, R435, R472, R481) -/

/-- What BOOT serves, and what the boot ROM serves in a FAULT with the main die unpowered. -/
def bootServes (i : Nat) : Bool := [0x1000, 0x1100, 0x1400, 0x1410, 0x1420].contains i
def faultServes (i : Nat) : Bool :=
  bootServes i || [0x4000, 0x4010, 0x4020, 0x4030, 0x4040, 0xA000, 0xA020, 0xA030].contains i

/-- Whether the main die holds an object. -/
def mainHolds (i b : Nat) : Bool := match rowOf i b with | some r => r.main | none => false

/-- Whether the state serves the object at all. -/
def servedCheck (s : State) (write : Bool) (i b : Nat) : Abort :=
  if s.sys.st = .boot && !bootServes i then .deviceState
  else if bootFault s && !faultServes i then .deviceFault
  else if !s.sys.mainOn && ((decide (0x8100 ≤ i) && decide (i ≤ 0x8105) && decide (5 ≤ b) && decide (b ≤ 7))
      || (write && mainHolds i b)) then .deviceState
  else if write && (decide (s.sys.st = .expose) || decide (s.sys.st = .develop)) && decide (0x6000 ≤ i) && decide (i < 0x8000) then
    .deviceState
  else if i = 0x4020 && b = 2 && !write && !rawState s true then .deviceState
  else .done

/-- The states in which an object that is no RWS object takes a write. -/
def writeState (s : State) (i b : Nat) : Bool :=
  let setup := decide (s.sys.st = .setup)
  let run := decide (s.sys.st = .run)
  if 0x2100 ≤ i && i < 0x2110 && b = 4 then inSRF s
  else if i = 0x2230 then setup || run
  else if i = 0x2300 then inSRF s
  else if i = 0x2410 then (if b = 1 then setup || run else setup)
  else if i = 0x2500 then setup
  else if i = 0x3010 then run
  else if i = 0x3020 then setup && decide (s.neg.status = 2)
  else if i = 0x4020 && b ≠ 1 then inSRF s
  else if i = 0x5010 then setup
  else if i = 0xA010 then setup
  else if i = 0xA040 then setup || decide (s.sys.st = .fault)
  else true

/-- A write of 0 to a BOOL of access WO, which has no effect (R473, R482). -/
def idleTrigger (i b : Nat) (data : List Byte) : Bool :=
  match rowOf i b with
  | some r => decide (r.ty = .bool) && decide (r.acc = .wo) && decide (data = [0])
  | none => false

/-- The state check of a write. A run request while a program runs ends SEQ_BUSY in every state: R133 names that abort
before DEVICE_STATE. -/
def stateCheck (s : State) (i b : Nat) (data : List Byte) : Abort :=
  let a := servedCheck s true i b
  if i = 0x2230 && b = 1 && s.seq.run.isSome then .seqBusy
  else if a ≠ .done then a
  else if (accOf i b = .rws || accOf i b = .rwsu) && decide (s.sys.st ≠ .setup) then .deviceState
  else if idleTrigger i b data || writeState s i b then .done
  else .deviceState

/-! ## Session, protection, type, length, range -/

/-- An object that is written with an open session only (R482, R497, R502, Table 16-4). -/
def sessionCheck (s : State) (i b : Nat) (data : List Byte) : Abort :=
  if (accOf i b = .rwu || accOf i b = .rwsu || decide (i = 0xA040) || (decide (i = 0xA030) && decide (b = 4) && decide (data ≠ [0])))
      && decide (s.sec.session ≠ 2) then .sessionRequired
  else .done

/-- Protection (R194, R195): every persistent object, a commit request (that of 0xA030.04 among them, R502), the program
store. -/
def protectionCheck (s : State) (i b : Nat) (data : List Byte) : Abort :=
  let p := match rowOf i b with | some r => r.pers | none => false
  if (p || ((i = 0x4030 || (i = 0xA030 && b = 4)) && data ≠ [0])) && optionProtected s then .writeProtected
  else if i = 0x2200 && storeProtected s then .writeProtected
  else .done

/-- Whether an object is a DOMAIN. -/
def isDomain (i b : Nat) : Bool :=
  if b = 0 then false else match rowOf i b with | some r => decide (r.ty = .domain) | none => false

/-- Type, length and range of a WRITE (R455, R456). -/
def valueCheck (s : State) (i b : Nat) (data : List Byte) : Abort :=
  match rowOf i b with
  | none => .done
  | some r =>
    if r.ty = .domain then .typeMismatch
    else if data.length ≠ r.size then .lengthMismatch
    else if r.ty = .record then .done
    else
      let v : Int := if r.ty = .i16 then signedOf 16 (leNat data) else leNat data
      if r.ty = .bool && 1 < leNat data then .valueRange
      else if idleTrigger i b data || rangeOk (small s) r v then .done
      else .valueRange

/-- The first check that fails, in their order. -/
def firstOf : List Abort → Abort
  | [] => .done
  | a :: rest => if a = .done then firstOf rest else a

/-- Every check of R461 but the owning chapter's guards, for a WRITE and for a read. -/
def writeChecks (s : State) (path : Path) (i b : Nat) (data : List Byte) : Abort :=
  firstOf [existence (small s) i b, pathCheck path true i b, classCheck true (accOf i b), stateCheck s i b data,
    sessionCheck s i b data, protectionCheck s i b data, valueCheck s i b data]
def readChecks (s : State) (path : Path) (i b : Nat) (segment : Bool) : Abort :=
  firstOf [existence (small s) i b, pathCheck path false i b, classCheck false (accOf i b), servedCheck s false i b,
    if isDomain i b == segment then .done else .typeMismatch]

/-! ## Guards of persistent objects (R234, R293, R320, R425, R477, R484, R486) -/

/-- The count of bits set in a number of 8 bits. -/
def ones (v : Nat) : Nat := ((List.range 8).filter fun k => v.testBit k).length

/-- The persistent value an object would have after a write of another. -/
def after (s : State) (i b v : Nat) (i' b' : Nat) : Nat := if i = i' && b = b' then v else pv s i' b'

/-- The tier quotas of 0x6010 after a write (R320). -/
def quotaOk (s : State) (b v : Nat) : Bool :=
  let n := accounts s
  let total := fun (base : Nat) => sum ((List.range n).map fun a => after s 0x6010 b v 0x6010 (base + a))
  if b ≤ 4 then decide (total 1 ≤ 120)
  else if b ≤ 8 then decide (total 5 ≤ (if small s then 2944 else 5888))
  else decide (1048576 * total 9 ≤ s.nand.tierFBytes.toNat) || decide (v = 0)

/-- The fixed mask agrees with K while the mode is 1 (R477). -/
def keptOk (s : State) (b v : Nat) : Bool :=
  decide (after s 0x3040 b v 0x3040 3 ≠ 1) || decide (ones (after s 0x3040 b v 0x3040 4) = after s 0x3040 b v 0x3040 2)

/-- The smallest geometry is refused (R484). -/
def geometryOk (s : State) (b v : Nat) : Bool :=
  !(decide (after s 0x9000 b v 0x9000 1 = 1) && decide (after s 0x9000 b v 0x9000 2 = 1)
    && decide (after s 0x9000 b v 0x9000 3 = 14))

/-- A rank operates in a set point (R486). -/
def slotOperates (s : State) (k : Nat) : Bool := (ranksThere s).any fun r => decide ((s.light.ranks[r]).fspOp.val = k)

/-- A fast assignment that names what the part has not (R5, R425). -/
def assignIgnored (s : State) (v : Nat) : Bool :=
  !sourceLive s (assignSource v) || (small s && (assignTarget v = 3 || assignTarget v = 4))
def assignTaken (s : State) (k : Nat) (v : Nat) : Bool :=
  assignValid v && (List.finRange 16).any fun j =>
    decide (j.val + 1 ≠ k) && assignValid (assignment s j) && decide (assignSource (assignment s j) = assignSource v)

/-- The guard of a persistent write. -/
def persistentOk (s : State) (i b v : Nat) : Bool :=
  if i = 0x6010 then quotaOk s b v
  else if i = 0x3040 then keptOk s b v
  else if i = 0x5030 then !regionRefused s v
  else if i = 0x8300 then assignInRange v && (assignIgnored s v || !assignTaken s b v)
  else if i = 0x9000 then geometryOk s b v
  else if i = 0x9030 then !slotOperates s v
  else true

/-! ## Effects of persistent writes (R163, R185, R422, R423, R485, R534) -/

/-- The module geometry has changed (R485). -/
def geometryChanged (s : State) : State :=
  updateFits (setStatus (markAll (onLight (fun l => { l with baseline := false, heat := [] }) s)))

/-- A coalescing setting at a target takes effect at once: an open window is tested anew (R428). -/
def retest (t : TargetId) (s : State) : State := testWindow t false s

/-- A persistent object written: the shadow value, the dirty mark, and what follows from the new value. -/
def storePersistent (i b v : Nat) (s : State) : State :=
  let old := pv s i b
  let v' := if i = 0x8300 && assignIgnored s v then 0 else v
  let t := writeP (okey i b) v' s
  if i = 0x9000 then (if v = old then t else geometryChanged t)
  else if i = 0x9030 then onLight (fun l => { l with slotTrained := false }) t
  else if i = 0x8300 then reroute s t
  else if i = 0x8100 && b = 2 then lines t
  else if 0x8100 ≤ i && i < 0x8106 then retest (targetAt i) t
  else if i = 0x2500 && b = 1 then clampQ t
  else t

/-- The whole of 0x8200.01 written (R423): the entries of sources that cannot become pending are ignored. -/
def storeSources (es : List Nat) (s : State) : State :=
  let t := (List.range 192).foldl (fun (x : State) n =>
    if sourceLive s n then pset (srcKey n) (es.getD n 0) x else x) s
  reroute s (onFlash (fun f => { f with dirty := true, dirtySince := true }) t)
def sourcesOk (s : State) (es : List Nat) : Bool := (List.range 192).all fun n => entryInRange s n (es.getD n 0)

/-! ## Effects of volatile and trigger objects -/

/-- 0x2230.01 (R133). An entry with ROLE 6 is started whether or not its VALID is set: R133 asks for the role alone
(assumption 59). -/
def runProgram (sub : Nat) (s : State) : Abort × State :=
  if s.seq.run.isSome then (.seqBusy, s)
  else if dirRole (entryAt s sub) ≠ 6 then (.valueRange, s)
  else (.done, loadProgram sub 6 s)

/-- 0x2300 (R145, R146, R476). -/
def hostMargin (n : SlotId) (steps : U16) (s : State) : Abort × State :=
  if pv s 0x2320 (n.val + 1) < steps.toInt.natAbs then (.valueRange, s)
  else if !slotUsed s n then (if steps = 0 then .done else .valueRange, s)
  else (.done, requestMargin n steps s)

/-- 0x2100+n.04 (R107). -/
def clearLatch (n : SlotId) (s : State) : State :=
  onRail n (fun x => if x.st = .latched then { x with st := .off } else x) s

/-- 0x2410.04 (R158). -/
def clearCounts (s : State) : State :=
  logPoint 5 { s with rails := updAll s.rails (fun _ x => { x with counts := famAll 10 0, alerted := famAll 3 false }) }

/-- 0x3020.02 (R261). -/
def acceptStale (v : U32) (s : State) : Abort × State :=
  if v ≠ staleValue s then (.valueRange, s) else (.done, acceptStaleNow s)

/-- A session closed by a write of 1 to 0xA020.03. -/
def sessionClosed (s : State) : State := closeSession s

/-- A write that has passed every check: its guards and its effect. `resp` is the response that waits for the end of
option flash work. -/
def writeEffect (i b : Nat) (data resp : List Byte) (s : State) : Abort × State :=
  let v := leNat data
  if i = 0x1410 then stateRequest v s
  else if i = 0x1420 then (.done, clearCrystal (BitVec.ofNat 8 v) s)
  else if 0x2100 ≤ i && i < 0x2110 then
    (.done, if b = 3 then clearSlotFlags (slotAt i 0x2100) (BitVec.ofNat 32 v) s else clearLatch (slotAt i 0x2100) s)
  else if i = 0x2230 then runProgram v s
  else if i = 0x2300 then hostMargin (Fin.ofNat 16 (b - 1)) (BitVec.ofNat 16 v) s
  else if i = 0x2310 then (.done, clearMarginFlags (Fin.ofNat 16 (b - 1)) (BitVec.ofNat 32 v) s)
  else if i = 0x2410 then (.done, if b = 1 then logPoint 4 s else clearCounts s)
  else if i = 0x2500 then (.done, clearFaults s)
  else if i = 0x3010 then (.done, startCons s)
  else if i = 0x3020 then acceptStale (BitVec.ofNat 32 v) s
  else if i = 0x4020 && b = 1 then (.done, onFlash (fun f => { f with rawAddr := BitVec.ofNat 32 v }) s)
  else if i = 0x4020 then eraseRaw (BitVec.ofNat 8 v) resp s
  else if i = 0x4030 then commitAsked s
  else if i = 0x5010 then (.done, clearMarks s)
  else if i = 0x6030 then (.done, invalidateFrom .bus (BitVec.ofNat 16 v) s)
  else if 0x8100 ≤ i && i < 0x8106 && b = 1 then (.done, setDisable (targetAt i) (decide (v = 1)) s)
  else if i = 0x8100 then (.done, completeAt 0 v s)
  else if i = 0xA010 then presentToken data s
  else if i = 0xA020 && b = 2 then writeResponse data s
  else if i = 0xA020 then (.done, sessionClosed s)
  else if i = 0xA030 then activate s
  else sanitizeFrom (BitVec.ofNat 32 v) s

/-! ## READ and WRITE -/

/-- A READ, or a tunnel read, of a value that is no DOMAIN; three objects are changed by it. -/
def odRead (path : Path) (i b : Nat) (s : State) : Abort × List Byte × State :=
  let a := readChecks s path i b false
  if a ≠ .done then (a, [], s)
  else if i = 0x8100 && b = 5 then (let r := claim 0 false s; (.done, leBytes 2 r.1.toNat, r.2))
  else if i = 0x8100 && b = 6 then (let r := claim 0 true s; (.done, leBytes 2 r.1.toNat, r.2))
  else if i = 0xA020 && b = 1 then readChallenge s
  else (.done, objectBytes s i b, s)

/-- A write of 0x4020.02 or 0x4020.03 that the host is refused, whatever refuses it, leaves 0x4020.04 at REFUSED (R209). -/
def rawNoted (path : Path) (i b : Nat) (r : Abort × State) : Abort × State :=
  if decide (path = .bus) && decide (i = 0x4020) && (decide (b = 2) || decide (b = 3)) && decide (r.1 ≠ .done) then
    rawRefused r.1 r.2
  else r

/-- A WRITE, or a tunnel write, of a value that is no DOMAIN: applied whole or not at all. -/
def objectWrite (path : Path) (i b : Nat) (data resp : List Byte) (s : State) : Abort × State :=
  let a := writeChecks s path i b data
  if a ≠ .done then (a, s)
  else if idleTrigger i b data then (.done, s)
  else match rowOf i b with
    | none => (.done, s)
    | some r =>
      if r.pers then
        (if persistentOk s i b (leNat data) then (.done, storePersistent i b (leNat data) s) else (.valueRange, s))
      else writeEffect i b data resp s
def odWrite (path : Path) (i b : Nat) (data resp : List Byte) (s : State) : Abort × State :=
  rawNoted path i b (objectWrite path i b data resp s)

/-! ## Segments (R457 to R459) -/

/-- What a segmented read answers: its TOTAL and data, an abort, or nothing yet. -/
def odSegRead (path : Path) (i b off len : Nat) (errs : WordErrors) (s : State) : RawAnswer × State :=
  let a := readChecks s path i b true
  if a ≠ .done then (.no a, s)
  else if i = 0x4020 then readRaw off len errs s
  else if i = 0x2200 || i = 0xB010 then readArray ⟨i, b, off, len, errs⟩ s
  else
    let bs := domainBytes s path i b
    if bs.length < off then (.no .valueRange, s) else (.bytes bs.length ((bs.drop off).take len), s)

/-- The fixed length or the maximum of a DOMAIN that is written, and whether it is fixed. -/
def domainLimit (s : State) (i : Nat) : Nat × Bool :=
  if i = 0x2200 then (32768, true)
  else if i = 0x8200 then (768, true)
  else if i = 0x4020 then (rawLeft s, false)
  else (524288, false)

/-- Every check of a SEG_WRITE before its segment is taken. -/
def segChecks (s : State) (path : Path) (i b : Nat) : Abort :=
  firstOf [existence (small s) i b, pathCheck path true i b, classCheck true (accOf i b), stateCheck s i b [],
    sessionCheck s i b [], protectionCheck s i b [], if isDomain i b then .done else .typeMismatch]

/-- The whole value of a DOMAIN is in: its checks and its effect. 0x2200 and 0xA030.01 are programmed as they arrive. -/
def segDone (i : Nat) (bs resp : List Byte) (s : State) : Abort × State :=
  if i = 0x8200 then
    let es := (List.range 192).map fun n => fieldAt (4 * n) 4 bs
    if sourcesOk s es then (.done, storeSources es s) else (.valueRange, s)
  else programRaw bs resp s

/-- A segment of an open transfer taken (R458). -/
def segTake (path : Path) (g : OpenSeg) (last : Bool) (data : List Byte) (s : State) : Abort × State :=
  let i := g.index.toNat
  let total := g.taken + data.length
  let lim := domainLimit s i
  let resp := [0, 0, 0] ++ leBytes 4 total
  let opened := setSeg path (some g) s
  if lim.1 < total || (last && lim.2 && decide (total < lim.1)) then (.lengthMismatch, abandon path opened)
  else if i = 0x2200 || i = 0xA030 then
    let r := if i = 0x2200 then storeSegment g data last s else imageSegment g data last s
    let t := { r.2 with bus := { r.2.bus with resp := if r.2.bus.busy then resp else r.2.bus.resp } }
    (.done, setSeg path (if last then none else some r.1) t)
  else if !last then (.done, setSeg path (some { g with taken := total, data := g.data ++ data }) s)
  else
    let r := segDone i (g.data ++ data) resp (setSeg path none s)
    if r.1 = .done then r else (r.1, abandon path (setSeg path (some g) r.2))

/-- A SEG_WRITE: an OFFSET of 0 opens a transfer and abandons the one before; any other must continue it. -/
def segmentWrite (path : Path) (i b off : Nat) (last : Bool) (data : List Byte) (s : State) : Abort × State :=
  let a := segChecks s path i b
  if a ≠ .done then (a, s)
  else if off = 0 then
    segTake path ⟨BitVec.ofNat 16 i, BitVec.ofNat 8 b, 0, []⟩ last data (abandon path s)
  else match segOf s path with
    | some g =>
      if g.index.toNat = i && g.sub.toNat = b && g.taken = off then segTake path g last data s
      else (.segmentSequence, s)
    | none => (.segmentSequence, s)
def odSegWrite (path : Path) (i b off : Nat) (last : Bool) (data : List Byte) (s : State) : Abort × State :=
  rawNoted path i b (segmentWrite path i b off last data s)

/-- A SEG_ABORT: it abandons the open transfer of the object it names. -/
def odSegAbort (path : Path) (i b : Nat) (s : State) : State :=
  match segOf s path with
  | some g => if g.index.toNat = i && g.sub.toNat = b then abandon path s else s
  | none => s

end Sys2Proof.Machine
end

