-- ==== Sys2Proof/Machine/Transport.lean ====
section
/-! DEFINITION. The bus and the engines' registers (R71, R383 to R388, R405, R406, R441 to R453, R465, R531): frames and
responses, the requests that rows of the table stand for, CCCs, in-band interrupts, BAR0 and the object tunnel. -/

namespace Sys2Proof.Machine

/-- The bus changed. -/
def onBus (f : Bus → Bus) (s : State) : State := { s with bus := f s.bus }

/-! ## Whether the device answers (R32, R71, R445) -/

/-- The pins are enabled, the state is not DARK, the supervisor core is not restarting (R87), and in HOLD and in a BOOT
that has not passed step 2 the crystal runs (R81, R82). -/
def busServes (s : State) : Bool :=
  s.supply.aon && s.bus.enabled && decide (s.sys.st ≠ .dark) && decide (s.sys.restartEnd ≤ s.sys.aonTime.toNat)
    && ((decide (s.sys.st ≠ .hold) && !(decide (s.sys.st = .boot) && s.sys.pllWait)) || s.supply.xtal)

/-- A private transfer is addressed to the device in a framing it takes. -/
def addressed (s : State) (x : Xfer) (read : Bool) : Bool :=
  busServes s &&
    (match s.bus.dynAddr with
      | none => decide (x.addr = s.bus.staticAddr) && decide (x.framing = .i2c)
      | some a => decide (x.addr = a) &&
        (match x.framing with
          | .i2c => false
          | .sdr => true
          | .ddr c => c = if read then 0x81 else 0x01))

/-- A transfer that is not acknowledged. -/
def nack (s : State) : State := onBus (fun b => { b with ack := false }) s

/-- A transfer met: acknowledged, and in HOLD the core runs from the crystal. -/
def touch (s : State) : State :=
  onBus (fun b => { b with ack := true })
    (if s.sys.st = .hold then { s with supply := { s.supply with clock := .xtal } } else s)

/-- The bus mode of a framing, 0x1100.03. -/
def modeOf : Framing → Byte
  | .i2c => 0 | .sdr => 1 | .ddr _ => 2
def met (x : Xfer) (s : State) : State := onBus (fun b => { b with mode := modeOf x.framing }) (touch s)

/-! ## Responses (R449, R452) -/

/-- A response that is ready: STATUS, LEN and DATA. -/
def reply (a : Abort) (data : List Byte) (s : State) : State :=
  onBus (fun b => { b with resp := abortCode a :: leBytes 2 data.length ++ data }) s

/-- The response of a segmented request that is done: TOTAL stands before DATA. -/
def replySeg (total : Nat) (data : List Byte) (s : State) : State :=
  onBus (fun b => { b with resp := 0 :: leBytes 2 data.length ++ leBytes 4 total ++ data }) s

/-- A write has been executed: its response is ready, unless it waits for option flash. -/
def written (r : Abort × State) : State := if r.2.bus.busy then r.2 else reply r.1 [] r.2

/-! ## Requests (R449 to R453) -/

/-- A request as its frame spells it (Table 14-2). -/
inductive Request where
  | read (i b : Nat)
  | write (i b : Nat) (data : List Byte)
  | segRead (i b off len : Nat)
  | segWrite (i b off : Nat) (last : Bool) (data : List Byte)
  | segAbort (i b : Nat)
  deriving DecidableEq, Repr

/-- A length field of a request, in its range. -/
def frameLen (at_ : Nat) (bs : List Byte) : Nat := fieldAt at_ 2 bs
def lenFits (len : Nat) : Bool := decide (1 ≤ len) && decide (len ≤ 256)

/-- A frame without its PEC parsed; `none` is a FRAME_ERROR. -/
def parseFrame (bs : List Byte) : Option Request :=
  let i := fieldAt 1 2 bs
  let b := fieldAt 3 1 bs
  let op := fieldAt 0 1 bs
  if op = 1 && bs.length = 4 then some (.read i b)
  else if op = 2 && lenFits (frameLen 4 bs) && bs.length = 6 + frameLen 4 bs then some (.write i b (bs.drop 6))
  else if op = 3 && lenFits (frameLen 8 bs) && bs.length = 10 then
    some (.segRead i b (fieldAt 4 4 bs) (frameLen 8 bs))
  else if op = 4 && lenFits (frameLen 9 bs) && bs.length = 11 + frameLen 9 bs then
    some (.segWrite i b (fieldAt 4 4 bs) ((fieldAt 8 1 bs).testBit 0) (bs.drop 11))
  else if op = 5 && bs.length = 4 then some (.segAbort i b)
  else none

/-- A segmented read on the bus, executed; a read that waits for the array leaves the path busy. -/
def serveSegRead (i b off len : Nat) (errs : WordErrors) (s : State) : State :=
  let r := odSegRead .bus i b off len errs s
  match r.1 with
  | .bytes total data => replySeg total data r.2
  | .waits => onBus (fun b => { b with busy := true }) r.2
  | .no a => reply a [] r.2

/-- A segmented write on the bus, executed. -/
def serveSegWrite (i b off : Nat) (last : Bool) (data : List Byte) (s : State) : State :=
  let r := odSegWrite .bus i b off last data s
  if r.2.bus.busy then r.2 else if r.1 = .done then replySeg (off + data.length) [] r.2 else reply r.1 [] r.2

/-- A read on the bus, executed. -/
def serveObject (i b : Nat) (s : State) : State :=
  let r := odRead .bus i b s
  reply r.1 r.2.1 r.2.2

/-- A request executed at the instant its PEC byte arrives. -/
def serve (errs : WordErrors) (q : Request) (s : State) : State :=
  match q with
  | .read i b => serveObject i b s
  | .write i b data => written (odWrite .bus i b data [0, 0, 0] s)
  | .segRead i b off len => serveSegRead i b off len errs s
  | .segWrite i b off last data => serveSegWrite i b off last data s
  | .segAbort i b => reply .done [] (odSegAbort .bus i b s)

/-- The PEC of a transfer (R450): over its address byte and the bytes before the PEC. -/
def pecOf (addr : BitVec 7) (read : Bool) (bs : List Byte) : Byte :=
  crc8 (BitVec.ofNat 8 (2 * addr.toNat + if read then 1 else 0) :: bs)

/-- A frame discarded (R451): its counter, its source and its response. -/
def discardPec (s : State) : State :=
  reply .pecError [] (raise 152 (onBus (fun b => { b with pecErrors := satInc b.pecErrors }) s))
def discardFrame (s : State) : State :=
  reply .frameError [] (raise 153 (onBus (fun b => { b with frameErrors := satInc b.frameErrors }) s))

/-- A frame written to the device. While a request executes it is not acknowledged (R452). -/
def takeFrame (x : Xfer) (frame : List Byte) (errs : WordErrors) (s : State) : State :=
  if !addressed s x false || s.bus.busy then nack s
  else
    let s := met x s
    match frame.getLast? with
    | none => s
    | some pec =>
      if pecOf x.addr false frame.dropLast ≠ pec then discardPec s
      else match parseFrame frame.dropLast with
        | none => discardFrame s
        | some q => serve errs q s

/-- A private read (R452): the response and its PEC from the first byte, then 0xFF; BUSY while a request executes. -/
def readResponse (x : Xfer) (len : Nat) (s : State) : State :=
  if !addressed s x true then nack s
  else
    let resp : List Byte := if s.bus.busy then [0xFF, 0, 0] else s.bus.resp
    let all := resp ++ [pecOf x.addr true resp] ++ List.replicate len 0xFF
    onBus (fun b => { b with out := all.take len }) (met x s)

/-! ## Rows that stand for a host request

Each one is the request in a good frame: the same checks, the same response. -/

/-- A request that the device can take now. -/
def hostRequest (f : State → State) (s : State) : State := if !busServes s || s.bus.busy then nack s else f (touch s)

def hostRead (i b : Nat) (s : State) : State := hostRequest (serveObject i b) s
def hostWrite (i b : Nat) (data : List Byte) (s : State) : State :=
  hostRequest (fun s => written (odWrite .bus i b data [0, 0, 0] s)) s
def hostSegRead (i b off len : Nat) (errs : WordErrors) (s : State) : State := hostRequest (serveSegRead i b off len errs) s
def hostSegWrite (i b off : Nat) (last : Bool) (data : List Byte) (s : State) : State :=
  hostRequest (serveSegWrite i b off last data) s

/-! ## CCCs (R445, R446) and in-band interrupts (R465) -/

/-- The dynamic address set or cleared: source 155; a notification that waits is requested where it now can be. -/
def setAddress (a : Option (BitVec 7)) (s : State) : State :=
  let s := raise 155 (onBus (fun b => { b with dynAddr := a, ack := true }) s)
  if s.bus.ibi = .idle then s else ibiAttempt s

/-- The provisioned ID, most significant byte first, and the BCR (Table 14-1). -/
def provisionedId (s : State) : List Byte :=
  let v := pv s 0x1100 4 % 2 ^ 15 * 2 ^ 33 + identityValue s 1 * 2 ^ 16 + s.supply.straps.toNat * 2 ^ 12
    + identityValue s 2 * 2 ^ 4
  (leBytes 6 v).reverse
def bcr : Byte := 0x06 ||| (Config.bcrOpen &&& 0x38)

/-- ENTDAA, where the device has no dynamic address: it puts its ID, BCR and DCR on the bus. -/
def assignByEntdaa (addr : BitVec 7) (s : State) : State :=
  if !busServes s || s.bus.dynAddr.isSome then nack s
  else setAddress (some addr) (onBus (fun b => { b with out := provisionedId s ++ [bcr, 0x00] }) (touch s))

/-- SETDASA at the static address, SETNEWDA at the dynamic one, RSTDAA to all. -/
def assignByStatic (static addr : BitVec 7) (s : State) : State :=
  if !busServes s || s.bus.dynAddr.isSome || static ≠ s.bus.staticAddr then nack s else setAddress (some addr) (touch s)
def assignNew (addr : BitVec 7) (s : State) : State :=
  if !busServes s || s.bus.dynAddr.isNone then nack s else setAddress (some addr) (touch s)
def resetAddress (s : State) : State :=
  if !busServes s then nack s
  else if s.bus.dynAddr.isNone then touch s
  else setAddress none (touch s)

/-- ENEC and DISEC for in-band interrupts. -/
def enableIbi (s : State) : State :=
  if !busServes s then nack s
  else
    let s := onBus (fun b => { b with ibiOn := true }) (touch s)
    if s.bus.ibi = .idle then s else ibiAttempt s
def disableIbi (s : State) : State :=
  if !busServes s then nack s else onBus (fun b => { b with ibiOn := false }) (touch s)

/-- An in-band interrupt that was NACKed or lost arbitration is requested again. -/
def retryIbi (s : State) : State := if s.bus.ibi = .nacked || s.bus.ibi = .lost then ibiAttempt s else s

/-- A directed read CCC at the dynamic address. -/
def answerCcc (bs : List Byte) (s : State) : State :=
  if !busServes s || s.bus.dynAddr.isNone then nack s else onBus (fun b => { b with out := bs }) (touch s)

/-! ## The object tunnel (R405, R406, R466, R531) -/

/-- The tunnel of a port changed. -/
def onTunnel (p : PortId) (f : Tunnel → Tunnel) (s : State) : State := onPort p (fun t => { t with tunnel := f t.tunnel }) s

/-- The object that TUN_ADDR names. -/
def tunnelIndex (t : Tunnel) : Nat := bits 23 8 t.addr.toNat
def tunnelSub (t : Tunnel) : Nat := bits 7 0 t.addr.toNat

/-- A transfer's bytes as they come from the object dictionary. -/
def tunnelFetch (p : PortId) (t : Tunnel) (s : State) : Abort × List Byte × State :=
  let i := tunnelIndex t
  let b := tunnelSub t
  if isDomain i b then
    let r := odSegRead (.tunnel p) i b t.offset.toNat t.len.toNat [] s
    match r.1 with
    | .bytes _ data => (.done, data, r.2)
    | .waits => (.done, [], r.2)
    | .no a => (a, [], r.2)
  else odRead (.tunnel p) i b s

/-- A transfer that ends at once, with nothing read or written. -/
def tunnelRefused (p : PortId) (s : State) : State :=
  raise (115 + 4 * p.val) (onTunnel p (fun t => { t with abort := BitVec.ofNat 32 (abortCode .valueRange).toNat, done := true }) s)

/-- A write of TUN_CMD: 1 reads, 2 writes, any other value starts nothing. -/
def tunnelCommand (p : PortId) (cmd : Nat) (s : State) : State :=
  let t := (s.ports[p]).tunnel
  if (s.ports[p]).link ≠ 3 then s
  else if t.busy then onTunnel p (fun t => { t with overrun := true }) s
  else if cmd % 4 = 0 || cmd % 4 = 3 then s
  else if t.len = 0 || 1024 < t.len.toNat then tunnelRefused p s
  else if cmd % 4 = 1 then
    let r := tunnelFetch p t s
    onTunnel p (fun t => { t with
      busy := true, abort := BitVec.ofNat 32 (abortCode r.1).toNat,
      len := if r.1 = .done then BitVec.ofNat 32 r.2.1.length else t.len,
      data := if r.1 = .done then mergeAt 0 r.2.1 (slice 0 1024 t.data) else t.data }) r.2.2
  else
    let r := odWrite (.tunnel p) (tunnelIndex t) (tunnelSub t) (slice 0 t.len.toNat t.data) [] s
    onTunnel p (fun t => { t with busy := true, abort := BitVec.ofNat 32 (abortCode r.1).toNat }) r.2

/-- The transfer under way ends. -/
def tunnelEnds (p : PortId) (s : State) : State :=
  if !(s.ports[p]).tunnel.busy then s
  else raise (115 + 4 * p.val) (onTunnel p (fun t => { t with busy := false, done := true }) s)

/-! ## BAR0 (R383 to R386, R441; Tables 12-2, 12-8 and 13-8) -/

/-- Bytes of a 64-bit base replaced: 4 or 8 of them, at 0 or 4. -/
def baseWith (base : U64) (at_ : Nat) (data : List Byte) : U64 :=
  BitVec.ofNat 64 (leNat (mergeAt at_ data (leBytes 8 base.toNat)))

/-- A queue register written, while ENABLE is 0 (R384). -/
def writeRing (r : Ring) (at_ : Nat) (data : List Byte) : Ring :=
  if at_ < 8 then { r with base := baseWith r.base at_ data } else { r with size := BitVec.ofNat 16 (leNat data) }
def queueRegister (p : PortId) (off : Nat) (data : List Byte) (s : State) : State :=
  if (s.ports[p]).enable then s
  else onPort p (fun t =>
    if off < 0x20 then { t with sq0 := writeRing t.sq0 (off - 0x10) data }
    else if off < 0x30 then { t with sq1 := writeRing t.sq1 (off - 0x20) data }
    else { t with cq := writeRing t.cq (off - 0x30) data }) s

/-- The MSI-X table as it stands: both vectors masked, all else 0, until it is written. -/
def msixTable (t : TilePort) : List Byte :=
  if t.table.isEmpty then
    let v := List.replicate 12 0 ++ [1, 0, 0, 0]
    v ++ v
  else t.table

/-- The MSI-X table written; the vectors' mask bits take effect (R431). -/
def writeMsix (p : PortId) (off : Nat) (data : List Byte) (s : State) : State :=
  let tab := mergeAt off data (msixTable s.ports[p])
  let bit := fun (k : Nat) => (fieldAt k 1 tab).testBit 0
  setMsix p { (s.ports[p]).msix with maskN := bit 12, maskF := bit 28 } (onPort p (fun t => { t with table := tab }) s)

/-- COAL written by an engine (R441): COUNT 0 is ignored. -/
def writeCoal (p : PortId) (v : U32) (s : State) : State :=
  if (s.ports[p]).link ≠ 3 || v.toNat % 256 = 0 then s
  else
    let t := targetOfPort p
    testWindow t false (onTgt t (fun g => { g with
      coal := some (BitVec.ofNat 8 v.toNat, BitVec.ofNat 16 (v.toNat / 65536)) }) s)

/-- A tunnel register other than TUN_CMD. -/
def tunnelRegister (p : PortId) (off : Nat) (data : List Byte) (s : State) : State :=
  let v := leNat data
  onTunnel p (fun t =>
    if off = 0x4004 then { t with addr := BitVec.ofNat 32 (v % 2 ^ 24) }
    else if off = 0x4008 then { t with offset := BitVec.ofNat 32 v }
    else if off = 0x400C then { t with len := BitVec.ofNat 32 v }
    else if off = 0x4010 then { t with done := t.done && !v.testBit 1, overrun := t.overrun && !v.testBit 2 }
    else if 0x4400 ≤ off && off < 0x4800 then
      { t with data := mergeAt (off - 0x4400) data (slice 0 1024 t.data) }
    else t) s

/-- An access that BAR0 takes: aligned, of 4 bytes, or of 8 bytes to a base register. -/
def bar0Aligned (off : Nat) (data : List Byte) : Bool :=
  (decide (data.length = 4) && decide (off % 4 = 0)) || (decide (data.length = 8) && [0x10, 0x20, 0x30].contains off)

/-- A BAR0 register written; an address that Table 12-2 does not list takes nothing. -/
def bar0Write (p : PortId) (off : Nat) (data : List Byte) (s : State) : State :=
  let v := leNat data
  if (s.ports[p]).link ≠ 3 || !bar0Aligned off data then s
  else if off = 0x4 then (if v.testBit 0 then enablePort p s else disablePort p s)
  else if [0x10, 0x14, 0x18, 0x20, 0x24, 0x28, 0x30, 0x34, 0x38].contains off then queueRegister p off data s
  else if off = 0x3C then (if v % 256 = 0 then s else onPort p (fun t => { t with arb := BitVec.ofNat 8 v }) s)
  else if off = 0x40 then invalidateFrom (.tunnel p) (BitVec.ofNat 16 v) s
  else if off = 0x1000 then doorbell p 0 (BitVec.ofNat 16 v) s
  else if off = 0x1004 then doorbell p 1 (BitVec.ofNat 16 v) s
  else if off = 0x1008 then doorbell p 2 (BitVec.ofNat 16 v) s
  else if off = 0x2000 then setDisable (targetOfPort p) (v.testBit 0) s
  else if off = 0x2004 then writeCoal p (BitVec.ofNat 32 v) s
  else if off = 0x2010 then completeAt (targetOfPort p) (v % 65536) s
  else if 0x3000 ≤ off && off < 0x3020 then writeMsix p (off - 0x3000) data s
  else if off = 0x4000 then tunnelCommand p v s
  else tunnelRegister p off data s

/-- A register written: an object, by the host, or a BAR0 register, by the engine of a port (R16). -/
def registerWritten (t : RegTarget) (s : State) : State :=
  match t with
  | .object i b data => hostWrite i.toNat b.toNat data s
  | .bar0 p off data => bar0Write p off.toNat data s

/-! ## Claims and completes on the path of their target (R415) -/

/-- An engine reads CLAIM_N or CLAIM_F of its BAR0. -/
def engineClaim (p : PortId) (fast : Bool) (s : State) : State :=
  if (s.ports[p]).link ≠ 3 then s
  else
    let r := claim (targetOfPort p) fast s
    onPort p (fun t => { t with out := leBytes 4 r.1.toNat }) r.2

/-- A claim at a target on its own path; target 5 claims within the device and has no fast class. -/
def claimAt (t : TargetId) (fast : Bool) (s : State) : State :=
  match portOfTarget t with
  | some p => engineClaim p fast s
  | none =>
    if t = 0 then hostRead 0x8100 (if fast then 6 else 5) s
    else if fast || !s.sys.mainOn then s
    else (claim t false s).2

/-- A complete on the path of its target. -/
def completeOn (t : TargetId) (source : U16) (s : State) : State :=
  match portOfTarget t with
  | some p => if (s.ports[p]).link ≠ 3 then s else completeAt t source.toNat s
  | none =>
    if t = 0 then hostWrite 0x8100 7 (leBytes 2 source.toNat) s
    else if s.sys.mainOn then completeAt t source.toNat s else s

end Sys2Proof.Machine
end

