-- ==== Sys2Proof/Machine/BusRows.lean ====
section
/-! DEFINITION. Frames, registers and CCCs on their way in (rows READ to GETCAPS; R383, R444 to R461). The frame of a
transfer says what it asks for; the five rows of request frames take theirs in the same way. -/

namespace Sys2Proof.Machine

/-- A READ frame, OP 0x01 (R449). -/
def execRead (x : Xfer) (frame : List Byte) (s : State) : Host.Outcome State Fault Refusal :=
  .next (takeFrame x frame [] s)

/-- A WRITE frame, OP 0x02 (R455, R456). -/
def execWrite (x : Xfer) (frame : List Byte) (s : State) : Host.Outcome State Fault Refusal :=
  .next (takeFrame x frame [] s)

/-- A SEG_READ frame, OP 0x03 (R457); `errs` says what the check bits of option flash find in what it reads (R183). -/
def execSegRead (x : Xfer) (frame : List Byte) (errs : WordErrors) (s : State) : Host.Outcome State Fault Refusal :=
  .next (takeFrame x frame errs s)

/-- A SEG_WRITE frame, OP 0x04 (R458). -/
def execSegWrite (x : Xfer) (frame : List Byte) (s : State) : Host.Outcome State Fault Refusal :=
  .next (takeFrame x frame [] s)

/-- A SEG_ABORT frame, OP 0x05 (R459). -/
def execSegAbort (x : Xfer) (frame : List Byte) (s : State) : Host.Outcome State Fault Refusal :=
  .next (takeFrame x frame [] s)

/-- A private read of `len` bytes (R452). -/
def execResponseRead (x : Xfer) (len : Nat) (s : State) : Host.Outcome State Fault Refusal :=
  .next (readResponse x len s)

/-- 1 s without a segment on a path (R459). -/
def execSegmentTimeout (path : Path) (s : State) : Host.Outcome State Fault Refusal := .next (abandon path s)

/-- A write to an object or a BAR0 register (R16, R383). -/
def execRegisterWrite (t : RegTarget) (s : State) : Host.Outcome State Fault Refusal := .next (registerWritten t s)

/-- ENTDAA (R446). -/
def execEntdaa (addr : BitVec 7) (s : State) : Host.Outcome State Fault Refusal := .next (assignByEntdaa addr s)

/-- SETDASA (R445). -/
def execSetdasa (static addr : BitVec 7) (s : State) : Host.Outcome State Fault Refusal :=
  .next (assignByStatic static addr s)

/-- SETNEWDA (R446). -/
def execSetnewda (addr : BitVec 7) (s : State) : Host.Outcome State Fault Refusal := .next (assignNew addr s)

/-- RSTDAA (R445). -/
def execRstdaa (s : State) : Host.Outcome State Fault Refusal := .next (resetAddress s)

/-- ENEC (R465). -/
def execEnec (s : State) : Host.Outcome State Fault Refusal := .next (enableIbi s)

/-- DISEC (R465). -/
def execDisec (s : State) : Host.Outcome State Fault Refusal := .next (disableIbi s)

/-- GETPID (R446). -/
def execGetpid (s : State) : Host.Outcome State Fault Refusal := .next (answerCcc (provisionedId s) s)

/-- GETBCR (R446). -/
def execGetbcr (s : State) : Host.Outcome State Fault Refusal := .next (answerCcc [bcr] s)

/-- GETDCR (R446): 0x00. -/
def execGetdcr (s : State) : Host.Outcome State Fault Refusal := .next (answerCcc [0x00] s)

/-- GETSTATUS (R446): a free value. -/
def execGetstatus (s : State) : Host.Outcome State Fault Refusal :=
  .next (drew (answerCcc (Config.getStatus s.free) s))

/-- GETMWL (R446): 268 bytes, most significant byte first. -/
def execGetmwl (s : State) : Host.Outcome State Fault Refusal := .next (answerCcc [0x01, 0x0C] s)

/-- GETMRL (R446): 264 bytes, and one byte of IBI payload. -/
def execGetmrl (s : State) : Host.Outcome State Fault Refusal := .next (answerCcc [0x01, 0x08, 0x01] s)

/-- GETMXDS (R446): a free value. -/
def execGetmxds (s : State) : Host.Outcome State Fault Refusal := .next (answerCcc Config.getMxds s)

/-- GETCAPS (R446): a free value. -/
def execGetcaps (s : State) : Host.Outcome State Fault Refusal := .next (answerCcc Config.getCaps s)

end Sys2Proof.Machine
end

