-- ==== Sys2Proof/Machine/FlashRows.lean ====
section
/-! DEFINITION. Option flash (rows PAGE_PROGRAM_END to PROGRAM_STORE_WRITE, SUSPEND_HOLDOFF_END; R177 to R209, R463). -/

namespace Sys2Proof.Machine

/-- A page program of a bank ends (R178, R179); `errs` matters where an image is verified after it (R183, R501). -/
def execPageProgramEnd (bank : Fin 2) (errs : WordErrors) (s : State) : Host.Outcome State Fault Refusal :=
  .next (pageEnds bank errs s)

/-- The running erase ends (R180, R182). -/
def execEraseEnd (s : State) : Host.Outcome State Fault Refusal := .next (eraseDone s)

/-- A suspended erase resumes (R203). -/
def execEraseResume (s : State) : Host.Outcome State Fault Refusal := .next (eraseGoesOn s)

/-- A queued request, or with `none` the read that waits, has not started after 2 s (R204). -/
def execFlashQueueTimeout (job : Option Nat) (s : State) : Host.Outcome State Fault Refusal := .next (queueTimeout job s)

/-- A write of 1 to 0x4030.01 (R463). -/
def execCommitRequest (s : State) : Host.Outcome State Fault Refusal := .next (hostWrite 0x4030 1 [1] s)

/-- The commit timer (R463). -/
def execCommitTimer (s : State) : Host.Outcome State Fault Refusal := .next (commitTimed s)

/-- A commit ends (R189, R463). -/
def execCommitEnd (s : State) : Host.Outcome State Fault Refusal := .next (commitDone s)

/-- The stale copy is rewritten (R190). -/
def execOptionBlockRepair (s : State) : Host.Outcome State Fault Refusal := .next (repairStarts s)

/-- A read of 0x4020.02 (R208); `errs` says what the check bits find (R183). -/
def execRawRead (len : Nat) (errs : WordErrors) (s : State) : Host.Outcome State Fault Refusal :=
  .next (hostSegRead 0x4020 2 0 len errs s)

/-- A write of 0x4020.02 (R208). -/
def execRawProgram (data : List Byte) (s : State) : Host.Outcome State Fault Refusal :=
  .next (hostSegWrite 0x4020 2 0 true data s)

/-- A write of 0x4020.03 (R208). -/
def execRawErase (sector : Byte) (s : State) : Host.Outcome State Fault Refusal :=
  .next (hostWrite 0x4020 3 [sector] s)

/-- A segment of 0x2200 (R196). -/
def execProgramStoreWrite (offset : U32) (last : Bool) (data : List Byte) (s : State) :
    Host.Outcome State Fault Refusal :=
  .next (hostSegWrite 0x2200 1 offset.toNat last data s)

/-- 1 ms after an erase resumed (R203). -/
def execSuspendHoldoffEnd (s : State) : Host.Outcome State Fault Refusal := .next (holdoffOver s)

end Sys2Proof.Machine
end

