-- ==== Sys2Proof/Machine/Handover.lean ====
section
/-! DEFINITION. Handover, Exposure and Development (rows QUIET_WINDOW_END to CONSOLIDATION_COMMITTED). -/

namespace Sys2Proof.Machine

/-- The quiet window ends (R237). -/
def execQuietWindowEnd (s : State) : Host.Outcome State Fault Refusal := .next (quietEnds s)

/-- The time to park ends (R69). -/
def execParkTimeout (s : State) : Host.Outcome State Fault Refusal := .next (parkEnds s)

/-- The fence (R238 to R241). -/
def execFence (s : State) : Host.Outcome State Fault Refusal := .next (fenceFalls s)

/-- Slot training ends (R236). -/
def execSlotTrainingEnd (pass : Bool) (s : State) : Host.Outcome State Fault Refusal := .next (trainingEnds pass s)

/-- The return of a side ends, `us` after it began (R242 to R244). -/
def execBusReturnEnd (side : SideId) (us : U32) (s : State) : Host.Outcome State Fault Refusal :=
  .next (returnEnds side us s)

/-- A write of 0x9000.01 to .03 (R484, R485). -/
def execGeometryWrite (sub value : Byte) (s : State) : Host.Outcome State Fault Refusal :=
  .next (if 1 ≤ sub.toNat && sub.toNat ≤ 3 then hostWrite 0x9000 sub.toNat [value] s else s)

/-- A write of 0x9030.01 (R486). -/
def execReservedSlotWrite (value : Byte) (s : State) : Host.Outcome State Fault Refusal :=
  .next (hostWrite 0x9030 1 [value] s)

/-- The commit record pair is programmed (R257, R266). -/
def execCommitRecordWritten (s : State) : Host.Outcome State Fault Refusal := .next (commitWritten s)

/-- The tier save ends (R49, R343). -/
def execTierSaveEnd (s : State) : Host.Outcome State Fault Refusal := .next (tierSaveEnds s)

/-- The next persistence-critical slot is disabled (R274). -/
def execPersistenceCriticalDisable (s : State) : Host.Outcome State Fault Refusal := .next (criticalDisabled s)

/-- The chain's maps are loaded and resolved, or cannot be (R276, R281). -/
def execChainMapsLoaded (s : State) : Host.Outcome State Fault Refusal := .next (mapsLoaded s)

/-- The last frame is written (R277). -/
def execLastFrameWritten (s : State) : Host.Outcome State Fault Refusal := .next (lastFrame s)

/-- The DEVELOPED mark is programmed (R278). -/
def execDevelopedMarkWritten (s : State) : Host.Outcome State Fault Refusal := .next (markWritten s)

/-- A write of 0x3020.02 (R261). -/
def execAcceptStale (gen : U32) (s : State) : Host.Outcome State Fault Refusal :=
  .next (hostWrite 0x3020 2 (leBytes 4 gen.toNat) s)

/-- A write of 1 to 0x3010.08 (R285). -/
def execConsolidate (s : State) : Host.Outcome State Fault Refusal := .next (hostWrite 0x3010 8 [1] s)

/-- A consolidation base commits (R286), in RUN, where alone one is under way. -/
def execConsolidationCommitted (s : State) : Host.Outcome State Fault Refusal :=
  .next (if pllRuns s then consCommitted s else s)

end Sys2Proof.Machine
end

