-- ==== Sys2Proof/Machine/HostCommands.lean ====
section
/-! DEFINITION. Host commands as Safelight meets them (rows ACTIVATE to FRAME_HEAT_EPOCH; R220 to R235, R532). -/

namespace Sys2Proof.Machine

/-- Safelight runs and the module has the side. -/
def lightSees (s : State) (side : SideId) : Bool := s.supply.aon && s.sys.mainOn && s.light.on && sideThere s side.val

/-- A refresh of all banks or of one: the model has one timer a rank (Table 7-5). -/
def refreshBank (r : Fin 16) (_ : Option (Fin 16)) (s : State) : State := refreshRank r s

def relockEnds (k : Fin 8) (s : State) : State := if s.light.subs[k].relock then relocked k s else s

def veilStarts (side : SideId) (sub : SubId) (cause : Fin 6) (s : State) : State :=
  if lightSees s side && decide (cause.val ≠ 0) then veilBegins (subIx side sub) cause.val s else s

def veilTooLong (side : SideId) (sub : SubId) (s : State) : State :=
  if decide (s.sys.st = .run) && s.light.subs[subIx side sub].veiled then enterFault 3 0x0C s else s

/-- Activate (R221, R225). -/
def execActivate (r : RankId) (bank : Fin 16) (row : BitVec 18) (s : State) : Host.Outcome State Fault Refusal :=
  .next (hostCommand r (rowInside s row.toNat) (openRow (rankIx r) bank.val row.toNat)
    (activateRow (rankIx r) bank.val row.toNat) s)

/-- A write-type command to the open row of a bank (R222). -/
def execHostWrite (r : RankId) (bank : Fin 16) (column : Nat) (data : List Byte) (s : State) :
    Host.Outcome State Fault Refusal :=
  .next (hostCommand r true (arrayWrite (rankIx r) bank.val column data) (writeOpen (rankIx r) bank.val column data) s)

/-- A read, a mode-register read, a NOP or refresh management (R221). -/
def execHostRead (r : RankId) (s : State) : Host.Outcome State Fault Refusal :=
  .next (hostCommand r true id (bankOnly (rankIx r)) s)

/-- Precharge of a bank, or of all (R221, R231). -/
def execPrecharge (r : RankId) (bank : Option (Fin 16)) (s : State) : Host.Outcome State Fault Refusal :=
  .next (hostCommand r true (closeRows (rankIx r) (bank.map (·.val))) (prechargeBanks (rankIx r) (bank.map (·.val))) s)

/-- Refresh of a bank, or of all (R221). -/
def execRefresh (r : RankId) (bank : Option (Fin 16)) (s : State) : Host.Outcome State Fault Refusal :=
  .next (hostCommand r true id (refreshBank (rankIx r) bank) s)

/-- Self-refresh entry (R221, R231, R237). -/
def execSelfRefreshEntry (r : RankId) (powerDown : Bool) (s : State) : Host.Outcome State Fault Refusal :=
  .next (hostCommand r true (closeRows (rankIx r) none) (enterSelfRefresh (rankIx r) powerDown) s)

/-- Self-refresh exit (R221, R237). -/
def execSelfRefreshExit (r : RankId) (s : State) : Host.Outcome State Fault Refusal :=
  .next (hostCommand r true (closeRows (rankIx r) none) (exitSelfRefresh (rankIx r)) s)

/-- Power-down entry (R221). -/
def execPowerDownEntry (r : RankId) (s : State) : Host.Outcome State Fault Refusal :=
  .next (hostCommand r true id (enterPowerDown (rankIx r)) s)

/-- Power-down exit (R221). -/
def execPowerDownExit (r : RankId) (s : State) : Host.Outcome State Fault Refusal :=
  .next (hostCommand r true id (exitPowerDown (rankIx r)) s)

/-- Mode-register write (R227, R235). -/
def execModeRegisterWrite (r : RankId) (addr op : Byte) (effect : MrEffect) (s : State) :
    Host.Outcome State Fault Refusal :=
  .next (hostCommand r true id (modeWrite (rankIx r) addr op effect) s)

/-- The relock after a set-point change ends (R220). -/
def execSetpointRelock (side : SideId) (sub : SubId) (s : State) : Host.Outcome State Fault Refusal :=
  .next (relockEnds (subIx side sub) s)

/-- A multi-purpose command (R221). -/
def execMultiPurposeCommand (r : RankId) (window : Option Bool) (s : State) : Host.Outcome State Fault Refusal :=
  .next (hostCommand r true id (mpc (rankIx r) window) s)

/-- RESET_n of a side (R221, R532). -/
def execResetNAsserted (side : SideId) (s : State) : Host.Outcome State Fault Refusal :=
  .next (if lightSees s side then resetSide side s else s)

/-- A veil cause of Table 7-7 arises (R229). -/
def execVeilBegin (side : SideId) (sub : SubId) (cause : Fin 6) (s : State) : Host.Outcome State Fault Refusal :=
  .next (veilStarts side sub cause s)

/-- A sub-channel stays veiled for 1 s in RUN (R232). -/
def execVeilTimeout (side : SideId) (sub : SubId) (s : State) : Host.Outcome State Fault Refusal :=
  .next (veilTooLong side sub s)

/-- The frame heat epoch (R225). -/
def execFrameHeatEpoch (s : State) : Host.Outcome State Fault Refusal :=
  .next (if s.light.on && s.sys.mainOn then halveHeat s else s)

end Sys2Proof.Machine
end

