-- ==== Sys2Proof/Machine/IrqRows.lean ====
section
/-! DEFINITION. The interrupt distributor (rows SOURCE_EVENT to IBI_RETRY; R415 to R443, R465, R534). -/

namespace Sys2Proof.Machine

/-- COUNT is a U8 and TIME a U16. -/
def coalescing (t : TargetId) (sub : Nat) (value : U16) (s : State) : State :=
  if sub = 3 then hostWrite (0x8100 + t.val) 3 (leBytes 1 value.toNat) s
  else if sub = 4 then hostWrite (0x8100 + t.val) 4 (leBytes 2 value.toNat) s
  else s

/-- A source's event (R416, R422, R437). -/
def execSourceEvent (n : SourceId) (s : State) : Host.Outcome State Fault Refusal := .next (raise n.val s)

/-- The TIME of an open coalescing window expires (R428). -/
def execCoalescingTimeout (t : TargetId) (s : State) : Host.Outcome State Fault Refusal := .next (testWindow t true s)

/-- A normal claim (R426). -/
def execNormalClaim (t : TargetId) (s : State) : Host.Outcome State Fault Refusal := .next (claimAt t false s)

/-- A fast claim (R426). -/
def execFastClaim (t : TargetId) (s : State) : Host.Outcome State Fault Refusal := .next (claimAt t true s)

/-- A complete (R416, R418, R419). -/
def execComplete (t : TargetId) (source : U16) (s : State) : Host.Outcome State Fault Refusal :=
  .next (completeOn t source s)

/-- A write of DISABLE, 0x8100+t.01 (R432, R433). -/
def execDisable (t : TargetId) (on : Bool) (s : State) : Host.Outcome State Fault Refusal :=
  .next (hostWrite (0x8100 + t.val) 1 [if on then 1 else 0] s)

/-- A write of COAL in a port's BAR0 (R441). -/
def execCoal (p : PortId) (value : U32) (s : State) : Host.Outcome State Fault Refusal := .next (writeCoal p value s)

/-- A write of 0x8100+t.03 or .04 (R428). -/
def execCoalescingSetting (t : TargetId) (sub : Byte) (value : U16) (s : State) : Host.Outcome State Fault Refusal :=
  .next (coalescing t sub.toNat value s)

/-- A write of 0x8100.02 (R434). -/
def execWakeThrough (on : Bool) (s : State) : Host.Outcome State Fault Refusal :=
  .next (hostWrite 0x8100 2 [if on then 1 else 0] s)

/-- A whole write of 0x8200.01 (R421 to R423). -/
def execSourceConfiguration (entries : List U32) (s : State) : Host.Outcome State Fault Refusal :=
  .next (hostSegWrite 0x8200 1 0 true (entries.flatMap fun e => leBytes 4 e.toNat) s)

/-- A write of a fast bank entry (R424, R425, R534). -/
def execFastAssignment (k : Fin 16) (value : U32) (s : State) : Host.Outcome State Fault Refusal :=
  .next (hostWrite 0x8300 (k.val + 1) (leBytes 4 value.toNat) s)

/-- An in-band interrupt is requested again (R465). -/
def execIbiRetry (s : State) : Host.Outcome State Fault Refusal := .next (retryIbi s)

end Sys2Proof.Machine
end

