-- ==== Sys2Proof/Machine/LogCell.lean ====
section
/-! DEFINITION. The counter log and the backup cell (rows LOG_REQUEST to GUARANTEE_CHECK; R156 to R176, R511, R533). -/

namespace Sys2Proof.Machine

/-- A cell fault detected (R175): in RUN those marked "yes" lead to FAULT, in any other state they are owed. -/
def faultFound (code : Byte) (s : State) : State :=
  if !s.supply.aon then s
  else
    let s := cellFault code s
    if decide (s.sys.st = .run) && decide (code.toNat ≤ 4) then
      enterFault 5 0x0C (onCell (fun c => { c with owed := false }) s)
    else s

/-- Q_rem as R168 estimates it, once after each AON power-on; below 2.5 V the keeper stays in precharge. -/
def estimated (vcellUv : U32) (s : State) : State :=
  if !s.supply.aon || s.cell.estimated then s
  else
    let s := tenPercent (onCell (fun c => { c with
      estimated := true, rest := [], vcellUv := vcellUv, qRem := estimateOf (qFull s) vcellUv.toNat }) s)
    if vcellUv.toNat < 2500000 then faultFound 6 s else s

/-- A write of 1 to 0x2410.01 (R159). -/
def execLogRequest (s : State) : Host.Outcome State Fault Refusal := .next (hostWrite 0x2410 1 [1] s)

/-- A write of 1 to 0x2410.04 (R158). -/
def execClearCounters (s : State) : Host.Outcome State Fault Refusal := .next (hostWrite 0x2410 4 [1] s)

/-- 0x2410.02 hours of RUN time have passed (R159). -/
def execPeriodicLogPoint (s : State) : Host.Outcome State Fault Refusal :=
  .next (if s.sys.st = .run then logPoint 3 s else s)

/-- A log record has been written (R161, R164). -/
def execLogWritten (s : State) : Host.Outcome State Fault Refusal := .next (logDone s)

/-- The keeper changes its phase (R165, Table 5-4), by what it measures. -/
def execKeeperPhaseChange (p : KeeperPhase) (k : KeeperSense) (s : State) : Host.Outcome State Fault Refusal :=
  .next (if phaseAllowed s p k then noteRest (setPhase p s) else s)

/-- The coulomb counter moves (R166, R167, R170). -/
def execCoulombUpdate (deltaUah : Int) (s : State) : Host.Outcome State Fault Refusal := .next (coulomb deltaUah s)

/-- VCELL measured after AON power-on (R168, Table 5-5 fault 0x06). -/
def execCellEstimate (vcellUv : U32) (s : State) : Host.Outcome State Fault Refusal := .next (estimated vcellUv s)

/-- VCELL below 2.0 V after 60 s of precharge: fault 0x01. -/
def execCellAbsent (s : State) : Host.Outcome State Fault Refusal :=
  .next (if s.cell.phase = .precharge then faultFound 1 s else s)

/-- VCELL above 4.30 V for 1 ms: fault 0x02. -/
def execOvervoltage (s : State) : Host.Outcome State Fault Refusal := .next (faultFound 2 s)

/-- CC and CV time above 10 h (R533): fault 0x03. -/
def execChargeTimeout (s : State) : Host.Outcome State Fault Refusal :=
  .next (if chargedTooLong s then faultFound 3 s else s)

/-- Q_rem falls too fast with no load (R533): fault 0x04. -/
def execSelfDischarge (s : State) : Host.Outcome State Fault Refusal :=
  .next (if fallsAtRest s then faultFound 4 s else s)

/-- Discharge above 3.5 A for 1 ms (R533): fault 0x05, the switch opens. -/
def execOverCurrent (s : State) : Host.Outcome State Fault Refusal := .next (faultFound 5 s)

/-- VMOD more than 50 mV below VCELL (R511). -/
def execKeeperSwitchClose (s : State) : Host.Outcome State Fault Refusal := .next (switchClose s)

/-- VMOD more than 50 mV above VCELL (R511). -/
def execKeeperSwitchOpen (s : State) : Host.Outcome State Fault Refusal := .next (switchOpen s)

/-- A write of 1 to 0x2500.11 (R176). -/
def execClearCellFault (s : State) : Host.Outcome State Fault Refusal := .next (hostWrite 0x2500 0x11 [1] s)

/-- Once a second in RUN (R174). -/
def execGuaranteeCheck (s : State) : Host.Outcome State Fault Refusal :=
  .next (if s.sys.st = .run then guaranteeNow s else s)

end Sys2Proof.Machine
end

