-- ==== Sys2Proof/Machine/NandRows.lean ====
section
/-! DEFINITION. The NAND subsystem (rows NAND_PROGRAM_FAILURE to BLANK_NAND_SETUP_END, NAND_SUSPEND_HOLDOFF_END,
NAND_ERASE_END; R290 to R316). A channel that is dead, or has no power, does nothing. -/

namespace Sys2Proof.Machine

/-- The main die is powered, its clock runs (R72) and the channel is not dead. -/
def nandRuns (s : State) (c : ChanId) : Bool := s.sys.mainOn && pllRuns s && !chanDead s c

/-- A program reports failure (R249, R298). -/
def execNandProgramFailure (c : ChanId) (block : Nat) (s : State) : Host.Outcome State Fault Refusal :=
  .next (if nandRuns s c then programFails c block s else s)

/-- An erase reports failure (R298). -/
def execNandEraseFailure (c : ChanId) (block : Nat) (s : State) : Host.Outcome State Fault Refusal :=
  .next (if nandRuns s c then eraseFails c block s else s)

/-- A suspended erase resumes (R300). -/
def execNandEraseResume (c : ChanId) (lun : Fin 16) (s : State) : Host.Outcome State Fault Refusal :=
  .next (if nandRuns s c then resumeErase c lun s else s)

/-- An operation has waited 50 ms (R301). -/
def execClassPromotion (c : ChanId) (op : Nat) (s : State) : Host.Outcome State Fault Refusal :=
  .next (if nandRuns s c then promoted c op s else s)

/-- A channel is declared dead with a cause of R309. -/
def execChannelDead (c : ChanId) (cause : Fin 5) (s : State) : Host.Outcome State Fault Refusal :=
  .next (if nandRuns s c && deadCause s c cause.val then afterDead (declareDead c (BitVec.ofNat 8 cause.val) s) else s)

/-- A write of 1 to 0x5010.0B (R314). -/
def execClearDeadMarks (s : State) : Host.Outcome State Fault Refusal := .next (hostWrite 0x5010 0xB [1] s)

/-- A unit read ends (R279, R303 to R305, R352). -/
def execNandUnitReadEnd (c : ChanId) (page : Nat) (r : UnitRead) (s : State) : Host.Outcome State Fault Refusal :=
  .next (if nandRuns s c then unitRead c page r s else s)

/-- Patrol reads its next page (R306 to R308). -/
def execPatrol (c : ChanId) (r : UnitRead) (s : State) : Host.Outcome State Fault Refusal :=
  .next (if nandRuns s c then patrolStep c r s else s)

/-- The tables of blank NAND are built (R296). -/
def execBlankNandSetupEnd (s : State) : Host.Outcome State Fault Refusal := .next (if pllRuns s then blankBuilt s else s)

/-- 1 ms after an erase resumed (R300). -/
def execNandSuspendHoldoffEnd (c : ChanId) (lun : Fin 16) (s : State) : Host.Outcome State Fault Refusal :=
  .next (if nandRuns s c then holdoffEnds c lun s else s)

/-- A block erase ends (R294, R295, R316). -/
def execNandEraseEnd (c : ChanId) (block : Nat) (s : State) : Host.Outcome State Fault Refusal :=
  .next (if nandRuns s c then eraseEnds c block s else s)

end Sys2Proof.Machine
end

