-- ==== Sys2Proof/Machine/PortRows.lean ====
section
/-! DEFINITION. The tile ports (rows SQ0_TAIL to BAR2_READ, PORT_RESET to TUNNEL_TRANSFER_END, MSI_X_ENABLE, AER_EVENT;
R379 to R414). -/

namespace Sys2Proof.Machine

/-- An invalidation asked for on a path. -/
def invalidates (path : Path) (stream : U16) (s : State) : State :=
  match path with
  | .bus => hostWrite 0x6030 1 (leBytes 2 stream.toNat) s
  | .tunnel p => invalidateFrom (.tunnel p) stream s

/-- The doorbell of SQ0 (R389). -/
def execSq0Tail (p : PortId) (v : U16) (s : State) : Host.Outcome State Fault Refusal := .next (doorbell p 0 v s)

/-- The doorbell of SQ1 (R389). -/
def execSq1Tail (p : PortId) (v : U16) (s : State) : Host.Outcome State Fault Refusal := .next (doorbell p 1 v s)

/-- The doorbell of the CQ (R394). -/
def execCqHead (p : PortId) (v : U16) (s : State) : Host.Outcome State Fault Refusal := .next (doorbell p 2 v s)

/-- ENABLE written 1 (R384). -/
def execPortEnable (p : PortId) (s : State) : Host.Outcome State Fault Refusal := .next (enablePort p s)

/-- ENABLE written 0 (R385). -/
def execPortDisable (p : PortId) (s : State) : Host.Outcome State Fault Refusal := .next (disablePort p s)

/-- A descriptor arrives (R390, R391, R398). -/
def execDescriptorFetch (p : PortId) (bytes : List Byte) (s : State) : Host.Outcome State Fault Refusal :=
  .next (descriptorArrives p bytes s)

/-- A descriptor read does not complete (R392). -/
def execDescriptorTimeout (p : PortId) (s : State) : Host.Outcome State Fault Refusal := .next (descriptorLost p s)

/-- READ (R396). -/
def execTileRead (p : PortId) (tag : U16) (s : State) : Host.Outcome State Fault Refusal := .next (serveRead p tag s)

/-- WRITE, with what the read of its buffer returned (R396, R402). -/
def execTileWrite (p : PortId) (tag : U16) (data : BufferRead) (s : State) : Host.Outcome State Fault Refusal :=
  .next (serveWrite p tag data s)

/-- FLUSH (R396). -/
def execFlush (p : PortId) (tag : U16) (s : State) : Host.Outcome State Fault Refusal := .next (serveFlush p tag s)

/-- NOP (R396). -/
def execNop (p : PortId) (tag : U16) (s : State) : Host.Outcome State Fault Refusal := .next (serveNop p tag s)

/-- The completion of an ended request is written (R394, R399 to R401). -/
def execRequestCompletion (p : PortId) (tag : U16) (s : State) : Host.Outcome State Fault Refusal :=
  .next (complete p tag s)

/-- The second look at the switch lead (R348). -/
def execProofSwitchCheck (p : PortId) (tag : U16) (s : State) : Host.Outcome State Fault Refusal :=
  .next (switchCheck p tag s)

/-- A write of 0x6030.01, or of INVALIDATE by an engine (R331, R386). -/
def execInvalidate (path : Path) (stream : U16) (s : State) : Host.Outcome State Fault Refusal :=
  .next (invalidates path stream s)

/-- An invalidation completes (R331). -/
def execInvalidationComplete (path : Path) (s : State) : Host.Outcome State Fault Refusal :=
  .next (invalidationEnds path s)

/-- A BAR2 write TLP (R387, R388). -/
def execBar2Write (p : PortId) (offset : Nat) (data : List Byte) (s : State) : Host.Outcome State Fault Refusal :=
  .next (bar2Store p offset data s)

/-- A BAR2 read TLP (R387, R496). -/
def execBar2Read (p : PortId) (offset len : Nat) (s : State) : Host.Outcome State Fault Refusal :=
  .next (bar2Fetch p offset len s)

/-- A port reset (R408, R409, R439). -/
def execPortReset (p : PortId) (kind : ResetKind) (s : State) : Host.Outcome State Fault Refusal :=
  .next (resetPort p kind s)

/-- A port's link comes up (R409). -/
def execLinkUp (p : PortId) (speed width : Byte) (s : State) : Host.Outcome State Fault Refusal :=
  .next (linkComesUp p speed width s)

/-- TUN_CMD = 1 (R405, R531). -/
def execTunnelRead (p : PortId) (s : State) : Host.Outcome State Fault Refusal := .next (tunnelCommand p 1 s)

/-- TUN_CMD = 2 (R405, R531). -/
def execTunnelWrite (p : PortId) (s : State) : Host.Outcome State Fault Refusal := .next (tunnelCommand p 2 s)

/-- A tunnel transfer ends (R406). -/
def execTunnelTransferEnd (p : PortId) (s : State) : Host.Outcome State Fault Refusal := .next (tunnelEnds p s)

/-- MSI-X enabled, disabled, masked or unmasked (R427, R431). Until the tier state load has ended the port answers the
configuration request with a retry status (R382). -/
def execMsiXEnable (p : PortId) (m : MsixState) (s : State) : Host.Outcome State Fault Refusal :=
  .next (if s.tiers.ready then setMsix p m s else s)

/-- A PCIe error (R412). -/
def execAerEvent (p : PortId) (uncorrectable recoverable : Bool) (s : State) : Host.Outcome State Fault Refusal :=
  .next (pcieError p uncorrectable recoverable s)

end Sys2Proof.Machine
end

