-- ==== Sys2Proof/Machine/RailEvents.lean ====
section
/-! DEFINITION. The events of the rail slots (rows ADC_CONVERSION to MARGIN_REQUEST; R96 to R114, R143 to R155). -/

namespace Sys2Proof.Machine

/-- A filtered comparator output changes (R100): the slot trips where its policy says so, or is back in its window. -/
def outputChanges (n : SlotId) (c : Comp) (f : Cmp → Cmp) (s : State) : State :=
  if s.supply.aon then backInWindow n (evalTrips n (onCmp n c f s)) else s

/-- One channel of the scan, which runs while the PLL does. -/
def converted (c : Conversion) (loopTrim : U16) (s : State) : State :=
  if !pllRuns s then s
  else match c with
    | .slot n code => slotConverted n code loopTrim s
    | .vin uv => onSupply (fun p => { p with vinUv := uv }) s
    | .vsb uv => onSupply (fun p => { p with vsbUv := uv }) s
    | .vcell uv => onCell (fun c => { c with vcellUv := uv }) s
    | .dieTemp t => onSupply (fun p => { p with dieTemp := t }) s

/-- The ADC converts one channel (R98, R99): slots 0 to 15, VIN, VSB, VCELL, die temperature. -/
def execAdcConversion (c : Conversion) (loopTrim : U16) (s : State) : Host.Outcome State Fault Refusal :=
  .next (converted c loopTrim s)

/-- A filtered UV output asserts, or releases across its hysteresis (R100 to R103). -/
def execUvTrip (n : SlotId) (c : Comp) (asserts : Bool) (s : State) : Host.Outcome State Fault Refusal :=
  .next (outputChanges n c (fun k => { k with uv := asserts }) s)

/-- A filtered OV output asserts, or releases across its hysteresis (R100 to R103). -/
def execOvTrip (n : SlotId) (c : Comp) (asserts : Bool) (s : State) : Host.Outcome State Fault Refusal :=
  .next (outputChanges n c (fun k => { k with ov := asserts }) s)

/-- A SHORT output asserts, or releases across its hysteresis (R100, R106 to R109). -/
def execShortLatchOff (n : SlotId) (c : Comp) (asserts : Bool) (s : State) : Host.Outcome State Fault Refusal :=
  .next (if s.supply.aon then shortChanged n c asserts s else s)

/-- The blanking time ends (R106). -/
def execShortBlankingEnd (n : SlotId) (s : State) : Host.Outcome State Fault Refusal := .next (blankingEnd n s)

/-- The comparators have differed for 50 µs (R102). -/
def execCompDisagree (n : SlotId) (s : State) : Host.Outcome State Fault Refusal := .next (disagree n s)

/-- The millisecond audit (R104, R105). -/
def execComparatorAudit (s : State) : Host.Outcome State Fault Refusal :=
  .next (if pllRuns s then (List.finRange 16).foldl (fun (s : State) n => auditSlot n s) s else s)

/-- A slot enters its window, `ticks` of 10 ns after its enable edge (R110). -/
def execWindowEntry (n : SlotId) (ticks : Nat) (s : State) : Host.Outcome State Fault Refusal :=
  .next (windowEntered n ticks s)

/-- The ramp maximum expires with no window entry (R110). -/
def execRampSlow (n : SlotId) (s : State) : Host.Outcome State Fault Refusal :=
  .next (if s.supply.aon then rampExpired n s else s)

/-- A write of 1 to 0x2100+n.04 (R107). -/
def execLatchClear (n : SlotId) (s : State) : Host.Outcome State Fault Refusal :=
  .next (hostWrite (0x2100 + n.val) 4 [1] s)

/-- A write of 0x2300.(n+1) (R145, R146, R153, R476). -/
def execMarginRequest (n : SlotId) (steps : U16) (s : State) : Host.Outcome State Fault Refusal :=
  .next (hostWrite 0x2300 (n.val + 1) (leBytes 2 steps.toNat) s)

end Sys2Proof.Machine
end

