-- ==== Sys2Proof/Machine/Requests.lean ====
section
/-! DEFINITION. The state requests of the host (rows RUN to RESET): writes of a code to 0x1410.01 (R39, R40,
Table 2-4). -/

namespace Sys2Proof.Machine

/-- RUN, code 0x01 (R39, R495). -/
def execRun (s : State) : Host.Outcome State Fault Refusal := .next (hostWrite 0x1410 1 [1] s)

/-- RUN_DISCARD, code 0x02 (R262). -/
def execRunDiscard (s : State) : Host.Outcome State Fault Refusal := .next (hostWrite 0x1410 1 [2] s)

/-- DEVELOP, code 0x03 (R276). -/
def execDevelop (s : State) : Host.Outcome State Fault Refusal := .next (hostWrite 0x1410 1 [3] s)

/-- HOLD_DEEP, code 0x04 (R173). -/
def execHoldDeep (s : State) : Host.Outcome State Fault Refusal := .next (hostWrite 0x1410 1 [4] s)

/-- HOLD_PARTIAL, code 0x05 (R173). -/
def execHoldPartial (s : State) : Host.Outcome State Fault Refusal := .next (hostWrite 0x1410 1 [5] s)

/-- CHECKPOINT, code 0x06 (R173). -/
def execCheckpoint (s : State) : Host.Outcome State Fault Refusal := .next (hostWrite 0x1410 1 [6] s)

/-- WAKE, code 0x07 (R63). -/
def execWake (s : State) : Host.Outcome State Fault Refusal := .next (hostWrite 0x1410 1 [7] s)

/-- RESET, code 0x08 (R83, R86). -/
def execReset (s : State) : Host.Outcome State Fault Refusal := .next (hostWrite 0x1410 1 [8] s)

end Sys2Proof.Machine
end

