-- ==== Sys2Proof/Machine/SecurityRows.lean ====
section
/-! DEFINITION. Security (rows BINDING_TOKEN to SANITIZE; R490 to R504). -/

namespace Sys2Proof.Machine

/-- A write of 0xA010.01 (R494). -/
def execBindingToken (token : List Byte) (s : State) : Host.Outcome State Fault Refusal :=
  .next (hostWrite 0xA010 1 token s)

/-- A read of 0xA020.01 (R497). -/
def execChallenge (s : State) : Host.Outcome State Fault Refusal := .next (hostRead 0xA020 1 s)

/-- A write of 0xA020.02 (R497). -/
def execResponse (mac : List Byte) (s : State) : Host.Outcome State Fault Refusal := .next (hostWrite 0xA020 2 mac s)

/-- A write of 1 to 0xA020.03 (R498). -/
def execSessionClose (s : State) : Host.Outcome State Fault Refusal := .next (hostWrite 0xA020 3 [1] s)

/-- The idle time of a session expires (R498). -/
def execSessionTimeout (s : State) : Host.Outcome State Fault Refusal :=
  .next (if s.sec.session = 2 then closeSession s else s)

/-- 60 s after the third failure (R497). -/
def execLockoutEnd (s : State) : Host.Outcome State Fault Refusal := .next (lockoutEnds s)

/-- A segment of 0xA030.01 (R501). -/
def execFirmwareImage (offset : U32) (last : Bool) (data : List Byte) (s : State) :
    Host.Outcome State Fault Refusal :=
  .next (hostSegWrite 0xA030 1 offset.toNat last data s)

/-- A write of 1 to 0xA030.04 (R502). -/
def execActivateImage (s : State) : Host.Outcome State Fault Refusal := .next (hostWrite 0xA030 4 [1] s)

/-- A write of 0xA040.01 (R504). -/
def execSanitize (code : U32) (s : State) : Host.Outcome State Fault Refusal :=
  .next (hostWrite 0xA040 1 (leBytes 4 code.toNat) s)

end Sys2Proof.Machine
end

