-- ==== Sys2Proof/Machine/Steps.lean ====
section
/-! DEFINITION. The steps and events of the sequencer (rows ENABLE to RUN_REQUEST; R118 to R142). `flips` are the
bits of the step word that read wrong. What waited for a program to end goes on in the same step. -/

namespace Sys2Proof.Machine

/-- The condition that a WAIT_FOR waits for is met. -/
def conditionMet (mismatch : Bool) (s : State) : State :=
  match s.seq.run with
  | some r => match r.wait with
    | .cond arg mask => if conditionFulfilled s arg mask then nextStep (noteMismatch mismatch s) else s
    | .none => s
    | .delay => s
  | none => s

/-- The time that a WAIT_FOR has ends. -/
def conditionMissed (mismatch : Bool) (s : State) : State :=
  match s.seq.run with
  | some r => match r.wait with
    | .cond arg mask => waitTimedOut arg mask (noteMismatch mismatch s)
    | .none => s
    | .delay => s
  | none => s

/-- ENABLE, opcode 0x1 (R119, R120, R134). -/
def execEnable (flips : U64) (s : State) : Host.Outcome State Fault Refusal :=
  .next (afterProgram s (stepAs 1 flips stepEnable s))

/-- WAIT, opcode 0x2 (R122). -/
def execWait (flips : U64) (s : State) : Host.Outcome State Fault Refusal :=
  .next (afterProgram s (stepAs 2 flips stepWait s))

/-- Both counters have expired (R122). -/
def execWaitExpiry (mismatch : Bool) (s : State) : Host.Outcome State Fault Refusal :=
  .next (afterProgram s (waitExpired mismatch s))

/-- WAIT_FOR, opcode 0x3 (R121). -/
def execWaitFor (flips : U64) (s : State) : Host.Outcome State Fault Refusal :=
  .next (afterProgram s (stepAs 3 flips stepWaitFor s))

/-- The condition of a WAIT_FOR is met (R121). -/
def execWaitForMet (mismatch : Bool) (s : State) : Host.Outcome State Fault Refusal :=
  .next (afterProgram s (conditionMet mismatch s))

/-- A WAIT_FOR times out (R121). -/
def execWaitForTimeout (mismatch : Bool) (s : State) : Host.Outcome State Fault Refusal :=
  .next (afterProgram s (conditionMissed mismatch s))

/-- CHECK, opcode 0x4 (R98, R119), with the codes it converts. -/
def execCheck (flips : U64) (codes : Fam 16 U16) (s : State) : Host.Outcome State Fault Refusal :=
  .next (afterProgram s (stepAs 4 flips (stepCheck codes) s))

/-- JUMP, opcode 0x5 (R119). -/
def execJump (flips : U64) (s : State) : Host.Outcome State Fault Refusal :=
  .next (afterProgram s (stepAs 5 flips stepJump s))

/-- TRIM, opcode 0x6 (R145, R146, R154). -/
def execTrim (flips : U64) (s : State) : Host.Outcome State Fault Refusal :=
  .next (afterProgram s (stepAs 6 flips stepTrim s))

/-- SIGNAL, opcode 0x7 (R119). -/
def execSignal (flips : U64) (s : State) : Host.Outcome State Fault Refusal :=
  .next (afterProgram s (stepAs 7 flips stepSignal s))

/-- END, opcode 0x8 (R141). -/
def execEndProgram (flips : U64) (s : State) : Host.Outcome State Fault Refusal :=
  .next (afterProgram s (stepAs 8 flips stepEnd s))

/-- The copy into the step buffer ends (R128). -/
def execProgramLoadEnd (errs : WordErrors) (s : State) : Host.Outcome State Fault Refusal :=
  .next (afterProgram s (loadEnded errs s))

/-- The run-time limit is reached (R91, R131). -/
def execProgramTimeout (s : State) : Host.Outcome State Fault Refusal := .next (afterProgram s (runTooLong s))

/-- A write of a directory subindex to 0x2230.01 (R133). -/
def execRunRequest (sub : Byte) (s : State) : Host.Outcome State Fault Refusal := .next (hostWrite 0x2230 1 [sub] s)

end Sys2Proof.Machine
end

