-- ==== Sys2Proof/Machine/Boot.lean ====
section
/-! DEFINITION. The boot sequence of Table 3-3 (R88 to R95): the PLL locks and the boot ROM goes on, the self-test ends,
SETUP is entered. -/

namespace Sys2Proof.Machine

/-- The option block loaded from copy 0, or copy 1 on failure (R89, R187). Both copies are read, for 0x4030.03; the reads
suspend an erase in their bank (R199, R201). -/
def loadOption (errs : WordErrors) (s : State) : State :=
  let c0 := loadCopy s 0 errs
  let c1 := loadCopy s 1 errs
  let s := countRead errs 65536 (copyLen s 1) (countRead errs 0 (copyLen s 0) (readSuspends 0 s))
  let s := onFlash (fun f => { f with
    copyValid := BitVec.ofNat 8 ((if c0.isSome then 1 else 0) + (if c1.isSome then 2 else 0)),
    repair := 0, dirty := false, dirtySince := false }) s
  let take := fun (copy : Byte) (l : Loaded) (s : State) =>
    { s with
      shadow := l.shadow,
      sys := { s.sys with optCopy := copy },
      flash := { s.flash with loadedSeq := l.seq, skipped := satOf 32 l.skipped, protMask := BitVec.ofNat 32 l.mask,
                              progBank := l.bank, fwSelect := l.fw } }
  match c0, c1 with
  | some l, _ => take 0 l s
  | none, some l => take 1 l s
  | none, none => { s with shadow := [], sys := { s.sys with optCopy := 0xFF } }

/-- Step 4: POWER_UP starts; where it has no program it has ended. -/
def startPowerUp (s : State) : State :=
  let s := startRole 1 s
  if s.seq.run.isNone then onSys (fun y => { y with powerUpDone := true }) s else s

/-- Step 5: the supervisor image that runs, and the version that 0x1000.05 shows (R478, R500). -/
def runImage (errs : WordErrors) (b : Bool) (s : State) : State :=
  let s := countImage errs (!b) (countImage errs b (onSec (fun x => { x with running := b }) s))
  inactiveNow errs { s with ident := { s.ident with fwVersion := BitVec.ofNat 32 (imageField s b 4) } }

/-- Each side's switches on the host side (R94, R217). -/
def hostSide (s : State) : State := onLight (fun l => { l with ctrl := famAll 2 false, returning := famAll 2 false }) s

/-- Steps 3 to 6. A FAULT at step 3 or 5 has the switches on the host side with the main die unpowered (R94). -/
def bootSteps (errs : WordErrors) (s : State) : State :=
  let s := clampQ (loadOption errs s)
  if s.sys.optCopy = 0xFF then enterFault 1 0x0E (hostSide s)
  else
    let s := loadKeys errs (startPowerUp s)
    match imageToRun errs s with
    | none => enterFault 2 0x0E (hostSide (countImage errs true (countImage errs false s)))
    | some b => mainUp true (runImage errs b s)

/-- The PLL locks: in BOOT the boot ROM goes on; in a Hold-Partial power-fail Exposure POWER_FAIL starts; in a
Hold-Partial wake PARTIAL_EXIT starts, or DEVELOP is entered where it has no program. -/
def pllLocks (errs : WordErrors) (s : State) : State :=
  if !s.supply.aon || !s.supply.xtal || !s.sys.pllWait then s
  else match s.sys.st with
    | .boot => bootSteps errs (pllOn s)
    | .expose => keptExposure s.sys.cause (pllOn s)
    | .hold =>
      if s.sys.wakingPartial then
        let s := startRole 5 (pllOn s)
        if s.seq.run.isNone then enterDevelop s.sys.cause true (mainUp false s) else s
      else s
    | .dark => s | .setup => s | .run => s | .develop => s | .fault => s

/-- Step 7: the self-test ends (R92, R93): a bit in [7:0] fails it, the NAND bits make dead channels. -/
def selfTestEnds (result : U16) (s : State) : State :=
  if s.sys.st ≠ .boot || !s.sys.mainOn || s.sys.testDone || s.sys.leaving.isSome then s
  else
    bootTestFault (channelsTested result (onSys (fun y => { y with
      selfTest := result.zeroExtend 32, testDone := true, testFailed := decide (result.toNat % 256 ≠ 0) }) s))

/-- What the security chapter does at SETUP entry (R491, R493, R503, R504): the key store is written where no copy holds
what the key unit holds. -/
def securityAtSetup (s : State) : State :=
  let s := advanceRollback (bindingAtSetup (releaseBlocks s))
  if s.sec.copy0 ≠ some s.sec.keys && s.sec.copy1 ≠ some s.sec.keys then flashKick (queueJob (.keys false) [] s) else s

/-- One Hot-Join request where the device has no dynamic address (R447). -/
def hotJoin (s : State) : State :=
  if s.bus.dynAddr.isNone then raise 157 { s with bus := { s.bus with hotJoins := s.bus.hotJoins + 1 } } else s

/-- What NAND and the Negative show at SETUP entry (R260, R282, R284, R292, R295): the generations that the anchors name,
the regions, the tables, the status, source 38, the report. -/
def negativeAtSetup (s : State) : State :=
  let s := setRegions (pv s 0x5030 1) (onNeg (fun n => { n with gens := scannedGens s }) s)
  let s := setStatus (if s.nand.blank then s else writeTables s)
  let s := if s.neg.status = 2 then raise 38 s else s
  updateFits (onNeg (fun n => { n with report := builtReport s }) s)

/-- Step 8: SETUP is entered once the self-test has passed and POWER_UP has ended (R90, R95, R129, R159, R191). -/
def bootCompletes (errs : WordErrors) (s : State) : State :=
  if s.sys.st ≠ .boot || !s.sys.testDone || s.sys.testFailed || !s.sys.powerUpDone || s.sys.leaving.isSome then s
  else
    let s := onSys (fun y => { y with bootTime := satOf 32 (y.aonTime.toNat - y.bootAt) }) s
    let s := securityAtSetup (enter .setup 0x02 s)
    let s := hotJoin (fillPowerFail errs (negativeAtSetup s))
    commitNow (logPoint 1 (logDeferred s))

end Sys2Proof.Machine
end

