-- ==== Sys2Proof/Machine/Supplies.lean ====
section
/-! DEFINITION. Triggers, supplies, resets, clocks and the boot events (rows PFAIL_IN_ASSERTED to BOOT_COMPLETE,
INS_DET_LOW, AON_SUPPLY_RECOVERED). -/

namespace Sys2Proof.Machine

/-- A supply condition lapses; the debounce count stops (R77). -/
def lapse (f : Supply → Supply) (s : State) : State := onSupply (fun p => { f p with counting := false }) s

/-- A trigger of VIN below V_PF that a clock must time (R115). -/
def vinFails (s : State) : State :=
  if clockRuns s then powerFail 0x05 (lapse (fun p => { p with vinOk := false }) s) else s
def vinSags (s : State) : State :=
  if clockRuns s then powerFail 0x05 (lapse (fun p => { p with vinOk := false }) s) else s

/-- A recovered excursion is counted in 0x2020.06. -/
def excursion (s : State) : State :=
  if s.supply.aon then onSupply (fun p => { p with recovered := satInc p.recovered }) s else s

def vinWarning (s : State) : State :=
  if s.supply.aon then raise 19 (lapse (fun p => { p with vinOk := false }) s) else s

def vsbFails (s : State) : State :=
  powerFail 0x06 (lapse (fun p => { p with vsbOk := false }) s)

/-- VSB is back, or INS_DET is low again: the AON die runs from VSB; once both hold after a trigger, a module in HOLD
wakes (R64), the reinserted one too, where VSB mates before INS_DET (R67). -/
def insertedAgain (s : State) : State :=
  if s.supply.aon && s.supply.vsbOk && s.supply.insDetLow && s.supply.triggered then wake 0x01 s else s
def vsbBack (s : State) : State :=
  insertedAgain (debounce (cellPeriod (onSupply (fun p => { p with vsbOk := true }) s)))

def debounced (s : State) : State :=
  if decide (s.sys.st = .dark) && s.supply.aon && s.supply.counting then bootFrom 0x01 s else s

def mrReset (s : State) : State :=
  if s.supply.aon && decide (s.sys.st ≠ .dark) && decide (s.sys.st ≠ .hold) then mainReset 2 s else s

def supplyLow (s : State) : State :=
  if s.supply.aon then serveWaiting (flashAbort (onSupply (fun p => { p with aonLow := true }) s)) else s
def supplyRecovers (s : State) : State := flashKick (onSupply (fun p => { p with aonLow := false }) s)

/-- The crystal status is set while the PLL runs, with source 160 (R79). -/
def crystalFails (s : State) : State :=
  let runs := pllRuns s
  let s := onSupply (fun p => { p with xtal := false, counting := false }) s
  if runs then raise 160 (onSys (fun y => { y with crystalLost := true, crystalSeen := true }) s) else s
def crystalBack (s : State) : State :=
  let s := debounce (onSupply (fun p => { p with xtal := true }) s)
  if s.sys.crystalLost then raise 161 (onSys (fun y => { y with crystalLost := false }) s) else s

def clockReturns (s : State) : State :=
  if decide (s.sys.st = .hold) && decide (s.supply.clock = .xtal) then onSupply (fun p => { p with clock := .aon }) s else s

/-- One of the four conditions under which the module leaves DARK holds. -/
def conditionHolds (c : InsCond) (s : State) : State :=
  match c with
  | .insDet => insertedAgain (debounce (onSupply (fun p => { p with insDetLow := true }) s))
  | .vsb => vsbBack s
  | .pfail => debounce (onSupply (fun p => { p with pfailLow := true }) s)
  | .vin => debounce (onSupply (fun p => { p with vinOk := true }) s)

/-- PFAIL_IN high for 1 µs (R43): cause 0x04. -/
def execPfailInAsserted (s : State) : Host.Outcome State Fault Refusal :=
  .next (powerFail 0x04 (lapse (fun p => { p with pfailLow := false }) s))

/-- VIN crosses V_PF within the fast window (R112, R115): cause 0x05. -/
def execFastCollapse (s : State) : Host.Outcome State Fault Refusal := .next (vinFails s)

/-- VIN stays below V_PF for the slow persistence time (R112, R115). -/
def execSlowSag (s : State) : Host.Outcome State Fault Refusal := .next (vinSags s)

/-- VIN stays below V_FLOOR (R112): the analog filter needs no clock. -/
def execFloorCrossing (s : State) : Host.Outcome State Fault Refusal :=
  .next (powerFail 0x05 (lapse (fun p => { p with vinOk := false }) s))

/-- An excursion below V_PF that qualifies for nothing (R113). -/
def execVinExcursionRecovered (s : State) : Host.Outcome State Fault Refusal := .next (excursion s)

/-- VIN below V_PFW (R114): source 19, and a condition of R65 lapses. -/
def execVinBelowVPfw (s : State) : Host.Outcome State Fault Refusal := .next (vinWarning s)

/-- VSB lost (R43, R170): cause 0x06; the AON die runs on from VCELL. -/
def execVsbLost (s : State) : Host.Outcome State Fault Refusal := .next (vsbFails s)

/-- INS_DET high for 1 µs (R66): cause 0x07. -/
def execInsDetReleased (s : State) : Host.Outcome State Fault Refusal :=
  .next (powerFail 0x07 (lapse (fun p => { p with insDetLow := false }) s))

/-- The debounce count has ended with every condition held (R65, R77). -/
def execInsertionDebounceEnd (s : State) : Host.Outcome State Fault Refusal := .next (debounced s)

/-- VSB at 3.0 V or above again (R64, R170). -/
def execVsbReturn (s : State) : Host.Outcome State Fault Refusal := .next (vsbBack s)

/-- A transition on a host-side CS line (R53): cause 0x08, in HOLD. -/
def execWakeTap (s : State) : Host.Outcome State Fault Refusal :=
  .next (if s.supply.aon then Sys2Proof.Machine.wake 0x08 s else s)

/-- MR_n low for 100 ms (R84): outside DARK and HOLD. -/
def execMrNReset (s : State) : Host.Outcome State Fault Refusal := .next (mrReset s)

/-- The AON supply rises through 2.60 V (R83, R444). -/
def execAonPowerOn (straps : BitVec 2) (errs : WordErrors) (s : State) : Host.Outcome State Fault Refusal :=
  .next (if s.supply.aon then s else aonUp straps errs s)

/-- The AON supply falls below 2.40 V (R138). -/
def execAonPowerLoss (s : State) : Host.Outcome State Fault Refusal :=
  .next (if s.supply.aon then aonLost 0x06 s else s)

/-- The AON supply falls below 2.70 V (R205). -/
def execAonSupplyLow (s : State) : Host.Outcome State Fault Refusal := .next (supplyLow s)

/-- The oscillator is valid (R76). -/
def execOscillatorValid (s : State) : Host.Outcome State Fault Refusal := .next (oscillatorStarts s)

/-- No XTAL edge for 2 µs (R78 to R81). -/
def execCrystalLoss (s : State) : Host.Outcome State Fault Refusal := .next (crystalFails s)

/-- XTAL edges return (R79). -/
def execCrystalReturn (s : State) : Host.Outcome State Fault Refusal := .next (crystalBack s)

/-- The watchdog was not serviced for 250 ms (R87). -/
def execSupervisorWatchdog (s : State) : Host.Outcome State Fault Refusal := .next (watchdog s)

/-- 1 ms after the last transfer in HOLD (R71). -/
def execAonClockReturn (s : State) : Host.Outcome State Fault Refusal := .next (clockReturns s)

/-- VCELL at the cutoff voltage with VSB absent (R170). -/
def execCellDepleted (s : State) : Host.Outcome State Fault Refusal := .next (depleted s)

/-- The PLL locks (R72, R89, R93); `errs` are the words in error that the boot ROM's loads meet (R183). -/
def execPllLock (errs : WordErrors) (s : State) : Host.Outcome State Fault Refusal := .next (pllLocks errs s)

/-- The main-die self-test ends (R92, Table 3-4). -/
def execSelfTestEnd (result : U16) (s : State) : Host.Outcome State Fault Refusal := .next (selfTestEnds result s)

/-- SETUP is entered (R90). -/
def execBootComplete (errs : WordErrors) (s : State) : Host.Outcome State Fault Refusal := .next (bootCompletes errs s)

/-- A condition of R65 comes to hold; with the last one the debounce count starts in DARK. -/
def execInsDetLow (c : InsCond) (s : State) : Host.Outcome State Fault Refusal := .next (conditionHolds c s)

/-- The AON supply is at 2.80 V again (R206). -/
def execAonSupplyRecovered (s : State) : Host.Outcome State Fault Refusal := .next (supplyRecovers s)

end Sys2Proof.Machine
end

