-- ==== Sys2Proof/Machine/TierRows.lean ====
section
/-! DEFINITION. The tiered store (rows TIER_F_PROGRAM_END to TIER_STATE_LOAD; R333 to R345, R355, R356). -/

namespace Sys2Proof.Machine

/-- A wordline program of a tile ends (R297, R340, R354). -/
def execTierFProgramEnd (stream tile : Nat) (s : State) : Host.Outcome State Fault Refusal :=
  .next (if s.sys.mainOn && pllRuns s then returnReserve (tileKey stream tile) (tierFEnds (tileKey stream tile) s) else s)

/-- A stream is sealed (R333). -/
def execSealing (stream : Nat) (s : State) : Host.Outcome State Fault Refusal :=
  .next (if s.sys.mainOn then sealNow stream s else s)

/-- A deleted stream's tiles are freed (R335). -/
def execStreamDeletion (stream : Nat) (s : State) : Host.Outcome State Fault Refusal :=
  .next (if s.sys.mainOn then deleteNow stream s else s)

/-- The tile heat epoch (R336, R337). -/
def execTileHeatEpoch (s : State) : Host.Outcome State Fault Refusal :=
  .next (if s.sys.mainOn && s.tiers.ready then tileEpoch s else s)

/-- Dirty tier D data has reached the write-back age (R342). -/
def execWriteBackAge (stream tile : Nat) (s : State) : Host.Outcome State Fault Refusal :=
  .next (if s.sys.mainOn && !s.nand.blank then writeBack (tileKey stream tile) s else s)

/-- The wait graph is swept (R355). -/
def execWaitGraphSweep (s : State) : Host.Outcome State Fault Refusal := .next (sweep s)

/-- A curator core fails (R356). -/
def execCuratorFailed (core : PortId) (s : State) : Host.Outcome State Fault Refusal :=
  .next (if s.sys.mainOn then coreFails core s else s)

/-- The tier state loads at main-die power-up (R345). -/
def execTierStateLoad (s : State) : Host.Outcome State Fault Refusal :=
  .next (if s.sys.mainOn && !s.tiers.ready then tierLoad s else s)

end Sys2Proof.Machine
end

