-- ==== Sys2Proof/Machine/Dispatch.lean ====
section
/-! DEFINITION. The dispatch: one arm per command, each one direct call of its meaning. -/

namespace Sys2Proof.Machine

def exec (i : Instr) (s : State) : Host.Outcome State Fault Refusal :=
  match i with
  | .run => Sys2Proof.Machine.execRun s
  | .runDiscard => Sys2Proof.Machine.execRunDiscard s
  | .develop => Sys2Proof.Machine.execDevelop s
  | .holdDeep => Sys2Proof.Machine.execHoldDeep s
  | .holdPartial => Sys2Proof.Machine.execHoldPartial s
  | .checkpoint => Sys2Proof.Machine.execCheckpoint s
  | .wake => Sys2Proof.Machine.execWake s
  | .reset => Sys2Proof.Machine.execReset s
  | .pfailInAsserted => Sys2Proof.Machine.execPfailInAsserted s
  | .fastCollapse => Sys2Proof.Machine.execFastCollapse s
  | .slowSag => Sys2Proof.Machine.execSlowSag s
  | .floorCrossing => Sys2Proof.Machine.execFloorCrossing s
  | .vinExcursionRecovered => Sys2Proof.Machine.execVinExcursionRecovered s
  | .vinBelowVPfw => Sys2Proof.Machine.execVinBelowVPfw s
  | .vsbLost => Sys2Proof.Machine.execVsbLost s
  | .insDetReleased => Sys2Proof.Machine.execInsDetReleased s
  | .insertionDebounceEnd => Sys2Proof.Machine.execInsertionDebounceEnd s
  | .vsbReturn => Sys2Proof.Machine.execVsbReturn s
  | .wakeTap => Sys2Proof.Machine.execWakeTap s
  | .mrNReset => Sys2Proof.Machine.execMrNReset s
  | .aonPowerOn straps errs => Sys2Proof.Machine.execAonPowerOn straps errs s
  | .aonPowerLoss => Sys2Proof.Machine.execAonPowerLoss s
  | .aonSupplyLow => Sys2Proof.Machine.execAonSupplyLow s
  | .oscillatorValid => Sys2Proof.Machine.execOscillatorValid s
  | .crystalLoss => Sys2Proof.Machine.execCrystalLoss s
  | .crystalReturn => Sys2Proof.Machine.execCrystalReturn s
  | .supervisorWatchdog => Sys2Proof.Machine.execSupervisorWatchdog s
  | .aonClockReturn => Sys2Proof.Machine.execAonClockReturn s
  | .cellDepleted => Sys2Proof.Machine.execCellDepleted s
  | .pllLock errs => Sys2Proof.Machine.execPllLock errs s
  | .selfTestEnd result => Sys2Proof.Machine.execSelfTestEnd result s
  | .bootComplete errs => Sys2Proof.Machine.execBootComplete errs s
  | .enable flips => Sys2Proof.Machine.execEnable flips s
  | .wait flips => Sys2Proof.Machine.execWait flips s
  | .waitExpiry mismatch => Sys2Proof.Machine.execWaitExpiry mismatch s
  | .waitFor flips => Sys2Proof.Machine.execWaitFor flips s
  | .waitForMet mismatch => Sys2Proof.Machine.execWaitForMet mismatch s
  | .waitForTimeout mismatch => Sys2Proof.Machine.execWaitForTimeout mismatch s
  | .check flips codes => Sys2Proof.Machine.execCheck flips codes s
  | .jump flips => Sys2Proof.Machine.execJump flips s
  | .trim flips => Sys2Proof.Machine.execTrim flips s
  | .signal flips => Sys2Proof.Machine.execSignal flips s
  | .endProgram flips => Sys2Proof.Machine.execEndProgram flips s
  | .programLoadEnd errs => Sys2Proof.Machine.execProgramLoadEnd errs s
  | .programTimeout => Sys2Proof.Machine.execProgramTimeout s
  | .runRequest sub => Sys2Proof.Machine.execRunRequest sub s
  | .adcConversion c loopTrim => Sys2Proof.Machine.execAdcConversion c loopTrim s
  | .uvTrip n c asserts => Sys2Proof.Machine.execUvTrip n c asserts s
  | .ovTrip n c asserts => Sys2Proof.Machine.execOvTrip n c asserts s
  | .shortLatchOff n c asserts => Sys2Proof.Machine.execShortLatchOff n c asserts s
  | .shortBlankingEnd n => Sys2Proof.Machine.execShortBlankingEnd n s
  | .compDisagree n => Sys2Proof.Machine.execCompDisagree n s
  | .comparatorAudit => Sys2Proof.Machine.execComparatorAudit s
  | .windowEntry n ticks => Sys2Proof.Machine.execWindowEntry n ticks s
  | .rampSlow n => Sys2Proof.Machine.execRampSlow n s
  | .latchClear n => Sys2Proof.Machine.execLatchClear n s
  | .marginRequest n steps => Sys2Proof.Machine.execMarginRequest n steps s
  | .logRequest => Sys2Proof.Machine.execLogRequest s
  | .clearCounters => Sys2Proof.Machine.execClearCounters s
  | .periodicLogPoint => Sys2Proof.Machine.execPeriodicLogPoint s
  | .logWritten => Sys2Proof.Machine.execLogWritten s
  | .keeperPhaseChange p k => Sys2Proof.Machine.execKeeperPhaseChange p k s
  | .coulombUpdate deltaUah => Sys2Proof.Machine.execCoulombUpdate deltaUah s
  | .cellEstimate vcellUv => Sys2Proof.Machine.execCellEstimate vcellUv s
  | .cellAbsent => Sys2Proof.Machine.execCellAbsent s
  | .overvoltage => Sys2Proof.Machine.execOvervoltage s
  | .chargeTimeout => Sys2Proof.Machine.execChargeTimeout s
  | .selfDischarge => Sys2Proof.Machine.execSelfDischarge s
  | .overCurrent => Sys2Proof.Machine.execOverCurrent s
  | .keeperSwitchClose => Sys2Proof.Machine.execKeeperSwitchClose s
  | .keeperSwitchOpen => Sys2Proof.Machine.execKeeperSwitchOpen s
  | .clearCellFault => Sys2Proof.Machine.execClearCellFault s
  | .guaranteeCheck => Sys2Proof.Machine.execGuaranteeCheck s
  | .pageProgramEnd bank errs => Sys2Proof.Machine.execPageProgramEnd bank errs s
  | .eraseEnd => Sys2Proof.Machine.execEraseEnd s
  | .eraseResume => Sys2Proof.Machine.execEraseResume s
  | .flashQueueTimeout job => Sys2Proof.Machine.execFlashQueueTimeout job s
  | .commitRequest => Sys2Proof.Machine.execCommitRequest s
  | .commitTimer => Sys2Proof.Machine.execCommitTimer s
  | .commitEnd => Sys2Proof.Machine.execCommitEnd s
  | .optionBlockRepair => Sys2Proof.Machine.execOptionBlockRepair s
  | .rawRead len errs => Sys2Proof.Machine.execRawRead len errs s
  | .rawProgram data => Sys2Proof.Machine.execRawProgram data s
  | .rawErase sector => Sys2Proof.Machine.execRawErase sector s
  | .programStoreWrite offset last data => Sys2Proof.Machine.execProgramStoreWrite offset last data s
  | .activate r bank row => Sys2Proof.Machine.execActivate r bank row s
  | .hostWrite r bank column data => Sys2Proof.Machine.execHostWrite r bank column data s
  | .hostRead r => Sys2Proof.Machine.execHostRead r s
  | .precharge r bank => Sys2Proof.Machine.execPrecharge r bank s
  | .refresh r bank => Sys2Proof.Machine.execRefresh r bank s
  | .selfRefreshEntry r powerDown => Sys2Proof.Machine.execSelfRefreshEntry r powerDown s
  | .selfRefreshExit r => Sys2Proof.Machine.execSelfRefreshExit r s
  | .powerDownEntry r => Sys2Proof.Machine.execPowerDownEntry r s
  | .powerDownExit r => Sys2Proof.Machine.execPowerDownExit r s
  | .modeRegisterWrite r addr op effect => Sys2Proof.Machine.execModeRegisterWrite r addr op effect s
  | .setpointRelock side sub => Sys2Proof.Machine.execSetpointRelock side sub s
  | .multiPurposeCommand r window => Sys2Proof.Machine.execMultiPurposeCommand r window s
  | .resetNAsserted side => Sys2Proof.Machine.execResetNAsserted side s
  | .veilBegin side sub cause => Sys2Proof.Machine.execVeilBegin side sub cause s
  | .veilTimeout side sub => Sys2Proof.Machine.execVeilTimeout side sub s
  | .frameHeatEpoch => Sys2Proof.Machine.execFrameHeatEpoch s
  | .quietWindowEnd => Sys2Proof.Machine.execQuietWindowEnd s
  | .parkTimeout => Sys2Proof.Machine.execParkTimeout s
  | .fence => Sys2Proof.Machine.execFence s
  | .slotTrainingEnd pass => Sys2Proof.Machine.execSlotTrainingEnd pass s
  | .busReturnEnd side us => Sys2Proof.Machine.execBusReturnEnd side us s
  | .geometryWrite sub value => Sys2Proof.Machine.execGeometryWrite sub value s
  | .reservedSlotWrite value => Sys2Proof.Machine.execReservedSlotWrite value s
  | .commitRecordWritten => Sys2Proof.Machine.execCommitRecordWritten s
  | .tierSaveEnd => Sys2Proof.Machine.execTierSaveEnd s
  | .persistenceCriticalDisable => Sys2Proof.Machine.execPersistenceCriticalDisable s
  | .chainMapsLoaded => Sys2Proof.Machine.execChainMapsLoaded s
  | .lastFrameWritten => Sys2Proof.Machine.execLastFrameWritten s
  | .developedMarkWritten => Sys2Proof.Machine.execDevelopedMarkWritten s
  | .acceptStale gen => Sys2Proof.Machine.execAcceptStale gen s
  | .consolidate => Sys2Proof.Machine.execConsolidate s
  | .consolidationCommitted => Sys2Proof.Machine.execConsolidationCommitted s
  | .nandProgramFailure c block => Sys2Proof.Machine.execNandProgramFailure c block s
  | .nandEraseFailure c block => Sys2Proof.Machine.execNandEraseFailure c block s
  | .nandEraseResume c lun => Sys2Proof.Machine.execNandEraseResume c lun s
  | .classPromotion c op => Sys2Proof.Machine.execClassPromotion c op s
  | .channelDead c cause => Sys2Proof.Machine.execChannelDead c cause s
  | .clearDeadMarks => Sys2Proof.Machine.execClearDeadMarks s
  | .nandUnitReadEnd c page r => Sys2Proof.Machine.execNandUnitReadEnd c page r s
  | .patrol c r => Sys2Proof.Machine.execPatrol c r s
  | .blankNandSetupEnd => Sys2Proof.Machine.execBlankNandSetupEnd s
  | .sq0Tail p v => Sys2Proof.Machine.execSq0Tail p v s
  | .sq1Tail p v => Sys2Proof.Machine.execSq1Tail p v s
  | .cqHead p v => Sys2Proof.Machine.execCqHead p v s
  | .portEnable p => Sys2Proof.Machine.execPortEnable p s
  | .portDisable p => Sys2Proof.Machine.execPortDisable p s
  | .descriptorFetch p bytes => Sys2Proof.Machine.execDescriptorFetch p bytes s
  | .descriptorTimeout p => Sys2Proof.Machine.execDescriptorTimeout p s
  | .tileRead p tag => Sys2Proof.Machine.execTileRead p tag s
  | .tileWrite p tag data => Sys2Proof.Machine.execTileWrite p tag data s
  | .flush p tag => Sys2Proof.Machine.execFlush p tag s
  | .nop p tag => Sys2Proof.Machine.execNop p tag s
  | .requestCompletion p tag => Sys2Proof.Machine.execRequestCompletion p tag s
  | .proofSwitchCheck p tag => Sys2Proof.Machine.execProofSwitchCheck p tag s
  | .invalidate path stream => Sys2Proof.Machine.execInvalidate path stream s
  | .invalidationComplete path => Sys2Proof.Machine.execInvalidationComplete path s
  | .bar2Write p offset data => Sys2Proof.Machine.execBar2Write p offset data s
  | .bar2Read p offset len => Sys2Proof.Machine.execBar2Read p offset len s
  | .tierFProgramEnd stream tile => Sys2Proof.Machine.execTierFProgramEnd stream tile s
  | .sealing stream => Sys2Proof.Machine.execSealing stream s
  | .streamDeletion stream => Sys2Proof.Machine.execStreamDeletion stream s
  | .tileHeatEpoch => Sys2Proof.Machine.execTileHeatEpoch s
  | .writeBackAge stream tile => Sys2Proof.Machine.execWriteBackAge stream tile s
  | .waitGraphSweep => Sys2Proof.Machine.execWaitGraphSweep s
  | .curatorFailed core => Sys2Proof.Machine.execCuratorFailed core s
  | .tierStateLoad => Sys2Proof.Machine.execTierStateLoad s
  | .portReset p kind => Sys2Proof.Machine.execPortReset p kind s
  | .linkUp p speed width => Sys2Proof.Machine.execLinkUp p speed width s
  | .tunnelRead p => Sys2Proof.Machine.execTunnelRead p s
  | .tunnelWrite p => Sys2Proof.Machine.execTunnelWrite p s
  | .tunnelTransferEnd p => Sys2Proof.Machine.execTunnelTransferEnd p s
  | .sourceEvent n => Sys2Proof.Machine.execSourceEvent n s
  | .coalescingTimeout t => Sys2Proof.Machine.execCoalescingTimeout t s
  | .normalClaim t => Sys2Proof.Machine.execNormalClaim t s
  | .fastClaim t => Sys2Proof.Machine.execFastClaim t s
  | .complete t source => Sys2Proof.Machine.execComplete t source s
  | .disable t on => Sys2Proof.Machine.execDisable t on s
  | .coal p value => Sys2Proof.Machine.execCoal p value s
  | .coalescingSetting t sub value => Sys2Proof.Machine.execCoalescingSetting t sub value s
  | .wakeThrough on => Sys2Proof.Machine.execWakeThrough on s
  | .sourceConfiguration entries => Sys2Proof.Machine.execSourceConfiguration entries s
  | .fastAssignment k value => Sys2Proof.Machine.execFastAssignment k value s
  | .ibiRetry => Sys2Proof.Machine.execIbiRetry s
  | .read x frame => Sys2Proof.Machine.execRead x frame s
  | .write x frame => Sys2Proof.Machine.execWrite x frame s
  | .segRead x frame errs => Sys2Proof.Machine.execSegRead x frame errs s
  | .segWrite x frame => Sys2Proof.Machine.execSegWrite x frame s
  | .segAbort x frame => Sys2Proof.Machine.execSegAbort x frame s
  | .responseRead x len => Sys2Proof.Machine.execResponseRead x len s
  | .segmentTimeout path => Sys2Proof.Machine.execSegmentTimeout path s
  | .registerWrite t => Sys2Proof.Machine.execRegisterWrite t s
  | .entdaa addr => Sys2Proof.Machine.execEntdaa addr s
  | .setdasa static addr => Sys2Proof.Machine.execSetdasa static addr s
  | .setnewda addr => Sys2Proof.Machine.execSetnewda addr s
  | .rstdaa => Sys2Proof.Machine.execRstdaa s
  | .enec => Sys2Proof.Machine.execEnec s
  | .disec => Sys2Proof.Machine.execDisec s
  | .getpid => Sys2Proof.Machine.execGetpid s
  | .getbcr => Sys2Proof.Machine.execGetbcr s
  | .getdcr => Sys2Proof.Machine.execGetdcr s
  | .getstatus => Sys2Proof.Machine.execGetstatus s
  | .getmwl => Sys2Proof.Machine.execGetmwl s
  | .getmrl => Sys2Proof.Machine.execGetmrl s
  | .getmxds => Sys2Proof.Machine.execGetmxds s
  | .getcaps => Sys2Proof.Machine.execGetcaps s
  | .bindingToken token => Sys2Proof.Machine.execBindingToken token s
  | .challenge => Sys2Proof.Machine.execChallenge s
  | .response mac => Sys2Proof.Machine.execResponse mac s
  | .sessionClose => Sys2Proof.Machine.execSessionClose s
  | .sessionTimeout => Sys2Proof.Machine.execSessionTimeout s
  | .lockoutEnd => Sys2Proof.Machine.execLockoutEnd s
  | .firmwareImage offset last data => Sys2Proof.Machine.execFirmwareImage offset last data s
  | .activateImage => Sys2Proof.Machine.execActivateImage s
  | .sanitize code => Sys2Proof.Machine.execSanitize code s
  | .insDetLow c => Sys2Proof.Machine.execInsDetLow c s
  | .msiXEnable p m => Sys2Proof.Machine.execMsiXEnable p m s
  | .aerEvent p uncorrectable recoverable => Sys2Proof.Machine.execAerEvent p uncorrectable recoverable s
  | .aonSupplyRecovered => Sys2Proof.Machine.execAonSupplyRecovered s
  | .suspendHoldoffEnd => Sys2Proof.Machine.execSuspendHoldoffEnd s
  | .nandSuspendHoldoffEnd c lun => Sys2Proof.Machine.execNandSuspendHoldoffEnd c lun s
  | .nandEraseEnd c block => Sys2Proof.Machine.execNandEraseEnd c block s

end Sys2Proof.Machine
end

