-- ==== Sys2Proof/Safety.lean ====
section
/-! DEFINITION. The words that statements use: when the host bus takes a request, what its answer is, what a run keeps. -/

namespace Sys2Proof.Machine

/-- The device takes a request of the host now: it serves the bus and no request executes (R32, R71, R452). -/
def busFree (s : State) : Bool := busServes s && !s.bus.busy

/-- A request has been answered with a status and no data, and the bus path waits for nothing (Table 14-3). -/
def answered (t : State) (a : Abort) : Prop := t.bus.busy = false ∧ t.bus.resp = [abortCode a, 0, 0]

/-- The maps that hold option flash's pages, the shadow registers and the tiles are each in their one form. -/
def canonical (s : State) : Prop :=
  rising s.flash.pages = true ∧ rising s.shadow = true ∧ rising s.tiers.tiles = true

/-- What was set at manufacture and changes only with the physical device (R478). -/
def madeWith (s : State) : Part × Stepping × BitVec 128 × Bool :=
  (s.ident.part, s.ident.stepping, s.ident.serial, s.ident.lifecycle)

end Sys2Proof.Machine
end

