-- ==== Sys2Proof/WellFormed.lean ====
section
/-! DEFINITION. Well-formed commands: the operands that the spec lets a command have. The meanings are total on
ill-formed ones as well. -/

namespace Sys2Proof

/-- A byte of a frame as a number; 0 beyond its end. -/
def frameByte (f : List Byte) (k : Nat) : Nat := (f.getD k 0).toNat

/-- The length field of Table 14-2 at a place of the frame, in its range of 1 to 256. -/
def lengthField (f : List Byte) (k : Nat) : Nat := frameByte f k + 256 * frameByte f (k + 1)
def lenOk (n : Nat) : Bool := decide (1 ≤ n) && decide (n ≤ 256)

/-- A request frame of an OP: its first byte and the length Table 14-2 gives it, the PEC among its bytes. -/
def requestForm (op : Byte) (len : Nat) (f : List Byte) : Bool := f.head? = some op && decide (f.length = len)

/-- The read of a page by its place on the channel (R250): the mates of its unit lie on other channels. -/
def unitReadOk (c : ChanId) (r : UnitRead) : Bool := !r.mates.contains c
/-- A read or write of BAR0 registers: whole words inside the BAR. -/
def targetOk : RegTarget → Bool
  | .object _ _ data => decide (data.length ≤ 256)
  | .bar0 _ off data => (data.length = 4 || data.length = 8) && decide (off.toNat % 4 = 0)

/-- The length of a BAR2 access: 1 to 16 dwords (R387). -/
def lenTlp (n : Nat) : Bool := n % 4 = 0 && decide (4 ≤ n) && decide (n ≤ 64)

/-- Whether the operands of a command are ones that the spec lets it have. -/
def wellFormed : Instr → Bool
  | .runRequest sub => decide (1 ≤ sub.toNat) && decide (sub.toNat ≤ 16)
  | .rawRead len _ => decide (len ≤ 256)
  | .rawProgram data => decide (data.length = 256)
  | .rawErase sector => decide (sector.toNat < 32)
  | .programStoreWrite _ _ data => decide (1 ≤ data.length) && decide (data.length ≤ 256)
  | .firmwareImage _ _ data => decide (1 ≤ data.length) && decide (data.length ≤ 256)
  | .hostWrite _ _ _ data => decide (data.length = 64)
  | .veilBegin _ _ cause => decide (cause ≠ 0)
  | .channelDead _ cause => decide (cause ≠ 0)
  | .geometryWrite sub _ => decide (1 ≤ sub.toNat) && decide (sub.toNat ≤ 3)
  | .nandProgramFailure _ block => decide (block < 131072)
  | .nandEraseFailure _ block => decide (block < 131072)
  | .nandEraseEnd _ block => decide (block < 131072)
  | .nandUnitReadEnd c page r => decide (page < 536870912) && unitReadOk c r
  | .patrol c r => unitReadOk c r
  | .descriptorFetch _ bytes => decide (bytes.length = 64)
  | .bar2Write _ off data => decide (off < 65536) && off % 4 = 0 && lenTlp data.length
  | .bar2Read _ off len => decide (off < 65536) && off % 4 = 0 && lenTlp len
  | .coalescingSetting _ sub value => (sub = 3 && decide (value.toNat < 256)) || sub = 4
  | .sourceConfiguration entries => decide (entries.length = 192)
  | .read _ f => requestForm 1 5 f
  | .write _ f => requestForm 2 (7 + lengthField f 4) f && lenOk (lengthField f 4)
  | .segRead _ f _ => requestForm 3 11 f && lenOk (lengthField f 8)
  | .segWrite _ f => requestForm 4 (12 + lengthField f 9) f && lenOk (lengthField f 9)
  | .segAbort _ f => requestForm 5 5 f
  | .registerWrite t => targetOk t
  | .bindingToken token => decide (token.length = 32)
  | .response mac => decide (mac.length = 32)
  | _ => true

end Sys2Proof
end

