-- ==== Sys2Proof/Certificates/Slice0/Obligations.lean ====
section
/-! DEFINITION. The statements for the provers, family by family. A clause `t = { s with u := t.u, … }` is a frame: it
says that every unit of the state that it does not list is as before. -/

open Sys2Proof Sys2Proof.Machine

/-! ## The block as a whole -/

/-- A step runs the command at the front of the queue on the state with the rest of the queue. -/
def Obligations.StepRunsTheFrontCommand : Prop :=
  ∀ (c : Instr) (q : List Instr) (s : State), step (s.withPending (c :: q)) = exec c (s.withPending q)

/-- The model's choice (assumption 20): with no command waiting 1 µs passes. An AON die with power counts it as powered
time, in the residency of the device state, in RUN as RUN time, and in CC and CV as charging time. Copies of full anchor
blocks end, where the main die runs; with none under way nothing else changes. -/
def Obligations.EmptyQueueLetsAMicrosecondPass : Prop :=
  ∀ s : State, s.pending = [] →
    (s.supply.aon = false → step s = .next s) ∧
    (s.supply.aon = true → ∃ t, step s = .next t ∧ t.sys.aonTime = s.sys.aonTime + 1 ∧
      t.sys.runUs = s.sys.runUs + (if s.sys.st = .run then 1 else 0) ∧
      (∀ k : Fin 8, t.sys.residency[k] = s.sys.residency[k] + (if k = stFin s.sys.st then 1 else 0)) ∧
      t.sys = { s.sys with aonTime := t.sys.aonTime, runUs := t.sys.runUs, residency := t.sys.residency } ∧
      t.cell = { s.cell with
        chargeUs := s.cell.chargeUs + (if s.cell.phase = .cc ∨ s.cell.phase = .cv then 1 else 0) } ∧
      ((∀ c : ChanId, (s.nand.chans[c]).copying = false) → t = { s with sys := t.sys, cell := t.cell }) ∧
      t = { s with sys := t.sys, cell := t.cell, nand := t.nand, irq := t.irq, bus := t.bus, free := t.free })

/-- Right after the first AON power-on: DARK with cause 0x00, no transition, reset source 0x01, every slot OFF and
disabled, no program, no command waiting, and the response STATUS 0xFE with LEN 0. -/
def Obligations.ResetState : Prop :=
  State.reset.sys.st = .dark ∧ State.reset.sys.cause = 0 ∧ State.reset.sys.transitions = 0 ∧
  State.reset.sys.resetSource = 1 ∧ State.reset.sys.aonTime = 0 ∧
  (∀ n : SlotId, State.reset.rails[n].st = .off ∧ State.reset.rails[n].en = false) ∧
  State.reset.seq.run = none ∧ (∀ n : SourceId, State.reset.irq.src[n].st = .inactive) ∧
  State.reset.bus.resp = [0xFE, 0, 0] ∧ State.reset.bus.dynAddr = none ∧ State.reset.pending = []

/-- The state after reset holds option flash, the shadow registers and the tiles in their canonical form. -/
def Obligations.ResetIsCanonical : Prop := canonical State.reset

/-- Every step keeps the canonical form: the pages of option flash, the shadow registers and the tiles stay sorted by key
with no key twice. -/
def Obligations.EveryStepKeepsCanonical : Prop :=
  ∀ s t : State, canonical s → step s = .next t → canonical t

/-- Every command, well formed or not, ends in a next state: the block has no fault and no refusal. It leaves the queue and
what the module was made with, part, stepping, serial number and lifecycle, as they were. -/
def Obligations.EveryCommandEnds : Prop :=
  ∀ (c : Instr) (s : State), ∃ t, exec c s = .next t ∧ t.pending = s.pending ∧ madeWith t = madeWith s

/-! ## State requests -/

/-- Writes of a request code to 0x1410.01, as rows of the table. -/
def Sys2Proof.Claims.requestRows : List (Nat × Instr) :=
  [(1, .run), (2, .runDiscard), (3, .develop), (4, .holdDeep), (5, .holdPartial), (6, .checkpoint), (8, .reset)]

open Sys2Proof.Claims

/-- A request other than WAKE ends with STATE_BUSY while a transition is in progress, else with DEVICE_STATE outside the
states that accept it; then nothing but the bus and, in HOLD, the core's clock has changed. -/
def Obligations.RequestsOutsideTheirStates : Prop :=
  ∀ (s : State) (p : Nat × Instr), busFree s = true → p ∈ requestRows →
    (inProgress s = true → ∃ t, exec p.2 s = .next t ∧ answered t .stateBusy ∧
      t = { s with bus := t.bus, supply := t.supply }) ∧
    (inProgress s = false → requestState p.1 s = false → ∃ t, exec p.2 s = .next t ∧ answered t .deviceState ∧
      t = { s with bus := t.bus, supply := t.supply })

/-- RUN entered from SETUP by a request. -/
def Sys2Proof.Claims.runsFromSetup (s t : State) : Prop :=
  answered t .done ∧ t.sys.st = .run ∧ t.sys.prev = .setup ∧ t.sys.cause = 0x03 ∧
    t.sys.transitions = s.sys.transitions + 1 ∧ t.light = s.light ∧ t.rails = s.rails ∧ t.shadow = s.shadow ∧
    t.ports = s.ports ∧ t.ident = s.ident

/-- RUN in SETUP: refused with NEGATIVE_PENDING while a Negative waits; else it enters RUN where no fault is owed. -/
def Sys2Proof.Claims.RequestedRun : Prop :=
  ∀ s : State, busFree s = true → s.sys.st = .setup → inProgress s = false →
    (pendingStatus s.neg.status = true → ∃ t, exec .run s = .next t ∧ answered t .negativePending ∧
      t = { s with bus := t.bus }) ∧
    (pendingStatus s.neg.status = false → s.cell.owed = false → (deadChans s).length < 2 →
      ∃ t, exec .run s = .next t ∧ runsFromSetup s t)

/-- RUN_DISCARD in SETUP enters RUN; no generation up to the newest pending one, whose number fits its record, is left
unsuperseded, and none of their blocks holds a Negative any more. -/
def Sys2Proof.Claims.RequestedRunDiscard : Prop :=
  ∀ s : State, busFree s = true → s.sys.st = .setup → inProgress s = false → s.cell.owed = false →
    (deadChans s).length < 2 → ∃ t, exec .runDiscard s = .next t ∧ runsFromSetup s t ∧
      ∀ c, newestC s = some c → c.gen < 2 ^ 32 →
        (∀ g ∈ t.neg.gens, g.gen ≤ c.gen → g.superseded = true) ∧
        ∀ (k : ChanId) (b : Nat), (blockAt s.nand.chans[k] k b).use = 1 → (blockAt s.nand.chans[k] k b).owner ≤ c.gen →
          (blockAt t.nand.chans[k] k b).use ≠ 1

/-- DEVELOP in SETUP ends with the abort of the first guard that fails, in the order of Table 2-4; with none it enters
DEVELOP and waits for the takeover, unless two dead channels end it at once (R281). -/
def Sys2Proof.Claims.RequestedDevelop : Prop :=
  ∀ s : State, busFree s = true → s.sys.st = .setup → inProgress s = false → ∃ t, exec .develop s = .next t ∧
    (allParked s = false → answered t .busNotParked ∧ t = { s with bus := t.bus }) ∧
    (allParked s = true → (s.sec.binding ≠ 1 ∨ s.neg.status = 3) →
      answered t .negativeLocked ∧ t = { s with bus := t.bus }) ∧
    (allParked s = true → s.sec.binding = 1 → s.neg.status = 2 → answered t .negativeStale ∧
      t = { s with bus := t.bus }) ∧
    (allParked s = true → s.sec.binding = 1 → s.neg.status ∉ [(1 : Byte), 2, 3] → answered t .noNegative ∧
      t = { s with bus := t.bus }) ∧
    (allParked s = true → s.sec.binding = 1 → s.neg.status = 1 → (deadChans s).length < 2 →
      answered t .done ∧ t.sys.st = .develop ∧ t.sys.prev = .setup ∧ t.sys.cause = 0x03 ∧
      t.neg = { s.neg with dev := some ⟨.takeover, false, s.sys.aonTime.toNat⟩ } ∧ t.light = s.light ∧
      t.tiers = s.tiers ∧ t.ports = s.ports ∧ t.cell = s.cell ∧ t.shadow = s.shadow) ∧
    (allParked s = true → s.sec.binding = 1 → s.neg.status = 1 → 2 ≤ (deadChans s).length →
      answered t .done ∧ t.sys.st = .fault ∧ t.sys.prev = .develop ∧ t.sys.cause = 0x0C ∧ t.sys.faultCause = 7 ∧
      t.neg.dev = none)

/-- RUN, RUN_DISCARD and DEVELOP in SETUP. -/
def Obligations.RequestsFromSetup : Prop :=
  Claims.RequestedRun ∧ Claims.RequestedRunDiscard ∧ Claims.RequestedDevelop

/-- What an Exposure that the host asked for begins with: EXPOSE and its record, the target, a host that has yet to
park, no consolidation; only the units that EXPOSE entry concerns have changed. -/
def Sys2Proof.Claims.exposes (s t : State) (target : Byte) : Prop :=
  answered t .done ∧ t.sys.st = .expose ∧ t.sys.prev = .run ∧ t.sys.cause = 0x03 ∧ t.sys.depth = target ∧
  t.sys.transitions = s.sys.transitions + 1 ∧
  (∃ e, t.neg.exp = some e ∧ e.phase = .park ∧ e.target = target ∧ e.powerFail = false) ∧
  t.neg.cons = none ∧ t.light.ctrl = s.light.ctrl ∧
  t = { s with sys := t.sys, rails := t.rails, cell := t.cell, flash := t.flash, light := t.light, neg := t.neg,
               nand := t.nand, irq := t.irq, bus := t.bus, sec := t.sec, free := t.free }

/-- What a request that the energy check turns away leaves: ENERGY_LOW, and what the check found, in mJ. -/
def Sys2Proof.Claims.energyLow (s t : State) (frames : Nat) : Prop :=
  answered t .energyLow ∧ t = { s with bus := t.bus, cell := t.cell } ∧ t.cell.eAvail = mjDown (eAvail s) ∧
    t.cell.eReq = mjUp (eReq s frames)

/-- HOLD_DEEP, HOLD_PARTIAL and CHECKPOINT in RUN: with the energy that the check asks for an Exposure begins; without it
the request ends with ENERGY_LOW and records what the check found. HOLD_PARTIAL while Hold-Partial is not enabled ends
with DEVICE_STATE. -/
def Obligations.RequestedExposure : Prop :=
  ∀ s : State, busFree s = true → s.sys.st = .run → inProgress s = false →
    (eReq s (framesToExpose s false) ≤ eAvail s →
      (∃ t, exec .holdDeep s = .next t ∧ exposes s t 1) ∧ (∃ t, exec .checkpoint s = .next t ∧ exposes s t 0)) ∧
    (eReq s (framesToExpose s true) ≤ eAvail s → pv s 0x3040 1 = 1 →
      ∃ t, exec .holdPartial s = .next t ∧ exposes s t 2) ∧
    (eReq s (framesToExpose s true) ≤ eAvail s → pv s 0x3040 1 ≠ 1 →
      ∃ t, exec .holdPartial s = .next t ∧ answered t .deviceState ∧ t = { s with bus := t.bus, cell := t.cell }) ∧
    (eAvail s < eReq s (framesToExpose s false) →
      (∃ t, exec .holdDeep s = .next t ∧ energyLow s t (framesToExpose s false)) ∧
      (∃ t, exec .checkpoint s = .next t ∧ energyLow s t (framesToExpose s false))) ∧
    (eAvail s < eReq s (framesToExpose s true) →
      ∃ t, exec .holdPartial s = .next t ∧ energyLow s t (framesToExpose s true))

/-- A wake leads from Hold-Deep to BOOT; from Hold-Partial it waits for the PLL, and 0x1400.01 still reads HOLD. -/
def Sys2Proof.Claims.wakes (s t : State) (cause : Byte) : Prop :=
  t.sys.cause = cause ∧
  (s.sys.depth = 2 → s.supply.xtal = true → t.sys.st = .hold ∧ t.sys.wakingPartial = true ∧ t.sys.pllWait = true ∧
    t.neg = s.neg ∧ t.light = s.light ∧ t.flash = s.flash) ∧
  (s.sys.depth = 1 → t.sys.st = .boot ∧ t.sys.prev = .hold ∧ t.sys.pllWait = true ∧
    t.sys.bootEntries = satInc s.sys.bootEntries ∧ t.supply.pll = false ∧ t.nand.chans = s.nand.chans) ∧
  t.shadow = s.shadow ∧ t.log = s.log ∧ t.ident = s.ident

/-- WAKE and a wake tap in HOLD; WAKE in an Exposure with a Hold target is latched; in any other state WAKE ends with
DEVICE_STATE and a wake tap does nothing. -/
def Obligations.Wakes : Prop :=
  ∀ s : State,
    (s.sys.st = .hold → s.sys.wakingPartial = false → s.supply.aon = true →
      (∃ t, exec .wakeTap s = .next t ∧ wakes s t 0x08) ∧
      (busFree s = true → ∃ t, exec .wake s = .next t ∧ answered t .done ∧ wakes s t 0x03)) ∧
    (s.sys.st ≠ .hold → exec .wakeTap s = .next s) ∧
    (busFree s = true → s.sys.st = .expose → s.sys.depth ≠ 0 →
      ∃ t, exec .wake s = .next t ∧ answered t .done ∧
        t.neg.exp = s.neg.exp.map (fun e => { e with wakeLatched := true }) ∧
          t = { s with bus := t.bus, neg := t.neg }) ∧
    (busFree s = true → s.sys.st ≠ .hold → s.sys.st ≠ .expose →
      ∃ t, exec .wake s = .next t ∧ answered t .deviceState ∧ t = { s with bus := t.bus })

/-- What an MR_n reset or a RESET request leaves: BOOT and its record, no program, no Exposure, no Development, the enables
of the slots, every source INACTIVE but 32, 145, 148 and 156 (which the entry itself can raise), the main die off, host
DRAM, the address, and what the log and the shadow registers hold. -/
def Sys2Proof.Claims.resets (s t : State) (source : Byte) : Prop :=
  t.sys.st = .boot ∧ t.sys.prev = s.sys.st ∧ t.sys.cause = 0x09 ∧ t.sys.resetSource = source ∧
  t.sys.bootEntries = satInc s.sys.bootEntries ∧ t.sys.transitions = s.sys.transitions + 1 ∧
  t.sys.aonTime = s.sys.aonTime ∧ t.seq.run = none ∧ t.neg.exp = none ∧ t.neg.dev = none ∧
  (∀ n : SlotId, t.rails[n].en = s.rails[n].en ∧ t.rails[n].st = s.rails[n].st ∧
    t.rails[n].counts = s.rails[n].counts) ∧
  (∀ n : SourceId, n.val ∉ [32, 145, 148, 156] → (t.irq.src[n]).st = .inactive) ∧
  t.sys.mainOn = false ∧ t.light.dram = s.light.dram ∧ t.shadow = s.shadow ∧ t.log = s.log ∧
  t.ident = s.ident ∧ t.bus.dynAddr = s.bus.dynAddr

/-- RESET in SETUP or FAULT, and MR_n low for 100 ms outside DARK and HOLD, reset the main die; MR_n in DARK and HOLD
does nothing. -/
def Obligations.MainDieResets : Prop :=
  ∀ s : State,
    (busFree s = true → inProgress s = false → (s.sys.st = .setup ∨ s.sys.st = .fault) →
      ∃ t, exec .reset s = .next t ∧ answered t .done ∧ resets s t 3) ∧
    (s.supply.aon = true → s.sys.st ≠ .dark → s.sys.st ≠ .hold →
      ∃ t, exec .mrNReset s = .next t ∧ resets s t 2) ∧
    ((s.sys.st = .dark ∨ s.sys.st = .hold) → exec .mrNReset s = .next s)

/-! ## Triggers, supplies, resets and clocks -/

/-- The state of a source after an event of it (Table 13-2). -/
def Sys2Proof.Claims.afterEvent : SrcState → SrcState
  | .inactive => .pending
  | .pending => .pending
  | .active => .activePending
  | .activePending => .activePending

/-- An event of a source is heard: the AON die has power, the source's die is on, and the source goes to a target. -/
def Sys2Proof.Claims.hears (s : State) (n : SourceId) : Bool :=
  s.supply.aon && (s.sys.mainOn || aonSource n.val) && (route s n.val).isSome

/-- What an event leaves of the source it belongs to, where it is heard. -/
def Sys2Proof.Claims.gotEvent (s t : State) (n : SourceId) : Prop := hears s n = true →
  (t.irq.src[n]).st = afterEvent (s.irq.src[n]).st

/-- The power-fail triggers with their causes, and what each one changes at the pins. -/
def Sys2Proof.Claims.triggerRows : List (Instr × Byte) :=
  [(.pfailInAsserted, 0x04), (.fastCollapse, 0x05), (.slowSag, 0x05), (.floorCrossing, 0x05), (.vsbLost, 0x06),
    (.insDetReleased, 0x07)]
def Sys2Proof.Claims.pinsAfter (cause : Byte) (p : Supply) : Supply :=
  let q := { p with counting := false, triggered := true }
  if cause = 0x04 then { q with pfailLow := false }
  else if cause = 0x05 then { q with vinOk := false }
  else if cause = 0x06 then { q with vsbOk := false }
  else { q with insDetLow := false }

/-- A power-fail trigger in RUN starts an Exposure with target Hold-Deep whatever the energy check would say: EXPOSE, the
trigger's cause, a forced takeover that waits for its fence, no consolidation, the keeper's switch closed. Tiers and
shadow registers are as before, and so is all of Safelight but the fence. -/
def Obligations.TriggersInRun : Prop :=
  ∀ (s : State) (p : Instr × Byte), p ∈ triggerRows → s.supply.aon = true → clockRuns s = true → s.sys.st = .run →
    ∃ t, exec p.1 s = .next t ∧ t.sys.st = .expose ∧ t.sys.prev = .run ∧ t.sys.cause = p.2 ∧ t.sys.depth = 1 ∧
      t.sys.transitions = s.sys.transitions + 1 ∧
      (∃ e, t.neg.exp = some e ∧ e.phase = .fence ∧ e.target = 1 ∧ e.powerFail = true ∧ e.cause = p.2) ∧
      t.neg.cons = none ∧ t.light = { s.light with fence := some p.2 } ∧ t.supply = pinsAfter p.2 s.supply ∧
      (s.cell.connected = true → s.cell.faults.contains 5 = false → t.cell.switchOn = true) ∧
      t = { s with supply := t.supply, sys := t.sys, rails := t.rails, seq := t.seq, log := t.log, cell := t.cell,
                   flash := t.flash, light := t.light, neg := t.neg, nand := t.nand, ports := t.ports, irq := t.irq,
                   bus := t.bus, sec := t.sec, free := t.free }

/-- A power-fail trigger in BOOT, SETUP, DEVELOP or FAULT starts no Exposure and keeps every generation; the module is on
its way to DARK, or there, with the trigger's cause. In DARK it changes the pins as it does in RUN, and the device state,
the Negative, Safelight, the tiers, the sequencer, the slots and the shadow registers stay. -/
def Sys2Proof.Claims.TriggersElsewhere : Prop :=
  ∀ (s : State) (p : Instr × Byte), p ∈ triggerRows → s.supply.aon = true → clockRuns s = true →
    (s.sys.st = .dark → ∃ t, exec p.1 s = .next t ∧ t.supply = pinsAfter p.2 s.supply ∧ t.sys = s.sys ∧ t.neg = s.neg ∧
      t.light = s.light ∧ t.tiers = s.tiers ∧ t.seq = s.seq ∧ t.rails = s.rails ∧ t.shadow = s.shadow) ∧
    ((s.sys.st = .boot ∨ s.sys.st = .setup ∨ s.sys.st = .develop ∨ s.sys.st = .fault) → s.sys.leaving = none →
      ∃ t, exec p.1 s = .next t ∧ t.neg.exp = s.neg.exp ∧ (∀ g ∈ s.neg.gens, g ∈ t.neg.gens) ∧ t.sys.cause = p.2 ∧
        (t.sys.st = .dark ∨ ∃ ph, t.sys.leaving = some (.dark p.2, ph)) ∧ t.shadow = s.shadow ∧ t.ident = s.ident)

/-- A trigger in an Exposure by request, before the host has parked: the target becomes Hold-Deep, a latched WAKE is
cancelled, and the takeover is forced. -/
def Sys2Proof.Claims.TriggersWhileParking : Prop :=
  ∀ (s : State) (p : Instr × Byte) (e : Expo), p ∈ triggerRows → s.supply.aon = true → clockRuns s = true →
    s.sys.st = .expose → s.neg.exp = some e → e.phase = .park → e.powerFail = false →
    ∃ t, exec p.1 s = .next t ∧ t.sys = { s.sys with cause := p.2, depth := 1 } ∧
      t.neg.exp = some { e with target := 1, powerFail := true, wakeLatched := false, phase := .fence, cause := p.2 } ∧
      t.neg.gens = s.neg.gens ∧ t.light = { s.light with fence := some p.2 } ∧ t.tiers = s.tiers ∧ t.rails = s.rails

/-- A VIN excursion that qualifies for nothing is counted in 0x2020.06; VIN below V_PFW makes source 19 pending and stops
the insertion count. Nothing else changes but the pins and the delivery of the source. -/
def Sys2Proof.Claims.VinWarnings : Prop :=
  ∀ s : State, s.supply.aon = true →
    exec .vinExcursionRecovered s = .next { s with supply := { s.supply with recovered := satInc s.supply.recovered } } ∧
    ∃ t, exec .vinBelowVPfw s = .next t ∧ gotEvent s t 19 ∧
      t = { s with supply := { s.supply with vinOk := false, counting := false }, irq := t.irq, bus := t.bus, free := t.free }

/-- The power-fail triggers in the other states, during an Exposure's parking, and the two VIN events that are no trigger. -/
def Obligations.TriggersOutsideRun : Prop :=
  Claims.TriggersElsewhere ∧ Claims.TriggersWhileParking ∧ Claims.VinWarnings

/-- A condition of R65 that comes to hold is noted; the debounce count runs exactly where the device is DARK with AON
power and every condition holds. Outside a wake nothing else changes but where the AON die runs from. With VSB and INS_DET
both back after a trigger a module in Hold-Deep wakes, whichever comes last (R64, R67). -/
def Sys2Proof.Claims.InsertionConditions : Prop :=
  ∀ (s : State) (c : InsCond), ∃ t, exec (.insDetLow c) s = .next t ∧
    (match c with
      | .insDet => t.supply.insDetLow | .vsb => t.supply.vsbOk | .pfail => t.supply.pfailLow | .vin => t.supply.vinOk) = true ∧
    (s.sys.st ≠ .hold → t.supply.counting = (decide (s.sys.st = .dark) && s.supply.aon && t.supply.insDetLow &&
      t.supply.vsbOk && t.supply.pfailLow && t.supply.vinOk && s.supply.oscValid && s.supply.xtal)) ∧
    (s.sys.st ≠ .hold → c ≠ .vsb → t = { s with supply := t.supply }) ∧
    (s.sys.st ≠ .hold → t = { s with supply := t.supply, cell := t.cell, log := t.log, flash := t.flash, irq := t.irq,
                                     bus := t.bus, sec := t.sec, free := t.free }) ∧
    (s.sys.st = .hold → s.sys.depth = 1 → s.sys.wakingPartial = false → s.supply.aon = true →
      s.supply.triggered = true → (c = .insDet ∧ s.supply.vsbOk = true ∨ c = .vsb ∧ s.supply.insDetLow = true) →
      t.sys.st = .boot ∧ t.sys.cause = 0x01)

/-- The end of the debounce count leads from DARK to BOOT with cause 0x01, and without a count it does nothing. VSB that
returns is noted; after a trigger it wakes a module in Hold-Deep whose INS_DET is low. -/
def Sys2Proof.Claims.InsertionAndReturn : Prop :=
  ∀ s : State, s.supply.aon = true →
    (s.sys.st = .dark → s.supply.counting = true → ∃ t, exec .insertionDebounceEnd s = .next t ∧ t.sys.st = .boot ∧
      t.sys.prev = .dark ∧ t.sys.cause = 0x01 ∧ t.sys.transitions = s.sys.transitions + 1 ∧ t.sys.pllWait = true ∧
      t.sys.bootEntries = satInc s.sys.bootEntries ∧ t.shadow = s.shadow ∧ t.log = s.log ∧ t.ident = s.ident) ∧
    ((s.sys.st ≠ .dark ∨ s.supply.counting = false) → exec .insertionDebounceEnd s = .next s) ∧
    (∃ t, exec .vsbReturn s = .next t ∧ t.supply.vsbOk = true ∧
      (s.supply.triggered = false → t.sys = s.sys ∧ t.neg = s.neg ∧ t.light = s.light ∧ t.tiers = s.tiers ∧
        t.ports = s.ports ∧ t.shadow = s.shadow) ∧
      (s.supply.triggered = true → s.supply.insDetLow = true → s.sys.st = .hold → s.sys.depth = 1 →
        s.sys.wakingPartial = false → t.sys.st = .boot ∧ t.sys.cause = 0x01))

/-- The insertion line, its debounce, and the return of VSB. -/
def Obligations.InsertionLine : Prop :=
  Claims.InsertionConditions ∧ Claims.InsertionAndReturn

/-- The AON die powers on only from no power: DARK, cause 0x00, reset source 0x01, transition count and AON time from
zero, the address that the straps give, no program, every slot disabled. Option flash's pages, the generations, the tiles and the queue stay. Powered already, nothing happens. -/
def Sys2Proof.Claims.AonPowerOn : Prop :=
  ∀ (s : State) (straps : BitVec 2) (errs : WordErrors),
    (s.supply.aon = true → exec (.aonPowerOn straps errs) s = .next s) ∧
    (s.supply.aon = false → ∃ t, exec (.aonPowerOn straps errs) s = .next t ∧ t.supply.aon = true ∧
      t.supply.straps = straps ∧
      t.sys.st = .dark ∧ t.sys.cause = 0 ∧ t.sys.transitions = 0 ∧ t.sys.aonTime = 0 ∧ t.sys.resetSource = 1 ∧
      t.bus.staticAddr = 0x2C + straps.zeroExtend 7 ∧ t.bus.dynAddr = none ∧ t.bus.resp = [0xFE, 0, 0] ∧
      t.seq.run = none ∧ (∀ n : SlotId, (t.rails[n]).en = false) ∧ t.flash.pages = s.flash.pages ∧
      t.neg.gens = s.neg.gens ∧ t.tiers.tiles = s.tiers.tiles ∧ t.ident = s.ident ∧ t.pending = s.pending)

/-- Below 2.40 V the AON die is off: DARK, no program, no flash job, every slot disabled and OFF, the bus pins disabled;
what option flash's shadow and the generations already committed hold stays. -/
def Sys2Proof.Claims.AonPowerLoss : Prop :=
  ∀ s : State, s.supply.aon = true → ∃ t, exec .aonPowerLoss s = .next t ∧ t.supply.aon = false ∧ t.sys.st = .dark ∧
    t.sys.prev = s.sys.st ∧ t.sys.cause = 0x06 ∧ t.seq.run = none ∧ t.flash.jobs = [] ∧ t.bus.enabled = false ∧
    t.bus.busy = false ∧ t.neg.exp = none ∧ t.neg.dev = none ∧
    (∀ n : SlotId, (t.rails[n]).en = false ∧ (t.rails[n]).st = .off) ∧ (∀ g ∈ s.neg.gens, g ∈ t.neg.gens) ∧
    t.shadow = s.shadow ∧ t.ident = s.ident

/-- Below 2.70 V the operations on option flash are aborted: none runs after it, and 0x4000 counts them. At 2.80 V the
flash goes on. Only option flash, and what waits for it, changes. -/
def Sys2Proof.Claims.AonSupplyBand : Prop :=
  ∀ s : State, s.supply.aon = true →
    (∃ t, exec .aonSupplyLow s = .next t ∧ t.supply = { s.supply with aonLow := true } ∧
      (∀ b : Fin 2, t.flash.prog[b] = none) ∧ t.flash.erase = none ∧
      t.flash.aborted = satOf 32 (s.flash.aborted.toNat +
        (((List.finRange 2).filter fun b => (s.flash.prog[b]).isSome).length + (if s.flash.erase.isSome then 1 else 0))) ∧
      t = { s with supply := t.supply, log := t.log, flash := t.flash, irq := t.irq, bus := t.bus, sec := t.sec,
                   free := t.free }) ∧
    (∃ t, exec .aonSupplyRecovered s = .next t ∧ t.supply = { s.supply with aonLow := false } ∧
      t.sys = s.sys ∧ t.flash.pages = s.flash.pages ∧ t.flash.aborted = s.flash.aborted ∧ t.rails = s.rails ∧
      t.neg = s.neg ∧ t.tiers = s.tiers ∧ t.light = s.light)

/-- The AON supply: power-on, loss, and the band in which no flash operation starts. -/
def Obligations.AonSupply : Prop :=
  Claims.AonPowerOn ∧ Claims.AonPowerLoss ∧ Claims.AonSupplyBand

/-- The oscillator's clock enables the bus pins; the crystal's loss and return are shown and make sources 160 and 161
pending while the PLL runs and after a loss; 1 ms after a transfer in HOLD the core runs from the AON clock again. -/
def Sys2Proof.Claims.Clocks : Prop :=
  ∀ s : State, s.supply.aon = true →
    (∃ t, exec .oscillatorValid s = .next t ∧ t.supply.oscValid = true ∧ t.bus = { s.bus with enabled := true } ∧
      t = { s with supply := t.supply, bus := t.bus }) ∧
    (∃ t, exec .crystalLoss s = .next t ∧ t.supply = { s.supply with xtal := false, counting := false } ∧
      (pllRuns s = true → t.sys = { s.sys with crystalLost := true, crystalSeen := true } ∧ gotEvent s t 160) ∧
      (pllRuns s = false → t.sys = s.sys) ∧
      t = { s with supply := t.supply, sys := t.sys, irq := t.irq, bus := t.bus, free := t.free }) ∧
    (∃ t, exec .crystalReturn s = .next t ∧ t.supply.xtal = true ∧
      (s.sys.crystalLost = true → t.sys = { s.sys with crystalLost := false } ∧ gotEvent s t 161) ∧
      t = { s with supply := t.supply, sys := t.sys, irq := t.irq, bus := t.bus, free := t.free }) ∧
    (s.sys.st = .hold → s.supply.clock = .xtal →
      exec .aonClockReturn s = .next { s with supply := { s.supply with clock := .aon } }) ∧
    (s.sys.st ≠ .hold → exec .aonClockReturn s = .next s)

/-- A watchdog restart of the supervisor core is counted and recorded as reset source 0x04, with source 162; until it ends,
at most 5 ms later, the bus is not served; it leaves everything else as it is. -/
def Sys2Proof.Claims.WatchdogRestart : Prop :=
  ∀ s : State, s.supply.aon = true → ∃ t, exec .supervisorWatchdog s = .next t ∧
    t.sys = { s.sys with wdogRestarts := satInc s.sys.wdogRestarts, resetSource := 4, restartEnd := t.sys.restartEnd } ∧
    s.sys.aonTime.toNat ≤ t.sys.restartEnd ∧ t.sys.restartEnd ≤ s.sys.aonTime.toNat + 5000 ∧
    (t.sys.restartEnd > s.sys.aonTime.toNat → busServes t = false) ∧ gotEvent s t 162 ∧
    t = { s with sys := t.sys, irq := t.irq, bus := t.bus, free := t.free }

/-- The cell at its cutoff with VSB absent: in every state the cell is disconnected, and the module is DARK with cause 0x0D
and without AON power. With VSB present, or with no cell, nothing happens. -/
def Sys2Proof.Claims.CellDepleted : Prop :=
  ∀ s : State, s.supply.aon = true →
    (s.cell.connected = true → s.supply.vsbOk = false → ∃ t, exec .cellDepleted s = .next t ∧ t.sys.st = .dark ∧
      t.sys.prev = s.sys.st ∧ t.sys.cause = 0x0D ∧ t.cell.connected = false ∧ t.supply.aon = false ∧
      t.neg.gens = s.neg.gens ∧ t.shadow = s.shadow) ∧
    ((s.cell.connected = false ∨ s.supply.vsbOk = true) → exec .cellDepleted s = .next s)

/-- The clocks' events, and an empty cell. -/
def Obligations.ClocksAndDepletion : Prop :=
  Claims.Clocks ∧ Claims.CellDepleted

/-! ## Boot -/

/-- The PLL locks in BOOT: neither copy of the option block readable leads to FAULT with fault cause 1; else the copy
taken is recorded, and with a firmware image that runs the main die is powered with each side at the host. -/
def Sys2Proof.Claims.PllLockInBoot : Prop :=
  ∀ (s : State) (errs : WordErrors), s.supply.aon = true → s.supply.xtal = true → s.sys.pllWait = true →
    s.sys.st = .boot →
    ∃ t, exec (.pllLock errs) s = .next t ∧ t.supply.pll = true ∧ t.supply.clock = .timebase ∧
      t.sys.pllWait = false ∧
      (t.sys.optCopy = if (loadCopy s 0 errs).isSome then 0 else if (loadCopy s 1 errs).isSome then 1 else 0xFF) ∧
      (t.sys.optCopy = 0xFF → t.sys.st = .fault ∧ t.sys.faultCause = 1 ∧ t.sys.cause = 0x0E ∧ t.shadow = []) ∧
      (t.sys.optCopy ≠ 0xFF → t.sys.st = .boot → t.sys.mainOn = true ∧ (∀ k : Fin 2, t.light.ctrl[k] = false)) ∧
      t.log = s.log ∧ t.neg = s.neg

/-- The self-test's result is kept in 0x1420.03; a bit in [7:0] fails it, which leads to FAULT once POWER_UP has ended. -/
def Sys2Proof.Claims.SelfTestEnds : Prop :=
  ∀ (s : State) (result : U16), s.sys.st = .boot → s.sys.mainOn = true → s.sys.testDone = false → s.sys.leaving = none →
    ∃ t, exec (.selfTestEnd result) s = .next t ∧ t.sys.testDone = true ∧ t.sys.selfTest = result.zeroExtend 32 ∧
      t.sys.testFailed = decide (result.toNat % 256 ≠ 0) ∧
      (result.toNat % 256 ≠ 0 → s.sys.powerUpDone = true → t.sys.st = .fault ∧ t.sys.faultCause = 2 ∧
        t.sys.cause = 0x0E) ∧
      ((result.toNat % 256 = 0 ∨ s.sys.powerUpDone = false) → t.sys.st = .boot) ∧
      t.light = s.light ∧ t.shadow = s.shadow ∧ t.rails = s.rails ∧ t.tiers = s.tiers

/-- SETUP is entered once the self-test has passed and POWER_UP has ended, and not before. -/
def Sys2Proof.Claims.BootCompletes : Prop :=
  ∀ s : State,
    ∀ errs : WordErrors,
    (s.sys.st = .boot → s.sys.testDone = true → s.sys.testFailed = false → s.sys.powerUpDone = true →
      s.sys.leaving = none →
      ∃ t, exec (.bootComplete errs) s = .next t ∧ t.sys.st = .setup ∧ t.sys.prev = .boot ∧ t.sys.cause = 0x02 ∧
        t.sys.transitions = s.sys.transitions + 1 ∧
        t.sys.bootTime = satOf 32 (s.sys.aonTime.toNat - s.sys.bootAt) ∧ t.light = s.light ∧ t.rails = s.rails ∧
        t.ports = s.ports ∧ t.cell = s.cell ∧ t.shadow = s.shadow ∧ t.supply = s.supply) ∧
    ((s.sys.st ≠ .boot ∨ s.sys.testDone = false ∨ s.sys.testFailed = true ∨ s.sys.powerUpDone = false) →
      exec (.bootComplete errs) s = .next s)

/-- The way through BOOT, and the watchdog. -/
def Obligations.BootEvents : Prop :=
  Claims.WatchdogRestart ∧ Claims.PllLockInBoot ∧ Claims.SelfTestEnds ∧ Claims.BootCompletes

/-! ## The sequencer -/

/-- The step due in the running program: its fields, and whether its word was corrected. -/
def Sys2Proof.Claims.dueStep (s : State) (flips : U64) (r : SeqRun) (w : StepWord) (c : Bool) : Prop :=
  s.seq.run = some r ∧ fetchStep s flips = .step w c

/-- The count of corrected words after a step. -/
def Sys2Proof.Claims.correctedAfter (s : State) (c : Bool) : U32 := if c then satInc s.seq.corrected else s.seq.corrected

/-- WAIT and WAIT_FOR begin their wait; SIGNAL writes its value to the signal register, makes source 17 pending and goes
on. A corrected word is counted. Nothing else changes. -/
def Sys2Proof.Claims.WaitAndSignalSteps : Prop :=
  ∀ (s : State) (flips : U64) (r : SeqRun) (w : StepWord) (c : Bool), dueStep s flips r w c →
    (w.op = 2 → exec (.wait flips) s = .next { s with seq := { s.seq with
      run := some { r with wait := .delay, corrected := r.corrected || c }, corrected := correctedAfter s c } }) ∧
    (w.op = 3 → exec (.waitFor flips) s = .next { s with seq := { s.seq with
      run := some { r with wait := .cond w.arg w.mask, corrected := r.corrected || c }, corrected := correctedAfter s c } }) ∧
    (w.op = 7 → ∃ t, exec (.signal flips) s = .next t ∧ gotEvent s t 17 ∧
      t.seq = { s.seq with run := some { r with pc := r.pc + 1, corrected := r.corrected || c },
                           corrected := correctedAfter s c, signal := BitVec.ofNat 16 w.value } ∧
      t = { s with seq := t.seq, irq := t.irq, bus := t.bus, free := t.free })

/-- JUMP: taken as its sub-function says, to a target inside the program; else the next step. A target at or beyond the
program's length leads to the safe exit of a program that has one, taken or not (assumption 9). Nothing else changes. -/
def Sys2Proof.Claims.JumpStep : Prop :=
  ∀ (s : State) (flips : U64) (r : SeqRun) (w : StepWord) (c : Bool), dueStep s flips r w c → w.op = 5 →
    ∀ taken : Bool,
      ((w.arg = 0 → taken = true) ∧ (w.arg = 1 → taken = r.c) ∧ (w.arg = 2 → taken = !r.c) ∧
        (w.arg = 3 → taken = (r.corrected || c || r.mismatch || r.flagged))) →
      (taken = true → bits 9 0 w.value < r.words.length → exec (.jump flips) s = .next { s with seq := { s.seq with
        run := some { r with pc := bits 9 0 w.value, corrected := r.corrected || c }, corrected := correctedAfter s c } }) ∧
      (taken = false → bits 9 0 w.value < r.words.length → exec (.jump flips) s = .next { s with seq := { s.seq with
        run := some { r with pc := r.pc + 1, corrected := r.corrected || c }, corrected := correctedAfter s c } }) ∧
      (r.words.length ≤ bits 9 0 w.value → r.exited = false → dirSafe (entryAt s r.sub) ≠ 0x3FF →
        ∃ t, exec (.jump flips) s = .next t ∧ gotEvent s t 18 ∧
          t.seq = { s.seq with corrected := correctedAfter s c, run := some { r with
            exited := true, result := 3, wait := .none, pc := dirSafe (entryAt s r.sub), corrected := r.corrected || c } } ∧
          t = { s with seq := t.seq, irq := t.irq, bus := t.bus, free := t.free })

/-- CHECK sets C to whether every slot of its mask passes: in its window by the readings it has just taken (ARG 0), with
neither UV nor OV flag (ARG 1), not latched (ARG 2). With ARG 0 every slot of the mask in use has the reading of its code;
no other reading, and nothing else beside the program, changes. -/
def Sys2Proof.Claims.CheckStep : Prop :=
  ∀ (s : State) (flips : U64) (codes : Fam 16 U16) (r : SeqRun) (w : StepWord) (c : Bool),
    dueStep s flips r w c → w.op = 4 → ∃ t, exec (.check flips codes) s = .next t ∧
      (∀ n : SlotId, w.arg = 0 → w.mask.getLsbD n.val = true → slotUsed s n = true →
        (t.rails[n]).reading = readingOf s n codes[n]) ∧
      t.seq = { s.seq with run := some { r with
        pc := r.pc + 1, corrected := r.corrected || c,
        c := (slotsOf w.mask).all fun n =>
          if w.arg = 0 then !belowUv t n (t.rails[n]).reading.toNat && !aboveOv t n (t.rails[n]).reading.toNat
          else if w.arg = 1 then !((t.rails[n]).flags.getLsbD 1) && !((t.rails[n]).flags.getLsbD 2)
          else decide ((t.rails[n]).st ≠ .latched) }, corrected := correctedAfter s c } ∧
      (∀ n : SlotId, t.rails[n] = { s.rails[n] with reading := (t.rails[n]).reading }) ∧
      (∀ n : SlotId, (w.arg ≠ 0 ∨ w.mask.getLsbD n.val = false ∨ slotUsed s n = false) → t.rails[n] = s.rails[n]) ∧
      t = { s with seq := t.seq, rails := t.rails }

/-- ENABLE with ARG 0 turns on the slots of its mask that are off and not latched: RAMPING, blanked, their trim driven,
counted. A latched slot stays latched and gets ENABLE_BLOCKED. A slot already on, and every slot that the mask does not
name, is left as it is. A persistence-critical slot that powers up ends slot training; nothing else of Safelight
changes. -/
def Sys2Proof.Claims.EnableStep : Prop :=
  ∀ (s : State) (flips : U64) (r : SeqRun) (w : StepWord) (c : Bool), dueStep s flips r w c → w.op = 1 → w.arg = 0 →
    ∃ t, exec (.enable flips) s = .next t ∧
      (∃ f, t.seq = { s.seq with run := some { r with pc := r.pc + 1, corrected := r.corrected || c, flagged := f },
                                 corrected := correctedAfter s c }) ∧
      (∀ n : SlotId, w.mask.getLsbD n.val = true → (s.rails[n]).st ≠ .latched → (s.rails[n]).en = false →
        (t.rails[n]).en = true ∧ (t.rails[n]).st = .ramping ∧ (t.rails[n]).blanked = true ∧
        (t.rails[n]).driven = true ∧ (t.rails[n]).counts[8] = satInc (s.rails[n]).counts[8]) ∧
      (∀ n : SlotId, w.mask.getLsbD n.val = true → (s.rails[n]).st = .latched →
        t.rails[n] = { s.rails[n] with flags := (s.rails[n]).flags ||| 0x800 }) ∧
      (∀ n : SlotId, (w.mask.getLsbD n.val = false ∨ ((s.rails[n]).st ≠ .latched ∧ (s.rails[n]).en = true)) →
        t.rails[n] = s.rails[n]) ∧
      t.light = { s.light with slotTrained := s.light.slotTrained && !((slotsOf w.mask).any fun n =>
        critical s n && decide ((s.rails[n]).st ≠ .latched) && !(s.rails[n]).en) } ∧
      t = { s with seq := t.seq, rails := t.rails, light := t.light, irq := t.irq, bus := t.bus, free := t.free }

/-- ENABLE with ARG 1 turns off the slots of its mask that are on, with their margins; while the controller holds host
DRAM for an Exposure without commit or for a Development, a persistence-critical slot stays on and gets KEEP_VIOLATION.
A slot already off, and every slot that the mask does not name, is left as it is. -/
def Sys2Proof.Claims.DisableStep : Prop :=
  ∀ (s : State) (flips : U64) (r : SeqRun) (w : StepWord) (c : Bool), dueStep s flips r w c → w.op = 1 → w.arg = 1 →
    ∃ t, exec (.enable flips) s = .next t ∧
      (∀ n : SlotId, w.mask.getLsbD n.val = true → (s.rails[n]).en = true → (keepsSlots s && critical s n) = false →
        (t.rails[n]).en = false ∧ (t.rails[n]).st = .off ∧ (t.rails[n]).request = 0 ∧ (t.rails[n]).applied = 0) ∧
      (∀ n : SlotId, w.mask.getLsbD n.val = true → (s.rails[n]).en = true → (keepsSlots s && critical s n) = true →
        t.rails[n] = { s.rails[n] with flags := (s.rails[n]).flags ||| 0x400 }) ∧
      (∀ n : SlotId, (w.mask.getLsbD n.val = false ∨ (s.rails[n]).en = false) → t.rails[n] = s.rails[n]) ∧
      t = { s with seq := t.seq, rails := t.rails, irq := t.irq, bus := t.bus, free := t.free }

/-- TRIM requests its steps (ARG 1: none) on the used slots of its mask, within each slot's limit; outside the limit it
is clamped to it, and shown. In EXPOSE and DEVELOP it is refused on a persistence-critical slot. Other slots stay. -/
def Sys2Proof.Claims.TrimStep : Prop :=
  ∀ (s : State) (flips : U64) (r : SeqRun) (w : StepWord) (c : Bool), dueStep s flips r w c → w.op = 6 →
    ∀ v : U16, v = (if w.arg = 0 then BitVec.ofNat 16 w.value else 0) → ∃ t, exec (.trim flips) s = .next t ∧
      t.seq = { s.seq with run := some { r with pc := r.pc + 1, corrected := r.corrected || c },
                           corrected := correctedAfter s c } ∧
      (∀ n : SlotId, w.mask.getLsbD n.val = true → slotUsed s n = true →
        (critical s n = false ∨ (s.sys.st ≠ .expose ∧ s.sys.st ≠ .develop)) →
        (t.rails[n]).applied = (s.rails[n]).applied ∧
        (v.toInt.natAbs ≤ pv s 0x2320 (n.val + 1) →
          (t.rails[n]).request = v ∧ (t.rails[n]).clamped = (s.rails[n]).clamped) ∧
        (pv s 0x2320 (n.val + 1) < v.toInt.natAbs → (t.rails[n]).clamped = true ∧ (t.rails[n]).request =
          if v.toInt < 0 then BitVec.ofInt 16 (-(pv s 0x2320 (n.val + 1) : Int))
          else BitVec.ofNat 16 (pv s 0x2320 (n.val + 1)))) ∧
      (∀ n : SlotId, w.mask.getLsbD n.val = true → slotUsed s n = true → critical s n = true →
        (s.sys.st = .expose ∨ s.sys.st = .develop) → t.rails[n] = { s.rails[n] with refused := true }) ∧
      (∀ n : SlotId, (w.mask.getLsbD n.val = false ∨ slotUsed s n = false) → t.rails[n] = s.rails[n]) ∧
      t = { s with seq := t.seq, rails := t.rails }

/-- Each opcode of a sequence step. -/
def Obligations.SequenceSteps : Prop :=
  Claims.WaitAndSignalSteps ∧ Claims.JumpStep ∧ Claims.CheckStep ∧ Claims.EnableStep ∧ Claims.DisableStep ∧
    Claims.TrimStep

/-- The result that END gives a run: that of its safe exit, else END_FAIL with ARG 1, else OK, or OK with flags. -/
def Sys2Proof.Claims.endResult (r : SeqRun) (arg : Nat) : Byte :=
  if r.exited then r.result else if arg = 1 then 8 else if r.corrected || r.mismatch || r.flagged then 2 else 1

/-- END outside a transition: no program runs any more, the role's result and the flags of the run are shown, source 16
is pending; nothing else changes. -/
def Sys2Proof.Claims.EndStep : Prop :=
  ∀ (s : State) (flips : U64) (r : SeqRun) (w : StepWord) (c : Bool), dueStep s flips r w c → w.op = 8 →
    s.sys.leaving = none → s.sys.st ≠ .boot → s.sys.wakingPartial = false → ∃ t, exec (.endProgram flips) s = .next t ∧
      t.seq.run = none ∧ t.seq.runFlags = runFlagsOf { r with corrected := r.corrected || c } ∧ gotEvent s t 16 ∧
      (∀ k : Fin 6, t.seq.results[k] =
        if r.role = k.val + 1 then endResult { r with corrected := r.corrected || c } w.arg else s.seq.results[k]) ∧
      t = { s with seq := t.seq, irq := t.irq, bus := t.bus, free := t.free }

/-- An uncorrectable word, an unlisted step or a step beyond the program's end, on the command of any opcode: the program
jumps to its safe exit with the result SAFE_EXIT and source 18; where it has none it ends with that result; a program
that has taken its safe exit ends ABORTED. A correction of the word is noted. The slots keep their enables. -/
def Sys2Proof.Claims.BadStepTakesSafeExit : Prop :=
  ∀ (s : State) (flips : U64) (codes : Fam 16 U16) (r : SeqRun) (b : Bool), s.seq.run = some r →
    fetchStep s flips = .bad b → s.sys.leaving = none → s.sys.st ≠ .boot → s.sys.wakingPartial = false →
    ∀ c ∈ [Instr.enable flips, .wait flips, .waitFor flips, .check flips codes, .jump flips, .trim flips, .signal flips,
        .endProgram flips],
      ∃ t, exec c s = .next t ∧ t.seq.corrected = correctedAfter s b ∧
        (r.exited = false → dirSafe (entryAt s r.sub) ≠ 0x3FF →
          t.seq.run = some { r with
            exited := true, result := 3, wait := .none, pc := dirSafe (entryAt s r.sub), corrected := r.corrected || b } ∧
          gotEvent s t 18) ∧
        (r.exited = false → dirSafe (entryAt s r.sub) = 0x3FF → t.seq.run = none ∧
          ∀ k : Fin 6, r.role = k.val + 1 → t.seq.results[k] = 3) ∧
        (r.exited = true → t.seq.run = none ∧ ∀ k : Fin 6, r.role = k.val + 1 → t.seq.results[k] = 5) ∧
        t = { s with seq := t.seq, irq := t.irq, bus := t.bus, free := t.free }

/-- How a program ends, and what a bad step word does. -/
def Obligations.ProgramEnds : Prop :=
  Claims.EndStep ∧ Claims.BadStepTakesSafeExit

/-- The events a running program waits for. Both counters expired end a WAIT, a condition that is met ends a WAIT_FOR, each
with DELAY_MISMATCH where the counters differed. -/
def Sys2Proof.Claims.WaitEvents : Prop :=
  ∀ (s : State) (r : SeqRun) (m : Bool), s.seq.run = some r →
    (r.wait = .delay → exec (.waitExpiry m) s = .next { s with seq := { s.seq with
      run := some { r with pc := r.pc + 1, wait := .none, mismatch := r.mismatch || m } } }) ∧
    (∀ arg mask, r.wait = .cond arg mask → conditionFulfilled s arg mask = true →
      exec (.waitForMet m) s = .next { s with seq := { s.seq with
        run := some { r with pc := r.pc + 1, wait := .none, mismatch := r.mismatch || m } } }) ∧
    (∀ arg mask, r.wait = .cond arg mask → conditionFulfilled s arg mask = false → exec (.waitForMet m) s = .next s) ∧
    (r.wait = .none → exec (.waitExpiry m) s = .next s ∧ exec (.waitForMet m) s = .next s ∧
      exec (.waitForTimeout m) s = .next s) ∧
    (r.wait = .delay → exec (.waitForMet m) s = .next s ∧ exec (.waitForTimeout m) s = .next s)

/-- A WAIT_FOR whose time ends: every slot of its mask that fails gets its flag (RAMP_SLOW is counted), C is cleared where
there was one, DELAY_MISMATCH is kept, and the program goes on at the next step. -/
def Sys2Proof.Claims.WaitForTimesOut : Prop :=
  ∀ (s : State) (r : SeqRun) (m : Bool) (arg : Nat) (mask : U16), s.seq.run = some r → r.wait = .cond arg mask →
    ∃ t, exec (.waitForTimeout m) s = .next t ∧
      (∃ r', t.seq.run = some r' ∧ r'.pc = r.pc + 1 ∧ r'.wait = .none ∧ r'.words = r.words ∧
        r'.mismatch = (r.mismatch || m) ∧ r'.c = (r.c && !((slotsOf mask).any fun n => failsCondition s arg n))) ∧
      (∀ n : SlotId, mask.getLsbD n.val = true → failsCondition s arg n = true →
        (t.rails[n]).flags = (s.rails[n]).flags ||| (if arg = 0 then 0x10 else if arg = 1 then 0x40 else 0x1000) ∧
        (arg = 0 → (t.rails[n]).counts[4] = satInc (s.rails[n]).counts[4]) ∧
        t.rails[n] = { s.rails[n] with flags := (t.rails[n]).flags, counts := (t.rails[n]).counts }) ∧
      (∀ n : SlotId, (mask.getLsbD n.val = false ∨ failsCondition s arg n = false) → t.rails[n] = s.rails[n]) ∧
      t = { s with seq := t.seq, rails := t.rails, irq := t.irq, bus := t.bus, free := t.free }

/-- The copy into the step buffer ends, once its bank can be read: a program that passes its check runs from its first
step, one that does not ends with CRC_FAIL. The run-time limit takes a program to its safe exit with TIMEOUT; POWER_UP
always has one. -/
def Sys2Proof.Claims.ProgramLoadAndTimeout : Prop :=
  ∀ (s : State) (r : SeqRun) (errs : WordErrors), s.seq.run = some r → s.sys.leaving = none → s.sys.st ≠ .boot →
    s.sys.wakingPartial = false →
    (r.loading = true → readWaits s (storeActive s) = false → programOk s r.sub errs = true →
      ∃ t, exec (.programLoadEnd errs) s = .next t ∧
        t.seq = { s.seq with run := some { r with loading := false, words := storeWords s r.sub } } ∧
        t = { s with seq := t.seq, flash := { s.flash with corrected := t.flash.corrected } }) ∧
    (r.loading = true → readWaits s (storeActive s) = false → programOk s r.sub errs = false →
      ∃ t, exec (.programLoadEnd errs) s = .next t ∧ t.seq.run = none ∧
        (∀ k : Fin 6, r.role = k.val + 1 → t.seq.results[k] = 6) ∧
        t = { s with seq := t.seq, irq := t.irq, bus := t.bus, free := t.free,
                     flash := { s.flash with corrected := t.flash.corrected, uncorrectable := t.flash.uncorrectable } }) ∧
    ((r.loading = false ∨ readWaits s (storeActive s) = true) → exec (.programLoadEnd errs) s = .next s) ∧
    (r.loading = false → r.exited = false → (dirMaxRun (entryAt s r.sub) ≠ 0 ∨ r.role = 1) →
      dirSafe (entryAt s r.sub) ≠ 0x3FF → ∃ t, exec .programTimeout s = .next t ∧
        t.seq.run = some { r with exited := true, result := 4, wait := .none, pc := dirSafe (entryAt s r.sub) } ∧
        gotEvent s t 18 ∧ t = { s with seq := t.seq, irq := t.irq, bus := t.bus, free := t.free }) ∧
    (dirMaxRun (entryAt s r.sub) = 0 → r.role ≠ 1 → exec .programTimeout s = .next s)

/-- The device takes a write of the host, and the checks of the object dictionary pass it. -/
def Sys2Proof.Claims.takes (s : State) (i b : Nat) (data : List Byte) : Prop :=
  busFree s = true ∧ writeChecks (touch s) .bus i b data = .done

/-- A write of a directory subindex to 0x2230.01 starts the program of an entry of role 6, and ends with VALUE_RANGE for
another role; while a program runs it ends with SEQ_BUSY in every state. -/
def Sys2Proof.Claims.RunRequest : Prop :=
  ∀ (s : State) (sub : Byte),
    (takes s 0x2230 1 [sub] → dirRole (entryAt s sub.toNat) = 6 → ∃ t, exec (.runRequest sub) s = .next t ∧
      answered t .done ∧ (∃ r, t.seq = { s.seq with run := some r } ∧ r.sub = sub.toNat ∧ r.role = 6 ∧ r.loading = true) ∧
      t = { s with seq := t.seq, bus := t.bus, flash := { s.flash with erase := t.flash.erase } }) ∧
    (takes s 0x2230 1 [sub] → dirRole (entryAt s sub.toNat) ≠ 6 → ∃ t, exec (.runRequest sub) s = .next t ∧
      answered t .valueRange ∧ t = { s with bus := t.bus }) ∧
    (busFree s = true → s.seq.run ≠ none → ∃ t, exec (.runRequest sub) s = .next t ∧ answered t .seqBusy ∧
      t = { s with bus := t.bus, supply := t.supply })

/-- What starts a program, what a waiting one waits for, and its timeout. -/
def Obligations.ProgramRuns : Prop :=
  Claims.WaitEvents ∧ Claims.WaitForTimesOut ∧ Claims.ProgramLoadAndTimeout ∧ Claims.RunRequest

/-- The 56 data bits of a stored step word come back, and with any one bit of the word read wrong they come back too,
marked as corrected (R117, R118). -/
def Obligations.StepWordsCorrected : Prop :=
  ∀ d : Nat, d < 2 ^ 56 → decodeStep (encodeStep d) = some (d, false) ∧
    ∀ k : Nat, k < 63 → decodeStep (encodeStep d ^^^ BitVec.ofNat 64 (2 ^ k)) = some (d, true)

/-! ## Rails -/


/-- A conversion of VIN, VSB, VCELL or the die temperature while the PLL runs is stored where it belongs, and nothing else
changes; without the PLL the scan does not run. -/
def Sys2Proof.Claims.ScanOfSupplies : Prop :=
  ∀ (s : State) (v : U32) (d trim : U16),
    (pllRuns s = false → ∀ c : Conversion, exec (.adcConversion c trim) s = .next s) ∧
    (pllRuns s = true →
      exec (.adcConversion (.vin v) trim) s = .next { s with supply := { s.supply with vinUv := v } } ∧
      exec (.adcConversion (.vsb v) trim) s = .next { s with supply := { s.supply with vsbUv := v } } ∧
      exec (.adcConversion (.vcell v) trim) s = .next { s with cell := { s.cell with vcellUv := v } } ∧
      exec (.adcConversion (.dieTemp d) trim) s = .next { s with supply := { s.supply with dieTemp := d } })

/-- A conversion of a slot in use: its reading is that of the 16-bit code, 31.25 µV a step times the sense ratio. With a
comparator that is not suspect nothing trips; a walking margin goes one step towards its request, with its loop trim taken
over; a trim output at a bound stops it with LIMIT, and holds the trim there. No other slot changes. -/
def Sys2Proof.Claims.ScanOfSlots : Prop :=
  ∀ (s : State) (n : SlotId) (code trim : U16), pllRuns s = true → slotUsed s n = true →
    ∃ t, exec (.adcConversion (.slot n code) trim) s = .next t ∧
      (t.rails[n]).reading = satOf 32 (code.toNat * 125 * rail s n 2 / 4000) ∧
      (((s.rails[n]).cmpA.suspect && (s.rails[n]).cmpB.suspect) = false →
        (loopRuns s n = false → t = { s with rails := t.rails } ∧
          t.rails[n] = { s.rails[n] with reading := readingOf s n code }) ∧
        (loopRuns s n = true → (s.rails[n]).margin = .walking → (s.rails[n]).applied ≠ (s.rails[n]).request →
          trimAtBound s n trim = false → t = { s with rails := t.rails } ∧ (t.rails[n]).trim = trim ∧
          (t.rails[n]).applied = (if (s.rails[n]).applied.slt (s.rails[n]).request then (s.rails[n]).applied + 1
            else (s.rails[n]).applied - 1)) ∧
        (loopRuns s n = true → (s.rails[n]).margin ≠ .limit → trimAtBound s n trim = true →
          (t.rails[n]).margin = .limit ∧ (t.rails[n]).limited = true ∧ (t.rails[n]).applied = (s.rails[n]).applied ∧
          -8192 ≤ (staticTrim s n).toInt + (t.rails[n]).trim.toInt ∧
          (staticTrim s n).toInt + (t.rails[n]).trim.toInt ≤ 8191 ∧ gotEvent s t 21)) ∧
      (∀ m : SlotId, m ≠ n → t.rails[m] = s.rails[m]) ∧
      t = { s with rails := t.rails, seq := t.seq, irq := t.irq, bus := t.bus, free := t.free }

/-- The two kinds of conversion of the scan. -/
def Obligations.SupplyScans : Prop :=
  Claims.ScanOfSupplies ∧ Claims.ScanOfSlots

/-- An asserted output of one comparator, on a slot that is supervised and in its window with no output asserted and no
comparator suspect: under OR it trips the slot, with its flag and its counter, latched off where 0x2000+n.0A selects it;
under AND the slot waits for the other comparator. No other slot changes. -/
def Sys2Proof.Claims.WindowTrips : Prop :=
  ∀ (s : State) (n : SlotId) (c : Comp), supervised s n = true → (s.rails[n]).st = .inWindow →
    (s.rails[n]).cmpA = Cmp.init → (s.rails[n]).cmpB = Cmp.init →
    (rail s n 9 ≠ 1 → ∃ t, exec (.uvTrip n c true) s = .next t ∧ (t.rails[n]).flags = (s.rails[n]).flags ||| 0x2 ∧
      (t.rails[n]).counts[0] = satInc (s.rails[n]).counts[0] ∧
      ((rail s n 0xA).testBit 1 = false → (t.rails[n]).st = .uv ∧ (t.rails[n]).en = true) ∧
      ((rail s n 0xA).testBit 1 = true → (t.rails[n]).st = .latched ∧ (t.rails[n]).en = false) ∧
      (∀ m : SlotId, m ≠ n → t.rails[m] = s.rails[m]) ∧
      t = { s with rails := t.rails, seq := t.seq, irq := t.irq, bus := t.bus, free := t.free }) ∧
    (rail s n 9 ≠ 1 → ∃ t, exec (.ovTrip n c true) s = .next t ∧ (t.rails[n]).flags = (s.rails[n]).flags ||| 0x4 ∧
      (t.rails[n]).counts[1] = satInc (s.rails[n]).counts[1] ∧
      ((rail s n 0xA).testBit 0 = false → (t.rails[n]).st = .ov ∧ (t.rails[n]).en = true) ∧
      ((rail s n 0xA).testBit 0 = true → (t.rails[n]).st = .latched ∧ (t.rails[n]).en = false) ∧
      (∀ m : SlotId, m ≠ n → t.rails[m] = s.rails[m]) ∧
      t = { s with rails := t.rails, seq := t.seq, irq := t.irq, bus := t.bus, free := t.free }) ∧
    (rail s n 9 = 1 → ∀ e ∈ [Instr.uvTrip n c true, .ovTrip n c true], ∃ t, exec e s = .next t ∧
      (t.rails[n]).st = .inWindow ∧ (t.rails[n]).en = true ∧ (t.rails[n]).flags = (s.rails[n]).flags ∧
      t = { s with rails := t.rails } ∧ ∀ m : SlotId, m ≠ n → t.rails[m] = s.rails[m])

/-- The only asserted output of a supervised slot that has entered its window once releases: the output reads released and
the slot is back in its window, whatever the policy; nothing else changes. -/
def Sys2Proof.Claims.OutputReleases : Prop :=
  ∀ (s : State) (n : SlotId), supervised s n = true → ((s.rails[n]).st = .uv ∨ (s.rails[n]).st = .ov) →
    (s.rails[n]).awaiting = false →
    ((s.rails[n]).cmpA = { Cmp.init with uv := true } → (s.rails[n]).cmpB = Cmp.init →
      ∃ t, exec (.uvTrip n .a false) s = .next t ∧ t = { s with rails := t.rails } ∧
        t.rails[n] = { s.rails[n] with st := .inWindow, cmpA := Cmp.init } ∧ ∀ m : SlotId, m ≠ n → t.rails[m] = s.rails[m]) ∧
    ((s.rails[n]).cmpA = Cmp.init → (s.rails[n]).cmpB = { Cmp.init with ov := true } →
      ∃ t, exec (.ovTrip n .b false) s = .next t ∧ t = { s with rails := t.rails } ∧
        t.rails[n] = { s.rails[n] with st := .inWindow, cmpB := Cmp.init } ∧ ∀ m : SlotId, m ≠ n → t.rails[m] = s.rails[m])

/-- A slot shut off by its short latch. -/
def Sys2Proof.Claims.shortedOff (s t : State) (n : SlotId) : Prop :=
  (t.rails[n]).st = .latched ∧ (t.rails[n]).en = false ∧ (t.rails[n]).flags = (s.rails[n]).flags ||| 0x8 ∧
  (t.rails[n]).counts[2] = satInc (s.rails[n]).counts[2] ∧ (t.rails[n]).request = 0 ∧ (t.rails[n]).driven = false ∧
  (∀ m : SlotId, m ≠ n → (s.rails[m]).st = .ramping → (t.rails[m]).counts[3] = satInc (s.rails[m]).counts[3] ∧
    (t.rails[m]).st = .ramping ∧ (t.rails[m]).en = (s.rails[m]).en) ∧
  (∀ m : SlotId, m ≠ n → (s.rails[m]).st ≠ .ramping → t.rails[m] = s.rails[m])

/-- The short latch of a supervised slot acts at once outside its blanking time, and at the end of it on an output that is
still asserted: the slot is latched off and counted, and every slot then RAMPING gets a coincidence count. During
blanking, and when the output releases, it is only noted. -/
def Sys2Proof.Claims.ShortLatch : Prop :=
  ∀ (s : State) (n : SlotId) (c : Comp), supervised s n = true →
    ((s.rails[n]).blanked = false → ∃ t, exec (.shortLatchOff n c true) s = .next t ∧ shortedOff s t n ∧
      t = { s with rails := t.rails, seq := t.seq, irq := t.irq, bus := t.bus, free := t.free }) ∧
    (∀ asserts : Bool, ((s.rails[n]).blanked = true ∨ asserts = false) →
      ∃ t, exec (.shortLatchOff n c asserts) s = .next t ∧ t = { s with rails := t.rails } ∧
        (t.rails[n]).st = (s.rails[n]).st ∧ (t.rails[n]).en = true ∧ (t.rails[n]).flags = (s.rails[n]).flags ∧
        (c = .a → t.rails[n] = { s.rails[n] with cmpA := { (s.rails[n]).cmpA with short := asserts } }) ∧
        (c = .b → t.rails[n] = { s.rails[n] with cmpB := { (s.rails[n]).cmpB with short := asserts } }) ∧
        (∀ m : SlotId, m ≠ n → t.rails[m] = s.rails[m])) ∧
    ((s.rails[n]).blanked = true → ((s.rails[n]).cmpA.short || (s.rails[n]).cmpB.short) = true →
      ∃ t, exec (.shortBlankingEnd n) s = .next t ∧ shortedOff s t n) ∧
    ((s.rails[n]).blanked = true → ((s.rails[n]).cmpA.short || (s.rails[n]).cmpB.short) = false →
      ∃ t, exec (.shortBlankingEnd n) s = .next t ∧ t.rails[n] = { s.rails[n] with blanked := false } ∧
        t = { s with rails := t.rails })

/-- Comparators of a supervised slot that differ get their flag and are counted; under OR, or with a suspect comparator,
nothing trips for it; under AND a reading below the UV threshold trips a slot in its window. Outputs that agree change
nothing. -/
def Sys2Proof.Claims.ComparatorsDisagree : Prop :=
  ∀ (s : State) (n : SlotId), supervised s n = true →
    (((s.rails[n]).cmpA.uv ≠ (s.rails[n]).cmpB.uv ∨ (s.rails[n]).cmpA.ov ≠ (s.rails[n]).cmpB.ov) →
      ∃ t, exec (.compDisagree n) s = .next t ∧ (t.rails[n]).counts[6] = satInc (s.rails[n]).counts[6] ∧
        (∀ m : SlotId, m ≠ n → t.rails[m] = s.rails[m]) ∧
        t = { s with rails := t.rails, seq := t.seq, irq := t.irq, bus := t.bus, free := t.free } ∧
        ((rail s n 9 ≠ 1 ∨ (s.rails[n]).cmpA.suspect = true ∨ (s.rails[n]).cmpB.suspect = true) →
          (t.rails[n]).flags = (s.rails[n]).flags ||| 0x80 ∧ (t.rails[n]).st = (s.rails[n]).st ∧
            (t.rails[n]).en = (s.rails[n]).en) ∧
        (rail s n 9 = 1 → (s.rails[n]).cmpA.suspect = false → (s.rails[n]).cmpB.suspect = false →
          (s.rails[n]).st = .inWindow → aboveOv s n (s.rails[n]).reading.toNat = false →
          belowUv s n (s.rails[n]).reading.toNat = true →
          (t.rails[n]).flags = (s.rails[n]).flags ||| 0x80 ||| 0x2 ∧
            (t.rails[n]).counts[0] = satInc (s.rails[n]).counts[0])) ∧
    ((s.rails[n]).cmpA.uv = (s.rails[n]).cmpB.uv → (s.rails[n]).cmpA.ov = (s.rails[n]).cmpB.ov →
      exec (.compDisagree n) s = .next s)

/-- The audit of a supervised slot: a comparator that agrees with the reading ends its run of failed audits; one that
does not (the other agreeing, and fewer than three in a row) gets AUDIT_FAIL and its count. A slot that is not supervised
is left as it is; without the PLL there is no audit. -/
def Sys2Proof.Claims.ComparatorAudit : Prop :=
  ∀ s : State, (pllRuns s = false → exec .comparatorAudit s = .next s) ∧
    (pllRuns s = true → ∃ t, exec .comparatorAudit s = .next t ∧
      (∀ n : SlotId, supervised s n = true → auditFails s n (s.rails[n]).cmpA = false →
        auditFails s n (s.rails[n]).cmpB = false →
        (t.rails[n]).cmpA = { (s.rails[n]).cmpA with streak := 0 } ∧
          (t.rails[n]).cmpB = { (s.rails[n]).cmpB with streak := 0 } ∧
        (t.rails[n]).flags = (s.rails[n]).flags ∧ (t.rails[n]).st = (s.rails[n]).st) ∧
      (∀ n : SlotId, supervised s n = true → auditFails s n (s.rails[n]).cmpA = true →
        auditFails s n (s.rails[n]).cmpB = false → (s.rails[n]).cmpA.streak ≠ 2 →
        (t.rails[n]).cmpA.streak = (s.rails[n]).cmpA.streak + 1 ∧ (t.rails[n]).flags = (s.rails[n]).flags ||| 0x100 ∧
        (t.rails[n]).counts[7] = satInc (s.rails[n]).counts[7]) ∧
      (∀ n : SlotId, supervised s n = false → t.rails[n] = s.rails[n]) ∧
      t = { s with rails := t.rails, seq := t.seq, irq := t.irq, bus := t.bus, free := t.free })

/-- A supervised slot that has not entered its window since its enable edge, and whose combined outputs show neither
condition, is IN WINDOW at its entry, and its ramp time is kept; faster than its minimum it gets RAMP_FAST. One that has
not entered when its maximum expires gets RAMP_SLOW and reads UV where it was RAMPING, or is latched off where UV
latches. Any other entry or expiry does nothing. -/
def Sys2Proof.Claims.RampSupervision : Prop :=
  ∀ (s : State) (n : SlotId) (ticks : Nat),
    (supervised s n = true → (s.rails[n]).awaiting = true → combined s n true = false → combined s n false = false →
      ∃ t, exec (.windowEntry n ticks) s = .next t ∧
        (t.rails[n]).st = .inWindow ∧ (t.rails[n]).awaiting = false ∧ (t.rails[n]).rampUs = satOf 32 (ticks / 100) ∧
        (t.rails[n]).cmpA = (s.rails[n]).cmpA ∧ (t.rails[n]).cmpB = (s.rails[n]).cmpB ∧
        (ticks < 100 * rail s n 7 → (t.rails[n]).flags = (s.rails[n]).flags ||| 0x20 ∧
          (t.rails[n]).counts[5] = satInc (s.rails[n]).counts[5]) ∧
        (100 * rail s n 7 ≤ ticks → (t.rails[n]).flags = (s.rails[n]).flags) ∧
        (∀ m : SlotId, m ≠ n → t.rails[m] = s.rails[m]) ∧
        t = { s with rails := t.rails, seq := t.seq, irq := t.irq, bus := t.bus, free := t.free }) ∧
    ((supervised s n = false ∨ (s.rails[n]).awaiting = false ∨ combined s n true = true ∨ combined s n false = true) →
      exec (.windowEntry n ticks) s = .next s) ∧
    (supervised s n = true → (s.rails[n]).awaiting = true → (s.rails[n]).rampOver = false →
      ∃ t, exec (.rampSlow n) s = .next t ∧
        (t.rails[n]).flags = (s.rails[n]).flags ||| 0x10 ∧ (t.rails[n]).counts[4] = satInc (s.rails[n]).counts[4] ∧
        ((rail s n 0xA).testBit 1 = false → (t.rails[n]).rampOver = true ∧ (t.rails[n]).en = true ∧
          (t.rails[n]).st = if (s.rails[n]).st = .ramping then .uv else (s.rails[n]).st) ∧
        ((rail s n 0xA).testBit 1 = true → (t.rails[n]).st = .latched ∧ (t.rails[n]).en = false) ∧
        (∀ m : SlotId, m ≠ n → t.rails[m] = s.rails[m]) ∧
        t = { s with rails := t.rails, seq := t.seq, irq := t.irq, bus := t.bus, free := t.free }) ∧
    ((supervised s n = false ∨ (s.rails[n]).awaiting = false ∨ (s.rails[n]).rampOver = true) →
      exec (.rampSlow n) s = .next s)

/-- A slot's comparators, their audit, its short latch and its ramp. -/
def Obligations.RailSupervision : Prop :=
  Claims.WindowTrips ∧ Claims.OutputReleases ∧ Claims.ShortLatch ∧ Claims.ComparatorsDisagree ∧ Claims.ComparatorAudit ∧
    Claims.RampSupervision

/-- A write of 1 to 0x2100+n.04 takes a latched slot to OFF; a write of 0x2300.(n+1) inside the slot's limit requests that
margin on a slot in use, and outside it ends with VALUE_RANGE. No other slot changes. -/
def Sys2Proof.Claims.LatchClearAndMargin : Prop :=
  ∀ (s : State) (n : SlotId) (steps : U16),
    (takes s (0x2100 + n.val) 4 [1] → ∃ t, exec (.latchClear n) s = .next t ∧ answered t .done ∧
      ((s.rails[n]).st = .latched → t.rails[n] = { s.rails[n] with st := .off }) ∧
      ((s.rails[n]).st ≠ .latched → t.rails[n] = s.rails[n]) ∧
      (∀ m : SlotId, m ≠ n → t.rails[m] = s.rails[m]) ∧ t = { s with rails := t.rails, bus := t.bus }) ∧
    (takes s 0x2300 (n.val + 1) (leBytes 2 steps.toNat) → ∃ t, exec (.marginRequest n steps) s = .next t ∧
      (pv s 0x2320 (n.val + 1) < steps.toInt.natAbs → answered t .valueRange ∧ t = { s with bus := t.bus }) ∧
      (steps.toInt.natAbs ≤ pv s 0x2320 (n.val + 1) → slotUsed s n = true → answered t .done ∧
        (t.rails[n]).request = steps ∧ (t.rails[n]).applied = (s.rails[n]).applied ∧
        (∀ m : SlotId, m ≠ n → t.rails[m] = s.rails[m]) ∧ t = { s with rails := t.rails, bus := t.bus }) ∧
      (steps.toInt.natAbs ≤ pv s 0x2320 (n.val + 1) → slotUsed s n = false →
        answered t (if steps = 0 then .done else .valueRange) ∧ t = { s with bus := t.bus }))

/-! ## Counter log and backup cell -/

/-- A job has been queued for option flash; while the AON supply is too low for any operation it waits as it is. -/
def Sys2Proof.Claims.queued (s t : State) (k : FlashKind) (ops : List FlashPrim) : Prop :=
  t.flash.nextJob = s.flash.nextJob + 1 ∧
  (s.supply.aonLow = true → t.flash.jobs = s.flash.jobs ++ [⟨s.flash.nextJob, k, ops, false⟩])

/-- A log point that the host requests is answered and queued. A clear of the counters in SETUP zeroes every slot's and
makes a log point with cause 5; in any other state it ends with DEVICE_STATE, or DEVICE_FAULT after a failed BOOT. The periodic log point is made in RUN only. A record that has been programmed leaves its job, with source 23. -/
def Sys2Proof.Claims.LogPoints : Prop :=
  ∀ s : State,
    (takes s 0x2410 1 [1] → ∃ t, exec .logRequest s = .next t ∧ answered t .done ∧ queued s t (.log 4) [] ∧
      t = { s with flash := t.flash, irq := t.irq, bus := t.bus, sec := t.sec, free := t.free }) ∧
    (busFree s = true → s.sys.st = .setup → ∃ t, exec .clearCounters s = .next t ∧ answered t .done ∧ queued s t (.log 5) [] ∧
      (∀ n : SlotId, t.rails[n] = { s.rails[n] with counts := famAll 10 0, alerted := famAll 3 false }) ∧
      t = { s with rails := t.rails, flash := t.flash, irq := t.irq, bus := t.bus, sec := t.sec, free := t.free }) ∧
    (busFree s = true → s.sys.st ≠ .setup → bootFault s = false → ∃ t, exec .clearCounters s = .next t ∧
      answered t .deviceState ∧ t = { s with bus := t.bus, supply := t.supply }) ∧
    (busFree s = true → bootFault s = true → ∃ t, exec .clearCounters s = .next t ∧ answered t .deviceFault ∧
      t = { s with bus := t.bus, supply := t.supply }) ∧
    (s.sys.st = .run → ∃ t, exec .periodicLogPoint s = .next t ∧ queued s t (.log 3) [] ∧
      t = { s with flash := t.flash, irq := t.irq, bus := t.bus, sec := t.sec, free := t.free }) ∧
    (s.sys.st ≠ .run → exec .periodicLogPoint s = .next s) ∧
    (∀ (cause : Byte) (id : Nat), s.flash.jobs = [⟨id, .log cause, [], true⟩] → ∃ t, exec .logWritten s = .next t ∧
      t.flash.jobs = [] ∧ gotEvent s t 23 ∧ t.flash.pages = s.flash.pages ∧
      t = { s with log := t.log, flash := t.flash, irq := t.irq, bus := t.bus, free := t.free }) ∧
    (s.flash.jobs = [] → exec .logWritten s = .next s)

/-- What the host clears and requests of slots and of the counter log. -/
def Obligations.LatchesMarginsAndLog : Prop :=
  Claims.LatchClearAndMargin ∧ Claims.LogPoints

/-- A keeper phase that Table 5-4, by what the keeper measures, and the faults allow is shown, with source 25 on a change;
FULL sets Q_rem to Q_full. A phase that they do not allow is not taken. Charging needs VIN and the die temperature in their
ranges and the charge estimated since AON power-on. -/
def Sys2Proof.Claims.KeeperPhases : Prop :=
  ∀ (s : State) (p : KeeperPhase) (k : KeeperSense),
    (phaseAllowed s p k = true → ∃ t, exec (.keeperPhaseChange p k) s = .next t ∧ t.cell.phase = p ∧
      (p = .full → s.cell.phase ≠ .full → t.cell.qRem = qFull s) ∧ (p ≠ .full → t.cell.qRem = s.cell.qRem) ∧
      (s.cell.phase ≠ p → gotEvent s t 25) ∧ t.cell.faults = s.cell.faults ∧
      (p ∈ [KeeperPhase.precharge, .cc, .cv, .full] → 4500000 ≤ k.vinUv.toNat ∧ k.vinUv.toNat ≤ 5500000 ∧
        0 ≤ k.dieTemp.toInt ∧ k.dieTemp.toInt ≤ 700 ∧ s.cell.estimated = true) ∧
      t = { s with cell := t.cell, irq := t.irq, bus := t.bus, free := t.free }) ∧
    (phaseAllowed s p k = false → exec (.keeperPhaseChange p k) s = .next s)

/-- Q_rem after a period of the coulomb counter stays within 0 and Q_full; the counter stands still without a clock. The
estimate, made once after AON power-on, puts Q_rem where R168 does; below 2.5 V fault 0x06 is found. -/
def Sys2Proof.Claims.CellCharge : Prop :=
  ∀ (s : State) (delta : Int) (v : U32), s.supply.aon = true →
    (s.cell.connected = true → clockRuns s = true → s.cell.fromFull = none → ∃ t, exec (.coulombUpdate delta) s = .next t ∧
      t.cell.qRem = min (qFull s) ((s.cell.qRem : Int) + delta).toNat ∧ t.cell.phase = s.cell.phase ∧
      t.rails = s.rails ∧ t.sys = s.sys ∧ t.neg = s.neg ∧ t.light = s.light ∧ t.shadow = s.shadow) ∧
    ((s.cell.connected = false ∨ clockRuns s = false) → exec (.coulombUpdate delta) s = .next s) ∧
    (s.cell.estimated = false → ∃ t, exec (.cellEstimate v) s = .next t ∧ t.cell.vcellUv = v ∧
      t.cell.estimated = true ∧ t.cell.qRem = estimateOf (qFull s) v.toNat ∧
      (v.toNat < 2500000 → t.cell.faultCode = 6 ∧ 6 ∈ t.cell.faults) ∧
      (2500000 ≤ v.toNat → t.cell.faults = s.cell.faults) ∧ t.rails = s.rails ∧ t.shadow = s.shadow) ∧
    (s.cell.estimated = true → exec (.cellEstimate v) s = .next s)

/-- The faults of Table 5-5 with the condition of each on the keeper: its phase, the charging time, the charges seen with
no load. -/
def Sys2Proof.Claims.cellFaultRows (s : State) : List (Instr × Byte × Bool) :=
  [(.cellAbsent, 1, decide (s.cell.phase = .precharge)), (.overvoltage, 2, true),
    (.chargeTimeout, 3, chargedTooLong s), (.selfDischarge, 4, fallsAtRest s), (.overCurrent, 5, true)]

/-- A fault of the cell is shown and counted; faults 0x01 to 0x04 stop the charging, fault 0x05 opens the switch. In RUN
faults 0x01 to 0x04 lead to FAULT with fault cause 5. Where a row's condition does not hold, nothing happens. -/
def Sys2Proof.Claims.CellFaults : Prop :=
  ∀ (s : State) (p : Instr × Byte × Bool), s.supply.aon = true → p ∈ cellFaultRows s →
    (p.2.2 = false → exec p.1 s = .next s) ∧
    (p.2.2 = true → ∃ t, exec p.1 s = .next t ∧ t.cell.faultCode = p.2.1 ∧ p.2.1 ∈ t.cell.faults ∧
      t.cell.faultCount = s.cell.faultCount + 1 ∧
      (p.2.1 ≠ 5 → t.cell.phase = .off) ∧ (p.2.1 = 5 → t.cell.switchOn = false) ∧
      (p.2.1 ≠ 5 → s.sys.st = .run → t.sys.st = .fault ∧ t.sys.faultCause = 5 ∧ t.sys.cause = 0x0C ∧
        t.sys.prev = .run) ∧
      ((p.2.1 = 5 ∨ s.sys.st ≠ .run) → t.sys = s.sys) ∧
      t.rails = s.rails ∧ t.neg = s.neg ∧ t.light = s.light ∧ t.tiers = s.tiers ∧ t.shadow = s.shadow)

/-- The keeper's switch closes on a connected cell with no fault 0x05 and opens again, which ends that fault; the
guarantee is checked in RUN against the energy for every frame. A write of 1 to 0x2500.11 clears the faults but 0x05, the
charging time, and the FAULT that one of them owes. -/
def Sys2Proof.Claims.SwitchAndGuarantee : Prop :=
  ∀ s : State, s.supply.aon = true →
    (s.cell.connected = true → s.cell.faults.contains 5 = false → ∃ t, exec .keeperSwitchClose s = .next t ∧
      t.cell.switchOn = true ∧ t.rails = s.rails ∧ t.sys = s.sys ∧ t.neg = s.neg ∧ t.light = s.light) ∧
    (∃ t, exec .keeperSwitchOpen s = .next t ∧ t.cell.switchOn = false ∧ 5 ∉ t.cell.faults ∧
      (∀ f ∈ s.cell.faults, f ≠ 5 → f ∈ t.cell.faults) ∧ t.rails = s.rails ∧ t.sys = s.sys ∧ t.neg = s.neg) ∧
    (s.sys.st = .run → ∃ t, exec .guaranteeCheck s = .next t ∧
      t.cell = { s.cell with guarantee := decide (eReq s (frameCount s) ≤ eAvail s), eFull := mjUp (eReq s (frameCount s)) } ∧
      t = { s with cell := t.cell, irq := t.irq, bus := t.bus, free := t.free }) ∧
    (s.sys.st ≠ .run → exec .guaranteeCheck s = .next s) ∧
    (takes s 0x2500 0x11 [1] → ∃ t, exec .clearCellFault s = .next t ∧ answered t .done ∧
      t = { s with cell := t.cell, bus := t.bus } ∧ t.cell.owed = false ∧ t.cell.chargeUs = 0 ∧
      t.cell.faults = s.cell.faults.filter fun f => f = 5)

/-- The backup cell: the keeper's phases, the charge counted, its faults, the switch and the guarantee. -/
def Obligations.CellAndKeeper : Prop :=
  Claims.KeeperPhases ∧ Claims.CellCharge ∧ Claims.CellFaults ∧ Claims.SwitchAndGuarantee

/-! ## Option flash -/

/-- A page program that ends makes its page VALID with its bytes, those of the key store for a key store's page, and moves
the sector's write pointer behind it; every other page, and every other sector's write pointer, is as before. -/
def Sys2Proof.Claims.PageProgramEnds : Prop :=
  ∀ (s : State) (b : Fin 2) (p : FlashProg) (errs : WordErrors), s.flash.prog[b] = some p →
    ∃ t, exec (.pageProgramEnd b errs) s = .next t ∧
    ((∀ j, jobOf s p.job = some j → ∀ z, j.kind ≠ .keys z) →
      aget t.flash.pages (pageKey p.sector.val p.page.val) = some ⟨p.data, true⟩) ∧
    (∀ j z, jobOf s p.job = some j → j.kind = .keys z →
      aget t.flash.pages (pageKey p.sector.val p.page.val) = some ⟨keyPage s s.sec.writing, true⟩) ∧
    (∀ k, k ≠ pageKey p.sector.val p.page.val → aget t.flash.pages k = aget s.flash.pages k) ∧
    (t.flash.sectors[p.sector]).wptr = max (s.flash.sectors[p.sector]).wptr (p.page.val + 1) ∧
    (∀ k : Fin 32, k ≠ p.sector → (t.flash.sectors[k]).wptr = (s.flash.sectors[k]).wptr) ∧
    t.rails = s.rails ∧ t.light = s.light ∧ t.cell = s.cell ∧ t.sys = s.sys ∧ t.supply = s.supply

/-- An erase that ends (not of the key store's wipe) leaves no page of its sector listed, its write pointer 0 and the
sector erased; pages of other sectors are as before. A suspended erase does not end. -/
def Sys2Proof.Claims.EraseEnds : Prop :=
  ∀ (s : State) (e : FlashErase), s.flash.erase = some e →
    (e.suspended = true → exec .eraseEnd s = .next s) ∧
    (e.suspended = false → (∀ j, jobOf s e.job = some j → j.kind ≠ .keys true) → ∃ t, exec .eraseEnd s = .next t ∧
      t.flash.pages = s.flash.pages.filter (fun p => decide (p.1 / 256 ≠ e.sector.val)) ∧
      (t.flash.sectors[e.sector]).wptr = 0 ∧ (t.flash.sectors[e.sector]).unerased = none ∧
      (e.sector = 26 → t.sec.copy0 = none) ∧ (e.sector = 27 → t.sec.copy1 = none) ∧
      t.rails = s.rails ∧ t.light = s.light ∧ t.cell = s.cell ∧ t.sys = s.sys ∧ t.supply = s.supply)

/-- A suspended erase with no program and no read in its way resumes, and for the next millisecond does not suspend again:
a suspension asked for meanwhile takes effect at the end of that time. -/
def Sys2Proof.Claims.EraseSuspension : Prop :=
  ∀ (s : State) (e : FlashErase), s.flash.erase = some e →
    (e.suspended = true → s.flash.prog[(0 : Fin 2)] = none → s.flash.prog[(1 : Fin 2)] = none →
      s.flash.readWait = none →
      ∃ t, exec .eraseResume s = .next t ∧
        (∃ w, t.flash.erase = some { e with suspended := false, holdoff := true, programs := 0, wanted := w }) ∧
        t.flash.pages = s.flash.pages ∧
        t = { s with flash := t.flash, irq := t.irq, bus := t.bus, sec := t.sec, free := t.free }) ∧
    (e.suspended = false → exec .eraseResume s = .next s) ∧
    (e.holdoff = true → ∃ t, exec .suspendHoldoffEnd s = .next t ∧
      (∃ e', t.flash.erase = some e' ∧ e'.holdoff = false ∧ e'.sector = e.sector ∧ e'.job = e.job ∧
        (e.wanted = true → e'.suspended = true)) ∧ t.flash.pages = s.flash.pages ∧
      t = { s with flash := t.flash, irq := t.irq, bus := t.bus, sec := t.sec, free := t.free }) ∧
    (e.holdoff = false → exec .suspendHoldoffEnd s = .next s)

/-- The ends of option flash's operations. -/
def Obligations.FlashOperationsEnd : Prop :=
  Claims.PageProgramEnds ∧ Claims.EraseEnds ∧ Claims.EraseSuspension

/-- A queued raw request that has not started when its 2 s end is dropped, and the host that waits for it is answered
FLASH_BUSY; a job that has started, and a key store rewrite, stay. A read that has waited 2 s for the array ends so too. -/
def Sys2Proof.Claims.FlashQueueTimeout : Prop :=
  (∀ (s : State) (id : Nat) (j : FlashJob), jobOf s id = some j →
    (j.started = false → j.kind = .raw → ∃ t, exec (.flashQueueTimeout (some id)) s = .next t ∧
      t.flash.jobs = s.flash.jobs.filter (fun k => k.id ≠ j.id) ∧ t.flash.rawResult = 3 ∧
      (s.bus.busy = true → answered t .flashBusy) ∧ t = { s with flash := t.flash, bus := t.bus }) ∧
    (j.started = true → exec (.flashQueueTimeout (some id)) s = .next s) ∧
    (∀ z, j.kind = .keys z → exec (.flashQueueTimeout (some id)) s = .next s)) ∧
  (∀ (s : State) (q : FlashRead), s.flash.readWait = some q → ∃ t, exec (.flashQueueTimeout none) s = .next t ∧
    t.flash = { s.flash with readWait := none } ∧ (s.bus.busy = true → answered t .flashBusy) ∧
    t = { s with flash := t.flash, bus := t.bus })

/-- A commit that the host asks for is answered and queued, held while one runs; the commit timer queues one only for
persistent writes accepted since the last commit began. The last page of a commit ends it, with source 154: the mask and
the program bank that copy 0 now carries are in force. -/
def Sys2Proof.Claims.Commits : Prop :=
  ∀ s : State,
    (takes s 0x4030 1 [1] → ∃ t, exec .commitRequest s = .next t ∧ answered t .done ∧
      (s.flash.commitRuns = true ∨ inSRF s = false →
        t = { s with flash := { s.flash with commitHeld := true }, bus := t.bus,
                                                                   supply := t.supply }) ∧
      (s.flash.commitRuns = false → inSRF s = true → (∀ j ∈ s.flash.jobs, j.kind ≠ .commit) → queued s t .commit [])) ∧
    (s.flash.dirtySince = false → exec .commitTimer s = .next s) ∧
    (s.flash.dirtySince = true → s.flash.commitRuns = false → inSRF s = true → (∀ j ∈ s.flash.jobs, j.kind ≠ .commit) →
      ∃ t, exec .commitTimer s = .next t ∧ queued s t .commit [] ∧
        t = { s with flash := t.flash, irq := t.irq, bus := t.bus, sec := t.sec, free := t.free }) ∧
    (∀ id : Nat, s.flash.jobs = [⟨id, .commit, [], true⟩] → s.flash.commitHeld = false →
      ∃ t, exec .commitEnd s = .next t ∧
      t.flash = { s.flash with
        jobs := [], commitRuns := false, dirty := s.flash.dirtySince, copyOneDone := false,
        protMask := BitVec.ofNat 32 (leNat (flashBytes s 0x10 4)), progBank := decide (leNat (flashBytes s 0x14 1) = 1),
        storeReady := s.flash.storeReady && decide (decide (leNat (flashBytes s 0x14 1) = 1) ≠ s.flash.storeBank) } ∧
      gotEvent s t 154 ∧ t = { s with flash := t.flash, irq := t.irq, bus := t.bus, free := t.free }) ∧
    (s.flash.jobs = [] → exec .commitEnd s = .next s)

/-- A stale copy of the option block is queued for its rewrite once, in SETUP, RUN and FAULT; with no stale copy, or in
another state, nothing happens. -/
def Sys2Proof.Claims.OptionBlockRepair : Prop :=
  ∀ s : State,
    (∀ c : Fin 2, inSRF s = true → bootFault s = false → (∀ j ∈ s.flash.jobs, ∀ k, j.kind ≠ .repair k) →
      repairDue s = some c →
      ∃ t, exec .optionBlockRepair s = .next t ∧ queued s t (.repair c) [] ∧
        (s.supply.aonLow = true → t.flash.repair = 1) ∧ t.flash.pages = s.flash.pages ∧
        t = { s with flash := t.flash, irq := t.irq, bus := t.bus, sec := t.sec, free := t.free }) ∧
    ((inSRF s = false ∨ repairDue s = none) → exec .optionBlockRepair s = .next s)

/-- Queued work of option flash: timeouts, commits, repairs. -/
def Obligations.FlashJobs : Prop :=
  Claims.FlashQueueTimeout ∧ Claims.Commits ∧ Claims.OptionBlockRepair

/-- The bytes that a segmented response carries: STATUS 0, LEN, TOTAL, DATA. -/
def Sys2Proof.Claims.segResponse (total : Nat) (data : List Byte) : List Byte := 0 :: leBytes 2 data.length ++ leBytes 4 total ++ data

/-- A raw read of a readable sector outside an erase or a program returns the bytes from the raw address, no further than
the sector's end, and moves the address on; a corrected word is counted, an uncorrectable one ends the read with
FLASH_UNCORRECTABLE and source 164. A sector whose words the host may not read ends it with that abort. -/
def Sys2Proof.Claims.RawReads : Prop :=
  ∀ (s : State) (len n : Nat) (errs : WordErrors), n = min len (rawLeft s) → busFree s = true →
    readChecks (touch s) .bus 0x4020 2 true = .done → inSRF s = true →
    (rawReadAllowed (rawSector s) ≠ .done → ∃ t, exec (.rawRead len errs) s = .next t ∧
      answered t (rawReadAllowed (rawSector s)) ∧ t = { s with bus := t.bus }) ∧
    (rawReadAllowed (rawSector s) = .done → s.flash.erase = none → (∀ b : Fin 2, s.flash.prog[b] = none) →
      (s.flash.sectors[sectorFin (rawSector s)]).unerased = none → ∃ t, exec (.rawRead len errs) s = .next t ∧
      t.flash.corrected = (if readFinds errs false s.flash.rawAddr.toNat n then satInc s.flash.corrected
        else s.flash.corrected) ∧
      (readFinds errs true s.flash.rawAddr.toNat n = false →
        t.bus.resp = segResponse (rawLeft s) (flashBytes s s.flash.rawAddr.toNat n) ∧
        t.flash = { s.flash with
          corrected := t.flash.corrected, rawAddr := BitVec.ofNat 32 ((s.flash.rawAddr.toNat + n) % 2097152),
          rawResult := if touchesInvalid s s.flash.rawAddr.toNat n then 1 else 0 } ∧
        t = { s with flash := t.flash, bus := t.bus }) ∧
      (readFinds errs true s.flash.rawAddr.toNat n = true →
        answered t .flashUncorrectable ∧ gotEvent s t 164 ∧
        t.flash = { s.flash with corrected := t.flash.corrected, uncorrectable := satInc s.flash.uncorrectable } ∧
        t = { s with flash := t.flash, bus := t.bus, irq := t.irq, free := t.free }))

/-- The device takes a segment of the host that opens a transfer, with no other one open. -/
def Sys2Proof.Claims.opens (s : State) (i b : Nat) : Prop :=
  busFree s = true ∧ segChecks (touch s) .bus i b = .done ∧ s.bus.seg = none

/-- A raw program of whole pages, and a raw erase, of a sector that the host may write, keep the host's response until
their job ends; of any other sector they end with its abort, and 0x4020.04 reads REFUSED. -/
def Sys2Proof.Claims.RawWrites : Prop :=
  ∀ (s : State) (data : List Byte) (sector : Byte), inSRF s = true → s.supply.aonLow = true →
    (opens s 0x4020 2 → 0 < data.length → data.length ≤ rawLeft s → s.flash.rawAddr.toNat % 256 = 0 →
      (rawWriteAllowed s (rawSector s) = .done → ∃ t, exec (.rawProgram data) s = .next t ∧ t.bus.busy = true ∧
        queued s t .raw (programs (rawSector s) (s.flash.rawAddr.toNat % 65536 / 256) data) ∧
        t = { s with flash := t.flash, irq := t.irq, bus := t.bus, sec := t.sec, free := t.free }) ∧
      (rawWriteAllowed s (rawSector s) ≠ .done → ∃ t, exec (.rawProgram data) s = .next t ∧
        answered t (rawWriteAllowed s (rawSector s)) ∧ t.flash = { s.flash with rawResult := 3 })) ∧
    (takes s 0x4020 3 [sector] → sector.toNat ≤ 31 →
      (rawWriteAllowed s sector.toNat = .done → ∃ t, exec (.rawErase sector) s = .next t ∧ t.bus.busy = true ∧
        queued s t .raw [.erase (sectorFin sector.toNat)] ∧
        t = { s with flash := t.flash, irq := t.irq, bus := t.bus, sec := t.sec, free := t.free }) ∧
      (rawWriteAllowed s sector.toNat ≠ .done → ∃ t, exec (.rawErase sector) s = .next t ∧
        answered t (rawWriteAllowed s sector.toNat) ∧
          t = { s with flash := { s.flash with rawResult := 3 }, bus := t.bus }))

/-- The first segment of the program store, and of a firmware image, opens its transfer and asks for the erase of the
bank or the image that does not run before its first pages; 0x4020 and the running bank are left alone. -/
def Sys2Proof.Claims.StoreAndImageSegments : Prop :=
  ∀ (s : State) (data : List Byte), s.supply.aonLow = true → 1 ≤ data.length → data.length ≤ 256 →
    (opens s 0x2200 1 → ∃ t, exec (.programStoreWrite 0 false data) s = .next t ∧ t.bus.busy = true ∧
      (∃ g, t.bus.seg = some g ∧ g.index = 0x2200 ∧ g.sub = 1 ∧ g.taken = data.length) ∧ t.flash.storeReady = false ∧
      t.flash.progBank = s.flash.progBank ∧ t.flash.pages = s.flash.pages ∧
      (∃ rest, queued s t (.store false) (.erase (sectorFin (if s.flash.progBank then 24 else 25)) :: rest))) ∧
    (opens s 0xA030 1 → ∃ t, exec (.firmwareImage 0 false data) s = .next t ∧ t.bus.busy = true ∧
      (∃ g, t.bus.seg = some g ∧ g.index = 0xA030 ∧ g.sub = 1 ∧ g.taken = data.length) ∧ t.sec.update = 1 ∧
      t.sec.inactiveVersion = 0 ∧ t.sec.running = s.sec.running ∧ t.flash.pages = s.flash.pages ∧
      (∃ rest, queued s t .image (.erase (sectorFin (imageBase (updateImage s) / 65536)) :: rest)))

/-- What the host reads of and writes to option flash. -/
def Obligations.FlashTransfers : Prop :=
  Claims.RawReads ∧ Claims.RawWrites ∧ Claims.StoreAndImageSegments

/-! ## Host commands as Safelight meets them -/

/-- A command is decoded at a rank. -/
def Sys2Proof.Claims.decodes (s : State) (r : RankId) (rowOk : Bool) : Prop := meets s r rowOk = .decoded

/-- Only one rank's model has changed, of all that Safelight holds. -/
def Sys2Proof.Claims.onlyRank (s t : State) (r : RankId) (m : RankModel) : Prop :=
  t = { s with light := { s.light with ranks := upd s.light.ranks (rankIx r) (fun _ => m) } }

/-- Activate opens its row, the rank is ACTIVE and the group of its frame is one degree warmer; precharge closes one bank
or all, and the rank is IDLE once no row is open. Nothing else changes. -/
def Sys2Proof.Claims.ActivateAndPrecharge : Prop :=
  ∀ (s : State) (r : RankId) (bank : Fin 16) (row : BitVec 18) (m : RankModel), m = s.light.ranks[rankIx r] →
    (decodes s r (rowInside s row.toNat) → ∃ t, exec (.activate r bank row) s = .next t ∧
      t.light.ranks[rankIx r] = { m with rows := aput m.rows bank.val row.toNat, st := .active, refreshing := false } ∧
      heatOf t (groupOf (frameOf (rankIx r) bank.val row.toNat)) =
        satInc (heatOf s (groupOf (frameOf (rankIx r) bank.val row.toNat))) ∧
      (∀ g, g ≠ groupOf (frameOf (rankIx r) bank.val row.toNat) → heatOf t g = heatOf s g) ∧
      (∀ k : Fin 16, k ≠ rankIx r → t.light.ranks[k] = s.light.ranks[k]) ∧
      t = { s with light := { s.light with ranks := t.light.ranks, heat := t.light.heat } }) ∧
    (decodes s r true → (s.light.subs[subIx r.side r.sub]).veiled = false →
      (∃ t, exec (.precharge r (some bank)) s = .next t ∧ onlyRank s t r { m with
        rows := adel m.rows bank.val, refreshing := false, st := settledState { m with rows := adel m.rows bank.val } }) ∧
      (∃ t, exec (.precharge r none) s = .next t ∧
        onlyRank s t r { m with rows := [], refreshing := false, settled := true, st := .idle }))

/-- A write to an open row: the frame is dirty and holds the bytes written from their column
on, every other frame's content and every other dirty bit is as before. Without an open row nothing is written. -/
def Sys2Proof.Claims.HostWrites : Prop :=
  ∀ (s : State) (r : RankId) (bank : Fin 16) (column : Nat) (data : List Byte), decodes s r true →
    (aget (s.light.ranks[rankIx r]).rows bank.val = none → ∃ t, exec (.hostWrite r bank column data) s = .next t ∧
      onlyRank s t r { s.light.ranks[rankIx r] with refreshing := false, st := settledState s.light.ranks[rankIx r] }) ∧
    (∀ row f, aget (s.light.ranks[rankIx r]).rows bank.val = some row → f = frameOf (rankIx r) bank.val row →
      ∃ t, exec (.hostWrite r bank column data) s = .next t ∧
        t.light.dirty = runion s.light.dirty [(f, f + 1)] ∧
        frameContent t f = overwrite (frameContent s f) (row % 2 * 2048 + column) (data.take (2048 - column)) ∧
        (∀ g, g ≠ f → frameContent t g = frameContent s g) ∧
        t.light.ranks = upd s.light.ranks (rankIx r) (fun m => { m with refreshing := false, st := settledState m }) ∧
        t = { s with light := { s.light with
          ranks := t.light.ranks, dirty := t.light.dirty, dram := t.light.dram, suspect := t.light.suspect,
          writes := t.light.writes } })

/-- Safelight only listens (R28): a write that it does not decode, while it is off or relocks after a set-point change,
reaches the open row all the same where the switches are on the host side. Off, it marks nothing; in a relock a veil
begins, and with it every frame is dirty. -/
def Sys2Proof.Claims.UndecodedWrites : Prop :=
  ∀ (s : State) (r : RankId) (bank : Fin 16) (column : Nat) (data : List Byte) (row f : Nat),
    reaches s r true = true → aget (s.light.ranks[rankIx r]).rows bank.val = some row →
    f = frameOf (rankIx r) bank.val row → (meets s r true = .off ∨ meets s r true = .veil 4) →
    ∃ t, exec (.hostWrite r bank column data) s = .next t ∧
      frameContent t f = overwrite (frameContent s f) (row % 2 * 2048 + column) (data.take (2048 - column)) ∧
      (∀ g, g ≠ f → frameContent t g = frameContent s g) ∧
      (meets s r true = .off → t.light.dirty = s.light.dirty ∧ t.irq = s.irq) ∧
      (meets s r true = .veil 4 → (s.light.subs[subIx r.side r.sub]).veiled = false →
        (t.light.subs[subIx r.side r.sub]).veiled = true ∧ t.light.veilCause = 4 ∧ t.light.dirty = allFrames s ∧
        gotEvent s t 128) ∧
      t = { s with light := t.light, irq := t.irq, bus := t.bus, free := t.free }

/-- Refresh is in progress until the next command and moves the rank's timer on; a read changes nothing else of the
rank's model; neither touches what the frames hold or the dirty map, nor a power state. -/
def Sys2Proof.Claims.RefreshAndRead : Prop :=
  ∀ (s : State) (r : RankId) (bank : Option (Fin 16)) (m : RankModel), m = s.light.ranks[rankIx r] → decodes s r true →
    (∃ t, exec (.refresh r bank) s = .next t ∧ onlyRank s t r { m with
      refreshing := true, refreshes := m.refreshes + 1, st := settledState m }) ∧
    (∃ t, exec (.hostRead r) s = .next t ∧ onlyRank s t r { m with refreshing := false, st := settledState m })

/-- The host's commands at the rows of a rank. -/
def Obligations.HostAccesses : Prop :=
  Claims.ActivateAndPrecharge ∧ Claims.HostWrites ∧ Claims.UndecodedWrites ∧ Claims.RefreshAndRead

/-- Self-refresh entry puts the rank into SR (or SR with power-down) with no row open; with every rank there the quiet
window runs. Self-refresh exit leads to IDLE and ends it. Power-down is kept apart inside self-refresh. -/
def Sys2Proof.Claims.SelfRefreshAndPowerDown : Prop :=
  ∀ (s : State) (r : RankId) (pd : Bool) (m : RankModel), m = s.light.ranks[rankIx r] → decodes s r true →
    ((s.light.subs[subIx r.side r.sub]).veiled = false → ∃ t, exec (.selfRefreshEntry r pd) s = .next t ∧
      t.light.ranks = upd s.light.ranks (rankIx r) (fun _ => { m with
        rows := [], srpd := pd, settled := true, refreshing := false, st := if pd then .srpd else .sr }) ∧
      t.light.quiet = allParked t ∧
      t = { s with light := { s.light with ranks := t.light.ranks, quiet := t.light.quiet } }) ∧
    (∃ t, exec (.selfRefreshExit r) s = .next t ∧ t.light.quiet = false ∧
      t.light.ranks = upd s.light.ranks (rankIx r) (fun _ => { m with
        rows := [], srpd := false, refreshing := false, st := .idle }) ∧
      t = { s with light := { s.light with ranks := t.light.ranks, quiet := false } }) ∧
    (∃ t, exec (.powerDownEntry r) s = .next t ∧
      ((m.st = .sr ∨ m.st = .srpd) → onlyRank s t r { m with srpd := true, refreshing := false, st := .srpd }) ∧
      (m.st ≠ .sr → m.st ≠ .srpd → onlyRank s t r { m with refreshing := false, st := .pd })) ∧
    (∃ t, exec (.powerDownExit r) s = .next t ∧
      ((m.st = .sr ∨ m.st = .srpd) → onlyRank s t r { m with srpd := false, refreshing := false, st := .sr }) ∧
      (m.st ≠ .sr → m.st ≠ .srpd → onlyRank s t r { m with refreshing := false, st := bankState m }))

/-- A mode-register write is captured: the value for every set point, or for the one that FSP-WR names where JEDEC
duplicates the register; the register is written and certain. One that R234 forbids makes source 130 pending, is counted
and ends slot training. A set-point change, and only it, puts the sub-channel into its relock. -/
def Obligations.ModeRegisterWrites : Prop :=
  ∀ (s : State) (r : RankId) (addr op : Byte) (e : MrEffect) (m : RankModel), m = s.light.ranks[rankIx r] →
    decodes s r true → (s.light.subs[subIx r.side r.sub]).veiled = false →
    ∃ t, exec (.modeRegisterWrite r addr op e) s = .next t ∧
      (t.light.ranks[rankIx r]).values = (captureKeys addr m.fspWr).foldl (fun v k => aput v k op) m.values ∧
      (t.light.ranks[rankIx r]).written = radd addr.toNat (addr.toNat + 1) m.written ∧
      (t.light.ranks[rankIx r]).certainNot = rcut addr.toNat (addr.toNat + 1) m.certainNot ∧
      (∀ k, e = .fspWr k → (t.light.ranks[rankIx r]).fspWr = k) ∧
      (∀ k, e = .fspOp k → (t.light.ranks[rankIx r]).fspOp = k) ∧
      (e = .trainOpen → rankState t (rankIx r) = .train) ∧
      (e = .trainClose → (t.light.ranks[rankIx r]).trainAt = none) ∧
      t.light.captures = s.light.captures + 1 ∧
      (violates s m addr e = true → t.light.violations = satInc s.light.violations ∧ t.light.slotTrained = false ∧
        gotEvent s t 130) ∧
      (violates s m addr e = false → t.light.violations = s.light.violations ∧
        t.light.slotTrained = s.light.slotTrained ∧
        t.irq = s.irq) ∧
      ((t.light.subs[subIx r.side r.sub]).relock = true ↔
        (∃ k, e = .fspOp k) ∨ (s.light.subs[subIx r.side r.sub]).relock = true) ∧
      (∀ k : Fin 16, k ≠ rankIx r → t.light.ranks[k] = s.light.ranks[k]) ∧ t.light.dirty = s.light.dirty ∧
      t.light.dram = s.light.dram ∧ t = { s with light := t.light, irq := t.irq, bus := t.bus, free := t.free }

/-- A multi-purpose command that opens a training window puts its rank into TRAIN, one that closes it takes it out again,
any other leaves the window. The relock of a sub-channel that is not veiled ends with nothing else changed; of a veiled one
whose ranks are all certain it ends the veil, with source 129. -/
def Sys2Proof.Claims.TrainingAndRelock : Prop :=
  ∀ (s : State) (r : RankId) (m : RankModel), m = s.light.ranks[rankIx r] →
    (decodes s r true → ∀ window : Option Bool, ∃ t, exec (.multiPurposeCommand r window) s = .next t ∧
      t.light.ranks = upd s.light.ranks (rankIx r) (fun _ => { m with
        refreshing := false, st := settledState m,
        trainAt := match window with
          | some true => some (m.trainAt.getD s.light.writes) | some false => none | none => m.trainAt }) ∧
      (window = some true → (s.light.subs[subOfRank (rankIx r)]).veiled = false → rankState t (rankIx r) = .train) ∧
      (blind s = true → t.light.suspect = s.light.suspect) ∧
      t = { s with light := { s.light with ranks := t.light.ranks, suspect := t.light.suspect } }) ∧
    ((s.light.subs[subIx r.side r.sub]).relock = true → (s.light.subs[subIx r.side r.sub]).veiled = false →
      ∃ t, exec (.setpointRelock r.side r.sub) s = .next t ∧ t = { s with light := { s.light with
        subs := upd s.light.subs (subIx r.side r.sub) (fun x => { x with relock := false }) } }) ∧
    ((s.light.subs[subIx r.side r.sub]).relock = true → (s.light.subs[subIx r.side r.sub]).veiled = true →
      (s.light.subs[subIx r.side r.sub]).training = false →
      (∀ k ∈ ranksOfSub s (subIx r.side r.sub), (s.light.ranks[k]).settled = true) →
      ∃ t, exec (.setpointRelock r.side r.sub) s = .next t ∧ gotEvent s t 129 ∧
        t.light = { s.light with
          subs := upd s.light.subs (subIx r.side r.sub) (fun x => { x with relock := false, veiled := false }) } ∧
        t = { s with light := t.light, irq := t.irq, bus := t.bus, free := t.free }) ∧
    ((s.light.subs[subIx r.side r.sub]).relock = false → exec (.setpointRelock r.side r.sub) s = .next s)

/-- The host's commands that move a rank between its states. -/
def Obligations.RankStates : Prop :=
  Claims.SelfRefreshAndPowerDown ∧ Claims.TrainingAndRelock

/-- The commands of the host at a rank, in the forms that name it. -/
def Sys2Proof.Claims.rankCommands (r : RankId) : List Instr :=
  [.activate r 0 0, .hostWrite r 0 0 [], .hostRead r, .precharge r none, .refresh r none, .selfRefreshEntry r false,
    .selfRefreshExit r, .powerDownEntry r, .powerDownExit r, .modeRegisterWrite r 0 0 .plain, .multiPurposeCommand r (some true)]

/-- While the controller holds a side, a host command there is only counted, with source 134 once in each handover.
Where Safelight is off it changes nothing but the rows open at a rank and what the array holds, and nothing at all where it
reaches no DRAM. -/
def Sys2Proof.Claims.CommandsNotDecoded : Prop :=
  ∀ (s : State) (r : RankId) (c : Instr), c ∈ rankCommands r →
    (meets s r true = .off → ∃ t, exec c s = .next t ∧ (reaches s r true = false → t = s) ∧
      (∀ k : Fin 16, t.light.ranks[k] = { s.light.ranks[k] with rows := (t.light.ranks[k]).rows }) ∧
      t = { s with light := { s.light with
        ranks := t.light.ranks, dram := t.light.dram, suspect := t.light.suspect, writes := t.light.writes } }) ∧
    (meets s r true = .held → ∃ t, exec c s = .next t ∧
      t.light = { s.light with heldCmds := satInc s.light.heldCmds, heldSeen := true } ∧
      (s.light.heldSeen = false → gotEvent s t 134) ∧ (s.light.heldSeen = true → t.irq = s.irq) ∧
      t = { s with light := t.light, irq := t.irq, bus := t.bus, free := t.free })

/-- RESET_n of a side that Safelight sees: its ranks are in RESET with nothing captured, its frames are dirty, and
what they hold is open; the other side's ranks and frames are as before. -/
def Sys2Proof.Claims.ResetOfASide : Prop :=
  ∀ (s : State) (side : SideId), lightSees s side = true → (∀ k : Fin 8, (s.light.subs[k]).veiled = false) →
    ∃ t, exec (.resetNAsserted side) s = .next t ∧
      (∀ r : Fin 16, rankThere s r = true → sideOfRank r = side →
        t.light.ranks[r] = { RankModel.init with settled := true } ∧ rankState t r = .reset) ∧
      (∀ r : Fin 16, sideOfRank r ≠ side → t.light.ranks[r] = s.light.ranks[r]) ∧
      t.light.dirty = runion s.light.dirty (framesOf s ((ranksThere s).filter fun r => sideOfRank r = side)) ∧
      (∀ f, Fin.ofNat 2 (f / 2 ^ 24) ≠ side → f < 2 ^ 25 → frameContent t f = frameContent s f) ∧
      t.light.quiet = false ∧ t.light.captures = s.light.captures + 1 ∧ t = { s with light := t.light, free := t.free }

/-- Commands that Safelight cannot follow, and RESET_n. -/
def Obligations.CommandsOutsideTheModel : Prop :=
  Claims.CommandsNotDecoded ∧ Claims.ResetOfASide

/-- A cause of Table 7-7 veils a sub-channel that was not veiled: its ranks are UNKNOWN, every frame is dirty, the cause
and the count are shown, source 128 is pending. A sub-channel veiled for 1 s in RUN leads to FAULT with cause 3; one that
is not veiled, or in another state, does not. -/
def Sys2Proof.Claims.Veils : Prop :=
  ∀ (s : State) (side : SideId) (sub : SubId),
    (∀ cause : Fin 6, cause ≠ 0 → lightSees s side = true → (s.light.subs[subIx side sub]).veiled = false →
      ∃ t, exec (.veilBegin side sub cause) s = .next t ∧ (t.light.subs[subIx side sub]).veiled = true ∧
        t.light.veilCause = BitVec.ofNat 8 cause.val ∧ t.light.veils = satInc s.light.veils ∧
        t.light.dirty = allFrames s ∧ t.light.quiet = false ∧ gotEvent s t 128 ∧
        (∀ r ∈ ranksOfSub s (subIx side sub), rankState t r = .unknown ∧ (t.light.ranks[r]).settled = false ∧
          (t.light.ranks[r]).certainNot = [(0, 256)]) ∧
        t.light.dram = s.light.dram ∧ t = { s with light := t.light, irq := t.irq, bus := t.bus, free := t.free }) ∧
    (s.sys.st = .run → (s.light.subs[subIx side sub]).veiled = true → ∃ t, exec (.veilTimeout side sub) s = .next t ∧
      t.sys.st = .fault ∧ t.sys.faultCause = 3 ∧ t.sys.cause = 0x0C ∧ t.sys.prev = .run ∧ t.light = s.light ∧
      t.neg = s.neg ∧ t.rails = s.rails ∧ t.shadow = s.shadow) ∧
    ((s.sys.st ≠ .run ∨ (s.light.subs[subIx side sub]).veiled = false) → exec (.veilTimeout side sub) s = .next s)

/-- At the end of a heat epoch every group's heat is halved, rounding down; nothing else changes. -/
def Sys2Proof.Claims.HeatEpoch : Prop :=
  ∀ s : State, s.light.on = true → s.sys.mainOn = true → ∃ t, exec .frameHeatEpoch s = .next t ∧
    (∀ g, rising s.light.heat = true → heatOf t g = heatOf s g >>> 1) ∧
    t = { s with light := { s.light with heat := t.light.heat } }

/-- Veils and the frame heat epoch. -/
def Obligations.VeilsAndHeat : Prop :=
  Claims.Veils ∧ Claims.HeatEpoch

/-! ## Handover, Exposure, Development -/

/-- A generation has begun: the newest header, with the next number, a parent unless it is a base, no commit record and no
mark; the Exposure will write every frame for a base, else the dirty frames, with the heat of this instant. -/
def Sys2Proof.Claims.begun (s t : State) (e : Expo) (g : Gen) : Prop :=
  t.neg.gens.head? = some g ∧ g.gen = nextGen s ∧ g.commit = none ∧ g.developed = false ∧ g.superseded = false ∧
  g.cause = e.cause ∧ g.target = e.target ∧ g.powerFail = e.powerFail ∧ g.keyId = s.sec.keyId ∧
  g.parent = (if g.base then none else (newestC s).map (·.gen)) ∧ (newestC s = none → g.base = true) ∧
  t.neg.lastGen = some g.gen ∧ t.neg.captured = BitVec.ofNat 32 (rcount (dirtyFrames s)) ∧
  ∃ x, t.neg.exp = some x ∧ x.gen = g.gen ∧ x.frames = (if g.base then allFrames s else dirtyFrames s) ∧
    x.heat = s.light.heat ∧ x.uncRanks = t.light.uncertain ∧
    x.phase = (if s.light.slotTrained then .writing else .training) ∧
    x = { e with gen := x.gen, frames := x.frames, heat := x.heat, uncRanks := x.uncRanks, since := x.since, phase := x.phase }

/-- The quiet window of a parked host ends in an Exposure that waits for it: the controller takes side A, and on the
LL6480 side B, the takeover is counted as voluntary, no rank is uncertain, and a generation begins. With a rank outside
self-refresh, or nothing that waits, nothing happens. -/
def Sys2Proof.Claims.VoluntaryTakeover : Prop :=
  ∀ s : State,
    (∀ e : Expo, s.neg.exp = some e → s.neg.dev = none → e.phase = .park → e.target ≠ 2 → e.kept = false →
      s.light.quiet = true → allParked s = true → nextGen s < 2 ^ 32 - 1 →
      ∃ t g, exec .quietWindowEnd s = .next t ∧ begun s t e g ∧
        t.light.uncertain = 0 ∧ t.light.ctrl[(0 : Fin 2)] = true ∧ t.light.ctrl[(1 : Fin 2)] = !small s ∧
        t.light.lastTakeover = 1 ∧ t.light.takeovers = satInc s.light.takeovers ∧ t.light.dram = s.light.dram ∧
        t.light.dirty = s.light.dirty ∧
        t = { s with light := t.light, neg := t.neg, nand := t.nand, irq := t.irq, bus := t.bus, free := t.free }) ∧
    (s.neg.exp = none → s.neg.dev = none → exec .quietWindowEnd s = .next s) ∧
    ((∀ d, s.neg.dev = some d → d.partialWake = false) → allParked s = false → exec .quietWindowEnd s = .next s)

/-- The fence of a forced takeover: every rank ends in self-refresh, both takeover counters move, 0x9050 records the
cause and the time, and a generation begins whose UNC_RANKS are the ranks in training or under a veil. Without a fence
nothing happens. -/
def Sys2Proof.Claims.ForcedTakeover : Prop :=
  ∀ s : State,
    (∀ (e : Expo) (c : Byte), s.sys.st = .expose → s.neg.exp = some e → s.neg.dev = none → s.light.fence = some c →
      e.target ≠ 2 → e.kept = false → nextGen s < 2 ^ 32 - 1 →
      ∃ t g, exec .fence s = .next t ∧ begun s t e g ∧ t.light.uncertain = uncertainRanks s ∧
        (∀ r : Fin 16, (t.light.ranks[r]).st = .sr ∧ (t.light.ranks[r]).rows = []) ∧
        t.light.lastTakeover = 2 ∧ t.light.forcedCause = c ∧ t.light.fenceTime = s.sys.aonTime ∧
        t.light.takeovers = satInc s.light.takeovers ∧ t.light.forced = satInc s.light.forced ∧ t.light.fence = none ∧
        t.light.dirty = s.light.dirty ∧
        (blindSince s = none → t.light.dram = s.light.dram) ∧
        t = { s with light := t.light, neg := t.neg, nand := t.nand, irq := t.irq, bus := t.bus, free := t.free }) ∧
    (s.light.fence = none → exec .fence s = .next s)

/-- The two kinds of takeover. -/
def Obligations.BusTakeovers : Prop :=
  Claims.VoluntaryTakeover ∧ Claims.ForcedTakeover

/-- A host that has not parked when its 20 ms end is taken over by force, with cause 0x03: the Exposure waits for its
fence, and nothing else changes. -/
def Sys2Proof.Claims.ParkTimeout : Prop :=
  ∀ (s : State) (e : Expo), s.neg.exp = some e →
    (e.phase = .park → exec .parkTimeout s = .next { s with neg := { s.neg with exp := some { e with phase := .fence } },
                                                            light := { s.light with fence := some 0x03 } }) ∧
    (e.phase ≠ .park → exec .parkTimeout s = .next s)

/-- Slot training that passes lets the Exposure write; one failure is counted and tried again, a second one in a row
leads to FAULT with cause 8. Outside slot training, or without the PLL, nothing happens. -/
def Sys2Proof.Claims.SlotTraining : Prop :=
  ∀ (s : State) (e : Expo), s.neg.exp = some e → s.neg.dev = none →
    (e.phase = .training → pllRuns s = true →
      (∃ t, exec (.slotTrainingEnd true) s = .next t ∧ t.neg = { s.neg with exp := some { e with phase := .writing } } ∧
        t.light = { s.light with trainings := satInc s.light.trainings, slotTrained := true, trainFails := 0 } ∧
        t = { s with neg := t.neg, light := t.light }) ∧
      (s.light.trainFails = 0 → ∃ t, exec (.slotTrainingEnd false) s = .next t ∧
        t.light = { s.light with trainings := satInc s.light.trainings, slotTrained := false, trainFails := 1,
                                 trainingFailures := satInc s.light.trainingFailures } ∧
        t = { s with light := t.light }) ∧
      (s.light.trainFails = 1 → ∃ t, exec (.slotTrainingEnd false) s = .next t ∧ t.sys.st = .fault ∧
        t.sys.faultCause = 8 ∧ t.sys.cause = 0x0C ∧ t.neg.exp = none ∧ t.tiers = s.tiers ∧ t.shadow = s.shadow)) ∧
    ((e.phase ≠ .training ∨ pllRuns s = false) → ∀ pass, exec (.slotTrainingEnd pass) s = .next s)

/-- A commit record written in an Exposure whose generation can be written: the generation carries it, with the figures of
what was captured; the captured frames are clean, the baseline holds, 0x3010 reads COMMITTED with source 34. A CHECKPOINT
then returns the bus. A generation that cannot be written, or a record that no anchor takes, leads to FAULT with cause 6.
Outside the writing phase, without the PLL and on blank NAND nothing happens. -/
def Sys2Proof.Claims.CommitRecord : Prop :=
  ∀ (s : State) (e : Expo), s.neg.exp = some e →
    (∀ g, e.phase = .writing → pllRuns s = true → s.nand.blank = false → genOf s e.gen = some g → e.gen < 2 ^ 32 →
      (writtenGeneration g e s).isSome = true → e.target = 0 → e.powerFail = false →
      ∃ t, exec .commitRecordWritten s = .next t ∧
        (∃ h ∈ t.neg.gens, h.gen = e.gen) ∧
        (∀ h ∈ t.neg.gens, h.gen = e.gen → ∃ k, h.commit = some k ∧ k.uncRanks = e.uncRanks ∧
          k.uncertain = decide (e.uncRanks ≠ 0) ∧ k.heatPresent = true ∧ k.degraded = e.degraded ∧ k.source = e.gen ∧
          k.nData = (slotEntries (exposedData s g e)).length % 2 ^ 32 ∧
          k.mapCrc = crc32c (mapBytes (exposedData s g e)) ∧ k.heatCrc = crc32c (exposedData s g e).heat) ∧
        t.light.dirty = rdiff s.light.dirty e.frames ∧ t.light.baseline = true ∧ t.neg.result = 1 ∧ gotEvent s t 34 ∧
        t.neg.exp = some { e with phase := .returning } ∧ t.light.returning = s.light.ctrl ∧
        t.light.dram = s.light.dram ∧
        t = { s with light := t.light, neg := t.neg, nand := t.nand, irq := t.irq, bus := t.bus, free := t.free }) ∧
    (∀ g, e.phase = .writing → pllRuns s = true → s.nand.blank = false → genOf s e.gen = some g →
      writtenGeneration g e s = none → ∃ t, exec .commitRecordWritten s = .next t ∧ t.sys.st = .fault ∧
        t.sys.faultCause = 6 ∧ t.sys.cause = 0x0C ∧ t.neg.exp = none) ∧
    ((e.phase ≠ .writing ∨ pllRuns s = false ∨ s.nand.blank = true) → exec .commitRecordWritten s = .next s)

/-- A side that the controller returns is with the host again, with its ranks in self-refresh and the return time shown. With the last side an Exposure ends in RUN with cause 0x0A; a side that is not being returned changes nothing. -/
def Sys2Proof.Claims.BusReturn : Prop :=
  ∀ (s : State) (side : SideId) (us : U32),
    ((s.light.returning[side] && s.light.ctrl[side]) = false → exec (.busReturnEnd side us) s = .next s) ∧
    ((s.light.returning[side] && s.light.ctrl[side]) = true → ∃ t, exec (.busReturnEnd side us) s = .next t ∧
      t.light.ctrl[side] = false ∧ t.light.returning[side] = false ∧ t.light.returnTime = us ∧
      (∀ r : Fin 16, sideOfRank r = side → (t.light.ranks[r]).rows = [] ∧
        (t.light.ranks[r]).st = if (s.light.ranks[r]).srpd then .srpd else .sr) ∧
      (∀ k : Fin 2, k ≠ side → t.light.ctrl[k] = s.light.ctrl[k]) ∧ t.light.dram = s.light.dram ∧
      t.light.dirty = s.light.dirty ∧
      (∀ e, s.neg.exp = some e → e.phase = .returning → (∀ k : Fin 2, k ≠ side → s.light.returning[k] = false) →
        s.cell.owed = false → (deadChans s).length < 2 →
        t.sys.st = .run ∧ t.sys.prev = s.sys.st ∧ t.sys.cause = 0x0A ∧ t.neg.exp = none) ∧
      (∀ k : Fin 2, k ≠ side → s.light.returning[k] = true → t.sys = s.sys ∧ t.neg = s.neg))

/-- A host that does not park, slot training, and the return of the bus. -/
def Obligations.BusReturns : Prop :=
  Claims.ParkTimeout ∧ Claims.SlotTraining ∧ Claims.BusReturn

/-- The end of the tier save of a main-die power-down completes the save and clears what it had begun; without one, and
while blank NAND waits for its tables, nothing happens. -/
def Sys2Proof.Claims.TierSaveEnds : Prop :=
  ∀ s : State,
    (∀ (c : Byte), s.sys.leaving = some (.dark c, .save) → s.nand.blank = false →
      ∃ t, exec .tierSaveEnd s = .next t ∧ t.tiers.saving = false ∧
      t.tiers.cut = none ∧ (∃ v, t.tiers.save = some v ∧ v.complete = true ∧ v.seq = saveSeq s + 1) ∧
      t.neg.exp = s.neg.exp ∧ t.light.dirty = s.light.dirty ∧ t.shadow = s.shadow ∧
      (t.sys.st = .dark ∨ ∃ ph, t.sys.leaving = some (.dark c, ph))) ∧
    (((∀ l, s.sys.leaving ≠ some (l, .save)) ∨ s.nand.blank = true) → exec .tierSaveEnd s = .next s)

/-- On the way to Hold-Deep the highest persistence-critical slot that is still on goes off; while others are on, nothing
else happens, and after the last one the way ends, in HOLD or woken from it. -/
def Sys2Proof.Claims.CriticalDisable : Prop :=
  ∀ s : State,
    (∀ n : SlotId, s.sys.leaving = some (.hold, .disable) → highestCritical s = some n → ∃ t,
      exec .persistenceCriticalDisable s = .next t ∧ (t.rails[n]).en = false ∧
      (∀ m : SlotId, m ≠ n → critical s m = true → (s.rails[m]).en = true → t.rails[m] = s.rails[m] ∧
        t = { s with rails := t.rails }) ∧
      ((∀ m : SlotId, m ≠ n → (critical s m && (s.rails[m]).en) = false) → (t.sys.st = .hold ∨ t.sys.prev = .hold) ∧
        t.sys.leaving = none)) ∧
    (s.sys.leaving = none → exec .persistenceCriticalDisable s = .next s)

/-- The last phases of an Exposure and of the way to Hold-Deep. -/
def Obligations.ExposureEnds : Prop :=
  Claims.CommitRecord ∧ Claims.TierSaveEnds ∧ Claims.CriticalDisable

/-- The chain's maps loaded let a Development write, and change nothing else but the commands that the channels were given;
a chain that cannot be read, or two dead channels, lead to FAULT with cause 7 and a FAILED Development. -/
def Sys2Proof.Claims.ChainMaps : Prop :=
  ∀ (s : State) (d : Devel), s.neg.dev = some d →
    (d.phase = .maps → pllRuns s = true →
      (chainReadable s = true → (deadChans s).length < 2 → ∃ t, exec .chainMapsLoaded s = .next t ∧
        t.neg = { s.neg with dev := some { d with phase := .writing } } ∧
        (∀ c : ChanId, t.nand.chans[c] = { s.nand.chans[c] with
          cacheLun := (t.nand.chans[c]).cacheLun, issued := (t.nand.chans[c]).issued }) ∧
        t = { s with neg := t.neg, nand := { s.nand with chans := t.nand.chans } }) ∧
      ((chainReadable s = false ∨ 2 ≤ (deadChans s).length) →
        ∃ t, exec .chainMapsLoaded s = .next t ∧ t.sys.st = .fault ∧ t.sys.faultCause = 7 ∧ t.sys.cause = 0x0C ∧
          t.neg.dev = none ∧ t.neg.devResult = 3 ∧ t.neg.gens = s.neg.gens ∧ t.tiers = s.tiers)) ∧
    ((d.phase ≠ .maps ∨ pllRuns s = false) → exec .chainMapsLoaded s = .next s)

/-- The last frame that a Development writes leaves every frame of the module with the content the chain gives it, zero
where a unit of it is lost, and a kept frame after a Hold-Partial wake as it was; then the bus returns. -/
def Sys2Proof.Claims.LastFrame : Prop :=
  ∀ (s : State) (d : Devel), s.neg.dev = some d →
    (d.phase = .writing → pllRuns s = true → ∃ t, exec .lastFrameWritten s = .next t ∧
      (∀ f ∈ rlist (allFrames s), frameContent t f =
        if rmem f (developTargets s d) then developed s (chainViews s) d f else frameContent s f) ∧
      t.neg = { s.neg with dev := some { d with phase := .returning } } ∧ t.light.returning = s.light.ctrl ∧
      (d.partialWake = true → ∀ r : Fin 16, (t.light.ranks[r]).masked = 0) ∧
      t.light.dirty = s.light.dirty ∧ t.light.heat = s.light.heat ∧
      t = { s with light := t.light, neg := t.neg,
                   nand := { s.nand with chans := t.nand.chans, rebuilds := t.nand.rebuilds } }) ∧
    ((d.phase ≠ .writing ∨ pllRuns s = false) → exec .lastFrameWritten s = .next s)

/-- The DEVELOPED mark of the newest committed generation ends a Development whose bus has returned: the mark, its report,
the heat of its snapshot, only the loss list's frames still dirty, and RUN with cause 0x0B. -/
def Sys2Proof.Claims.DevelopedMark : Prop :=
  ∀ (s : State) (d : Devel), s.neg.dev = some d →
    (∀ c, d.phase = .returned → newestC s = some c → s.cell.owed = false → (deadChans s).length < 2 →
      nextGen s < 2 ^ 32 - 1 →
      ∃ t, exec .developedMarkWritten s = .next t ∧ t.sys.st = .run ∧ t.sys.prev = s.sys.st ∧ t.sys.cause = 0x0B ∧
        (∃ g ∈ t.neg.gens, g.gen = c.gen) ∧ (∀ g ∈ t.neg.gens, g.gen = c.gen → g.developed = true) ∧ t.neg.dev = none ∧
        t.neg.report = completeReport s d ∧ t.neg.devResult = (completeReport s d).result ∧ t.light.baseline = true ∧
        t.light.dirty = rinter s.light.dirty
          ((completeReport s d).ranges.foldl (fun acc l => radd l.first (l.first + l.count) acc) []) ∧
        t.light.heat = (((chainViews s).head?).bind (snapshotOf s)).getD s.light.heat ∧
        t.light.dram = s.light.dram ∧ t.rails = s.rails ∧ t.tiers = s.tiers) ∧
    (d.phase ≠ .returned → exec .developedMarkWritten s = .next s)

/-- The phases of a Development. -/
def Obligations.DevelopmentPhases : Prop :=
  Claims.ChainMaps ∧ Claims.LastFrame ∧ Claims.DevelopedMark

/-- A stale Negative accepted by its number carries its mark and its blocks hold a Negative no more, and a generation below
it, or none, decides the status; another value ends with VALUE_RANGE. -/
def Sys2Proof.Claims.AcceptStale : Prop :=
  ∀ (s : State) (v : U32), takes s 0x3020 2 (leBytes 4 v.toNat) → ∃ t, exec (.acceptStale v) s = .next t ∧
    (v ≠ staleValue s → answered t .valueRange ∧ t = { s with bus := t.bus }) ∧
    (∀ h, v = staleValue s → newestH s = some h → answered t .done ∧
      (h.gen < 2 ^ 32 → ∀ g ∈ t.neg.gens, g.gen = h.gen → g.staleAccepted = true) ∧
      (∀ (c : ChanId) (b : Nat), (blockAt s.nand.chans[c] c b).use = 1 → (blockAt s.nand.chans[c] c b).owner = h.gen →
        (blockAt t.nand.chans[c] c b).use ≠ 1) ∧
      t.neg.status = (if (newestC s).isSome then 1 else 0) ∧ t.sys = s.sys ∧ t.light = s.light ∧ t.tiers = s.tiers)

/-- A consolidation asked for in RUN is answered, and begins with the header of a base where a committed chain can be read,
the space for its base is there and none runs. Its commit makes it a base of that chain's content, by SOURCE, frees the
blocks of the others and makes source 40 pending; one that cannot be written, or whose chain cannot be read, is given up. -/
def Sys2Proof.Claims.Consolidation : Prop :=
  ∀ s : State,
    (takes s 0x3010 8 [1] → s.neg.consWanted = false → ∃ t, exec .consolidate s = .next t ∧ answered t .done ∧
      (∀ c, newestC s = some c → s.neg.cons = none → s.sys.st = .run → chainReadable s = true →
        consFits s (consData s c).entries.length = true → nextGen s < 2 ^ 32 - 1 →
        t.neg.cons = some (nextGen s) ∧ ∃ g, t.neg.gens.head? = some g ∧ g.gen = nextGen s ∧ g.base = true ∧
          g.consolidation = true ∧ g.parent = none ∧ g.commit = none) ∧
      (newestC s = none → t.neg = s.neg ∧ t.nand = s.nand) ∧
      t = { s with neg := { s.neg with cons := t.neg.cons, gens := t.neg.gens }, nand := t.nand, bus := t.bus }) ∧
    (∀ n, s.neg.cons = some n → pllRuns s = true → (∀ c : ChanId, heldBack s.nand.chans[c] 6 = false) →
      (∀ g c, genOf s n = some g → newestC s = some c → chainReadable s = true → n < 2 ^ 32 → c.gen < 2 ^ 32 →
        (writtenCons g c (consRecord s g c) s).isSome = true →
        ∃ t, exec .consolidationCommitted s = .next t ∧ t.neg.cons = none ∧
          (∃ h ∈ t.neg.gens, h.gen = n) ∧
          (∀ h ∈ t.neg.gens, h.gen = n → ∃ k, h.commit = some k ∧ k.source = c.gen ∧
            k.uncertain = (consRecord s g c).uncertain ∧ k.uncRanks = (consRecord s g c).uncRanks) ∧
          (∀ (k : ChanId) (b : Nat), (blockAt s.nand.chans[k] k b).use = 1 → (blockAt s.nand.chans[k] k b).owner ≠ n →
            (blockAt t.nand.chans[k] k b).use ≠ 1) ∧
          gotEvent s t 40 ∧
          t = { s with neg := t.neg, nand := t.nand, irq := t.irq, bus := t.bus, free := t.free }) ∧
      ((chainReadable s = false ∨ ∀ g c, genOf s n = some g → newestC s = some c →
          writtenCons g c (consRecord s g c) s = none) →
        ∃ t, exec .consolidationCommitted s = .next t ∧ t.neg.cons = none ∧ t.neg.gens = s.neg.gens ∧
        t = { s with neg := t.neg, nand := t.nand, irq := t.irq, bus := t.bus, free := t.free })) ∧
    ((s.neg.cons = none ∨ pllRuns s = false) → exec .consolidationCommitted s = .next s)

/-- A new value of the module geometry is stored, and then every frame is dirty, the baseline and the heat are gone; the
reserved slot stored ends slot training. A value already in force is stored and changes none of this. -/
def Sys2Proof.Claims.GeometryAndSlot : Prop :=
  ∀ (s : State) (sub v : Byte), 1 ≤ sub.toNat → sub.toNat ≤ 3 →
    (takes s 0x9000 sub.toNat [v] → geometryOk s sub.toNat v.toNat = true →
      ∃ t, exec (.geometryWrite sub v) s = .next t ∧
      answered t .done ∧ pv t 0x9000 sub.toNat = v.toNat ∧ t.flash.dirty = true ∧
      (v.toNat ≠ pv s 0x9000 sub.toNat → t.light.dirty = allFrames t ∧ t.light.baseline = false ∧ t.light.heat = []) ∧
      (v.toNat = pv s 0x9000 sub.toNat → t.light = s.light ∧ t.neg = s.neg) ∧ t.rails = s.rails ∧ t.sys = s.sys ∧
        t.neg.gens = s.neg.gens) ∧
    (takes s 0x9030 1 [v] → slotOperates s v.toNat = false → ∃ t, exec (.reservedSlotWrite v) s = .next t ∧
      answered t .done ∧ pv t 0x9030 1 = v.toNat ∧ t.light = { s.light with slotTrained := false } ∧ t.rails = s.rails ∧
      t.sys = s.sys ∧ t.neg = s.neg) ∧
    (takes s 0x9030 1 [v] → slotOperates s v.toNat = true → ∃ t, exec (.reservedSlotWrite v) s = .next t ∧
      answered t .valueRange ∧ t = { s with bus := t.bus })

/-- A stale Negative accepted, consolidation, geometry and reserved slot. -/
def Obligations.NegativeUpkeep : Prop :=
  Claims.AcceptStale ∧ Claims.Consolidation ∧ Claims.GeometryAndSlot

/-! ## NAND -/

/-- Only one channel of the NAND has changed. -/
def Sys2Proof.Claims.onlyChannel (s t : State) (c : ChanId) (ch : Channel) : Prop :=
  t = { s with nand := { s.nand with chans := upd s.nand.chans c (fun _ => ch) } }

/-- A channel can work: the main die is powered, the PLL runs and the channel is not dead. -/
def Sys2Proof.Claims.works (s : State) (c : ChanId) : Prop :=
  s.sys.mainOn = true ∧ pllRuns s = true ∧ chanDead s c = false

/-- No tile of tier F is being programmed in a block. -/
def Sys2Proof.Claims.noProgramIn (s : State) (c : ChanId) (b : Nat) : Prop :=
  ∀ p ∈ s.tiers.tiles, ∀ f, p.2.f = some f → programsIn s c b f = false

/-- A failed program leaves its page out and closes its block, whose programs of tier F begin again elsewhere; with none of
those, nothing else changes, and a block that holds nothing needed is retired. A failed erase
retires its block: GROWN, free, counted, source 50 + 4c, the channel's table rewritten; an erase that ends leaves its block
with one erase more, empty, and not being erased. Blocks other than the table's, and other channels, are as before. -/
def Sys2Proof.Claims.NandBlocks : Prop :=
  ∀ (s : State) (c : ChanId) (b : Nat), works s c → b ∉ (s.nand.chans[c]).tables →
    (∃ t, exec (.nandProgramFailure c b) s = .next t ∧ t = { s with
      nand := t.nand, neg := { s.neg with baseFits := t.neg.baseFits }, tiers := { s.tiers with tiles := t.tiers.tiles },
      irq := t.irq, bus := t.bus, free := t.free }) ∧
    (noProgramIn s c b → (blockAt s.nand.chans[c] c b).use ≠ 0 → ∃ t, exec (.nandProgramFailure c b) s = .next t ∧
      onlyChannel s t c { s.nand.chans[c] with
        blocks := aput (s.nand.chans[c]).blocks b { blockAt s.nand.chans[c] c b with
          closed := true, next := (blockAt s.nand.chans[c] c b).next + 1 } }) ∧
    (noProgramIn s c b → (blockAt s.nand.chans[c] c b).use = 0 → ∃ t, exec (.nandProgramFailure c b) s = .next t ∧
      (blockAt t.nand.chans[c] c b).grown = true ∧ t.nand.grownCount = satInc s.nand.grownCount ∧
      gotEvent s t (Fin.ofNat 192 (50 + 4 * c.val))) ∧
    (eraseRuns s.nand.chans[c] b = true → ∃ t, exec (.nandEraseFailure c b) s = .next t ∧
      blockAt t.nand.chans[c] c b =
        { blockAt s.nand.chans[c] c b with use := 0, owner := 0, grown := true, closed := true } ∧
      (∀ k, k ≠ b → k ∉ (s.nand.chans[c]).tables → blockAt t.nand.chans[c] c k = blockAt s.nand.chans[c] c k) ∧
      b ∉ (t.nand.chans[c]).region ∧ b ∉ (t.nand.chans[c]).regionF ∧
      t.nand.grownCount = satInc s.nand.grownCount ∧ (t.nand.chans[c]).tableSeq = (s.nand.chans[c]).tableSeq + 1 ∧
      gotEvent s t (Fin.ofNat 192 (50 + 4 * c.val)) ∧ (∀ k, k ≠ c → t.nand.chans[k] = s.nand.chans[k]) ∧
      t = { s with nand := { s.nand with chans := t.nand.chans, grownCount := t.nand.grownCount, bytesP := t.nand.bytesP },
                   neg := { s.neg with baseFits := t.neg.baseFits }, irq := t.irq, bus := t.bus, free := t.free }) ∧
    (eraseRuns s.nand.chans[c] b = true → rising (s.nand.chans[c]).blocks = true →
      ∃ t, exec (.nandEraseEnd c b) s = .next t ∧
      blockAt t.nand.chans[c] c b = { blockAt s.nand.chans[c] c b with
        erases := min ((blockAt s.nand.chans[c] c b).erases + 1) (2 ^ 28 - 1), closed := false, next := 0, owner := 0 } ∧
      (∀ k, k ≠ b → k ∉ (s.nand.chans[c]).tables → blockAt t.nand.chans[c] c k = blockAt s.nand.chans[c] c k) ∧
      (∀ e ∈ (t.nand.chans[c]).erases, e.2.block ≠ b) ∧ (∀ k, k ≠ c → t.nand.chans[k] = s.nand.chans[k]) ∧
      (t.nand.chans[c]).tableSeq =
        (s.nand.chans[c]).tableSeq + (if 10000 ≤ (s.nand.chans[c]).sinceTable + 1 then 1 else 0) ∧
      t = { s with nand := { s.nand with chans := t.nand.chans, lifeP := t.nand.lifeP, lifeT := t.nand.lifeT,
                                         bytesP := t.nand.bytesP },
                   neg := { s.neg with baseFits := t.neg.baseFits }, irq := t.irq, bus := t.bus, free := t.free }) ∧
    (eraseRuns s.nand.chans[c] b = false → exec (.nandEraseFailure c b) s = .next s ∧
      exec (.nandEraseEnd c b) s = .next s)

/-- An operation of class 5 to 7 that has waited 50 ms becomes class 4 and keeps its place; it is urgent then, and a
running erase on its LUN is suspended. Patrol's next read enters the queue so. A suspended erase resumes when no urgent
work waits on its LUN, or after 8 programs, once none of it runs there; for the next 1 ms a suspend only waits. -/
def Sys2Proof.Claims.NandSchedule : Prop :=
  ∀ (s : State) (c : ChanId), works s c →
    (∀ o : NandOp, (s.nand.chans[c]).queue.find? (fun q => decide (q.id = o.id)) = some o → o.id ≠ opPatrol → 5 ≤ o.cls →
      o.started = false → ∃ t, exec (.classPromotion c o.id) s = .next t ∧
        (t.nand.chans[c]).queue.map (fun q => { q with started := false }) = (s.nand.chans[c]).queue.map
          (fun q => if q.id = o.id then { q with cls := 4, started := false } else { q with started := false }) ∧
        (∀ e, aget (s.nand.chans[c]).erases o.lun.val = some e → e.suspended = false → e.suspensions < 16 →
          (e.holdoff = true → aget (t.nand.chans[c]).erases o.lun.val = some { e with wanted := true }) ∧
          (e.holdoff = false → ∃ x, aget (t.nand.chans[c]).erases o.lun.val = some x ∧
            x = { e with suspended := true, suspensions := e.suspensions + 1, programs := x.programs })) ∧
        onlyChannel s t c { s.nand.chans[c] with queue := (t.nand.chans[c]).queue, erases := (t.nand.chans[c]).erases }) ∧
    (∀ key, s.sys.st = .run → patrolNext s c = some key → ∃ t, exec (.classPromotion c opPatrol) s = .next t ∧
      ((t.nand.chans[c]).queue.any fun q => decide (q.id = opPatrol)) = true ∧
      onlyChannel s t c { s.nand.chans[c] with
        queue := (t.nand.chans[c]).queue, erases := (t.nand.chans[c]).erases, cacheLun := (t.nand.chans[c]).cacheLun,
        issued := (t.nand.chans[c]).issued }) ∧
    (∀ (lun : Fin 16) (e : NandErase), aget (s.nand.chans[c]).erases lun.val = some e →
      (e.suspended = true → lunBusy s.nand.chans[c] lun = false →
        (urgentWaits s.nand.chans[c] lun = false ∨ 8 ≤ e.programs) →
        ∃ t, exec (.nandEraseResume c lun) s = .next t ∧
          aget (t.nand.chans[c]).erases lun.val =
            some { e with suspended := false, holdoff := true, wanted := urgentWaits s.nand.chans[c] lun } ∧
          (∀ k, k ≠ lun.val → aget (t.nand.chans[c]).erases k = aget (s.nand.chans[c]).erases k) ∧
          onlyChannel s t c { s.nand.chans[c] with
            erases := (t.nand.chans[c]).erases, issued := [.eraseResume (pv s 0x5000 8)] }) ∧
      (e.holdoff = true → e.suspended = false → e.suspensions < 16 →
        ∃ t, exec (.nandSuspendHoldoffEnd c lun) s = .next t ∧
        (e.wanted = false → aget (t.nand.chans[c]).erases lun.val = some { e with holdoff := false }) ∧
        (e.wanted = true → ∃ x, aget (t.nand.chans[c]).erases lun.val = some x ∧ x = { e with
          holdoff := false, wanted := false, suspended := true, suspensions := e.suspensions + 1, programs := x.programs }) ∧
        onlyChannel s t c { s.nand.chans[c] with
          queue := (t.nand.chans[c]).queue, erases := (t.nand.chans[c]).erases, issued := (t.nand.chans[c]).issued }))

/-- Blocks, failures and the schedule of a NAND channel. -/
def Obligations.NandBlocksAndErases : Prop :=
  Claims.NandBlocks ∧ Claims.NandSchedule

/-- The first channel declared dead with a cause that holds, in RUN or SETUP: its state and cause, its mark for causes 2 to
4 and the tables of the live channels with it, a stripe width of 6, source 48 + 4c, and the device state as it was. The
second one in RUN leads to FAULT with cause 4. A cause that does not hold changes nothing. The marks are cleared in SETUP by
0x5010.0B, in every live table. -/
def Sys2Proof.Claims.ChannelsDie : Prop :=
  (∀ (s : State) (c : ChanId) (cause : Fin 5), works s c →
    (deadCause s c cause.val = false → exec (.channelDead c cause) s = .next s) ∧
    (deadCause s c cause.val = true → deadChans s = [] → (s.sys.st = .run ∨ s.sys.st = .setup) →
      ∃ t, exec (.channelDead c cause) s = .next t ∧
      (t.nand.chans[c]).state = 2 ∧ (t.nand.chans[c]).cause = BitVec.ofNat 8 cause.val ∧
      (t.nand.chans[c]).mark = (if cause = 1 then (s.nand.chans[c]).mark else BitVec.ofNat 8 cause.val) ∧
      (t.nand.chans[c]).queue = [] ∧ (t.nand.chans[c]).erases = [] ∧
      t.nand.width = 6 ∧ gotEvent s t (Fin.ofNat 192 (48 + 4 * c.val)) ∧
      (∀ k, k ≠ c → (t.nand.chans[k]).state = (s.nand.chans[k]).state ∧ (t.nand.chans[k]).mark = (s.nand.chans[k]).mark ∧
        (t.nand.chans[k]).tableSeq = (s.nand.chans[k]).tableSeq + (if cause = 1 then 0 else 1)) ∧
      t = { s with nand := t.nand, neg := { s.neg with baseFits := t.neg.baseFits }, irq := t.irq, bus := t.bus,
                   free := t.free }) ∧
    (deadCause s c cause.val = true → (∃ k, k ≠ c ∧ chanDead s k = true) → s.sys.st = .run →
      ∃ t, exec (.channelDead c cause) s = .next t ∧
      t.sys.st = .fault ∧ t.sys.prev = .run ∧ t.sys.cause = 0x0C ∧ t.sys.faultCause = 4 ∧ t.light = s.light ∧
      t.tiers = s.tiers ∧ t.rails = s.rails ∧ t.cell = s.cell ∧ t.shadow = s.shadow)) ∧
  (∀ s : State, busFree s = true → s.sys.st = .setup → ∃ t, exec .clearDeadMarks s = .next t ∧ answered t .done ∧
    (∀ c : ChanId, (t.nand.chans[c]).mark = 0 ∧ (t.nand.chans[c]).state = (s.nand.chans[c]).state ∧
      (t.nand.chans[c]).cause = (s.nand.chans[c]).cause ∧
      (t.nand.chans[c]).tableSeq = (s.nand.chans[c]).tableSeq + (if chanDead s c then 0 else 1)) ∧
    t = { s with nand := { s.nand with chans := t.nand.chans, bytesP := t.nand.bytesP }, bus := t.bus })

/-- What a Development's loss list gains from a unit that cannot be rebuilt: the frames of a data unit with reason 1, those
whose keys a map unit held with reason 2. -/
def Sys2Proof.Claims.lossesMet (s : State) : Holds → List Loss
  | .frames _ fs => lossesOf fs 1
  | .map _ ks => lossesOf (keyRange s ks) 2
  | .anchor | .table | .stripe _ _ | .other _ | .nothing => []

/-- A unit read whose codewords were all corrected leaves its page readable and the channel with the commands of the read; a
page that was never programmed is not read. A unit that is rebuilt from its stripe is counted; one that cannot be rebuilt
costs what it held: a tile that has no copy above tier F is spoiled, a Development's frames join the loss list. -/
def Sys2Proof.Claims.UnitReads : Prop :=
  ∀ (s : State) (c : ChanId) (key : Nat) (r : UnitRead), works s c → key < 2 ^ 29 →
    (aget (s.nand.chans[c]).pages key = none → exec (.nandUnitReadEnd c key r) s = .next s) ∧
    ((aget (s.nand.chans[c]).pages key).isSome = true →
      ((worstWord (pv s 0x5000 0xA) r).isSome = true → ∃ t, exec (.nandUnitReadEnd c key r) s = .next t ∧
        (aget (t.nand.chans[c]).pages key).map (·.bad) = some false ∧
        (aget (t.nand.chans[c]).pages key).map (·.data) = (aget (s.nand.chans[c]).pages key).map (·.data) ∧
        (∀ k, k ≠ key → aget (t.nand.chans[c]).pages k = aget (s.nand.chans[c]).pages k) ∧
        onlyChannel s t c { s.nand.chans[c] with pages := (t.nand.chans[c]).pages, issued := readCommands s r }) ∧
      (worstWord (pv s 0x5000 0xA) r = none →
        (rebuildable (noteRead (addressOf c key) r s) (addressOf c key) = true →
          ∃ t, exec (.nandUnitReadEnd c key r) s = .next t ∧ t.nand.rebuilds = satInc s.nand.rebuilds ∧
            t = { s with nand := t.nand, tiers := t.tiers }) ∧
        (rebuildable (noteRead (addressOf c key) r s) (addressOf c key) = false →
          (∀ i j k f, holdsAt s (addressOf c key) = .stripe i (some j) → tileAt s k = { Tile.none with f := some f } →
            (i, j) ∈ f.units → ∃ t, exec (.nandUnitReadEnd c key r) s = .next t ∧ (tileAt t k).spoiled = true ∧
              (tileAt t k).f = none ∧ gotEvent s t (Fin.ofNat 192 (80 + accountOf (keyStream k)))) ∧
          (s.sys.st = .develop → (∀ i j, holdsAt s (addressOf c key) ≠ .stripe i j) →
            ∃ t, exec (.nandUnitReadEnd c key r) s = .next t ∧
            t.neg.report.ranges = s.neg.report.ranges ++ lossesMet s (holdsAt s (addressOf c key)) ∧
            t = { s with nand := { s.nand with chans := t.nand.chans },
                         neg := { s.neg with report := { s.neg.report with ranges := t.neg.report.ranges } } }))))

/-- Patrol reads in RUN only, the next page that holds needed data, where its operation may run. The page moves patrol on
or ends the pass, which is counted with the progress at 1000; too many bit errors count a relocation, a rebuilt unit a
rebuild, and a unit that is neither read nor rebuilt is counted and reported once in a pass, with source 49 + 4c. -/
def Sys2Proof.Claims.PatrolSteps : Prop :=
  ∀ (s : State) (c : ChanId) (r : UnitRead), works s c →
    ((s.sys.st ≠ .run ∨ patrolNext s c = none) → exec (.patrol c r) s = .next s) ∧
    (∀ key, s.sys.st = .run → patrolNext s c = some key → key < 2 ^ 29 →
      patrolMay s.nand.chans[c] (lunOf (key / 2 ^ 12)) = true → ∃ t, exec (.patrol c r) s = .next t ∧
      (((t.nand.chans[c]).patrolAt = key + 1 ∧ t.nand.passes = s.nand.passes) ∨
        ((∀ k : ChanId, (t.nand.chans[k]).patrolAt = 0) ∧ t.nand.passes = satInc s.nand.passes ∧ t.nand.progress = 1000 ∧
          t.nand.reported = [])) ∧
      (∀ n, worstWord (pv s 0x5000 0xA) r = some n → t.nand.unrecovered = s.nand.unrecovered ∧
        t.nand.rebuilds = s.nand.rebuilds ∧
        t.nand.relocations = (if pv s 0x5020 3 < n then satInc s.nand.relocations else s.nand.relocations)) ∧
      (worstWord (pv s 0x5000 0xA) r = none → t.nand.relocations = s.nand.relocations ∧
        (rebuildable (noteRead (addressOf c key) r (depart c opPatrol s)) (addressOf c key) = true →
          t.nand.rebuilds = satInc s.nand.rebuilds ∧ t.nand.unrecovered = s.nand.unrecovered) ∧
        (rebuildable (noteRead (addressOf c key) r (depart c opPatrol s)) (addressOf c key) = false →
          (s.nand.reported.contains (c, key) = true → t.nand.unrecovered = s.nand.unrecovered) ∧
          (s.nand.reported.contains (c, key) = false → t.nand.unrecovered = satInc s.nand.unrecovered ∧
            gotEvent s t (Fin.ofNat 192 (49 + 4 * c.val))))) ∧
      t = { s with nand := t.nand, neg := t.neg, tiers := t.tiers, irq := t.irq, bus := t.bus, free := t.free })

/-- Reads of units, and patrol. -/
def Obligations.NandReads : Prop :=
  Claims.UnitReads ∧ Claims.PatrolSteps

/-- The tables of blank NAND are built after SETUP entry: the NAND is no longer blank, every live channel has a new table,
and the regions have their sizes and lie apart, tier F off the anchor LUN. -/
def Sys2Proof.Claims.BlankNandIsSetUp : Prop :=
  ∀ s : State, buildsBlank s = true → pllRuns s = true →
    ∃ t, exec .blankNandSetupEnd s = .next t ∧ t.nand.blank = false ∧
      (∀ c : ChanId, (t.nand.chans[c]).tableSeq = (s.nand.chans[c]).tableSeq + (if chanDead s c then 0 else 1)) ∧
      (∀ c : ChanId, chanDead s c = false → (t.nand.chans[c]).region.length ≤ regionBlocks s s.nand.regionPct ∧
        ∀ b ∈ (t.nand.chans[c]).regionF, b ∉ (t.nand.chans[c]).region ∧ lunOf b ≠ 0) ∧
      t.nand.regionPct = s.nand.regionPct ∧ t.nand.negBytes = BitVec.ofNat 64 (regionBytes s s.nand.regionPct) ∧
      t.nand.tierFBytes = BitVec.ofNat 64 (capacityF t) ∧
      t = { s with nand := t.nand, neg := { s.neg with baseFits := t.neg.baseFits }, tiers := t.tiers, irq := t.irq,
                   bus := t.bus, free := t.free }

/-- Dead channels, and the setup of blank NAND. -/
def Obligations.NandChannels : Prop :=
  Claims.ChannelsDie ∧ Claims.BlankNandIsSetUp

/-! ## Tiers -/

/-- A copy stays, unless it is the reserve's and no active request names its tile. -/
def Sys2Proof.Claims.staysFor {α : Type} (s : State) (k : Nat) (reserve : Bool) (c : α) : Option α :=
  if reserve = true ∧ inRequest s k = false then none else some c

/-- A wordline program that ends, once it has started, makes its tile readable from tier F, clears the dirty marks that it
answers for, and leaves every channel's queue; clean copies in the reserve go back, unless an active request names the tile.
One that has not started changes nothing. Dirty tier D data of the write-back age gets a program to tier F with its bytes and
stays dirty until that ends, unless it drains from the reserve already. -/
def Sys2Proof.Claims.TierFPrograms : Prop :=
  ∀ (s : State) (st i k : Nat), k = tileKey st i → s.sys.mainOn = true → s.nand.blank = false →
    (pllRuns s = true → s.tiers.saving = false → ∀ f, (tileAt s k).f = some f → f.ended = false → f.units ≠ [] →
      (opStarted s (opProgram k) = true → ∃ t, exec (.tierFProgramEnd st i) s = .next t ∧
        (tileAt t k).f = some { f with ended := true } ∧ (tileAt t k).former = none ∧
        ((tileAt s k).since = none →
          (tileAt t k).s = (tileAt s k).s.bind (fun c => staysFor s k c.reserve { c with dirty := 0 }) ∧
          (tileAt t k).d = (tileAt s k).d.bind (fun c => staysFor s k c.reserve { c with dirty := 0 })) ∧
        ((tileAt s k).since.isSome = true →
          (tileAt t k).s = (tileAt s k).s.bind (fun c => staysFor s k (c.reserve && decide (c.dirty = 0)) c)) ∧
        (∀ j, j ≠ k → tileAt t j = tileAt s j) ∧
        (∀ c : ChanId, ((t.nand.chans[c]).queue.all fun o => o.id ≠ opProgram k) = true) ∧
        t = { s with nand := t.nand, tiers := { s.tiers with tiles := t.tiers.tiles }, irq := t.irq, bus := t.bus,
                     free := t.free }) ∧
      (opStarted s (opProgram k) = false → exec (.tierFProgramEnd st i) s = .next s)) ∧
    (∀ d, (tileAt s k).d = some d → d.dirty ≠ 0 → (inReserve (tileAt s k) && onTheWay (tileAt s k)) = false →
      ∃ t, exec (.writeBackAge st i) s = .next t ∧
      (∃ f, (tileAt t k).f = some f ∧ f.len = d.bytes.length ∧ f.ended = false ∧ f.since = sinceOf (tileAt s k)) ∧
      (tileAt t k).former = endedF (tileAt s k) ∧ (tileAt t k).d = some d ∧ (tileAt t k).s = (tileAt s k).s ∧
      (∀ j, j ≠ k → tileAt t j = tileAt s j) ∧
      t = { s with nand := t.nand, tiers := { s.tiers with tiles := t.tiers.tiles } }) ∧
    (∀ d, (tileAt s k).d = some d → (d.dirty = 0 ∨ (inReserve (tileAt s k) && onTheWay (tileAt s k)) = true) →
      exec (.writeBackAge st i) s = .next s)

/-- A stream is sealed once its entry asks for it, every write to it has ended and all its tiles are clean and in tier F; a
deleted stream's tiles are freed, and its seal with them, once no request of the older entry is active. -/
def Sys2Proof.Claims.StreamsSealedAndDeleted : Prop :=
  ∀ (s : State) (st : Nat), s.sys.mainOn = true →
    (eValid (entryNow s st) = true → eSealed (entryNow s st) = true → streamQuiet s st = true → noWrites s st = true →
      s.tiers.sealed.contains st = false →
      ∃ t, exec (.sealing st) s = .next t ∧ t = { s with tiers := { s.tiers with sealed := (st :: s.tiers.sealed) } }) ∧
    ((streamQuiet s st = false ∨ noWrites s st = false) → exec (.sealing st) s = .next s) ∧
    ((deletedAt s st).isSome = true → (∀ p : PortId, (s.ports[p]).active = []) →
      ∃ t, exec (.streamDeletion st) s = .next t ∧ deletedAt t st = none ∧
        t.tiers.sealed.contains st = false ∧ (∀ i, i < 2 ^ 24 → tileAt t (tileKey st i) = Tile.none) ∧
        (∀ k, keyStream k ≠ st → tileAt t k = tileAt s k) ∧
        t = { s with nand := t.nand, irq := t.irq, bus := t.bus, free := t.free, tiers := { s.tiers with
          deleting := t.tiers.deleting, sealed := t.tiers.sealed, tiles := t.tiers.tiles } }) ∧
    (deletedAt s st = none → exec (.streamDeletion st) s = .next s)

/-- Tiles on their way to tier F, streams sealed and deleted. -/
def Obligations.TilesInTierF : Prop :=
  Claims.TierFPrograms ∧ Claims.StreamsSealedAndDeleted

/-- A tile heat epoch takes from each tile's heat its 2^k-th part and allows the once-an-epoch sources again; it changes
nothing but the tiers and sources. A sweep of the wait graph ends no request. -/
def Sys2Proof.Claims.TileHeatAndSweep : Prop :=
  (∀ s : State, s.sys.mainOn = true → s.tiers.ready = true → ∃ t, exec .tileHeatEpoch s = .next t ∧
    (s.tiers.tiles = [] → t = { s with tiers := { s.tiers with proofSeen := famAll 4 false, reserveSeen := famAll 4 false } }) ∧
    (∀ k, (tileAt t k).heat = (tileAt s k).heat - ((tileAt s k).heat >>> pv s 0x6040 2)) ∧
    t = { s with tiers := t.tiers, nand := t.nand, irq := t.irq, bus := t.bus, free := t.free }) ∧
  (∀ s : State, exec .waitGraphSweep s = .next s)

/-- A curator core that fails is no longer live, is counted, and makes source 100 pending; a core that another live one
can stand in for serves no port any more. -/
def Sys2Proof.Claims.CuratorsFail : Prop :=
  ∀ (s : State) (c : PortId), s.sys.mainOn = true → s.tiers.curators.getLsbD c.val = true →
    ∃ t, exec (.curatorFailed c) s = .next t ∧ t.tiers.curators = s.tiers.curators &&& ~~~(BitVec.ofNat 8 (2 ^ c.val)) ∧
      t.tiers.failures = satInc s.tiers.failures ∧ gotEvent s t 100 ∧
      (∀ p : PortId, s.tiers.coreOf[p] ≠ c → t.tiers.coreOf[p] = s.tiers.coreOf[p]) ∧
      (∀ d : Fin 4, d ≠ c → s.tiers.curators.getLsbD d.val = true → ∀ p : PortId, t.tiers.coreOf[p] ≠ c) ∧
      t = { s with tiers := { s.tiers with curators := t.tiers.curators, coreOf := t.tiers.coreOf, failures := t.tiers.failures },
                   irq := t.irq, bus := t.bus, free := t.free }

/-- The tier state load: from a complete save the table of that save and its heat, 0x6060.01 at 1; from none an empty table
and 0; four live cores, one for each port; sources 103. No tile is lost by it. -/
def Sys2Proof.Claims.TierStateLoads : Prop :=
  ∀ s : State, s.sys.mainOn = true → s.tiers.ready = false → s.tiers.cut = none → ∃ t, exec .tierStateLoad s = .next t ∧
    t.tiers.ready = true ∧ t.tiers.curators = 0x0F ∧ (∀ p : PortId, t.tiers.coreOf[p] = p) ∧
    t.tiers.loaded = (if s.tiers.save.isSome then 1 else 0) ∧ t.tiers.table = (s.tiers.save.map (·.table)).getD [] ∧
    (∀ k, aget s.tiers.tiles k ≠ none →
      tileAt t k = { tileAt s k with heat := (aget ((s.tiers.save.map (·.heat)).getD []) k).getD 0 }) ∧
    gotEvent s t 103 ∧ t = { s with tiers := t.tiers, irq := t.irq, bus := t.bus, free := t.free }

/-- Heat, the wait graph, curator cores and the tier state load. -/
def Obligations.TierUpkeep : Prop :=
  Claims.TileHeatAndSweep ∧ Claims.CuratorsFail ∧ Claims.TierStateLoads

/-! ## Tile ports -/

/-- Only one port has changed. -/
def Sys2Proof.Claims.onlyPort (s t : State) (p : PortId) (x : TilePort) : Prop := t = { s with ports := upd s.ports p (fun _ => x) }

/-- The three doorbells of a port, each with its queue's size and with what a valid value writes. -/
def Sys2Proof.Claims.doorbells (p : PortId) (v : U16) (x : TilePort) : List (Instr × Byte × U16 × TilePort) :=
  [(.sq0Tail p v, 2, x.sq0.size, { x with sq0 := { x.sq0 with tail := v } }),
    (.sq1Tail p v, 3, x.sq1.size, { x with sq1 := { x.sq1 with tail := v } }),
    (.cqHead p v, 4, x.cq.size, { x with cq := { x.cq with head := v } })]

/-- A doorbell below its queue's size is taken, and nothing else changes; one of that size or more halts a port that is not
halted, with the queue's QERR, a count and source 113 + 4p. Without a link it does nothing. -/
def Sys2Proof.Claims.Doorbells : Prop :=
  ∀ (s : State) (p : PortId) (v : U16) (d : Instr × Byte × U16 × TilePort), d ∈ doorbells p v s.ports[p] →
    ((s.ports[p]).link ≠ 3 → exec d.1 s = .next s) ∧
    ((s.ports[p]).link = 3 → v < d.2.2.1 → ∃ t, exec d.1 s = .next t ∧ onlyPort s t p d.2.2.2) ∧
    ((s.ports[p]).link = 3 → d.2.2.1 ≤ v → (s.ports[p]).halted = false → ∃ t, exec d.1 s = .next t ∧
      t.ports = upd s.ports p (fun x => { x with
        halted := true, qerr := d.2.1, lastQerr := d.2.1, halts := satInc x.halts }) ∧
      gotEvent s t (Fin.ofNat 192 (113 + 4 * p.val)) ∧
        t = { s with ports := t.ports, irq := t.irq, bus := t.bus, free := t.free })

/-- ENABLE written 1 with three sound queues: enabled, not halted, PHASE 1, every index 0; with a queue that is not sound
QERR is 1 and the port stays disabled. While ENABLE is 1 a write of 1, and of a queue register, has no effect. ENABLE
written 0 disables at once without an active request, else stops fetching. -/
def Sys2Proof.Claims.PortEnableAndDisable : Prop :=
  ∀ (s : State) (p : PortId) (x : TilePort), x = s.ports[p] → x.link = 3 →
    (x.enable = false → ringOk x.sq0 = true → ringOk x.sq1 = true → ringOk x.cq = true →
      ∃ t, exec (.portEnable p) s = .next t ∧ onlyPort s t p { x with
        enable := true, halted := false, qerr := 0, phase := true, burst := 0, sq0 := { x.sq0 with head := 0, tail := 0 },
        sq1 := { x.sq1 with head := 0, tail := 0 }, cq := { x.cq with head := 0, tail := 0 } }) ∧
    (x.enable = false → (ringOk x.sq0 && ringOk x.sq1 && ringOk x.cq) = false →
      ∃ t, exec (.portEnable p) s = .next t ∧ onlyPort s t p { x with qerr := 1, lastQerr := 1 }) ∧
    (x.enable = true → exec (.portEnable p) s = .next s ∧ ∀ (off : U16) (d : List Byte),
      off.toNat ∈ [0x10, 0x14, 0x18, 0x20, 0x24, 0x28, 0x30, 0x34, 0x38] →
      exec (.registerWrite (.bar0 p off d)) s = .next s) ∧
    (x.enable = true → x.active = [] →
      ∃ t, exec (.portDisable p) s = .next t ∧ onlyPort s t p { x with enable := false, closing := false }) ∧
    (x.enable = true → x.active ≠ [] → ∃ t, exec (.portDisable p) s = .next t ∧
      onlyPort s t p { x with closing := true } ∧
      fetching t p = false)

/-- A port's doorbells and its ENABLE (R384 among it). -/
def Obligations.DoorbellsAndEnable : Prop :=
  Claims.Doorbells ∧ Claims.PortEnableAndDisable

/-- The port after it has fetched an entry from the queue `sq`. -/
def Sys2Proof.Claims.fetchedFrom (x : TilePort) (sq : Bool) : TilePort :=
  { x with
    sq0 := if sq then x.sq0 else { x.sq0 with head := ringNext x.sq0 x.sq0.head },
    sq1 := if sq then { x.sq1 with head := ringNext x.sq1 x.sq1.head } else x.sq1,
    burst := if sq then 0 else x.burst + 1, admissions := x.admissions + 1 }

/-- A fetched descriptor: an opcode outside 1 to 4 ends at once with OPCODE_INVALID, a NOP is admitted, and a READ of
plain bytes that passes every check is admitted with the entry it found and its tile one degree warmer. One that does not
come halts the port with QERR 5. -/
def Obligations.Descriptors : Prop :=
  ∀ (s : State) (p : PortId) (sq : Bool) (bs : List Byte) (r : Req), fetching s p = true →
    nextQueue s.ports[p] = some sq → (s.ports[p]).active.length < 64 →
    r = reqFrom bs sq ((s.ports[p]).admissions + 1) s.sys.aonTime.toNat → reqOf s p r.tag = none →
    ((r.op = 0 ∨ 4 < r.op.toNat) → ∃ t, exec (.descriptorFetch p bs) s = .next t ∧
      onlyPort s t p { fetchedFrom s.ports[p] sq with
        active := (s.ports[p]).active.filter (fun x => decide (x.order ≠ r.order)) ++
          [{ r with ended := some ⟨statusCode .opcodeInvalid, 0, 0, false⟩ }] }) ∧
    (r.op = 4 → ∃ t, exec (.descriptorFetch p bs) s = .next t ∧
      onlyPort s t p { fetchedFrom s.ports[p] sq with active := (s.ports[p]).active ++ [r] }) ∧
    (∀ e, r.op = 1 → r.flags.getLsbD 0 = false → streamThere s r.stream = true → r.stream / 0x400 = p.val →
      s.tiers.torn.contains r.stream = false → s.tiers.cache.find? (fun c => c.1 = r.stream) = some (r.stream, e) →
      eValid e = true → entryFormed e = true → eSealed e = false → eDeadline e = 0 → r.tile < eCount e →
      r.buffer.toNat % 4 = 0 → r.len ≠ 0 → r.off + r.len ≤ 1024 * eKib e → noCore s = false →
      tileWritten (tileAt s (tileKey r.stream r.tile)) = true →
      ∃ t, exec (.descriptorFetch p bs) s = .next t ∧
        t.ports = upd s.ports p (fun _ => { fetchedFrom s.ports[p] sq with
          active := (s.ports[p]).active ++ [{ r with deadline := 0, entry := some e }] }) ∧
        (tileAt t (tileKey r.stream r.tile)).heat = satInc (tileAt s (tileKey r.stream r.tile)).heat ∧
        (∀ k, k ≠ tileKey r.stream r.tile → tileAt t k = tileAt s k) ∧
        t = { s with ports := t.ports, tiers := { s.tiers with tiles := t.tiers.tiles, cache := t.tiers.cache },
                     nand := { s.nand with chans := t.nand.chans } }) ∧
    ((s.ports[p]).halted = false → ∃ t, exec (.descriptorTimeout p) s = .next t ∧
      t.ports = upd s.ports p (fun x => { x with halted := true, qerr := 5, lastQerr := 5, halts := satInc x.halts }) ∧
      gotEvent s t (Fin.ofNat 192 (113 + 4 * p.val)) ∧
        t = { s with ports := t.ports, irq := t.irq, bus := t.bus, free := t.free })

/-- A request has ended with a status and its bytes, behind those that ended before it. -/
def Sys2Proof.Claims.endedWith (s t : State) (p : PortId) (r : Req) (st : Status) (bytes : Nat) : Prop :=
  (t.ports[p]).active = (s.ports[p]).active.filter (fun x => decide (x.order ≠ r.order)) ++
    [{ r with ended := some ⟨statusCode st, BitVec.ofNat 32 bytes, 0, false⟩ }] ∧
  (∀ q, q ≠ p → t.ports[q] = s.ports[q])

/-- A request that nothing holds back. -/
def Sys2Proof.Claims.nothingHolds (s : State) (p : PortId) (r : Req) : Prop :=
  r.ended = none ∧ behind s p r = false ∧ sealWaits s r = false ∧ noCore s = false ∧ storeFailed s = false

/-- READ, WRITE, FLUSH and NOP. A READ of a tile in the tray that waits for no NAND delivers its bytes and ends OK. Before a
tier save has ended a WRITE of a whole tile of write-back state into the tray, off the reserve, leaves exactly those bytes
there, dirty; one whose buffer cannot be read ends with BUFFER_FAULT and writes nothing. A FLUSH ends OK once the writes
before it are in tier F, and waits until then. -/
def Obligations.RequestsServed : Prop :=
  ∀ (s : State) (p : PortId) (tag : U16) (r : Req), reqOf s p tag = some r → nothingHolds s p r →
    (∀ e c, r.op = 1 → r.entry = some e → r.proof = false → (tileAt s (tileKey r.stream r.tile)).spoiled = false →
      (tileAt s (tileKey r.stream r.tile)).lost = false → (tileAt s (tileKey r.stream r.tile)).s = some c →
      opStarted s (opRead (tileKey r.stream r.tile)) = true →
      ∃ t, exec (.tileRead p tag) s = .next t ∧ endedWith s t p r .ok r.len ∧
        (t.ports[p]).out = slice r.off r.len c.data ∧
        t = { s with ports := t.ports, nand := { s.nand with chans := t.nand.chans } }) ∧
    (∀ e c bs, r.op = 2 → r.entry = some e → eEncoded e = false → eWriteback e = true → ePin e ≠ 3 → r.off = 0 →
      r.len = 1024 * eKib e → bs.length = r.len → s.nand.blank = true →
      (tileAt s (tileKey r.stream r.tile)).s = some c → inReserve (tileAt s (tileKey r.stream r.tile)) = false →
      savedAlready s = false →
      ∃ t, exec (.tileWrite p tag (.data bs)) s = .next t ∧ endedWith s t p r .ok r.len ∧
        (tileAt t (tileKey r.stream r.tile)).s = some ⟨bs, coverMask 0 r.len ||| c.dirty, false⟩ ∧
        (tileAt t (tileKey r.stream r.tile)).spoiled = false ∧ (tileAt t (tileKey r.stream r.tile)).lost = false ∧
        (tileAt t (tileKey r.stream r.tile)).f = (tileAt s (tileKey r.stream r.tile)).f ∧
        (∀ k, k ≠ tileKey r.stream r.tile → tileAt t k = tileAt s k) ∧
        t = { s with ports := t.ports, tiers := { s.tiers with tiles := t.tiers.tiles } }) ∧
    (r.op = 2 → savedAlready s = true → ∀ data, exec (.tileWrite p tag data) s = .next s) ∧
    (r.op = 2 → savedAlready s = false → ∃ t, exec (.tileWrite p tag .fault) s = .next t ∧ endedWith s t p r .bufferFault 0 ∧
      t = { s with ports := t.ports }) ∧
    (r.op = 3 → flushed s p r = true → nandFailed s = false → ∃ t, exec (.flush p tag) s = .next t ∧
      endedWith s t p r .ok 0 ∧ t = { s with ports := t.ports }) ∧
    (r.op = 3 → flushed s p r = false → nandFailed s = false → exec (.flush p tag) s = .next s) ∧
    (r.op = 4 → ∃ t, exec (.nop p tag) s = .next t ∧ endedWith s t p r .ok 0 ∧ t = { s with ports := t.ports })

/-- What a tile holds of the reserve goes back: the tile is as it was where an active request still names it. -/
def Sys2Proof.Claims.reserveBack (s t : State) (k : Nat) : Prop :=
  tileAt t k = if inRequest t k then tileAt s k else withoutReserve (tileAt s k)

/-- A completion is written for the request that ended first, WRITEs that still drain from the reserve passed over, where
the CQ has room: its descriptor, with DEADLINE_MISSED for a READ at full precision after its deadline, the count, the tail
and PHASE; its slot is free, and what its tile holds of the reserve goes back once no active request names it. Without room
in the CQ it waits; and a request that is not the one, a WRITE that drains among them, gets no completion. -/
def Obligations.Completions : Prop :=
  ∀ (s : State) (p : PortId) (r : Req) (d : Done),
    (s.ports[p]).active.find? (mayComplete s) = some r → r.ended = some d → (s.ports[p]).link = 3 →
    drains s r d = false ∧
    (∀ tag, tag ≠ r.tag → exec (.requestCompletion p tag) s = .next s) ∧
    (cqFree s.ports[p] = false → exec (.requestCompletion p r.tag) s = .next s) ∧
    (cqFree s.ports[p] = true → ∃ t, exec (.requestCompletion p r.tag) s = .next t ∧
      (t.ports[p]).cqOut = (s.ports[p]).cqOut ++
        [completionOf s.ports[p] r d (if missed s r d then statusCode .deadlineMissed else d.status)] ∧
      (t.ports[p]).active = (s.ports[p]).active.filter (fun x => decide (x.order ≠ r.order)) ∧
      (t.ports[p]).completed = (s.ports[p]).completed + 1 ∧
      (t.ports[p]).cq = { (s.ports[p]).cq with tail := ringNext (s.ports[p]).cq (s.ports[p]).cq.tail } ∧
      (t.ports[p]).phase = ((s.ports[p]).phase ^^ decide (ringNext (s.ports[p]).cq (s.ports[p]).cq.tail = 0)) ∧
      ((s.ports[p]).closing = true → (t.ports[p]).active = [] → (t.ports[p]).enable = false) ∧
      (∀ q, q ≠ p → t.ports[q] = s.ports[q]) ∧
      t = { s with ports := t.ports, tiers := t.tiers, nand := t.nand, irq := t.irq, bus := t.bus, free := t.free } ∧
      (deletedAt s r.stream = none → t.nand = s.nand ∧ t.irq = s.irq ∧
        (∀ k, (namesTile r = false ∨ k ≠ sourceKey r) → tileAt t k = tileAt s k) ∧
        (namesTile r = true → reserveBack s t (sourceKey r))))

/-- The second look at the deadline: a READ that would be late and whose proof tile would be earlier is served from its
proof tile from then on; any other stays as it is. -/
def Obligations.ProofSwitch : Prop :=
  ∀ (s : State) (p : PortId) (tag : U16) (r : Req) (e : List Byte), reqOf s p tag = some r → r.entry = some e →
    (r.op = 1 → r.ended = none → r.sent = false → r.proof = false → r.deadline ≠ 0 →
      mayProve s r.stream (r.flags.getLsbD 1) e = true →
      proofBetter s r.stream r.tile (min r.deadline (pv s 0x6050 2)) e = true →
      ∃ t, exec (.proofSwitchCheck p tag) s = .next t ∧
        t.ports = upd s.ports p (fun x => { x with
          active := x.active.map fun y => if y.order = r.order then { y with proof := true } else y }) ∧
        t = { s with ports := t.ports, nand := { s.nand with chans := t.nand.chans } }) ∧
    ((r.op ≠ 1 ∨ r.deadline = 0 ∨ r.sent = true ∨ r.proof = true ∨ mayProve s r.stream (r.flags.getLsbD 1) e = false ∨
        proofBetter s r.stream r.tile (min r.deadline (pv s 0x6050 2)) e = false) →
      exec (.proofSwitchCheck p tag) s = .next s)

/-- An invalidation by the host of a stream of the part or of all (any other value: VALUE_RANGE), or by a port for a stream
of its own account, is under way until it completes; then the entries it names are no longer cached, every other entry is,
and nothing else has changed. A port that names a stream of another account gets source 115 + 4p, and nothing is
invalidated. -/
def Sys2Proof.Claims.Invalidations : Prop :=
  ∀ (s : State) (stream : U16), s.sys.mainOn = true →
    (busFree s = true → s.sys.st = .run → s.tiers.invalBus = none →
      (stream.toNat < (if small s then 0x800 else 0x1000) ∨ stream = 0xFFFF) →
      ∃ t, exec (.invalidate .bus stream) s = .next t ∧ answered t .done ∧
        t = { s with bus := t.bus, tiers := { s.tiers with invalBus := some stream.toNat } }) ∧
    (busFree s = true → s.sys.st = .run → (if small s then 0x800 else 0x1000) ≤ stream.toNat → stream ≠ 0xFFFF →
      ∃ t, exec (.invalidate .bus stream) s = .next t ∧ answered t .valueRange ∧ t = { s with bus := t.bus }) ∧
    (∀ p : PortId, (s.ports[p]).link = 3 → (s.ports[p]).inval = none →
      ((stream = 0xFFFF ∨ stream.toNat / 0x400 = p.val) → ∃ t, exec (.invalidate (.tunnel p) stream) s = .next t ∧
        onlyPort s t p { s.ports[p] with inval := some stream.toNat }) ∧
      (stream ≠ 0xFFFF → stream.toNat / 0x400 ≠ p.val → ∃ t, exec (.invalidate (.tunnel p) stream) s = .next t ∧
        gotEvent s t (Fin.ofNat 192 (115 + 4 * p.val)) ∧ t = { s with irq := t.irq, bus := t.bus, free := t.free })) ∧
    (∀ st, s.tiers.invalBus = some st → st ≠ 0xFFFF → ∃ t, exec (.invalidationComplete .bus) s = .next t ∧
      t = { s with tiers := { s.tiers with invalBus := none, cache := s.tiers.cache.filter (fun c => c.1 ≠ st),
                                           torn := s.tiers.torn.filter (fun x => x ≠ st) } }) ∧
    (∀ (p : PortId) st, (s.ports[p]).inval = some st → st ≠ 0xFFFF →
      ∃ t, exec (.invalidationComplete (.tunnel p)) s = .next t ∧
        t = { s with ports := upd s.ports p (fun x => { x with inval := none }),
                     tiers := { s.tiers with cache := s.tiers.cache.filter (fun c => c.1 ≠ st),
                                             torn := s.tiers.torn.filter (fun x => x ≠ st) } })

/-- BAR2. A write inside one entry changes those bytes of it, its reserved fields aside, and nothing else; while the tier
state is saved it is dropped and counted; across two entries it is dropped, with source 115 + 4p. A read inside one entry
gives its bytes, and zeros while the binding state is not 1; one across two entries is an Unsupported Request. -/
def Sys2Proof.Claims.Bar2Access : Prop :=
  ∀ (s : State) (p : PortId) (off : Nat), (s.ports[p]).link = 3 →
    (∀ data : List Byte,
      (s.tiers.saving = false → withinEntry off data.length = true → ∃ t, exec (.bar2Write p off data) s = .next t ∧
        tableEntry t (p.val * 0x400 + off / 64) =
          entryKept (mergeAt (off % 64) data (tableEntry s (p.val * 0x400 + off / 64))) ∧
        (∀ st, st ≠ p.val * 0x400 + off / 64 → tableEntry t st = tableEntry s st) ∧
        t = { s with tiers := { s.tiers with table := t.tiers.table } }) ∧
      (s.tiers.saving = true → ∃ t, exec (.bar2Write p off data) s = .next t ∧
        t.ports = upd s.ports p (fun x => { x with dropped := satInc x.dropped }) ∧
        gotEvent s t (Fin.ofNat 192 (115 + 4 * p.val)) ∧
          t = { s with ports := t.ports, irq := t.irq, bus := t.bus, free := t.free }) ∧
      (s.tiers.saving = false → withinEntry off data.length = false → ∃ t, exec (.bar2Write p off data) s = .next t ∧
        gotEvent s t (Fin.ofNat 192 (115 + 4 * p.val)) ∧ t = { s with irq := t.irq, bus := t.bus, free := t.free })) ∧
    (∀ len, withinEntry off len = true → ∃ t, exec (.bar2Read p off len) s = .next t ∧
      onlyPort s t p { s.ports[p] with
        unsupported := false,
        out := if s.sec.binding = 1 then slice (off % 64) len (tableEntry s (p.val * 0x400 + off / 64))
          else List.replicate len 0 }) ∧
    (∀ len, withinEntry off len = false → ∃ t, exec (.bar2Read p off len) s = .next t ∧
      t.ports = upd s.ports p (fun x => { x with out := [], unsupported := true }) ∧
      gotEvent s t (Fin.ofNat 192 (115 + 4 * p.val)) ∧
        t = { s with ports := t.ports, irq := t.irq, bus := t.bus, free := t.free })

/-- The Stream Table from outside: invalidations and BAR2 (R388 among it). -/
def Obligations.StreamTableAccess : Prop :=
  Claims.Invalidations ∧ Claims.Bar2Access

/-- A link that comes up gives its port speed and width within 0x7000+p.02 and .03, source 112 + 4p. A port reset ends
every active request without a completion and counts it, returns what their tiles hold of the reserve, disables the port and
its target's COAL and DISABLE; one that drops the link is counted as a loss. -/
def Sys2Proof.Claims.LinksAndResets : Prop :=
  ∀ (s : State) (p : PortId), s.sys.mainOn = true → portThere s p = true →
    (∀ speed width : Byte, (s.ports[p]).link = 1 → ∃ t, exec (.linkUp p speed width) s = .next t ∧
      t.ports = upd s.ports p (fun x => { x with
        link := 3, speed := BitVec.ofNat 8 (min (max 1 speed.toNat) (pv s (0x7000 + p.val) 2)),
        width := BitVec.ofNat 8 (min (max 1 width.toNat) (pv s (0x7000 + p.val) 3)) }) ∧
      gotEvent s t (Fin.ofNat 192 (112 + 4 * p.val)) ∧
        t = { s with ports := t.ports, irq := t.irq, bus := t.bus, free := t.free }) ∧
    (∀ kind : ResetKind, (s.ports[p]).link = 3 → ∃ t, exec (.portReset p kind) s = .next t ∧
      (t.ports[p]).active = [] ∧ (t.ports[p]).enable = false ∧ (t.ports[p]).tunnel = TilePort.init.tunnel ∧
      (t.ports[p]).gone = satOf 32 ((s.ports[p]).gone.toNat + (s.ports[p]).active.length) ∧
      (t.ports[p]).completed = (s.ports[p]).completed ∧ (t.ports[p]).link = (if dropsLink kind then 1 else 3) ∧
      (t.ports[p]).losses = (if dropsLink kind then satInc (s.ports[p]).losses else (s.ports[p]).losses) ∧
      (t.irq.tgt[targetOfPort p]).disable = false ∧ (t.irq.tgt[targetOfPort p]).coal = none ∧
      (∀ q, q ≠ p → t.ports[q] = s.ports[q]) ∧
      (∀ k, (∀ r ∈ (s.ports[p]).active, namesTile r = false ∨ sourceKey r ≠ k) → tileAt t k = tileAt s k) ∧
      (∀ r ∈ (s.ports[p]).active, namesTile r = true → reserveBack s t (sourceKey r)) ∧
      t = { s with ports := t.ports, tiers := { s.tiers with tiles := t.tiers.tiles },
                   nand := { s.nand with chans := t.nand.chans }, irq := t.irq, bus := t.bus, free := t.free })

/-- MSI-X enabled or not, the function and vector masks, once the tier state load has ended (R382); and a PCIe error:
counted, an uncorrectable one with source 115 + 4p; where the port cannot recover, the link goes down. -/
def Sys2Proof.Claims.MsiXAndErrors : Prop :=
  ∀ (s : State) (p : PortId), (s.ports[p]).link = 3 →
    (s.tiers.ready = false → ∀ m, exec (.msiXEnable p m) s = .next s) ∧
    (∀ m : MsixState, s.tiers.ready = true → ∃ t, exec (.msiXEnable p m) s = .next t ∧
      t.ports = upd s.ports p (fun x => { x with msix := m }) ∧
      t.irq.src = s.irq.src ∧ (m.enable = false → (t.irq.tgt[targetOfPort p]).outN = false ∧
        (t.irq.tgt[targetOfPort p]).outF = false) ∧
      t = { s with ports := t.ports, irq := t.irq, bus := t.bus, free := t.free }) ∧
    (∃ t, exec (.aerEvent p false true) s = .next t ∧
      onlyPort s t p { s.ports[p] with correctable := satInc (s.ports[p]).correctable }) ∧
    (∃ t, exec (.aerEvent p true true) s = .next t ∧
      t.ports = upd s.ports p (fun x => { x with uncorrectable := satInc x.uncorrectable }) ∧
      gotEvent s t (Fin.ofNat 192 (115 + 4 * p.val)) ∧
        t = { s with ports := t.ports, irq := t.irq, bus := t.bus, free := t.free }) ∧
    (s.sys.mainOn = true → portThere s p = true → ∃ t, exec (.aerEvent p true false) s = .next t ∧
      (t.ports[p]).uncorrectable = satInc (s.ports[p]).uncorrectable ∧ (t.ports[p]).link = 1 ∧
        (t.ports[p]).active = [] ∧
      (∀ q, q ≠ p → t.ports[q] = s.ports[q]))

/-- A port's link, its resets, MSI-X and PCIe errors. -/
def Obligations.PortLinks : Prop :=
  Claims.LinksAndResets ∧ Claims.MsiXAndErrors

/-- The object tunnel. In RUN TUN_CMD 1 of 0x1400.01 brings the state's code and a length of 1 with no abort, and TUN_CMD 2
of the target's own DISABLE sets it; the port is BUSY until the transfer ends with DONE and source 115 + 4p. A length of 0 or
above 1,024 ends at once with VALUE_RANGE; a command while BUSY only sets OVERRUN. -/
def Obligations.ObjectTunnel : Prop :=
  ∀ (s : State) (p : PortId) (u : Tunnel), u = (s.ports[p]).tunnel → (s.ports[p]).link = 3 →
    (u.busy = false → 0 < u.len.toNat → u.len.toNat ≤ 1024 → s.sys.st = .run → s.sys.mainOn = true →
      (u.addr = 0x140001 → ∃ t, exec (.tunnelRead p) s = .next t ∧ onlyPort s t p { s.ports[p] with
        tunnel := { u with busy := true, abort := 0, len := 1, data := mergeAt 0 [3] (slice 0 1024 u.data) } }) ∧
      (∀ b : Byte, b.toNat ≤ 1 → u.addr = BitVec.ofNat 32 (0x810101 + 0x100 * p.val) → portThere s p = true →
        u.len = 1 →
        u.data.head? = some b → ∃ t, exec (.tunnelWrite p) s = .next t ∧
          t.ports = upd s.ports p (fun x => { x with tunnel := { u with busy := true, abort := 0 } }) ∧
          (t.irq.tgt[targetOfPort p]).disable = decide (b = 1) ∧ t.irq.src = s.irq.src ∧
          t = { s with ports := t.ports, irq := t.irq, bus := t.bus, free := t.free })) ∧
    (u.busy = false → (u.len = 0 ∨ 1024 < u.len.toNat) → ∀ c ∈ [Instr.tunnelRead p, .tunnelWrite p],
      ∃ t, exec c s = .next t ∧
        t.ports = upd s.ports p (fun x => { x with tunnel := { u with abort := 0x20, done := true } }) ∧
        gotEvent s t (Fin.ofNat 192 (115 + 4 * p.val)) ∧
          t = { s with ports := t.ports, irq := t.irq, bus := t.bus, free := t.free }) ∧
    (u.busy = true → (∀ c ∈ [Instr.tunnelRead p, .tunnelWrite p],
        ∃ t, exec c s = .next t ∧ onlyPort s t p { s.ports[p] with tunnel := { u with overrun := true } }) ∧
      ∃ t, exec (.tunnelTransferEnd p) s = .next t ∧
        t.ports = upd s.ports p (fun x => { x with tunnel := { u with busy := false, done := true } }) ∧
        gotEvent s t (Fin.ofNat 192 (115 + 4 * p.val)) ∧
          t = { s with ports := t.ports, irq := t.irq, bus := t.bus, free := t.free })

/-! ## Interrupt distributor -/

/-- An event of a source that is heard makes it PENDING, or ACTIVE_PENDING where it was ACTIVE; one that was pending
already is merged and counted. No other source changes, and an event that is not heard does nothing. -/
def Sys2Proof.Claims.SourceEvents : Prop :=
  ∀ (s : State) (n : SourceId),
    (hears s n = false → exec (.sourceEvent n) s = .next s) ∧
    (hears s n = true → ∃ t, exec (.sourceEvent n) s = .next t ∧
      t.irq.src[n] = { s.irq.src[n] with st := afterEvent (s.irq.src[n]).st } ∧
      (∀ k : SourceId, k ≠ n → t.irq.src[k] = s.irq.src[k]) ∧
      t.irq.merged = (if (s.irq.src[n]).st = .pending ∨ (s.irq.src[n]).st = .activePending then satInc s.irq.merged
        else s.irq.merged) ∧ t = { s with irq := t.irq, bus := t.bus, free := t.free })

/-- The source that a normal claim takes: pending at its target, of the highest priority, the lowest number of those. -/
def Sys2Proof.Claims.bestNormal (s : State) (t : TargetId) (n : SourceId) : Prop :=
  n ∈ pendingAt s false t ∧ ∀ k ∈ pendingAt s false t, entryPrio (entryOf s k) ≤ entryPrio (entryOf s n) ∧
    (entryPrio (entryOf s k) = entryPrio (entryOf s n) → n.val ≤ k.val)

/-- One source is ACTIVE, claimed at a target and in a class; every other source is as before. -/
def Sys2Proof.Claims.claimed (s t : State) (n : SourceId) (at_ : TargetId) (fast : Bool) : Prop :=
  t.irq.src[n] = ⟨.active, at_, fast⟩ ∧ (∀ k : SourceId, k ≠ n → t.irq.src[k] = s.irq.src[k]) ∧
  t = { s with irq := t.irq, bus := t.bus, ports := t.ports }

/-- A claim returns the best pending source of its class and makes it ACTIVE; with none it returns 0xFFFF, and nothing is
outstanding. The host claims by a READ, an engine in its BAR0, target 5 within the device and without a fast class. -/
def Sys2Proof.Claims.ClaimsAtTargets : Prop :=
  ∀ s : State,
    (∀ (p : PortId) (n : SourceId), (s.ports[p]).link = 3 →
      (bestNormal s (targetOfPort p) n → ∃ t, exec (.normalClaim (targetOfPort p)) s = .next t ∧
        claimed s t n (targetOfPort p) false ∧ (t.ports[p]).out = leBytes 4 n.val ∧ t.bus = s.bus) ∧
      (pendingAt s true (targetOfPort p) = [n] → ∃ t, exec (.fastClaim (targetOfPort p)) s = .next t ∧
        claimed s t n (targetOfPort p) true ∧ (t.ports[p]).out = leBytes 4 n.val ∧ t.bus = s.bus) ∧
      (pendingAt s false (targetOfPort p) = [] → ∃ t, exec (.normalClaim (targetOfPort p)) s = .next t ∧
        (t.ports[p]).out = leBytes 4 0xFFFF ∧ t.irq.src = s.irq.src ∧ (t.irq.tgt[targetOfPort p]).outN = false ∧
        t = { s with irq := t.irq, ports := t.ports })) ∧
    (∀ n : SourceId, busFree s = true → s.sys.st = .run → s.sys.mainOn = true →
      (bestNormal s 0 n → ∃ t, exec (.normalClaim 0) s = .next t ∧ claimed s t n 0 false ∧ t.ports = s.ports ∧
        t.bus.resp = [0, 2, 0] ++ leBytes 2 n.val) ∧
      (pendingAt s true 0 = [n] → ∃ t, exec (.fastClaim 0) s = .next t ∧ claimed s t n 0 true ∧ t.ports = s.ports ∧
        t.bus.resp = [0, 2, 0] ++ leBytes 2 n.val)) ∧
    (∀ n : SourceId, s.sys.mainOn = true → bestNormal s 5 n → ∃ t, exec (.normalClaim 5) s = .next t ∧
      claimed s t n 5 false ∧ t.ports = s.ports ∧ t.bus = s.bus) ∧
    exec (.fastClaim 5) s = .next s

/-- A completion that is spurious at a target is only counted, with source 166. -/
def Sys2Proof.Claims.spuriousAt (s t : State) (g : TargetId) : Prop :=
  (t.irq.tgt[g]).spurious = satInc (s.irq.tgt[g]).spurious ∧ (∀ j : SourceId, j.val ≠ 166 → t.irq.src[j] = s.irq.src[j])

/-- What a completion of a number leaves: a source that the target holds ACTIVE is INACTIVE, one that is ACTIVE_PENDING and
still routed is PENDING again; of any other source, or number, it is spurious. -/
def Sys2Proof.Claims.completed (s t : State) (g : TargetId) (n : U16) : Prop :=
  t = { s with irq := t.irq, bus := t.bus, free := t.free } ∧
  (∀ (k : SourceId) (x : Source), k.val = n.toNat → x = s.irq.src[k] →
    (x.owner = g → x.st = .active → t.irq.src[k] = { x with st := .inactive } ∧
      (∀ j : SourceId, j ≠ k → t.irq.src[j] = s.irq.src[j]) ∧ (g ≠ 0 → t.irq.tgt[g] = s.irq.tgt[g])) ∧
    (x.owner = g → x.st = .activePending → (route s k.val).isSome = true →
      t.irq.src[k] = { x with st := .pending } ∧ (∀ j : SourceId, j ≠ k → t.irq.src[j] = s.irq.src[j])) ∧
    ((x.owner ≠ g ∨ x.st = .inactive ∨ x.st = .pending) → spuriousAt s t g)) ∧
  (192 ≤ n.toNat → spuriousAt s t g)

/-- Completes: of an engine in its BAR0, of target 5 within the device, of the host by a WRITE of a source's number. -/
def Sys2Proof.Claims.Completes : Prop :=
  ∀ (s : State) (n : U16),
    (∀ p : PortId, (s.ports[p]).link = 3 → ∃ t, exec (.complete (targetOfPort p) n) s = .next t ∧
      completed s t (targetOfPort p) n) ∧
    (s.sys.mainOn = true → ∃ t, exec (.complete 5 n) s = .next t ∧ completed s t 5 n) ∧
    (busFree s = true → s.sys.st = .run → s.sys.mainOn = true → n.toNat < 192 →
      ∃ t, exec (.complete 0 n) s = .next t ∧ answered t .done ∧ completed s t 0 n)

/-- The life of a source: events, claims and completes. -/
def Obligations.SourceStates : Prop :=
  Claims.SourceEvents ∧ Claims.ClaimsAtTargets ∧ Claims.Completes

/-- A source is PENDING, or ACTIVE_PENDING, at the host. -/
def Sys2Proof.Claims.pendsAtHost (t : State) : Bool :=
  (List.finRange 192).any fun n =>
    (decide ((t.irq.src[n]).st = .pending) || decide ((t.irq.src[n]).st = .activePending)) &&
      (decide (route t n.val = some (false, 0)) || decide (route t n.val = some (true, 0)))

/-- A coalescing window whose time is over issues its notification, once; where delivery is held nothing changes.
DISABLE closes the window; COUNT and TIME come from the objects, or from COAL of an engine until its next reset; and with
0x8100.02 at 1, and only then, a source that waits at the host drives WAKE_n. None of these changes the state of a source. -/
def Sys2Proof.Claims.DeliverySettings : Prop :=
  (∀ (s : State) (g : TargetId) (x : Target), x = s.irq.tgt[g] →
    (x.windowOpen = false → exec (.coalescingTimeout g) s = .next s) ∧
    (held s g = true → exec (.coalescingTimeout g) s = .next s) ∧
    (x.windowOpen = true → held s g = false → x.outN = false → pendingAt s false g ≠ [] →
      ∃ t, exec (.coalescingTimeout g) s = .next t ∧ (t.irq.tgt[g]).outN = true ∧ (t.irq.tgt[g]).windowOpen = false ∧
        (t.irq.tgt[g]).notified = satInc x.notified ∧ t.irq.src = s.irq.src ∧
        t = { s with irq := t.irq, bus := t.bus, free := t.free })) ∧
  (∀ (s : State) (g : TargetId) (on : Bool), busFree s = true → s.sys.st = .run →
    (small s = false ∨ (g ≠ 3 ∧ g ≠ 4)) → ∃ t, exec (.disable g on) s = .next t ∧ answered t .done ∧ (t.irq.tgt[g]).disable = on ∧
      (on = true → (t.irq.tgt[g]).windowOpen = false) ∧ t.irq.src = s.irq.src ∧
      (∀ k : TargetId, k ≠ g → k ≠ 0 → t.irq.tgt[k] = s.irq.tgt[k]) ∧
      t = { s with irq := t.irq, bus := t.bus, free := t.free }) ∧
  (∀ (s : State) (p : PortId) (v : U32), (s.ports[p]).link = 3 →
    (v.toNat % 256 = 0 → exec (.coal p v) s = .next s) ∧
    (v.toNat % 256 ≠ 0 → ∃ t, exec (.coal p v) s = .next t ∧ t.irq.src = s.irq.src ∧
      coalCount t (targetOfPort p) = v.toNat % 256 ∧ coalTime t (targetOfPort p) = v.toNat / 65536 ∧
      t = { s with irq := t.irq, bus := t.bus, free := t.free })) ∧
  (∀ (s : State) (g : TargetId) (v : U16), busFree s = true → s.sys.st = .run →
    (small s = false ∨ (g ≠ 3 ∧ g ≠ 4)) → optionProtected s = false →
    (1 ≤ v.toNat → v.toNat ≤ 255 → ∃ t, exec (.coalescingSetting g 3 v) s = .next t ∧ answered t .done ∧
      pv t (0x8100 + g.val) 3 = v.toNat ∧ t.flash.dirty = true ∧ t.irq.src = s.irq.src ∧
      t = { s with shadow := t.shadow, flash := t.flash, irq := t.irq, bus := t.bus, free := t.free }) ∧
    (∃ t, exec (.coalescingSetting g 4 v) s = .next t ∧ answered t .done ∧ pv t (0x8100 + g.val) 4 = v.toNat ∧
      t.flash.dirty = true ∧ t.irq.src = s.irq.src ∧
      t = { s with shadow := t.shadow, flash := t.flash, irq := t.irq, bus := t.bus, free := t.free })) ∧
  (∀ (s : State) (on : Bool), busFree s = true → s.sys.st = .run → optionProtected s = false →
    ∃ t, exec (.wakeThrough on) s = .next t ∧ answered t .done ∧ pv t 0x8100 2 = (if on then 1 else 0) ∧
      t.irq.wakeLow = (on && pendsAtHost t) ∧ t.irq.src = s.irq.src ∧ t.flash.dirty = true ∧
      t = { s with shadow := t.shadow, flash := t.flash, irq := t.irq, bus := t.bus })

/-- The whole of 0x8200.01 written sets the entry of every source that the part has, and of no other one; with a TARGET
out of range in one of them it ends with VALUE_RANGE, and no entry changes. A fast assignment that no other one makes is
stored; one that names a source twice ends with VALUE_RANGE and stores nothing. -/
def Sys2Proof.Claims.SourceSettings : Prop :=
  (∀ (s : State) (es : List U32), busFree s = true → s.sys.st = .run → optionProtected s = false → s.bus.seg = none →
    es.length = 192 → sourcesOk s (es.map (·.toNat)) = true → ∃ t, exec (.sourceConfiguration es) s = .next t ∧
      (∀ n : SourceId, srcEntry t n.val =
        if sourceLive s n.val then (es.getD n.val 0).toNat &&& 0xF0F else srcEntry s n.val) ∧
      t.bus.resp = segResponse 768 [] ∧ t.flash.dirty = true ∧
      t = { s with shadow := t.shadow, flash := t.flash, irq := t.irq, bus := t.bus, free := t.free }) ∧
  (∀ (s : State) (es : List U32), busFree s = true → s.sys.st = .run → optionProtected s = false → s.bus.seg = none →
    es.length = 192 → sourcesOk s (es.map (·.toNat)) = false → ∃ t, exec (.sourceConfiguration es) s = .next t ∧
      answered t .valueRange ∧ t = { s with irq := t.irq, bus := t.bus, free := t.free }) ∧
  (∀ (s : State) (k : Fin 16) (v : U32), busFree s = true → s.sys.st = .run → optionProtected s = false →
    assignInRange v.toNat = true → assignIgnored s v.toNat = false →
    (assignTaken s (k.val + 1) v.toNat = false → ∃ t, exec (.fastAssignment k v) s = .next t ∧ answered t .done ∧
      pv t 0x8300 (k.val + 1) = v.toNat &&& 0x800700FF ∧
      (∀ j : Fin 16, j ≠ k → pv t 0x8300 (j.val + 1) = pv s 0x8300 (j.val + 1)) ∧ t.flash.dirty = true ∧
      t = { s with shadow := t.shadow, flash := t.flash, irq := t.irq, bus := t.bus, free := t.free }) ∧
    (assignTaken s (k.val + 1) v.toNat = true → ∃ t, exec (.fastAssignment k v) s = .next t ∧ answered t .valueRange ∧
      t = { s with bus := t.bus }))

/-- An in-band interrupt that was NACKed or lost arbitration is requested again, with the dynamic address and the enable it
needs: it is taken, NACKed again (won and NACKed are counted) or lost again, whichever the controller answers. -/
def Sys2Proof.Claims.IbiRetries : Prop :=
  ∀ s : State, (s.bus.ibi = .idle → exec .ibiRetry s = .next s) ∧
    ((s.bus.ibi = .nacked ∨ s.bus.ibi = .lost) → s.bus.dynAddr.isSome = true → s.bus.ibiOn = true →
      ∃ t, exec .ibiRetry s = .next t ∧
        ((t.bus.ibi = .idle ∧ t.bus.ibiWon = satInc s.bus.ibiWon ∧ t.bus.ibiNacked = s.bus.ibiNacked ∧
            t.bus.out = [t.bus.ibiData]) ∨
          (t.bus.ibi = .nacked ∧ t.bus.ibiWon = satInc s.bus.ibiWon ∧ t.bus.ibiNacked = satInc s.bus.ibiNacked) ∨
          (t.bus.ibi = .lost ∧ t.bus.ibiWon = s.bus.ibiWon ∧ t.bus.ibiNacked = s.bus.ibiNacked)) ∧
        t = { s with bus := t.bus, free := t.free })

/-- The distributor's settings and its deliveries. -/
def Obligations.DistributorSettings : Prop :=
  Claims.DeliverySettings ∧ Claims.SourceSettings ∧ Claims.IbiRetries

/-! ## Bus and object dictionary -/

/-- A frame with its PEC, as it is written to the device. -/
def Sys2Proof.Claims.withPec (x : Xfer) (bs : List Byte) : List Byte := bs ++ [pecOf x.addr false bs]

/-- The rows of the five request frames, which take any frame. -/
def Sys2Proof.Claims.frameRows (x : Xfer) (f : List Byte) (errs : WordErrors) : List Instr :=
  [.read x f, .write x f, .segRead x f errs, .segWrite x f, .segAbort x f]

/-- A frame is not acknowledged where it is not addressed to the device or while a request executes; a frame with a wrong
PEC is discarded and counted, with PEC_ERROR and source 152; a good one of no form of Table 14-2 with FRAME_ERROR and
source 153. None of them reaches an object. -/
def Sys2Proof.Claims.FramesDiscarded : Prop :=
  ∀ (s : State) (x : Xfer) (bs : List Byte) (pec : Byte) (errs : WordErrors), ∀ c ∈ frameRows x (bs ++ [pec]) errs,
    ((addressed s x false = false ∨ s.bus.busy = true) → ∃ t, exec c s = .next t ∧ t.bus.ack = false ∧
      t = { s with bus := { s.bus with ack := false } }) ∧
    (addressed s x false = true → s.bus.busy = false →
      (pecOf x.addr false bs ≠ pec → ∃ t, exec c s = .next t ∧ t.bus.ack = true ∧ t.bus.resp = [0x01, 0, 0] ∧
        t.bus.pecErrors = satInc s.bus.pecErrors ∧ t.bus.frameErrors = s.bus.frameErrors ∧ gotEvent s t 152 ∧
        t = { s with bus := t.bus, irq := t.irq, supply := t.supply, free := t.free }) ∧
      (pecOf x.addr false bs = pec → parseFrame bs = none → ∃ t, exec c s = .next t ∧ t.bus.ack = true ∧
        t.bus.resp = [0x02, 0, 0] ∧ t.bus.frameErrors = satInc s.bus.frameErrors ∧ t.bus.pecErrors = s.bus.pecErrors ∧
        gotEvent s t 153 ∧ t = { s with bus := t.bus, irq := t.irq, supply := t.supply, free := t.free }))

/-- Good frames in RUN. A READ of any object but the host's two claims and the challenge (which their own rows state) brings
STATUS 0, LEN and the object's bytes and changes nothing else; a WRITE that a check
refuses brings its abort and changes nothing else; a SEG_READ of the host's pending bitmap brings TOTAL 24 and what of it
was asked for; the first segment of 0x8200.01 opens a transfer; SEG_ABORT of the open transfer ends it, counted, with
source 156. -/
def Sys2Proof.Claims.RequestFrames : Prop :=
  ∀ (s : State) (x : Xfer) (i0 i1 b : Byte), addressed s x false = true → s.bus.busy = false → s.sys.st = .run →
    (readChecks s .bus (i0.toNat + 256 * i1.toNat) b.toNat false = .done → [i0, i1, b] ≠ [0x00, 0x81, 5] →
      [i0, i1, b] ≠ [0x00, 0x81, 6] → [i0, i1, b] ≠ [0x20, 0xA0, 1] →
      ∃ t, exec (.read x (withPec x [1, i0, i1, b])) s = .next t ∧
        t.bus.resp = [0] ++ leBytes 2 (objectBytes s (i0.toNat + 256 * i1.toNat) b.toNat).length ++
          objectBytes t (i0.toNat + 256 * i1.toNat) b.toNat ∧ t.bus.ack = true ∧ t = { s with bus := t.bus }) ∧
    (∀ (d : Byte) (a : Abort), writeChecks s .bus (i0.toNat + 256 * i1.toNat) b.toNat [d] = a → a ≠ .done →
      ∃ t, exec (.write x (withPec x [2, i0, i1, b, 1, 0, d])) s = .next t ∧ t.bus.resp = [abortCode a, 0, 0] ∧
        t.bus.ack = true ∧ t = { s with bus := t.bus }) ∧
    (∀ (off len : Byte) (errs : WordErrors), s.sys.mainOn = true → 1 ≤ len.toNat → off.toNat ≤ 24 →
      ∃ t, exec (.segRead x (withPec x [3, 0x00, 0x81, 8, off, 0, 0, 0, len, 0]) errs) s = .next t ∧
        t.bus.resp = segResponse 24 (((bitmapBytes (pendingBit s 0)).drop off.toNat).take len.toNat) ∧
        t = { s with bus := t.bus }) ∧
    (∀ data : List Byte, 1 ≤ data.length → data.length ≤ 255 → optionProtected s = false → s.bus.seg = none →
      ∃ t, exec (.segWrite x (withPec x
          ([4, 0x00, 0x82, 1, 0, 0, 0, 0, 0, BitVec.ofNat 8 data.length, 0] ++ data))) s = .next t ∧
        t.bus.seg = some ⟨0x8200, 1, data.length, data⟩ ∧ t.bus.resp = segResponse data.length [] ∧
        t = { s with bus := t.bus }) ∧
    (∀ g, s.bus.seg = some g → g.index = 0x8200 → g.sub = 1 →
      ∃ t, exec (.segAbort x (withPec x [5, 0x00, 0x82, 1])) s = .next t ∧ t.bus.seg = none ∧
        t.bus.abandonedSegs = satInc s.bus.abandonedSegs ∧ t.bus.resp = [0, 0, 0] ∧ gotEvent s t 156 ∧
        t = { s with bus := t.bus, irq := t.irq, free := t.free })

/-- A private read brings the response with its PEC, then 0xFF, and keeps the response; while a request executes it brings
BUSY with LEN 0. A path without a segment for 1 s loses its open transfer, counted, with source 156. -/
def Sys2Proof.Claims.ResponseReads : Prop :=
  ∀ s : State,
    (∀ (x : Xfer) (len : Nat), addressed s x true = true →
      ∃ t, exec (.responseRead x len) s = .next t ∧
        (∀ r, r = (if s.bus.busy then [0xFF, 0, 0] else s.bus.resp) →
          t.bus.out = (r ++ [pecOf x.addr true r] ++ List.replicate len 0xFF).take len) ∧
        t.bus.resp = s.bus.resp ∧ t.bus.ack = true ∧ t = { s with bus := t.bus, supply := t.supply }) ∧
    (∀ (x : Xfer) (len : Nat), addressed s x true = false → ∃ t, exec (.responseRead x len) s = .next t ∧
      t = { s with bus := { s.bus with ack := false } }) ∧
    (∀ (path : Path) (g : OpenSeg), segOf s path = some g → writesImage g = false →
      ∃ t, exec (.segmentTimeout path) s = .next t ∧ segOf t path = none ∧
        t.bus.abandonedSegs = satInc s.bus.abandonedSegs ∧ gotEvent s t 156 ∧
        t = { s with bus := t.bus, irq := t.irq, free := t.free }) ∧
    (∀ path : Path, segOf s path = none → exec (.segmentTimeout path) s = .next s)

/-- Frames that reach no object, and the response (R452 among it). -/
def Obligations.FramesAndResponses : Prop :=
  Claims.FramesDiscarded ∧ Claims.ResponseReads

/-- A write of a register: of a persistent object in SETUP (here the tile heat epoch, 0x6040.01), which sets that shadow
register and no other and leaves the option block dirty, or is out of its range and changes nothing; or of BAR0: ARB, a
queue size while the port is disabled, and nothing while it is enabled. -/
def Sys2Proof.Claims.RegisterWrites : Prop :=
  ∀ s : State,
    (∀ v : U16, busFree s = true → s.sys.st = .setup → optionProtected s = false →
      (50 ≤ v.toNat → v.toNat ≤ 10000 →
        ∃ t, exec (.registerWrite (.object 0x6040 1 (leBytes 2 v.toNat))) s = .next t ∧ answered t .done ∧
          pv t 0x6040 1 = v.toNat ∧ (∀ k, k ≠ okey 0x6040 1 → aget t.shadow k = aget s.shadow k) ∧
          t = { s with shadow := t.shadow, flash := { s.flash with dirty := true, dirtySince := true }, bus := t.bus }) ∧
      ((v.toNat < 50 ∨ 10000 < v.toNat) →
        ∃ t, exec (.registerWrite (.object 0x6040 1 (leBytes 2 v.toNat))) s = .next t ∧ answered t .valueRange ∧
          t = { s with bus := t.bus })) ∧
    (∀ (p : PortId) (v : U32), (s.ports[p]).link = 3 →
      (v.toNat % 256 ≠ 0 → ∃ t, exec (.registerWrite (.bar0 p 0x3C (leBytes 4 v.toNat))) s = .next t ∧
        onlyPort s t p { s.ports[p] with arb := BitVec.ofNat 8 v.toNat }) ∧
      ((s.ports[p]).enable = false → ∃ t, exec (.registerWrite (.bar0 p 0x18 (leBytes 4 v.toNat))) s = .next t ∧
        onlyPort s t p { s.ports[p] with sq0 := { (s.ports[p]).sq0 with size := BitVec.ofNat 16 v.toNat } }) ∧
      ((s.ports[p]).enable = true → exec (.registerWrite (.bar0 p 0x18 (leBytes 4 v.toNat))) s = .next s))

/-- Requests that reach an object or a register. -/
def Obligations.ObjectRequests : Prop :=
  Claims.RequestFrames ∧ Claims.RegisterWrites

/-- The address CCCs, outside HOLD. ENTDAA where the device has no dynamic address, SETDASA at its static address, SETNEWDA
where it has one: each sets the dynamic address, with source 155; RSTDAA takes it away. Where the condition does not hold
the CCC is not acknowledged and changes nothing else. -/
def Sys2Proof.Claims.AddressCommands : Prop :=
  ∀ s : State, busServes s = true → s.sys.st ≠ .hold →
    (∀ a : BitVec 7, s.bus.dynAddr = none → ∀ c ∈ [Instr.entdaa a, .setdasa s.bus.staticAddr a],
      ∃ t, exec c s = .next t ∧ t.bus.dynAddr = some a ∧ t.bus.ack = true ∧ gotEvent s t 155 ∧
        t = { s with bus := t.bus, irq := t.irq, free := t.free }) ∧
    (∀ a old : BitVec 7, s.bus.dynAddr = some old →
      (∃ t, exec (.setnewda a) s = .next t ∧ t.bus.dynAddr = some a ∧ t.bus.ack = true ∧ gotEvent s t 155 ∧
        t = { s with bus := t.bus, irq := t.irq, free := t.free }) ∧
      (∃ t, exec .rstdaa s = .next t ∧ t.bus.dynAddr = none ∧ t.bus.ack = true ∧ gotEvent s t 155 ∧
        t = { s with bus := t.bus, irq := t.irq, free := t.free }) ∧
      (∀ c ∈ [Instr.entdaa a, .setdasa s.bus.staticAddr a], ∃ t, exec c s = .next t ∧
        t = { s with bus := { s.bus with ack := false } })) ∧
    (∀ a : BitVec 7, s.bus.dynAddr = none → ∃ t, exec (.setnewda a) s = .next t ∧
      t = { s with bus := { s.bus with ack := false } })

/-- The CCCs that read: at the dynamic address the device puts its provisioned ID, BCR, DCR 0x00, the longest write and the
longest read on the bus, and nothing else changes; what GETSTATUS, GETMXDS and GETCAPS bring is free (GETMWL's and
GETMRL's layout and BCR are the model's, assumptions 61 and 62). ENEC and DISEC switch in-band interrupts. -/
def Sys2Proof.Claims.ReadingCommands : Prop :=
  ∀ (s : State) (a : BitVec 7), busServes s = true → s.sys.st ≠ .hold → s.bus.dynAddr = some a →
    (∀ c ∈ [(Instr.getpid, provisionedId s), (.getbcr, [bcr]), (.getdcr, [0x00]), (.getmwl, [0x01, 0x0C]),
        (.getmrl, [0x01, 0x08, 0x01])], ∃ t, exec c.1 s = .next t ∧ t.bus.out = c.2 ∧
      t = { s with bus := { s.bus with out := t.bus.out, ack := true } }) ∧
    (∀ c ∈ [Instr.getstatus, .getmxds, .getcaps], ∃ t, exec c s = .next t ∧
      t = { s with bus := { s.bus with out := t.bus.out, ack := true }, free := t.free }) ∧
    (∃ t, exec .disec s = .next t ∧ t = { s with bus := { s.bus with ibiOn := false, ack := true } }) ∧
    (s.bus.ibi = .idle → ∃ t, exec .enec s = .next t ∧ t = { s with bus := { s.bus with ibiOn := true, ack := true } })

/-- The CCCs. -/
def Obligations.BusCommands : Prop :=
  Claims.AddressCommands ∧ Claims.ReadingCommands

/-! ## Security -/

/-- A challenge, outside HOLD and a lockout: 32 bytes in the response, which the device keeps for its session state 1; it
closes an open session. In a lockout it ends with AUTH_FAILED and source 146. What the bytes are is free. -/
def Sys2Proof.Claims.Challenges : Prop :=
  ∀ s : State, busFree s = true → s.sys.st = .run →
    (s.sec.locked = false → ∃ t c, exec .challenge s = .next t ∧ t.bus.resp = [0, 32, 0] ++ c ∧ c.length = 32 ∧
      t.sec = { s.sec with session := 1, challenge := some c, challengeAt := s.sys.aonTime.toNat } ∧
      (s.sec.session = 2 → gotEvent s t 145) ∧ (s.sec.session ≠ 2 → t.irq = s.irq) ∧
      t = { s with sec := t.sec, bus := t.bus, irq := t.irq, free := t.free }) ∧
    (s.sec.locked = true → ∃ t, exec .challenge s = .next t ∧ answered t .authFailed ∧ gotEvent s t 146 ∧
      t = { s with bus := t.bus, irq := t.irq, free := t.free })

/-- The right response within 10 s opens the session, with source 144. Any other ends with AUTH_FAILED, source 146 and no
session; it is counted, and the third failure in a row locks challenges out until the lockout's end. -/
def Sys2Proof.Claims.Responses : Prop :=
  ∀ s : State,
    (∀ mac : List Byte, busFree s = true → s.sys.st = .run → mac.length = 32 →
      (∀ c, s.sec.session = 1 → s.sec.challenge = some c → s.sys.aonTime.toNat ≤ 10000000 + s.sec.challengeAt →
        mac = hmac s.sec.keys.session (c ++ leBytes 16 s.ident.serial.toNat) → ∃ t, exec (.response mac) s = .next t ∧
          answered t .done ∧ t.sec = { s.sec with session := 2, challenge := none, failures := 0 } ∧ gotEvent s t 144 ∧
          t = { s with sec := t.sec, bus := t.bus, irq := t.irq, free := t.free }) ∧
      (responseGood s mac = false → ∃ t, exec (.response mac) s = .next t ∧ answered t .authFailed ∧
        t.sec = { s.sec with
          session := 0, challenge := none, failures := s.sec.failures + 1, authFailures := satInc s.sec.authFailures,
          locked := s.sec.locked || decide (3 ≤ s.sec.failures + 1) } ∧ gotEvent s t 146 ∧
        t = { s with sec := t.sec, bus := t.bus, irq := t.irq, free := t.free })) ∧
    (∃ t, exec .lockoutEnd s = .next t ∧ t.sec.locked = false ∧ (s.sec.locked = true → t.sec.failures = 0) ∧
      (s.sec.locked = false → t = s) ∧
      t = { s with sec := { s.sec with locked := t.sec.locked, failures := t.sec.failures } })

/-- The end of a session, by 0xA020.03 or by its idle time: session state 0, with source 145 where it was open. -/
def Sys2Proof.Claims.SessionEnds : Prop :=
  ∀ s : State,
    (busFree s = true → s.sys.st = .run → ∃ t, exec .sessionClose s = .next t ∧ answered t .done ∧
      t.sec = { s.sec with session := 0, challenge := none } ∧ (s.sec.session = 2 → gotEvent s t 145) ∧
      (s.sec.session ≠ 2 → t.irq = s.irq) ∧ t = { s with sec := t.sec, bus := t.bus, irq := t.irq, free := t.free }) ∧
    (s.sec.session = 2 → ∃ t, exec .sessionTimeout s = .next t ∧
      t.sec = { s.sec with session := 0, challenge := none } ∧ gotEvent s t 145 ∧
      t = { s with sec := t.sec, bus := t.bus, irq := t.irq, free := t.free }) ∧
    (s.sec.session ≠ 2 → exec .sessionTimeout s = .next s)

/-- Sessions: challenge, response, end and lockout. -/
def Obligations.SessionSteps : Prop :=
  Claims.Challenges ∧ Claims.Responses ∧ Claims.SessionEnds

/-- A binding token in SETUP: the recorded binding's token gives binding state 1 and its KEY_ID, another one 2 and no
KEY_ID, and the first one of all is recorded; a change of state has source 147. The ninth write ends with AUTH_FAILED. -/
def Sys2Proof.Claims.BindingTokens : Prop :=
  ∀ (s : State) (token : List Byte), busFree s = true → s.sys.st = .setup → token.length = 32 →
    (s.sec.tokenWrites < 8 → ∃ t, exec (.bindingToken token) s = .next t ∧ answered t .done ∧
      t.sec.tokenWrites = s.sec.tokenWrites + 1 ∧ t.sec.keys.secret = s.sec.keys.secret ∧
      (s.sec.keys.verifier = some (verifierOf s s.sec.keys.secret token) →
        t.sec.binding = 1 ∧ t.sec.keyId = keyIdOf s s.sec.keys.secret token ∧ t.sec.keys = s.sec.keys ∧
          t.flash = s.flash) ∧
      (∀ v, s.sec.keys.verifier = some v → v ≠ verifierOf s s.sec.keys.secret token →
        t.sec.binding = 2 ∧ t.sec.keyId = 0 ∧ t.sec.keys = s.sec.keys ∧ t.flash = s.flash) ∧
      (s.sec.keys.verifier = none → t.sec.binding = 1 ∧ t.sec.keyId = keyIdOf s s.sec.keys.secret token ∧
        t.sec.keys.verifier = some (verifierOf s s.sec.keys.secret token) ∧
        t.sec.keys.session = sessionKeyOf token ∧ queued s t (.keys false) []) ∧
      (s.sec.binding ≠ t.sec.binding → gotEvent s t 147) ∧
      t.light = s.light ∧ t.nand = s.nand ∧ t.tiers = s.tiers ∧ t.neg.gens = s.neg.gens ∧ t.sys = s.sys) ∧
    (8 ≤ s.sec.tokenWrites → ∃ t, exec (.bindingToken token) s = .next t ∧ answered t .authFailed ∧ gotEvent s t 146 ∧
      t = { s with bus := t.bus, irq := t.irq, free := t.free })

/-- ACTIVATE needs an open session and a verified image: then the image is selected and a commit asked for. SANITIZE in
SETUP needs an open session and its code: then it is under way, and the key store's wipe is queued. Without them nothing
but the response changes. -/
def Sys2Proof.Claims.ActivateAndSanitize : Prop :=
  ∀ s : State, busFree s = true →
    (s.sys.st = .run →
      (s.sec.session ≠ 2 → ∃ t, exec .activateImage s = .next t ∧ answered t .sessionRequired ∧
        t = { s with bus := t.bus }) ∧
      (s.sec.session = 2 → s.sec.update ≠ 3 →
        ∃ t, exec .activateImage s = .next t ∧ answered t .valueRange ∧ t = { s with bus := t.bus }) ∧
      (s.sec.session = 2 → s.sec.update = 3 → ∃ t, exec .activateImage s = .next t ∧ answered t .done ∧
        t.flash.fwSelect = s.sec.readyB ∧ t.flash.pages = s.flash.pages ∧
        (s.flash.commitRuns = true →
          t = { s with flash := { s.flash with fwSelect := s.sec.readyB, commitHeld := true },
                                                  bus := t.bus }) ∧
        t = { s with flash := t.flash, irq := t.irq, bus := t.bus, sec := t.sec, free := t.free })) ∧
    (s.sys.st = .setup →
      (∀ code : U32, s.sec.session ≠ 2 → ∃ t, exec (.sanitize code) s = .next t ∧ answered t .sessionRequired ∧
        t = { s with bus := t.bus }) ∧
      (∀ code : U32, s.sec.session = 2 → code ≠ 0x53414E49 → ∃ t, exec (.sanitize code) s = .next t ∧
        answered t .valueRange ∧ t = { s with bus := t.bus }) ∧
      (s.sec.session = 2 → s.sec.sanitizeState ≠ 1 → ∃ t, exec (.sanitize 0x53414E49) s = .next t ∧ answered t .done ∧
        queued s t (.keys true) [] ∧ (s.supply.aonLow = true → t.sec = { s.sec with sanitizeState := 1 }) ∧
        t = { s with flash := t.flash, irq := t.irq, bus := t.bus, sec := t.sec, free := t.free }))

/-- The binding token, the activation of an image, sanitize. -/
def Obligations.BindingAndImages : Prop :=
  Claims.BindingTokens ∧ Claims.ActivateAndSanitize
end

