-- ==== Sys2Proof/Laws/Assoc.lean ====
section
/-! SUPPORT. Finite maps: every operation on one keeps its keys rising, a read after a write gives what was written, and
a write leaves every other key as it was. -/

namespace Sys2Proof.Machine

/-- A first key below every key of a rising map. -/
theorem rising_cons {α : Type} (k : Nat) (v : α) (m : Assoc α) :
    rising ((k, v) :: m) = true ↔ (∀ p ∈ m, k < p.1) ∧ rising m = true := by
  induction m generalizing k v with
  | nil => simp [rising]
  | cons p r ih =>
    obtain ⟨k', v'⟩ := p
    simp only [rising, Bool.and_eq_true, decide_eq_true_eq, List.forall_mem_cons]
    constructor
    · rintro ⟨h, hr⟩
      exact ⟨⟨h, fun p hp => Nat.lt_trans h (((ih k' v').mp hr).1 p hp)⟩, hr⟩
    · rintro ⟨⟨h, _⟩, hr⟩
      exact ⟨h, hr⟩

/-- What a write puts among the keys. -/
theorem mem_aput {α : Type} (m : Assoc α) (k : Nat) (v : α) (p : Nat × α) (h : p ∈ aput m k v) : p = (k, v) ∨ p ∈ m := by
  induction m with
  | nil => simpa [aput] using h
  | cons q r ih =>
    obtain ⟨k', v'⟩ := q
    simp only [aput] at h
    split at h
    · rcases List.mem_cons.mp h with h | h
      · exact .inl h
      · exact .inr h
    · split at h
      · rcases List.mem_cons.mp h with h | h
        · exact .inl h
        · exact .inr (List.mem_cons_of_mem _ h)
      · rcases List.mem_cons.mp h with h | h
        · exact .inr (h ▸ List.mem_cons_self ..)
        · rcases ih h with h | h
          · exact .inl h
          · exact .inr (List.mem_cons_of_mem _ h)

@[simp] theorem rising_aput {α : Type} (m : Assoc α) (k : Nat) (v : α) (h : rising m = true) : rising (aput m k v) = true := by
  induction m with
  | nil => simp [aput, rising]
  | cons q r ih =>
    obtain ⟨k', v'⟩ := q
    have hr := (rising_cons k' v' r).mp h
    simp only [aput]
    split
    · rename_i hk
      exact (rising_cons _ _ _).mpr ⟨by
        intro p hp
        rcases List.mem_cons.mp hp with hp | hp
        · rw [hp]; exact hk
        · exact Nat.lt_trans hk (hr.1 p hp), h⟩
    · split
      · rename_i hk
        subst hk
        exact (rising_cons _ _ _).mpr hr
      · rename_i h1 h2
        refine (rising_cons _ _ _).mpr ⟨?_, ih hr.2⟩
        intro p hp
        rcases mem_aput r k v p hp with hp | hp
        · rw [hp]; show k' < k; omega
        · exact hr.1 p hp

theorem mem_adel {α : Type} (m : Assoc α) (k : Nat) (p : Nat × α) (h : p ∈ adel m k) : p ∈ m := by
  induction m with
  | nil => simp [adel] at h
  | cons q r ih =>
    obtain ⟨k', v'⟩ := q
    simp only [adel] at h
    split at h
    · exact List.mem_cons_of_mem _ (ih h)
    · rcases List.mem_cons.mp h with h | h
      · exact h ▸ List.mem_cons_self ..
      · exact List.mem_cons_of_mem _ (ih h)

@[simp] theorem rising_adel {α : Type} (m : Assoc α) (k : Nat) (h : rising m = true) : rising (adel m k) = true := by
  induction m with
  | nil => rfl
  | cons q r ih =>
    obtain ⟨k', v'⟩ := q
    have hr := (rising_cons k' v' r).mp h
    simp only [adel]
    split
    · exact ih hr.2
    · exact (rising_cons _ _ _).mpr ⟨fun p hp => hr.1 p (mem_adel r k p hp), ih hr.2⟩

@[simp] theorem rising_filter {α : Type} (m : Assoc α) (f : Nat × α → Bool) (h : rising m = true) :
    rising (m.filter f) = true := by
  induction m with
  | nil => rfl
  | cons q r ih =>
    obtain ⟨k', v'⟩ := q
    have hr := (rising_cons k' v' r).mp h
    simp only [List.filter_cons]
    split
    · exact (rising_cons _ _ _).mpr ⟨fun p hp => hr.1 p (List.mem_filter.mp hp).1, ih hr.2⟩
    · exact ih hr.2

@[simp] theorem rising_map {α β : Type} (m : Assoc α) (f : Nat × α → β) (h : rising m = true) :
    rising (m.map fun p => (p.1, f p)) = true := by
  induction m with
  | nil => rfl
  | cons q r ih =>
    obtain ⟨k', v'⟩ := q
    have hr := (rising_cons k' v' r).mp h
    refine (rising_cons _ _ _).mpr ⟨?_, ih hr.2⟩
    intro p hp
    obtain ⟨q, hq, rfl⟩ := List.mem_map.mp hp
    exact hr.1 q hq

@[simp] theorem aget_aput_same {α : Type} (m : Assoc α) (k : Nat) (v : α) : aget (aput m k v) k = some v := by
  induction m with
  | nil => simp [aput, aget]
  | cons q r ih =>
    obtain ⟨k', v'⟩ := q
    simp only [aput]
    split
    · simp [aget]
    · split
      · simp [aget]
      · rename_i h; simp [aget, h, ih]

theorem aget_aput_other {α : Type} (m : Assoc α) (k j : Nat) (v : α) (h : j ≠ k) : aget (aput m k v) j = aget m j := by
  induction m with
  | nil => simp [aput, aget, h]
  | cons q r ih =>
    obtain ⟨k', v'⟩ := q
    simp only [aput]
    split
    · simp [aget, h]
    · split
      · rename_i hk; subst hk; simp [aget, h]
      · simp [aget, ih]

@[simp] theorem aget_adel_same {α : Type} (m : Assoc α) (k : Nat) : aget (adel m k) k = none := by
  induction m with
  | nil => rfl
  | cons q r ih =>
    obtain ⟨k', v'⟩ := q
    simp only [adel]
    split
    · exact ih
    · rename_i h; simp [aget, h, ih]

theorem aget_adel_other {α : Type} (m : Assoc α) (k j : Nat) (h : j ≠ k) : aget (adel m k) j = aget m j := by
  induction m with
  | nil => rfl
  | cons q r ih =>
    obtain ⟨k', v'⟩ := q
    simp only [adel]
    split
    · rename_i hk; subst hk; simp [aget, h, ih]
    · simp [aget, ih]

@[simp] theorem famAll_get {α : Type} (n : Nat) (x : α) (i : Nat) (h : i < n) : (famAll n x)[i] = x := by
  simp [famAll]

end Sys2Proof.Machine
end

