-- ==== Sys2Proof/Laws/State.lean ====
section
/-! SUPPORT. The fields of the state under the update operations, and under a fold of operations. -/

namespace Sys2Proof.Machine

@[simp] theorem onSys_sys (f : Sys → Sys) (s : State) : (onSys f s).sys = f s.sys := rfl
@[simp] theorem onSupply_supply (f : Supply → Supply) (s : State) : (onSupply f s).supply = f s.supply := rfl
@[simp] theorem onFlash_flash (f : Flash → Flash) (s : State) : (onFlash f s).flash = f s.flash := rfl
@[simp] theorem onCell_cell (f : Cell → Cell) (s : State) : (onCell f s).cell = f s.cell := rfl
@[simp] theorem onLight_light (f : Light → Light) (s : State) : (onLight f s).light = f s.light := rfl
@[simp] theorem onNand_nand (f : Nand → Nand) (s : State) : (onNand f s).nand = f s.nand := rfl
@[simp] theorem onNeg_neg (f : Neg → Neg) (s : State) : (onNeg f s).neg = f s.neg := rfl
@[simp] theorem onTiers_tiers (f : Tiers → Tiers) (s : State) : (onTiers f s).tiers = f s.tiers := rfl
@[simp] theorem onSec_sec (f : Sec → Sec) (s : State) : (onSec f s).sec = f s.sec := rfl
@[simp] theorem onBus_bus (f : Bus → Bus) (s : State) : (onBus f s).bus = f s.bus := rfl
@[simp] theorem onPort_ports (p : PortId) (f : TilePort → TilePort) (s : State) : (onPort p f s).ports = upd s.ports p f := rfl
@[simp] theorem onRail_rails (n : SlotId) (f : RailSlot → RailSlot) (s : State) : (onRail n f s).rails = upd s.rails n f := rfl
@[simp] theorem onTgt_tgt (t : TargetId) (f : Target → Target) (s : State) : (onTgt t f s).irq.tgt = upd s.irq.tgt t f := rfl
@[simp] theorem onSrc_src (n : SourceId) (f : Source → Source) (s : State) : (onSrc n f s).irq.src = upd s.irq.src n f := rfl
@[simp] theorem onRank_ranks (r : Fin 16) (f : RankModel → RankModel) (s : State) :
    (onRank r f s).light.ranks = upd s.light.ranks r f := rfl
@[simp] theorem onSub_subs (k : Fin 8) (f : SubModel → SubModel) (s : State) :
    (onSub k f s).light.subs = upd s.light.subs k f := rfl
@[simp] theorem onChan_chans (c : ChanId) (f : Channel → Channel) (s : State) :
    (onChan c f s).nand.chans = upd s.nand.chans c f := rfl
@[simp] theorem onRun_run (f : SeqRun → SeqRun) (s : State) : (onRun f s).seq.run = s.seq.run.map f := rfl
@[simp] theorem onTunnel_ports (p : PortId) (f : Tunnel → Tunnel) (s : State) :
    (onTunnel p f s).ports = upd s.ports p fun t => { t with tunnel := f t.tunnel } := rfl
@[simp] theorem drew_free (s : State) : (drew s).free = s.free + 1 := rfl

/-- A member of a family after one member was changed. -/
theorem upd_get {α : Type} {n : Nat} (v : Fam n α) (i j : Fin n) (f : α → α) :
    (upd v i f)[j] = if i = j then f v[i] else v[j] := by
  simp only [upd, Fin.getElem_fin, Vector.getElem_set, Fin.ext_iff]

@[simp] theorem upd_same {α : Type} {n : Nat} (v : Fam n α) (i : Fin n) (f : α → α) : (upd v i f)[i] = f v[i] := by
  simp [upd]

@[simp] theorem upd_other {α : Type} {n : Nat} (v : Fam n α) (i j : Fin n) (f : α → α) (h : i ≠ j) :
    (upd v i f)[j] = v[j] := by
  rw [upd_get]; simp [h]

@[simp] theorem fold_ident {α : Type} (g : State → α → State) (h : ∀ s a, (g s a).ident = s.ident) (l : List α)
    (s : State) : (l.foldl g s).ident = s.ident := by
  induction l generalizing s with
  | nil => rfl
  | cons a l ih => simp [ih, h]
@[simp] theorem fold_supply {α : Type} (g : State → α → State) (h : ∀ s a, (g s a).supply = s.supply) (l : List α)
    (s : State) : (l.foldl g s).supply = s.supply := by
  induction l generalizing s with
  | nil => rfl
  | cons a l ih => simp [ih, h]
@[simp] theorem fold_sys {α : Type} (g : State → α → State) (h : ∀ s a, (g s a).sys = s.sys) (l : List α)
    (s : State) : (l.foldl g s).sys = s.sys := by
  induction l generalizing s with
  | nil => rfl
  | cons a l ih => simp [ih, h]
@[simp] theorem fold_rails {α : Type} (g : State → α → State) (h : ∀ s a, (g s a).rails = s.rails) (l : List α)
    (s : State) : (l.foldl g s).rails = s.rails := by
  induction l generalizing s with
  | nil => rfl
  | cons a l ih => simp [ih, h]
@[simp] theorem fold_seq {α : Type} (g : State → α → State) (h : ∀ s a, (g s a).seq = s.seq) (l : List α)
    (s : State) : (l.foldl g s).seq = s.seq := by
  induction l generalizing s with
  | nil => rfl
  | cons a l ih => simp [ih, h]
@[simp] theorem fold_log {α : Type} (g : State → α → State) (h : ∀ s a, (g s a).log = s.log) (l : List α)
    (s : State) : (l.foldl g s).log = s.log := by
  induction l generalizing s with
  | nil => rfl
  | cons a l ih => simp [ih, h]
@[simp] theorem fold_cell {α : Type} (g : State → α → State) (h : ∀ s a, (g s a).cell = s.cell) (l : List α)
    (s : State) : (l.foldl g s).cell = s.cell := by
  induction l generalizing s with
  | nil => rfl
  | cons a l ih => simp [ih, h]
@[simp] theorem fold_flash {α : Type} (g : State → α → State) (h : ∀ s a, (g s a).flash = s.flash) (l : List α)
    (s : State) : (l.foldl g s).flash = s.flash := by
  induction l generalizing s with
  | nil => rfl
  | cons a l ih => simp [ih, h]
@[simp] theorem fold_shadow {α : Type} (g : State → α → State) (h : ∀ s a, (g s a).shadow = s.shadow) (l : List α)
    (s : State) : (l.foldl g s).shadow = s.shadow := by
  induction l generalizing s with
  | nil => rfl
  | cons a l ih => simp [ih, h]
@[simp] theorem fold_light {α : Type} (g : State → α → State) (h : ∀ s a, (g s a).light = s.light) (l : List α)
    (s : State) : (l.foldl g s).light = s.light := by
  induction l generalizing s with
  | nil => rfl
  | cons a l ih => simp [ih, h]
@[simp] theorem fold_neg {α : Type} (g : State → α → State) (h : ∀ s a, (g s a).neg = s.neg) (l : List α)
    (s : State) : (l.foldl g s).neg = s.neg := by
  induction l generalizing s with
  | nil => rfl
  | cons a l ih => simp [ih, h]
@[simp] theorem fold_nand {α : Type} (g : State → α → State) (h : ∀ s a, (g s a).nand = s.nand) (l : List α)
    (s : State) : (l.foldl g s).nand = s.nand := by
  induction l generalizing s with
  | nil => rfl
  | cons a l ih => simp [ih, h]
@[simp] theorem fold_tiers {α : Type} (g : State → α → State) (h : ∀ s a, (g s a).tiers = s.tiers) (l : List α)
    (s : State) : (l.foldl g s).tiers = s.tiers := by
  induction l generalizing s with
  | nil => rfl
  | cons a l ih => simp [ih, h]
@[simp] theorem fold_ports {α : Type} (g : State → α → State) (h : ∀ s a, (g s a).ports = s.ports) (l : List α)
    (s : State) : (l.foldl g s).ports = s.ports := by
  induction l generalizing s with
  | nil => rfl
  | cons a l ih => simp [ih, h]
@[simp] theorem fold_irq {α : Type} (g : State → α → State) (h : ∀ s a, (g s a).irq = s.irq) (l : List α)
    (s : State) : (l.foldl g s).irq = s.irq := by
  induction l generalizing s with
  | nil => rfl
  | cons a l ih => simp [ih, h]
@[simp] theorem fold_bus {α : Type} (g : State → α → State) (h : ∀ s a, (g s a).bus = s.bus) (l : List α)
    (s : State) : (l.foldl g s).bus = s.bus := by
  induction l generalizing s with
  | nil => rfl
  | cons a l ih => simp [ih, h]
@[simp] theorem fold_sec {α : Type} (g : State → α → State) (h : ∀ s a, (g s a).sec = s.sec) (l : List α)
    (s : State) : (l.foldl g s).sec = s.sec := by
  induction l generalizing s with
  | nil => rfl
  | cons a l ih => simp [ih, h]
@[simp] theorem fold_free {α : Type} (g : State → α → State) (h : ∀ s a, (g s a).free = s.free) (l : List α)
    (s : State) : (l.foldl g s).free = s.free := by
  induction l generalizing s with
  | nil => rfl
  | cons a l ih => simp [ih, h]
@[simp] theorem fold_pending {α : Type} (g : State → α → State) (h : ∀ s a, (g s a).pending = s.pending) (l : List α)
    (s : State) : (l.foldl g s).pending = s.pending := by
  induction l generalizing s with
  | nil => rfl
  | cons a l ih => simp [ih, h]
@[simp] theorem ite_ident (c : Prop) [Decidable c] (a b : State) :
    (if c then a else b).ident = if c then a.ident else b.ident := apply_ite State.ident c a b
@[simp] theorem ite_supply (c : Prop) [Decidable c] (a b : State) :
    (if c then a else b).supply = if c then a.supply else b.supply := apply_ite State.supply c a b
@[simp] theorem ite_sys (c : Prop) [Decidable c] (a b : State) :
    (if c then a else b).sys = if c then a.sys else b.sys := apply_ite State.sys c a b
@[simp] theorem ite_rails (c : Prop) [Decidable c] (a b : State) :
    (if c then a else b).rails = if c then a.rails else b.rails := apply_ite State.rails c a b
@[simp] theorem ite_seq (c : Prop) [Decidable c] (a b : State) :
    (if c then a else b).seq = if c then a.seq else b.seq := apply_ite State.seq c a b
@[simp] theorem ite_log (c : Prop) [Decidable c] (a b : State) :
    (if c then a else b).log = if c then a.log else b.log := apply_ite State.log c a b
@[simp] theorem ite_cell (c : Prop) [Decidable c] (a b : State) :
    (if c then a else b).cell = if c then a.cell else b.cell := apply_ite State.cell c a b
@[simp] theorem ite_flash (c : Prop) [Decidable c] (a b : State) :
    (if c then a else b).flash = if c then a.flash else b.flash := apply_ite State.flash c a b
@[simp] theorem ite_shadow (c : Prop) [Decidable c] (a b : State) :
    (if c then a else b).shadow = if c then a.shadow else b.shadow := apply_ite State.shadow c a b
@[simp] theorem ite_light (c : Prop) [Decidable c] (a b : State) :
    (if c then a else b).light = if c then a.light else b.light := apply_ite State.light c a b
@[simp] theorem ite_neg (c : Prop) [Decidable c] (a b : State) :
    (if c then a else b).neg = if c then a.neg else b.neg := apply_ite State.neg c a b
@[simp] theorem ite_nand (c : Prop) [Decidable c] (a b : State) :
    (if c then a else b).nand = if c then a.nand else b.nand := apply_ite State.nand c a b
@[simp] theorem ite_tiers (c : Prop) [Decidable c] (a b : State) :
    (if c then a else b).tiers = if c then a.tiers else b.tiers := apply_ite State.tiers c a b
@[simp] theorem ite_ports (c : Prop) [Decidable c] (a b : State) :
    (if c then a else b).ports = if c then a.ports else b.ports := apply_ite State.ports c a b
@[simp] theorem ite_irq (c : Prop) [Decidable c] (a b : State) :
    (if c then a else b).irq = if c then a.irq else b.irq := apply_ite State.irq c a b
@[simp] theorem ite_bus (c : Prop) [Decidable c] (a b : State) :
    (if c then a else b).bus = if c then a.bus else b.bus := apply_ite State.bus c a b
@[simp] theorem ite_sec (c : Prop) [Decidable c] (a b : State) :
    (if c then a else b).sec = if c then a.sec else b.sec := apply_ite State.sec c a b
@[simp] theorem ite_free (c : Prop) [Decidable c] (a b : State) :
    (if c then a else b).free = if c then a.free else b.free := apply_ite State.free c a b
@[simp] theorem ite_pending (c : Prop) [Decidable c] (a b : State) :
    (if c then a else b).pending = if c then a.pending else b.pending := apply_ite State.pending c a b
@[simp] theorem fold2_ident {α β : Type} (g : β × State → α → β × State) (h : ∀ p a, (g p a).2.ident = p.2.ident) (l : List α)
    (p : β × State) : (l.foldl g p).2.ident = p.2.ident := by
  induction l generalizing p with
  | nil => rfl
  | cons a l ih => simp [ih, h]
@[simp] theorem fold2_supply {α β : Type} (g : β × State → α → β × State) (h : ∀ p a, (g p a).2.supply = p.2.supply) (l : List α)
    (p : β × State) : (l.foldl g p).2.supply = p.2.supply := by
  induction l generalizing p with
  | nil => rfl
  | cons a l ih => simp [ih, h]
@[simp] theorem fold2_sys {α β : Type} (g : β × State → α → β × State) (h : ∀ p a, (g p a).2.sys = p.2.sys) (l : List α)
    (p : β × State) : (l.foldl g p).2.sys = p.2.sys := by
  induction l generalizing p with
  | nil => rfl
  | cons a l ih => simp [ih, h]
@[simp] theorem fold2_rails {α β : Type} (g : β × State → α → β × State) (h : ∀ p a, (g p a).2.rails = p.2.rails) (l : List α)
    (p : β × State) : (l.foldl g p).2.rails = p.2.rails := by
  induction l generalizing p with
  | nil => rfl
  | cons a l ih => simp [ih, h]
@[simp] theorem fold2_seq {α β : Type} (g : β × State → α → β × State) (h : ∀ p a, (g p a).2.seq = p.2.seq) (l : List α)
    (p : β × State) : (l.foldl g p).2.seq = p.2.seq := by
  induction l generalizing p with
  | nil => rfl
  | cons a l ih => simp [ih, h]
@[simp] theorem fold2_log {α β : Type} (g : β × State → α → β × State) (h : ∀ p a, (g p a).2.log = p.2.log) (l : List α)
    (p : β × State) : (l.foldl g p).2.log = p.2.log := by
  induction l generalizing p with
  | nil => rfl
  | cons a l ih => simp [ih, h]
@[simp] theorem fold2_cell {α β : Type} (g : β × State → α → β × State) (h : ∀ p a, (g p a).2.cell = p.2.cell) (l : List α)
    (p : β × State) : (l.foldl g p).2.cell = p.2.cell := by
  induction l generalizing p with
  | nil => rfl
  | cons a l ih => simp [ih, h]
@[simp] theorem fold2_flash {α β : Type} (g : β × State → α → β × State) (h : ∀ p a, (g p a).2.flash = p.2.flash) (l : List α)
    (p : β × State) : (l.foldl g p).2.flash = p.2.flash := by
  induction l generalizing p with
  | nil => rfl
  | cons a l ih => simp [ih, h]
@[simp] theorem fold2_shadow {α β : Type} (g : β × State → α → β × State) (h : ∀ p a, (g p a).2.shadow = p.2.shadow) (l : List α)
    (p : β × State) : (l.foldl g p).2.shadow = p.2.shadow := by
  induction l generalizing p with
  | nil => rfl
  | cons a l ih => simp [ih, h]
@[simp] theorem fold2_light {α β : Type} (g : β × State → α → β × State) (h : ∀ p a, (g p a).2.light = p.2.light) (l : List α)
    (p : β × State) : (l.foldl g p).2.light = p.2.light := by
  induction l generalizing p with
  | nil => rfl
  | cons a l ih => simp [ih, h]
@[simp] theorem fold2_neg {α β : Type} (g : β × State → α → β × State) (h : ∀ p a, (g p a).2.neg = p.2.neg) (l : List α)
    (p : β × State) : (l.foldl g p).2.neg = p.2.neg := by
  induction l generalizing p with
  | nil => rfl
  | cons a l ih => simp [ih, h]
@[simp] theorem fold2_nand {α β : Type} (g : β × State → α → β × State) (h : ∀ p a, (g p a).2.nand = p.2.nand) (l : List α)
    (p : β × State) : (l.foldl g p).2.nand = p.2.nand := by
  induction l generalizing p with
  | nil => rfl
  | cons a l ih => simp [ih, h]
@[simp] theorem fold2_tiers {α β : Type} (g : β × State → α → β × State) (h : ∀ p a, (g p a).2.tiers = p.2.tiers) (l : List α)
    (p : β × State) : (l.foldl g p).2.tiers = p.2.tiers := by
  induction l generalizing p with
  | nil => rfl
  | cons a l ih => simp [ih, h]
@[simp] theorem fold2_ports {α β : Type} (g : β × State → α → β × State) (h : ∀ p a, (g p a).2.ports = p.2.ports) (l : List α)
    (p : β × State) : (l.foldl g p).2.ports = p.2.ports := by
  induction l generalizing p with
  | nil => rfl
  | cons a l ih => simp [ih, h]
@[simp] theorem fold2_irq {α β : Type} (g : β × State → α → β × State) (h : ∀ p a, (g p a).2.irq = p.2.irq) (l : List α)
    (p : β × State) : (l.foldl g p).2.irq = p.2.irq := by
  induction l generalizing p with
  | nil => rfl
  | cons a l ih => simp [ih, h]
@[simp] theorem fold2_bus {α β : Type} (g : β × State → α → β × State) (h : ∀ p a, (g p a).2.bus = p.2.bus) (l : List α)
    (p : β × State) : (l.foldl g p).2.bus = p.2.bus := by
  induction l generalizing p with
  | nil => rfl
  | cons a l ih => simp [ih, h]
@[simp] theorem fold2_sec {α β : Type} (g : β × State → α → β × State) (h : ∀ p a, (g p a).2.sec = p.2.sec) (l : List α)
    (p : β × State) : (l.foldl g p).2.sec = p.2.sec := by
  induction l generalizing p with
  | nil => rfl
  | cons a l ih => simp [ih, h]
@[simp] theorem fold2_free {α β : Type} (g : β × State → α → β × State) (h : ∀ p a, (g p a).2.free = p.2.free) (l : List α)
    (p : β × State) : (l.foldl g p).2.free = p.2.free := by
  induction l generalizing p with
  | nil => rfl
  | cons a l ih => simp [ih, h]
@[simp] theorem fold2_pending {α β : Type} (g : β × State → α → β × State) (h : ∀ p a, (g p a).2.pending = p.2.pending) (l : List α)
    (p : β × State) : (l.foldl g p).2.pending = p.2.pending := by
  induction l generalizing p with
  | nil => rfl
  | cons a l ih => simp [ih, h]
@[simp] theorem ite_second {α : Type} (c : Prop) [Decidable c] (a b : α × State) :
    (if c then a else b).2 = if c then a.2 else b.2 := apply_ite Prod.snd c a b

end Sys2Proof.Machine
end

