-- ==== Sys2Proof/Laws/KeepsOps.lean ====
section
/-! SUPPORT. What each operation of Machine/Operands, Ops leaves as it was: one lemma an operation, for `simp`. -/

set_option linter.unusedSimpArgs false
set_option linter.unusedVariables false
set_option linter.unusedTactic false
set_option linter.unreachableTactic false

namespace Sys2Proof.Machine

@[simp] theorem pset_keeps (k : Nat) (v : Nat) (s : State) : (pset k v s).ident = s.ident ∧ (pset k v s).supply =
    s.supply ∧ (pset k v s).sys = s.sys ∧ (pset k v s).rails = s.rails ∧ (pset k v s).seq = s.seq ∧ (pset k v s).log
    = s.log ∧ (pset k v s).cell = s.cell ∧ (pset k v s).flash = s.flash ∧ (pset k v s).light = s.light ∧ (pset k v
    s).neg = s.neg ∧ (pset k v s).nand = s.nand ∧ (pset k v s).tiers = s.tiers ∧ (pset k v s).ports = s.ports ∧
    (pset k v s).irq = s.irq ∧ (pset k v s).bus = s.bus ∧ (pset k v s).sec = s.sec ∧ (pset k v s).free = s.free ∧
    (pset k v s).pending = s.pending := by
  unfold pset
  simp

@[simp] theorem drew_keeps (s : State) : (drew s).ident = s.ident ∧ (drew s).supply = s.supply ∧ (drew s).sys =
    s.sys ∧ (drew s).rails = s.rails ∧ (drew s).seq = s.seq ∧ (drew s).log = s.log ∧ (drew s).cell = s.cell ∧ (drew
    s).flash = s.flash ∧ (drew s).shadow = s.shadow ∧ (drew s).light = s.light ∧ (drew s).neg = s.neg ∧ (drew
    s).nand = s.nand ∧ (drew s).tiers = s.tiers ∧ (drew s).ports = s.ports ∧ (drew s).irq = s.irq ∧ (drew s).bus =
    s.bus ∧ (drew s).sec = s.sec ∧ (drew s).pending = s.pending := by
  unfold drew
  simp

@[simp] theorem onTgt_keeps (t : TargetId) (f : Target → Target) (s : State) : (onTgt t f s).ident = s.ident ∧
    (onTgt t f s).supply = s.supply ∧ (onTgt t f s).sys = s.sys ∧ (onTgt t f s).rails = s.rails ∧ (onTgt t f s).seq
    = s.seq ∧ (onTgt t f s).log = s.log ∧ (onTgt t f s).cell = s.cell ∧ (onTgt t f s).flash = s.flash ∧ (onTgt t f
    s).shadow = s.shadow ∧ (onTgt t f s).light = s.light ∧ (onTgt t f s).neg = s.neg ∧ (onTgt t f s).nand = s.nand ∧
    (onTgt t f s).tiers = s.tiers ∧ (onTgt t f s).ports = s.ports ∧ (onTgt t f s).bus = s.bus ∧ (onTgt t f s).sec =
    s.sec ∧ (onTgt t f s).free = s.free ∧ (onTgt t f s).pending = s.pending := by
  unfold onTgt
  simp

@[simp] theorem onSrc_keeps (n : SourceId) (f : Source → Source) (s : State) : (onSrc n f s).ident = s.ident ∧
    (onSrc n f s).supply = s.supply ∧ (onSrc n f s).sys = s.sys ∧ (onSrc n f s).rails = s.rails ∧ (onSrc n f s).seq
    = s.seq ∧ (onSrc n f s).log = s.log ∧ (onSrc n f s).cell = s.cell ∧ (onSrc n f s).flash = s.flash ∧ (onSrc n f
    s).shadow = s.shadow ∧ (onSrc n f s).light = s.light ∧ (onSrc n f s).neg = s.neg ∧ (onSrc n f s).nand = s.nand ∧
    (onSrc n f s).tiers = s.tiers ∧ (onSrc n f s).ports = s.ports ∧ (onSrc n f s).bus = s.bus ∧ (onSrc n f s).sec =
    s.sec ∧ (onSrc n f s).free = s.free ∧ (onSrc n f s).pending = s.pending := by
  unfold onSrc
  simp

@[simp] theorem onPort_keeps (p : PortId) (f : TilePort → TilePort) (s : State) : (onPort p f s).ident = s.ident ∧
    (onPort p f s).supply = s.supply ∧ (onPort p f s).sys = s.sys ∧ (onPort p f s).rails = s.rails ∧ (onPort p f
    s).seq = s.seq ∧ (onPort p f s).log = s.log ∧ (onPort p f s).cell = s.cell ∧ (onPort p f s).flash = s.flash ∧
    (onPort p f s).shadow = s.shadow ∧ (onPort p f s).light = s.light ∧ (onPort p f s).neg = s.neg ∧ (onPort p f
    s).nand = s.nand ∧ (onPort p f s).tiers = s.tiers ∧ (onPort p f s).irq = s.irq ∧ (onPort p f s).bus = s.bus ∧
    (onPort p f s).sec = s.sec ∧ (onPort p f s).free = s.free ∧ (onPort p f s).pending = s.pending := by
  unfold onPort
  simp

@[simp] theorem ibiAttempt_keeps (s : State) : (ibiAttempt s).ident = s.ident ∧ (ibiAttempt s).supply = s.supply ∧
    (ibiAttempt s).sys = s.sys ∧ (ibiAttempt s).rails = s.rails ∧ (ibiAttempt s).seq = s.seq ∧ (ibiAttempt s).log =
    s.log ∧ (ibiAttempt s).cell = s.cell ∧ (ibiAttempt s).flash = s.flash ∧ (ibiAttempt s).shadow = s.shadow ∧
    (ibiAttempt s).light = s.light ∧ (ibiAttempt s).neg = s.neg ∧ (ibiAttempt s).nand = s.nand ∧ (ibiAttempt
    s).tiers = s.tiers ∧ (ibiAttempt s).ports = s.ports ∧ (ibiAttempt s).irq = s.irq ∧ (ibiAttempt s).sec = s.sec ∧
    (ibiAttempt s).pending = s.pending := by
  unfold ibiAttempt
  simp

@[simp] theorem issue_keeps (t : TargetId) (fast : Bool) (s : State) : (issue t fast s).ident = s.ident ∧ (issue t
    fast s).supply = s.supply ∧ (issue t fast s).sys = s.sys ∧ (issue t fast s).rails = s.rails ∧ (issue t fast
    s).seq = s.seq ∧ (issue t fast s).log = s.log ∧ (issue t fast s).cell = s.cell ∧ (issue t fast s).flash =
    s.flash ∧ (issue t fast s).shadow = s.shadow ∧ (issue t fast s).light = s.light ∧ (issue t fast s).neg = s.neg ∧
    (issue t fast s).nand = s.nand ∧ (issue t fast s).tiers = s.tiers ∧ (issue t fast s).ports = s.ports ∧ (issue t
    fast s).sec = s.sec ∧ (issue t fast s).pending = s.pending := by
  unfold issue
  try dsimp only
  (repeat' split) <;> simp_all

@[simp] theorem notifyNow_keeps (t : TargetId) (fast : Bool) (s : State) : (notifyNow t fast s).ident = s.ident ∧
    (notifyNow t fast s).supply = s.supply ∧ (notifyNow t fast s).sys = s.sys ∧ (notifyNow t fast s).rails = s.rails
    ∧ (notifyNow t fast s).seq = s.seq ∧ (notifyNow t fast s).log = s.log ∧ (notifyNow t fast s).cell = s.cell ∧
    (notifyNow t fast s).flash = s.flash ∧ (notifyNow t fast s).shadow = s.shadow ∧ (notifyNow t fast s).light =
    s.light ∧ (notifyNow t fast s).neg = s.neg ∧ (notifyNow t fast s).nand = s.nand ∧ (notifyNow t fast s).tiers =
    s.tiers ∧ (notifyNow t fast s).ports = s.ports ∧ (notifyNow t fast s).sec = s.sec ∧ (notifyNow t fast s).pending
    = s.pending := by
  unfold notifyNow
  simp

@[simp] theorem lines_keeps (s : State) : (lines s).ident = s.ident ∧ (lines s).supply = s.supply ∧ (lines s).sys =
    s.sys ∧ (lines s).rails = s.rails ∧ (lines s).seq = s.seq ∧ (lines s).log = s.log ∧ (lines s).cell = s.cell ∧
    (lines s).flash = s.flash ∧ (lines s).shadow = s.shadow ∧ (lines s).light = s.light ∧ (lines s).neg = s.neg ∧
    (lines s).nand = s.nand ∧ (lines s).tiers = s.tiers ∧ (lines s).ports = s.ports ∧ (lines s).bus = s.bus ∧ (lines
    s).sec = s.sec ∧ (lines s).free = s.free ∧ (lines s).pending = s.pending := by
  unfold lines
  simp

@[simp] theorem testWindow_keeps (t : TargetId) (expired : Bool) (s : State) : (testWindow t expired s).ident =
    s.ident ∧ (testWindow t expired s).supply = s.supply ∧ (testWindow t expired s).sys = s.sys ∧ (testWindow t
    expired s).rails = s.rails ∧ (testWindow t expired s).seq = s.seq ∧ (testWindow t expired s).log = s.log ∧
    (testWindow t expired s).cell = s.cell ∧ (testWindow t expired s).flash = s.flash ∧ (testWindow t expired
    s).shadow = s.shadow ∧ (testWindow t expired s).light = s.light ∧ (testWindow t expired s).neg = s.neg ∧
    (testWindow t expired s).nand = s.nand ∧ (testWindow t expired s).tiers = s.tiers ∧ (testWindow t expired
    s).ports = s.ports ∧ (testWindow t expired s).sec = s.sec ∧ (testWindow t expired s).pending = s.pending := by
  unfold testWindow
  simp

@[simp] theorem becamePending_keeps (fast : Bool) (t : TargetId) (s : State) : (becamePending fast t s).ident =
    s.ident ∧ (becamePending fast t s).supply = s.supply ∧ (becamePending fast t s).sys = s.sys ∧ (becamePending
    fast t s).rails = s.rails ∧ (becamePending fast t s).seq = s.seq ∧ (becamePending fast t s).log = s.log ∧
    (becamePending fast t s).cell = s.cell ∧ (becamePending fast t s).flash = s.flash ∧ (becamePending fast t
    s).shadow = s.shadow ∧ (becamePending fast t s).light = s.light ∧ (becamePending fast t s).neg = s.neg ∧
    (becamePending fast t s).nand = s.nand ∧ (becamePending fast t s).tiers = s.tiers ∧ (becamePending fast t
    s).ports = s.ports ∧ (becamePending fast t s).sec = s.sec ∧ (becamePending fast t s).pending = s.pending := by
  unfold becamePending
  simp

@[simp] theorem raise_keeps (k : Nat) (s : State) : (raise k s).ident = s.ident ∧ (raise k s).supply = s.supply ∧
    (raise k s).sys = s.sys ∧ (raise k s).rails = s.rails ∧ (raise k s).seq = s.seq ∧ (raise k s).log = s.log ∧
    (raise k s).cell = s.cell ∧ (raise k s).flash = s.flash ∧ (raise k s).shadow = s.shadow ∧ (raise k s).light =
    s.light ∧ (raise k s).neg = s.neg ∧ (raise k s).nand = s.nand ∧ (raise k s).tiers = s.tiers ∧ (raise k s).ports
    = s.ports ∧ (raise k s).sec = s.sec ∧ (raise k s).pending = s.pending := by
  unfold raise
  try dsimp only
  (repeat' split) <;> simp_all

@[simp] theorem claim_keeps (t : TargetId) (fast : Bool) (s : State) : (claim t fast s).2.ident = s.ident ∧ (claim t
    fast s).2.supply = s.supply ∧ (claim t fast s).2.sys = s.sys ∧ (claim t fast s).2.rails = s.rails ∧ (claim t
    fast s).2.seq = s.seq ∧ (claim t fast s).2.log = s.log ∧ (claim t fast s).2.cell = s.cell ∧ (claim t fast
    s).2.flash = s.flash ∧ (claim t fast s).2.shadow = s.shadow ∧ (claim t fast s).2.light = s.light ∧ (claim t fast
    s).2.neg = s.neg ∧ (claim t fast s).2.nand = s.nand ∧ (claim t fast s).2.tiers = s.tiers ∧ (claim t fast
    s).2.ports = s.ports ∧ (claim t fast s).2.sec = s.sec ∧ (claim t fast s).2.free = s.free ∧ (claim t fast
    s).2.pending = s.pending := by
  unfold claim
  try dsimp only
  (repeat' split) <;> simp_all

@[simp] theorem reenter_keeps (n : SourceId) (s : State) : (reenter n s).ident = s.ident ∧ (reenter n s).supply =
    s.supply ∧ (reenter n s).sys = s.sys ∧ (reenter n s).rails = s.rails ∧ (reenter n s).seq = s.seq ∧ (reenter n
    s).log = s.log ∧ (reenter n s).cell = s.cell ∧ (reenter n s).flash = s.flash ∧ (reenter n s).shadow = s.shadow ∧
    (reenter n s).light = s.light ∧ (reenter n s).neg = s.neg ∧ (reenter n s).nand = s.nand ∧ (reenter n s).tiers =
    s.tiers ∧ (reenter n s).ports = s.ports ∧ (reenter n s).sec = s.sec ∧ (reenter n s).pending = s.pending := by
  unfold reenter
  try dsimp only
  (repeat' split) <;> simp_all

@[simp] theorem spurious_keeps (t : TargetId) (s : State) : (spurious t s).ident = s.ident ∧ (spurious t s).supply =
    s.supply ∧ (spurious t s).sys = s.sys ∧ (spurious t s).rails = s.rails ∧ (spurious t s).seq = s.seq ∧ (spurious
    t s).log = s.log ∧ (spurious t s).cell = s.cell ∧ (spurious t s).flash = s.flash ∧ (spurious t s).shadow =
    s.shadow ∧ (spurious t s).light = s.light ∧ (spurious t s).neg = s.neg ∧ (spurious t s).nand = s.nand ∧
    (spurious t s).tiers = s.tiers ∧ (spurious t s).ports = s.ports ∧ (spurious t s).sec = s.sec ∧ (spurious t
    s).pending = s.pending := by
  unfold spurious
  try dsimp only
  (repeat' split) <;> simp_all

@[simp] theorem completeAt_keeps (t : TargetId) (k : Nat) (s : State) : (completeAt t k s).ident = s.ident ∧
    (completeAt t k s).supply = s.supply ∧ (completeAt t k s).sys = s.sys ∧ (completeAt t k s).rails = s.rails ∧
    (completeAt t k s).seq = s.seq ∧ (completeAt t k s).log = s.log ∧ (completeAt t k s).cell = s.cell ∧ (completeAt
    t k s).flash = s.flash ∧ (completeAt t k s).shadow = s.shadow ∧ (completeAt t k s).light = s.light ∧ (completeAt
    t k s).neg = s.neg ∧ (completeAt t k s).nand = s.nand ∧ (completeAt t k s).tiers = s.tiers ∧ (completeAt t k
    s).ports = s.ports ∧ (completeAt t k s).sec = s.sec ∧ (completeAt t k s).pending = s.pending := by
  unfold completeAt
  try dsimp only
  (repeat' split) <;> simp_all

@[simp] theorem release_keeps (t : TargetId) (s : State) : (release t s).ident = s.ident ∧ (release t s).supply =
    s.supply ∧ (release t s).sys = s.sys ∧ (release t s).rails = s.rails ∧ (release t s).seq = s.seq ∧ (release t
    s).log = s.log ∧ (release t s).cell = s.cell ∧ (release t s).flash = s.flash ∧ (release t s).shadow = s.shadow ∧
    (release t s).light = s.light ∧ (release t s).neg = s.neg ∧ (release t s).nand = s.nand ∧ (release t s).tiers =
    s.tiers ∧ (release t s).ports = s.ports ∧ (release t s).sec = s.sec ∧ (release t s).pending = s.pending := by
  unfold release
  simp

@[simp] theorem setDisable_keeps (t : TargetId) (on : Bool) (s : State) : (setDisable t on s).ident = s.ident ∧
    (setDisable t on s).supply = s.supply ∧ (setDisable t on s).sys = s.sys ∧ (setDisable t on s).rails = s.rails ∧
    (setDisable t on s).seq = s.seq ∧ (setDisable t on s).log = s.log ∧ (setDisable t on s).cell = s.cell ∧
    (setDisable t on s).flash = s.flash ∧ (setDisable t on s).shadow = s.shadow ∧ (setDisable t on s).light =
    s.light ∧ (setDisable t on s).neg = s.neg ∧ (setDisable t on s).nand = s.nand ∧ (setDisable t on s).tiers =
    s.tiers ∧ (setDisable t on s).ports = s.ports ∧ (setDisable t on s).sec = s.sec ∧ (setDisable t on s).pending =
    s.pending := by
  unfold setDisable
  simp

@[simp] theorem resetTarget_keeps (t : TargetId) (s : State) : (resetTarget t s).ident = s.ident ∧ (resetTarget t
    s).supply = s.supply ∧ (resetTarget t s).sys = s.sys ∧ (resetTarget t s).rails = s.rails ∧ (resetTarget t s).seq
    = s.seq ∧ (resetTarget t s).log = s.log ∧ (resetTarget t s).cell = s.cell ∧ (resetTarget t s).flash = s.flash ∧
    (resetTarget t s).shadow = s.shadow ∧ (resetTarget t s).light = s.light ∧ (resetTarget t s).neg = s.neg ∧
    (resetTarget t s).nand = s.nand ∧ (resetTarget t s).tiers = s.tiers ∧ (resetTarget t s).ports = s.ports ∧
    (resetTarget t s).sec = s.sec ∧ (resetTarget t s).pending = s.pending := by
  unfold resetTarget
  simp

@[simp] theorem resetSources_keeps (s : State) : (resetSources s).ident = s.ident ∧ (resetSources s).supply =
    s.supply ∧ (resetSources s).sys = s.sys ∧ (resetSources s).rails = s.rails ∧ (resetSources s).seq = s.seq ∧
    (resetSources s).log = s.log ∧ (resetSources s).cell = s.cell ∧ (resetSources s).flash = s.flash ∧ (resetSources
    s).shadow = s.shadow ∧ (resetSources s).light = s.light ∧ (resetSources s).neg = s.neg ∧ (resetSources s).nand =
    s.nand ∧ (resetSources s).tiers = s.tiers ∧ (resetSources s).ports = s.ports ∧ (resetSources s).sec = s.sec ∧
    (resetSources s).free = s.free ∧ (resetSources s).pending = s.pending := by
  unfold resetSources
  simp

@[simp] theorem closeWindows_keeps (s : State) : (closeWindows s).ident = s.ident ∧ (closeWindows s).supply =
    s.supply ∧ (closeWindows s).sys = s.sys ∧ (closeWindows s).rails = s.rails ∧ (closeWindows s).seq = s.seq ∧
    (closeWindows s).log = s.log ∧ (closeWindows s).cell = s.cell ∧ (closeWindows s).flash = s.flash ∧ (closeWindows
    s).shadow = s.shadow ∧ (closeWindows s).light = s.light ∧ (closeWindows s).neg = s.neg ∧ (closeWindows s).nand =
    s.nand ∧ (closeWindows s).tiers = s.tiers ∧ (closeWindows s).ports = s.ports ∧ (closeWindows s).sec = s.sec ∧
    (closeWindows s).free = s.free ∧ (closeWindows s).pending = s.pending := by
  unfold closeWindows
  simp

@[simp] theorem reroute_keeps (before : State) (s : State) : (reroute before s).ident = s.ident ∧ (reroute before
    s).supply = s.supply ∧ (reroute before s).sys = s.sys ∧ (reroute before s).rails = s.rails ∧ (reroute before
    s).seq = s.seq ∧ (reroute before s).log = s.log ∧ (reroute before s).cell = s.cell ∧ (reroute before s).flash =
    s.flash ∧ (reroute before s).shadow = s.shadow ∧ (reroute before s).light = s.light ∧ (reroute before s).neg =
    s.neg ∧ (reroute before s).nand = s.nand ∧ (reroute before s).tiers = s.tiers ∧ (reroute before s).ports =
    s.ports ∧ (reroute before s).sec = s.sec ∧ (reroute before s).pending = s.pending := by
  unfold reroute
  try dsimp only
  refine ⟨?_, ?_, ?_, ?_, ?_, ?_, ?_, ?_, ?_, ?_, ?_, ?_, ?_, ?_, ?_, ?_⟩
  all_goals
    first
    | rw [fold_ident]
    | rw [fold_supply]
    | rw [fold_sys]
    | rw [fold_rails]
    | rw [fold_seq]
    | rw [fold_log]
    | rw [fold_cell]
    | rw [fold_flash]
    | rw [fold_shadow]
    | rw [fold_light]
    | rw [fold_neg]
    | rw [fold_nand]
    | rw [fold_tiers]
    | rw [fold_ports]
    | rw [fold_sec]
    | rw [fold_pending]
    · simp
    · intro x a
      (repeat' split) <;> simp

@[simp] theorem setSeg_keeps (p : Sys2Proof.Path) (g : Option OpenSeg) (s : State) : (setSeg p g s).ident = s.ident
    ∧ (setSeg p g s).supply = s.supply ∧ (setSeg p g s).sys = s.sys ∧ (setSeg p g s).rails = s.rails ∧ (setSeg p g
    s).seq = s.seq ∧ (setSeg p g s).log = s.log ∧ (setSeg p g s).cell = s.cell ∧ (setSeg p g s).flash = s.flash ∧
    (setSeg p g s).shadow = s.shadow ∧ (setSeg p g s).light = s.light ∧ (setSeg p g s).neg = s.neg ∧ (setSeg p g
    s).nand = s.nand ∧ (setSeg p g s).tiers = s.tiers ∧ (setSeg p g s).ports = s.ports ∧ (setSeg p g s).irq = s.irq
    ∧ (setSeg p g s).sec = s.sec ∧ (setSeg p g s).free = s.free ∧ (setSeg p g s).pending = s.pending := by
  unfold setSeg
  try dsimp only
  (repeat' split) <;> simp_all

@[simp] theorem imageRejected_keeps (s : State) : (imageRejected s).ident = s.ident ∧ (imageRejected s).supply =
    s.supply ∧ (imageRejected s).sys = s.sys ∧ (imageRejected s).rails = s.rails ∧ (imageRejected s).seq = s.seq ∧
    (imageRejected s).log = s.log ∧ (imageRejected s).cell = s.cell ∧ (imageRejected s).flash = s.flash ∧
    (imageRejected s).shadow = s.shadow ∧ (imageRejected s).light = s.light ∧ (imageRejected s).neg = s.neg ∧
    (imageRejected s).nand = s.nand ∧ (imageRejected s).tiers = s.tiers ∧ (imageRejected s).ports = s.ports ∧
    (imageRejected s).pending = s.pending := by
  unfold imageRejected
  simp

@[simp] theorem abandon_keeps (p : Sys2Proof.Path) (s : State) : (abandon p s).ident = s.ident ∧ (abandon p
    s).supply = s.supply ∧ (abandon p s).sys = s.sys ∧ (abandon p s).rails = s.rails ∧ (abandon p s).seq = s.seq ∧
    (abandon p s).log = s.log ∧ (abandon p s).cell = s.cell ∧ (abandon p s).flash = s.flash ∧ (abandon p s).shadow =
    s.shadow ∧ (abandon p s).light = s.light ∧ (abandon p s).neg = s.neg ∧ (abandon p s).nand = s.nand ∧ (abandon p
    s).tiers = s.tiers ∧ (abandon p s).ports = s.ports ∧ (abandon p s).pending = s.pending := by
  unfold abandon
  try dsimp only
  (repeat' split) <;> simp_all

@[simp] theorem abandonAll_keeps (s : State) : (abandonAll s).ident = s.ident ∧ (abandonAll s).supply = s.supply ∧
    (abandonAll s).sys = s.sys ∧ (abandonAll s).rails = s.rails ∧ (abandonAll s).seq = s.seq ∧ (abandonAll s).log =
    s.log ∧ (abandonAll s).cell = s.cell ∧ (abandonAll s).flash = s.flash ∧ (abandonAll s).shadow = s.shadow ∧
    (abandonAll s).light = s.light ∧ (abandonAll s).neg = s.neg ∧ (abandonAll s).nand = s.nand ∧ (abandonAll
    s).tiers = s.tiers ∧ (abandonAll s).ports = s.ports ∧ (abandonAll s).pending = s.pending := by
  unfold abandonAll
  simp

@[simp] theorem enter_keeps (st : DevState) (cause : Byte) (s : State) : (enter st cause s).ident = s.ident ∧ (enter
    st cause s).supply = s.supply ∧ (enter st cause s).rails = s.rails ∧ (enter st cause s).seq = s.seq ∧ (enter st
    cause s).log = s.log ∧ (enter st cause s).cell = s.cell ∧ (enter st cause s).shadow = s.shadow ∧ (enter st cause
    s).light = s.light ∧ (enter st cause s).neg = s.neg ∧ (enter st cause s).nand = s.nand ∧ (enter st cause
    s).tiers = s.tiers ∧ (enter st cause s).ports = s.ports ∧ (enter st cause s).pending = s.pending := by
  unfold enter
  simp

@[simp] theorem faultEntry_keeps (code : Byte) (cause : Byte) (s : State) : (faultEntry code cause s).ident =
    s.ident ∧ (faultEntry code cause s).supply = s.supply ∧ (faultEntry code cause s).rails = s.rails ∧ (faultEntry
    code cause s).seq = s.seq ∧ (faultEntry code cause s).log = s.log ∧ (faultEntry code cause s).cell = s.cell ∧
    (faultEntry code cause s).shadow = s.shadow ∧ (faultEntry code cause s).light = s.light ∧ (faultEntry code cause
    s).neg = s.neg ∧ (faultEntry code cause s).nand = s.nand ∧ (faultEntry code cause s).tiers = s.tiers ∧
    (faultEntry code cause s).ports = s.ports ∧ (faultEntry code cause s).pending = s.pending := by
  unfold faultEntry
  simp

end Sys2Proof.Machine
end

