-- ==== Sys2Proof/Laws/KeepsLight.lean ====
section
/-! SUPPORT. What each operation of Machine/Safelight leaves as it was: one lemma an operation, for `simp`. -/

set_option linter.unusedSimpArgs false
set_option linter.unusedVariables false
set_option linter.unusedTactic false
set_option linter.unreachableTactic false

namespace Sys2Proof.Machine

@[simp] theorem onLight_keeps (f : Light → Light) (s : State) : (onLight f s).ident = s.ident ∧ (onLight f s).supply
    = s.supply ∧ (onLight f s).sys = s.sys ∧ (onLight f s).rails = s.rails ∧ (onLight f s).seq = s.seq ∧ (onLight f
    s).log = s.log ∧ (onLight f s).cell = s.cell ∧ (onLight f s).flash = s.flash ∧ (onLight f s).shadow = s.shadow ∧
    (onLight f s).neg = s.neg ∧ (onLight f s).nand = s.nand ∧ (onLight f s).tiers = s.tiers ∧ (onLight f s).ports =
    s.ports ∧ (onLight f s).irq = s.irq ∧ (onLight f s).bus = s.bus ∧ (onLight f s).sec = s.sec ∧ (onLight f s).free
    = s.free ∧ (onLight f s).pending = s.pending := by
  unfold onLight
  simp

@[simp] theorem onRank_keeps (r : Fin 16) (f : RankModel → RankModel) (s : State) : (onRank r f s).ident = s.ident ∧
    (onRank r f s).supply = s.supply ∧ (onRank r f s).sys = s.sys ∧ (onRank r f s).rails = s.rails ∧ (onRank r f
    s).seq = s.seq ∧ (onRank r f s).log = s.log ∧ (onRank r f s).cell = s.cell ∧ (onRank r f s).flash = s.flash ∧
    (onRank r f s).shadow = s.shadow ∧ (onRank r f s).neg = s.neg ∧ (onRank r f s).nand = s.nand ∧ (onRank r f
    s).tiers = s.tiers ∧ (onRank r f s).ports = s.ports ∧ (onRank r f s).irq = s.irq ∧ (onRank r f s).bus = s.bus ∧
    (onRank r f s).sec = s.sec ∧ (onRank r f s).free = s.free ∧ (onRank r f s).pending = s.pending := by
  unfold onRank
  simp

@[simp] theorem onSub_keeps (k : Fin 8) (f : SubModel → SubModel) (s : State) : (onSub k f s).ident = s.ident ∧
    (onSub k f s).supply = s.supply ∧ (onSub k f s).sys = s.sys ∧ (onSub k f s).rails = s.rails ∧ (onSub k f s).seq
    = s.seq ∧ (onSub k f s).log = s.log ∧ (onSub k f s).cell = s.cell ∧ (onSub k f s).flash = s.flash ∧ (onSub k f
    s).shadow = s.shadow ∧ (onSub k f s).neg = s.neg ∧ (onSub k f s).nand = s.nand ∧ (onSub k f s).tiers = s.tiers ∧
    (onSub k f s).ports = s.ports ∧ (onSub k f s).irq = s.irq ∧ (onSub k f s).bus = s.bus ∧ (onSub k f s).sec =
    s.sec ∧ (onSub k f s).free = s.free ∧ (onSub k f s).pending = s.pending := by
  unfold onSub
  simp

@[simp] theorem writeRow_keeps (f : Nat) (row : Nat) (column : Nat) (data : List Byte) (s : State) : (writeRow f row
    column data s).ident = s.ident ∧ (writeRow f row column data s).supply = s.supply ∧ (writeRow f row column data
    s).sys = s.sys ∧ (writeRow f row column data s).rails = s.rails ∧ (writeRow f row column data s).seq = s.seq ∧
    (writeRow f row column data s).log = s.log ∧ (writeRow f row column data s).cell = s.cell ∧ (writeRow f row
    column data s).flash = s.flash ∧ (writeRow f row column data s).shadow = s.shadow ∧ (writeRow f row column data
    s).neg = s.neg ∧ (writeRow f row column data s).nand = s.nand ∧ (writeRow f row column data s).tiers = s.tiers ∧
    (writeRow f row column data s).ports = s.ports ∧ (writeRow f row column data s).irq = s.irq ∧ (writeRow f row
    column data s).bus = s.bus ∧ (writeRow f row column data s).sec = s.sec ∧ (writeRow f row column data s).free =
    s.free ∧ (writeRow f row column data s).pending = s.pending := by
  unfold writeRow
  simp

@[simp] theorem scrambleSide_keeps (side : Fin 2) (s : State) : (scrambleSide side s).ident = s.ident ∧
    (scrambleSide side s).supply = s.supply ∧ (scrambleSide side s).sys = s.sys ∧ (scrambleSide side s).rails =
    s.rails ∧ (scrambleSide side s).seq = s.seq ∧ (scrambleSide side s).log = s.log ∧ (scrambleSide side s).cell =
    s.cell ∧ (scrambleSide side s).flash = s.flash ∧ (scrambleSide side s).shadow = s.shadow ∧ (scrambleSide side
    s).neg = s.neg ∧ (scrambleSide side s).nand = s.nand ∧ (scrambleSide side s).tiers = s.tiers ∧ (scrambleSide
    side s).ports = s.ports ∧ (scrambleSide side s).irq = s.irq ∧ (scrambleSide side s).bus = s.bus ∧ (scrambleSide
    side s).sec = s.sec ∧ (scrambleSide side s).pending = s.pending := by
  unfold scrambleSide
  simp

@[simp] theorem markDirty_keeps (fs : Ranges) (s : State) : (markDirty fs s).ident = s.ident ∧ (markDirty fs
    s).supply = s.supply ∧ (markDirty fs s).sys = s.sys ∧ (markDirty fs s).rails = s.rails ∧ (markDirty fs s).seq =
    s.seq ∧ (markDirty fs s).log = s.log ∧ (markDirty fs s).cell = s.cell ∧ (markDirty fs s).flash = s.flash ∧
    (markDirty fs s).shadow = s.shadow ∧ (markDirty fs s).neg = s.neg ∧ (markDirty fs s).nand = s.nand ∧ (markDirty
    fs s).tiers = s.tiers ∧ (markDirty fs s).ports = s.ports ∧ (markDirty fs s).irq = s.irq ∧ (markDirty fs s).bus =
    s.bus ∧ (markDirty fs s).sec = s.sec ∧ (markDirty fs s).free = s.free ∧ (markDirty fs s).pending = s.pending :=
    by
  unfold markDirty
  simp

@[simp] theorem markAll_keeps (s : State) : (markAll s).ident = s.ident ∧ (markAll s).supply = s.supply ∧ (markAll
    s).sys = s.sys ∧ (markAll s).rails = s.rails ∧ (markAll s).seq = s.seq ∧ (markAll s).log = s.log ∧ (markAll
    s).cell = s.cell ∧ (markAll s).flash = s.flash ∧ (markAll s).shadow = s.shadow ∧ (markAll s).neg = s.neg ∧
    (markAll s).nand = s.nand ∧ (markAll s).tiers = s.tiers ∧ (markAll s).ports = s.ports ∧ (markAll s).irq = s.irq
    ∧ (markAll s).bus = s.bus ∧ (markAll s).sec = s.sec ∧ (markAll s).free = s.free ∧ (markAll s).pending =
    s.pending := by
  unfold markAll
  simp

@[simp] theorem addHeat_keeps (g : Nat) (s : State) : (addHeat g s).ident = s.ident ∧ (addHeat g s).supply =
    s.supply ∧ (addHeat g s).sys = s.sys ∧ (addHeat g s).rails = s.rails ∧ (addHeat g s).seq = s.seq ∧ (addHeat g
    s).log = s.log ∧ (addHeat g s).cell = s.cell ∧ (addHeat g s).flash = s.flash ∧ (addHeat g s).shadow = s.shadow ∧
    (addHeat g s).neg = s.neg ∧ (addHeat g s).nand = s.nand ∧ (addHeat g s).tiers = s.tiers ∧ (addHeat g s).ports =
    s.ports ∧ (addHeat g s).irq = s.irq ∧ (addHeat g s).bus = s.bus ∧ (addHeat g s).sec = s.sec ∧ (addHeat g s).free
    = s.free ∧ (addHeat g s).pending = s.pending := by
  unfold addHeat
  simp

@[simp] theorem halveHeat_keeps (s : State) : (halveHeat s).ident = s.ident ∧ (halveHeat s).supply = s.supply ∧
    (halveHeat s).sys = s.sys ∧ (halveHeat s).rails = s.rails ∧ (halveHeat s).seq = s.seq ∧ (halveHeat s).log =
    s.log ∧ (halveHeat s).cell = s.cell ∧ (halveHeat s).flash = s.flash ∧ (halveHeat s).shadow = s.shadow ∧
    (halveHeat s).neg = s.neg ∧ (halveHeat s).nand = s.nand ∧ (halveHeat s).tiers = s.tiers ∧ (halveHeat s).ports =
    s.ports ∧ (halveHeat s).irq = s.irq ∧ (halveHeat s).bus = s.bus ∧ (halveHeat s).sec = s.sec ∧ (halveHeat s).free
    = s.free ∧ (halveHeat s).pending = s.pending := by
  unfold halveHeat
  simp

@[simp] theorem watchWrites_keeps (s : State) : (watchWrites s).ident = s.ident ∧ (watchWrites s).supply = s.supply
    ∧ (watchWrites s).sys = s.sys ∧ (watchWrites s).rails = s.rails ∧ (watchWrites s).seq = s.seq ∧ (watchWrites
    s).log = s.log ∧ (watchWrites s).cell = s.cell ∧ (watchWrites s).flash = s.flash ∧ (watchWrites s).shadow =
    s.shadow ∧ (watchWrites s).neg = s.neg ∧ (watchWrites s).nand = s.nand ∧ (watchWrites s).tiers = s.tiers ∧
    (watchWrites s).ports = s.ports ∧ (watchWrites s).irq = s.irq ∧ (watchWrites s).bus = s.bus ∧ (watchWrites
    s).sec = s.sec ∧ (watchWrites s).free = s.free ∧ (watchWrites s).pending = s.pending := by
  unfold watchWrites
  simp

@[simp] theorem veilCheck_keeps (k : Fin 8) (s : State) : (veilCheck k s).ident = s.ident ∧ (veilCheck k s).supply =
    s.supply ∧ (veilCheck k s).sys = s.sys ∧ (veilCheck k s).rails = s.rails ∧ (veilCheck k s).seq = s.seq ∧
    (veilCheck k s).log = s.log ∧ (veilCheck k s).cell = s.cell ∧ (veilCheck k s).flash = s.flash ∧ (veilCheck k
    s).shadow = s.shadow ∧ (veilCheck k s).neg = s.neg ∧ (veilCheck k s).nand = s.nand ∧ (veilCheck k s).tiers =
    s.tiers ∧ (veilCheck k s).ports = s.ports ∧ (veilCheck k s).sec = s.sec ∧ (veilCheck k s).pending = s.pending :=
    by
  unfold veilCheck
  simp

@[simp] theorem veilBegins_keeps (k : Fin 8) (cause : Nat) (s : State) : (veilBegins k cause s).ident = s.ident ∧
    (veilBegins k cause s).supply = s.supply ∧ (veilBegins k cause s).sys = s.sys ∧ (veilBegins k cause s).rails =
    s.rails ∧ (veilBegins k cause s).seq = s.seq ∧ (veilBegins k cause s).log = s.log ∧ (veilBegins k cause s).cell
    = s.cell ∧ (veilBegins k cause s).flash = s.flash ∧ (veilBegins k cause s).shadow = s.shadow ∧ (veilBegins k
    cause s).neg = s.neg ∧ (veilBegins k cause s).nand = s.nand ∧ (veilBegins k cause s).tiers = s.tiers ∧
    (veilBegins k cause s).ports = s.ports ∧ (veilBegins k cause s).sec = s.sec ∧ (veilBegins k cause s).pending =
    s.pending := by
  unfold veilBegins
  simp

@[simp] theorem commandHeld_keeps (s : State) : (commandHeld s).ident = s.ident ∧ (commandHeld s).supply = s.supply
    ∧ (commandHeld s).sys = s.sys ∧ (commandHeld s).rails = s.rails ∧ (commandHeld s).seq = s.seq ∧ (commandHeld
    s).log = s.log ∧ (commandHeld s).cell = s.cell ∧ (commandHeld s).flash = s.flash ∧ (commandHeld s).shadow =
    s.shadow ∧ (commandHeld s).neg = s.neg ∧ (commandHeld s).nand = s.nand ∧ (commandHeld s).tiers = s.tiers ∧
    (commandHeld s).ports = s.ports ∧ (commandHeld s).sec = s.sec ∧ (commandHeld s).pending = s.pending := by
  unfold commandHeld
  simp

@[simp] theorem openRow_keeps (r : Fin 16) (bank : Nat) (row : Nat) (s : State) : (openRow r bank row s).ident =
    s.ident ∧ (openRow r bank row s).supply = s.supply ∧ (openRow r bank row s).sys = s.sys ∧ (openRow r bank row
    s).rails = s.rails ∧ (openRow r bank row s).seq = s.seq ∧ (openRow r bank row s).log = s.log ∧ (openRow r bank
    row s).cell = s.cell ∧ (openRow r bank row s).flash = s.flash ∧ (openRow r bank row s).shadow = s.shadow ∧
    (openRow r bank row s).neg = s.neg ∧ (openRow r bank row s).nand = s.nand ∧ (openRow r bank row s).tiers =
    s.tiers ∧ (openRow r bank row s).ports = s.ports ∧ (openRow r bank row s).irq = s.irq ∧ (openRow r bank row
    s).bus = s.bus ∧ (openRow r bank row s).sec = s.sec ∧ (openRow r bank row s).free = s.free ∧ (openRow r bank row
    s).pending = s.pending := by
  unfold openRow
  simp

@[simp] theorem closeRows_keeps (r : Fin 16) (bank : Option Nat) (s : State) : (closeRows r bank s).ident = s.ident
    ∧ (closeRows r bank s).supply = s.supply ∧ (closeRows r bank s).sys = s.sys ∧ (closeRows r bank s).rails =
    s.rails ∧ (closeRows r bank s).seq = s.seq ∧ (closeRows r bank s).log = s.log ∧ (closeRows r bank s).cell =
    s.cell ∧ (closeRows r bank s).flash = s.flash ∧ (closeRows r bank s).shadow = s.shadow ∧ (closeRows r bank
    s).neg = s.neg ∧ (closeRows r bank s).nand = s.nand ∧ (closeRows r bank s).tiers = s.tiers ∧ (closeRows r bank
    s).ports = s.ports ∧ (closeRows r bank s).irq = s.irq ∧ (closeRows r bank s).bus = s.bus ∧ (closeRows r bank
    s).sec = s.sec ∧ (closeRows r bank s).free = s.free ∧ (closeRows r bank s).pending = s.pending := by
  unfold closeRows
  simp

@[simp] theorem activateRow_keeps (r : Fin 16) (bank : Nat) (row : Nat) (s : State) : (activateRow r bank row
    s).ident = s.ident ∧ (activateRow r bank row s).supply = s.supply ∧ (activateRow r bank row s).sys = s.sys ∧
    (activateRow r bank row s).rails = s.rails ∧ (activateRow r bank row s).seq = s.seq ∧ (activateRow r bank row
    s).log = s.log ∧ (activateRow r bank row s).cell = s.cell ∧ (activateRow r bank row s).flash = s.flash ∧
    (activateRow r bank row s).shadow = s.shadow ∧ (activateRow r bank row s).neg = s.neg ∧ (activateRow r bank row
    s).nand = s.nand ∧ (activateRow r bank row s).tiers = s.tiers ∧ (activateRow r bank row s).ports = s.ports ∧
    (activateRow r bank row s).irq = s.irq ∧ (activateRow r bank row s).bus = s.bus ∧ (activateRow r bank row s).sec
    = s.sec ∧ (activateRow r bank row s).free = s.free ∧ (activateRow r bank row s).pending = s.pending := by
  unfold activateRow
  simp

@[simp] theorem noteArray_keeps (f : Nat) (s : State) : (noteArray f s).ident = s.ident ∧ (noteArray f s).supply =
    s.supply ∧ (noteArray f s).sys = s.sys ∧ (noteArray f s).rails = s.rails ∧ (noteArray f s).seq = s.seq ∧
    (noteArray f s).log = s.log ∧ (noteArray f s).cell = s.cell ∧ (noteArray f s).flash = s.flash ∧ (noteArray f
    s).shadow = s.shadow ∧ (noteArray f s).neg = s.neg ∧ (noteArray f s).nand = s.nand ∧ (noteArray f s).tiers =
    s.tiers ∧ (noteArray f s).ports = s.ports ∧ (noteArray f s).irq = s.irq ∧ (noteArray f s).bus = s.bus ∧
    (noteArray f s).sec = s.sec ∧ (noteArray f s).free = s.free ∧ (noteArray f s).pending = s.pending := by
  unfold noteArray
  simp

@[simp] theorem arrayWrite_keeps (r : Fin 16) (bank : Nat) (column : Nat) (data : List Byte) (s : State) :
    (arrayWrite r bank column data s).ident = s.ident ∧ (arrayWrite r bank column data s).supply = s.supply ∧
    (arrayWrite r bank column data s).sys = s.sys ∧ (arrayWrite r bank column data s).rails = s.rails ∧ (arrayWrite
    r bank column data s).seq = s.seq ∧ (arrayWrite r bank column data s).log = s.log ∧ (arrayWrite r bank column
    data s).cell = s.cell ∧ (arrayWrite r bank column data s).flash = s.flash ∧ (arrayWrite r bank column data
    s).shadow = s.shadow ∧ (arrayWrite r bank column data s).neg = s.neg ∧ (arrayWrite r bank column data s).nand =
    s.nand ∧ (arrayWrite r bank column data s).tiers = s.tiers ∧ (arrayWrite r bank column data s).ports = s.ports ∧
    (arrayWrite r bank column data s).irq = s.irq ∧ (arrayWrite r bank column data s).bus = s.bus ∧ (arrayWrite r
    bank column data s).sec = s.sec ∧ (arrayWrite r bank column data s).free = s.free ∧ (arrayWrite r bank column
    data s).pending = s.pending := by
  unfold arrayWrite
  try dsimp only
  (repeat' split) <;> simp_all

@[simp] theorem writeOpen_keeps (r : Fin 16) (bank : Nat) (column : Nat) (data : List Byte) (s : State) : (writeOpen
    r bank column data s).ident = s.ident ∧ (writeOpen r bank column data s).supply = s.supply ∧ (writeOpen r bank
    column data s).sys = s.sys ∧ (writeOpen r bank column data s).rails = s.rails ∧ (writeOpen r bank column data
    s).seq = s.seq ∧ (writeOpen r bank column data s).log = s.log ∧ (writeOpen r bank column data s).cell = s.cell ∧
    (writeOpen r bank column data s).flash = s.flash ∧ (writeOpen r bank column data s).shadow = s.shadow ∧
    (writeOpen r bank column data s).neg = s.neg ∧ (writeOpen r bank column data s).nand = s.nand ∧ (writeOpen r
    bank column data s).tiers = s.tiers ∧ (writeOpen r bank column data s).ports = s.ports ∧ (writeOpen r bank
    column data s).irq = s.irq ∧ (writeOpen r bank column data s).bus = s.bus ∧ (writeOpen r bank column data s).sec
    = s.sec ∧ (writeOpen r bank column data s).free = s.free ∧ (writeOpen r bank column data s).pending = s.pending
    := by
  unfold writeOpen
  try dsimp only
  (repeat' split) <;> simp_all

@[simp] theorem bankOnly_keeps (r : Fin 16) (s : State) : (bankOnly r s).ident = s.ident ∧ (bankOnly r s).supply =
    s.supply ∧ (bankOnly r s).sys = s.sys ∧ (bankOnly r s).rails = s.rails ∧ (bankOnly r s).seq = s.seq ∧ (bankOnly
    r s).log = s.log ∧ (bankOnly r s).cell = s.cell ∧ (bankOnly r s).flash = s.flash ∧ (bankOnly r s).shadow =
    s.shadow ∧ (bankOnly r s).neg = s.neg ∧ (bankOnly r s).nand = s.nand ∧ (bankOnly r s).tiers = s.tiers ∧
    (bankOnly r s).ports = s.ports ∧ (bankOnly r s).irq = s.irq ∧ (bankOnly r s).bus = s.bus ∧ (bankOnly r s).sec =
    s.sec ∧ (bankOnly r s).free = s.free ∧ (bankOnly r s).pending = s.pending := by
  unfold bankOnly
  simp

@[simp] theorem prechargeBanks_keeps (r : Fin 16) (bank : Option Nat) (s : State) : (prechargeBanks r bank s).ident
    = s.ident ∧ (prechargeBanks r bank s).supply = s.supply ∧ (prechargeBanks r bank s).sys = s.sys ∧
    (prechargeBanks r bank s).rails = s.rails ∧ (prechargeBanks r bank s).seq = s.seq ∧ (prechargeBanks r bank
    s).log = s.log ∧ (prechargeBanks r bank s).cell = s.cell ∧ (prechargeBanks r bank s).flash = s.flash ∧
    (prechargeBanks r bank s).shadow = s.shadow ∧ (prechargeBanks r bank s).neg = s.neg ∧ (prechargeBanks r bank
    s).nand = s.nand ∧ (prechargeBanks r bank s).tiers = s.tiers ∧ (prechargeBanks r bank s).ports = s.ports ∧
    (prechargeBanks r bank s).sec = s.sec ∧ (prechargeBanks r bank s).pending = s.pending := by
  unfold prechargeBanks
  simp

@[simp] theorem refreshRank_keeps (r : Fin 16) (s : State) : (refreshRank r s).ident = s.ident ∧ (refreshRank r
    s).supply = s.supply ∧ (refreshRank r s).sys = s.sys ∧ (refreshRank r s).rails = s.rails ∧ (refreshRank r s).seq
    = s.seq ∧ (refreshRank r s).log = s.log ∧ (refreshRank r s).cell = s.cell ∧ (refreshRank r s).flash = s.flash ∧
    (refreshRank r s).shadow = s.shadow ∧ (refreshRank r s).neg = s.neg ∧ (refreshRank r s).nand = s.nand ∧
    (refreshRank r s).tiers = s.tiers ∧ (refreshRank r s).ports = s.ports ∧ (refreshRank r s).irq = s.irq ∧
    (refreshRank r s).bus = s.bus ∧ (refreshRank r s).sec = s.sec ∧ (refreshRank r s).free = s.free ∧ (refreshRank r
    s).pending = s.pending := by
  unfold refreshRank
  simp

@[simp] theorem enterSelfRefresh_keeps (r : Fin 16) (pd : Bool) (s : State) : (enterSelfRefresh r pd s).ident =
    s.ident ∧ (enterSelfRefresh r pd s).supply = s.supply ∧ (enterSelfRefresh r pd s).sys = s.sys ∧
    (enterSelfRefresh r pd s).rails = s.rails ∧ (enterSelfRefresh r pd s).seq = s.seq ∧ (enterSelfRefresh r pd
    s).log = s.log ∧ (enterSelfRefresh r pd s).cell = s.cell ∧ (enterSelfRefresh r pd s).flash = s.flash ∧
    (enterSelfRefresh r pd s).shadow = s.shadow ∧ (enterSelfRefresh r pd s).neg = s.neg ∧ (enterSelfRefresh r pd
    s).nand = s.nand ∧ (enterSelfRefresh r pd s).tiers = s.tiers ∧ (enterSelfRefresh r pd s).ports = s.ports ∧
    (enterSelfRefresh r pd s).sec = s.sec ∧ (enterSelfRefresh r pd s).pending = s.pending := by
  unfold enterSelfRefresh
  simp

@[simp] theorem exitSelfRefresh_keeps (r : Fin 16) (s : State) : (exitSelfRefresh r s).ident = s.ident ∧
    (exitSelfRefresh r s).supply = s.supply ∧ (exitSelfRefresh r s).sys = s.sys ∧ (exitSelfRefresh r s).rails =
    s.rails ∧ (exitSelfRefresh r s).seq = s.seq ∧ (exitSelfRefresh r s).log = s.log ∧ (exitSelfRefresh r s).cell =
    s.cell ∧ (exitSelfRefresh r s).flash = s.flash ∧ (exitSelfRefresh r s).shadow = s.shadow ∧ (exitSelfRefresh r
    s).neg = s.neg ∧ (exitSelfRefresh r s).nand = s.nand ∧ (exitSelfRefresh r s).tiers = s.tiers ∧ (exitSelfRefresh
    r s).ports = s.ports ∧ (exitSelfRefresh r s).irq = s.irq ∧ (exitSelfRefresh r s).bus = s.bus ∧ (exitSelfRefresh
    r s).sec = s.sec ∧ (exitSelfRefresh r s).free = s.free ∧ (exitSelfRefresh r s).pending = s.pending := by
  unfold exitSelfRefresh
  simp

@[simp] theorem enterPowerDown_keeps (r : Fin 16) (s : State) : (enterPowerDown r s).ident = s.ident ∧
    (enterPowerDown r s).supply = s.supply ∧ (enterPowerDown r s).sys = s.sys ∧ (enterPowerDown r s).rails = s.rails
    ∧ (enterPowerDown r s).seq = s.seq ∧ (enterPowerDown r s).log = s.log ∧ (enterPowerDown r s).cell = s.cell ∧
    (enterPowerDown r s).flash = s.flash ∧ (enterPowerDown r s).shadow = s.shadow ∧ (enterPowerDown r s).neg = s.neg
    ∧ (enterPowerDown r s).nand = s.nand ∧ (enterPowerDown r s).tiers = s.tiers ∧ (enterPowerDown r s).ports =
    s.ports ∧ (enterPowerDown r s).irq = s.irq ∧ (enterPowerDown r s).bus = s.bus ∧ (enterPowerDown r s).sec = s.sec
    ∧ (enterPowerDown r s).free = s.free ∧ (enterPowerDown r s).pending = s.pending := by
  unfold enterPowerDown
  simp

@[simp] theorem exitPowerDown_keeps (r : Fin 16) (s : State) : (exitPowerDown r s).ident = s.ident ∧ (exitPowerDown
    r s).supply = s.supply ∧ (exitPowerDown r s).sys = s.sys ∧ (exitPowerDown r s).rails = s.rails ∧ (exitPowerDown
    r s).seq = s.seq ∧ (exitPowerDown r s).log = s.log ∧ (exitPowerDown r s).cell = s.cell ∧ (exitPowerDown r
    s).flash = s.flash ∧ (exitPowerDown r s).shadow = s.shadow ∧ (exitPowerDown r s).neg = s.neg ∧ (exitPowerDown r
    s).nand = s.nand ∧ (exitPowerDown r s).tiers = s.tiers ∧ (exitPowerDown r s).ports = s.ports ∧ (exitPowerDown r
    s).irq = s.irq ∧ (exitPowerDown r s).bus = s.bus ∧ (exitPowerDown r s).sec = s.sec ∧ (exitPowerDown r s).free =
    s.free ∧ (exitPowerDown r s).pending = s.pending := by
  unfold exitPowerDown
  simp

@[simp] theorem modeWrite_keeps (r : Fin 16) (addr : Byte) (op : Byte) (e : MrEffect) (s : State) : (modeWrite r
    addr op e s).ident = s.ident ∧ (modeWrite r addr op e s).supply = s.supply ∧ (modeWrite r addr op e s).sys =
    s.sys ∧ (modeWrite r addr op e s).rails = s.rails ∧ (modeWrite r addr op e s).seq = s.seq ∧ (modeWrite r addr op
    e s).log = s.log ∧ (modeWrite r addr op e s).cell = s.cell ∧ (modeWrite r addr op e s).flash = s.flash ∧
    (modeWrite r addr op e s).shadow = s.shadow ∧ (modeWrite r addr op e s).neg = s.neg ∧ (modeWrite r addr op e
    s).nand = s.nand ∧ (modeWrite r addr op e s).tiers = s.tiers ∧ (modeWrite r addr op e s).ports = s.ports ∧
    (modeWrite r addr op e s).sec = s.sec ∧ (modeWrite r addr op e s).pending = s.pending := by
  unfold modeWrite
  try dsimp only
  (repeat' split) <;> simp_all

@[simp] theorem mpc_keeps (r : Fin 16) (window : Option Bool) (s : State) : (mpc r window s).ident = s.ident ∧ (mpc
    r window s).supply = s.supply ∧ (mpc r window s).sys = s.sys ∧ (mpc r window s).rails = s.rails ∧ (mpc r window
    s).seq = s.seq ∧ (mpc r window s).log = s.log ∧ (mpc r window s).cell = s.cell ∧ (mpc r window s).flash =
    s.flash ∧ (mpc r window s).shadow = s.shadow ∧ (mpc r window s).neg = s.neg ∧ (mpc r window s).nand = s.nand ∧
    (mpc r window s).tiers = s.tiers ∧ (mpc r window s).ports = s.ports ∧ (mpc r window s).irq = s.irq ∧ (mpc r
    window s).bus = s.bus ∧ (mpc r window s).sec = s.sec ∧ (mpc r window s).free = s.free ∧ (mpc r window s).pending
    = s.pending := by
  unfold mpc
  simp

@[simp] theorem relocked_keeps (k : Fin 8) (s : State) : (relocked k s).ident = s.ident ∧ (relocked k s).supply =
    s.supply ∧ (relocked k s).sys = s.sys ∧ (relocked k s).rails = s.rails ∧ (relocked k s).seq = s.seq ∧ (relocked
    k s).log = s.log ∧ (relocked k s).cell = s.cell ∧ (relocked k s).flash = s.flash ∧ (relocked k s).shadow =
    s.shadow ∧ (relocked k s).neg = s.neg ∧ (relocked k s).nand = s.nand ∧ (relocked k s).tiers = s.tiers ∧
    (relocked k s).ports = s.ports ∧ (relocked k s).sec = s.sec ∧ (relocked k s).pending = s.pending := by
  unfold relocked
  simp

@[simp] theorem resetSide_keeps (side : Fin 2) (s : State) : (resetSide side s).ident = s.ident ∧ (resetSide side
    s).supply = s.supply ∧ (resetSide side s).sys = s.sys ∧ (resetSide side s).rails = s.rails ∧ (resetSide side
    s).seq = s.seq ∧ (resetSide side s).log = s.log ∧ (resetSide side s).cell = s.cell ∧ (resetSide side s).flash =
    s.flash ∧ (resetSide side s).shadow = s.shadow ∧ (resetSide side s).neg = s.neg ∧ (resetSide side s).nand =
    s.nand ∧ (resetSide side s).tiers = s.tiers ∧ (resetSide side s).ports = s.ports ∧ (resetSide side s).sec =
    s.sec ∧ (resetSide side s).pending = s.pending := by
  unfold resetSide
  simp

@[simp] theorem lightStart_keeps (s : State) : (lightStart s).ident = s.ident ∧ (lightStart s).supply = s.supply ∧
    (lightStart s).sys = s.sys ∧ (lightStart s).rails = s.rails ∧ (lightStart s).seq = s.seq ∧ (lightStart s).log =
    s.log ∧ (lightStart s).cell = s.cell ∧ (lightStart s).flash = s.flash ∧ (lightStart s).shadow = s.shadow ∧
    (lightStart s).neg = s.neg ∧ (lightStart s).nand = s.nand ∧ (lightStart s).tiers = s.tiers ∧ (lightStart
    s).ports = s.ports ∧ (lightStart s).irq = s.irq ∧ (lightStart s).bus = s.bus ∧ (lightStart s).sec = s.sec ∧
    (lightStart s).free = s.free ∧ (lightStart s).pending = s.pending := by
  unfold lightStart
  simp

@[simp] theorem ranksFresh_keeps (s : State) : (ranksFresh s).ident = s.ident ∧ (ranksFresh s).supply = s.supply ∧
    (ranksFresh s).sys = s.sys ∧ (ranksFresh s).rails = s.rails ∧ (ranksFresh s).seq = s.seq ∧ (ranksFresh s).log =
    s.log ∧ (ranksFresh s).cell = s.cell ∧ (ranksFresh s).flash = s.flash ∧ (ranksFresh s).shadow = s.shadow ∧
    (ranksFresh s).neg = s.neg ∧ (ranksFresh s).nand = s.nand ∧ (ranksFresh s).tiers = s.tiers ∧ (ranksFresh
    s).ports = s.ports ∧ (ranksFresh s).irq = s.irq ∧ (ranksFresh s).bus = s.bus ∧ (ranksFresh s).sec = s.sec ∧
    (ranksFresh s).free = s.free ∧ (ranksFresh s).pending = s.pending := by
  unfold ranksFresh
  simp

end Sys2Proof.Machine
end

