-- ==== Sys2Proof/Laws/KeepsNand.lean ====
section
/-! SUPPORT. What each operation of Machine/NandQueue, Media, Anchor leaves as it was: one lemma an operation, for
`simp`. -/

set_option linter.unusedSimpArgs false
set_option linter.unusedVariables false
set_option linter.unusedTactic false
set_option linter.unreachableTactic false

namespace Sys2Proof.Machine

@[simp] theorem onNand_keeps (f : Nand → Nand) (s : State) : (onNand f s).ident = s.ident ∧ (onNand f s).supply =
    s.supply ∧ (onNand f s).sys = s.sys ∧ (onNand f s).rails = s.rails ∧ (onNand f s).seq = s.seq ∧ (onNand f s).log
    = s.log ∧ (onNand f s).cell = s.cell ∧ (onNand f s).flash = s.flash ∧ (onNand f s).shadow = s.shadow ∧ (onNand f
    s).light = s.light ∧ (onNand f s).neg = s.neg ∧ (onNand f s).tiers = s.tiers ∧ (onNand f s).ports = s.ports ∧
    (onNand f s).irq = s.irq ∧ (onNand f s).bus = s.bus ∧ (onNand f s).sec = s.sec ∧ (onNand f s).free = s.free ∧
    (onNand f s).pending = s.pending := by
  unfold onNand
  simp

@[simp] theorem onChan_keeps (c : ChanId) (f : Channel → Channel) (s : State) : (onChan c f s).ident = s.ident ∧
    (onChan c f s).supply = s.supply ∧ (onChan c f s).sys = s.sys ∧ (onChan c f s).rails = s.rails ∧ (onChan c f
    s).seq = s.seq ∧ (onChan c f s).log = s.log ∧ (onChan c f s).cell = s.cell ∧ (onChan c f s).flash = s.flash ∧
    (onChan c f s).shadow = s.shadow ∧ (onChan c f s).light = s.light ∧ (onChan c f s).neg = s.neg ∧ (onChan c f
    s).tiers = s.tiers ∧ (onChan c f s).ports = s.ports ∧ (onChan c f s).irq = s.irq ∧ (onChan c f s).bus = s.bus ∧
    (onChan c f s).sec = s.sec ∧ (onChan c f s).free = s.free ∧ (onChan c f s).pending = s.pending := by
  unfold onChan
  simp

@[simp] theorem onChans_keeps (cs : List ChanId) (f : ChanId → Channel → Channel) (s : State) : (onChans cs f
    s).ident = s.ident ∧ (onChans cs f s).supply = s.supply ∧ (onChans cs f s).sys = s.sys ∧ (onChans cs f s).rails
    = s.rails ∧ (onChans cs f s).seq = s.seq ∧ (onChans cs f s).log = s.log ∧ (onChans cs f s).cell = s.cell ∧
    (onChans cs f s).flash = s.flash ∧ (onChans cs f s).shadow = s.shadow ∧ (onChans cs f s).light = s.light ∧
    (onChans cs f s).neg = s.neg ∧ (onChans cs f s).tiers = s.tiers ∧ (onChans cs f s).ports = s.ports ∧ (onChans cs
    f s).irq = s.irq ∧ (onChans cs f s).bus = s.bus ∧ (onChans cs f s).sec = s.sec ∧ (onChans cs f s).free = s.free
    ∧ (onChans cs f s).pending = s.pending := by
  unfold onChans
  simp

@[simp] theorem onQueue_keeps (c : ChanId) (f : Channel → Channel) (s : State) : (onQueue c f s).ident = s.ident ∧
    (onQueue c f s).supply = s.supply ∧ (onQueue c f s).sys = s.sys ∧ (onQueue c f s).rails = s.rails ∧ (onQueue c f
    s).seq = s.seq ∧ (onQueue c f s).log = s.log ∧ (onQueue c f s).cell = s.cell ∧ (onQueue c f s).flash = s.flash ∧
    (onQueue c f s).shadow = s.shadow ∧ (onQueue c f s).light = s.light ∧ (onQueue c f s).neg = s.neg ∧ (onQueue c f
    s).tiers = s.tiers ∧ (onQueue c f s).ports = s.ports ∧ (onQueue c f s).irq = s.irq ∧ (onQueue c f s).bus = s.bus
    ∧ (onQueue c f s).sec = s.sec ∧ (onQueue c f s).free = s.free ∧ (onQueue c f s).pending = s.pending := by
  unfold onQueue
  simp

@[simp] theorem arrive_keeps (c : ChanId) (o : NandOp) (s : State) : (arrive c o s).ident = s.ident ∧ (arrive c o
    s).supply = s.supply ∧ (arrive c o s).sys = s.sys ∧ (arrive c o s).rails = s.rails ∧ (arrive c o s).seq = s.seq
    ∧ (arrive c o s).log = s.log ∧ (arrive c o s).cell = s.cell ∧ (arrive c o s).flash = s.flash ∧ (arrive c o
    s).shadow = s.shadow ∧ (arrive c o s).light = s.light ∧ (arrive c o s).neg = s.neg ∧ (arrive c o s).tiers =
    s.tiers ∧ (arrive c o s).ports = s.ports ∧ (arrive c o s).irq = s.irq ∧ (arrive c o s).bus = s.bus ∧ (arrive c o
    s).sec = s.sec ∧ (arrive c o s).free = s.free ∧ (arrive c o s).pending = s.pending := by
  unfold arrive
  simp

@[simp] theorem depart_keeps (c : ChanId) (id : Nat) (s : State) : (depart c id s).ident = s.ident ∧ (depart c id
    s).supply = s.supply ∧ (depart c id s).sys = s.sys ∧ (depart c id s).rails = s.rails ∧ (depart c id s).seq =
    s.seq ∧ (depart c id s).log = s.log ∧ (depart c id s).cell = s.cell ∧ (depart c id s).flash = s.flash ∧ (depart
    c id s).shadow = s.shadow ∧ (depart c id s).light = s.light ∧ (depart c id s).neg = s.neg ∧ (depart c id
    s).tiers = s.tiers ∧ (depart c id s).ports = s.ports ∧ (depart c id s).irq = s.irq ∧ (depart c id s).bus = s.bus
    ∧ (depart c id s).sec = s.sec ∧ (depart c id s).free = s.free ∧ (depart c id s).pending = s.pending := by
  unfold depart
  simp

@[simp] theorem workBegins_keeps (id : Nat) (cls : Nat) (s : State) : (workBegins id cls s).ident = s.ident ∧
    (workBegins id cls s).supply = s.supply ∧ (workBegins id cls s).sys = s.sys ∧ (workBegins id cls s).rails =
    s.rails ∧ (workBegins id cls s).seq = s.seq ∧ (workBegins id cls s).log = s.log ∧ (workBegins id cls s).cell =
    s.cell ∧ (workBegins id cls s).flash = s.flash ∧ (workBegins id cls s).shadow = s.shadow ∧ (workBegins id cls
    s).light = s.light ∧ (workBegins id cls s).neg = s.neg ∧ (workBegins id cls s).tiers = s.tiers ∧ (workBegins id
    cls s).ports = s.ports ∧ (workBegins id cls s).irq = s.irq ∧ (workBegins id cls s).bus = s.bus ∧ (workBegins id
    cls s).sec = s.sec ∧ (workBegins id cls s).free = s.free ∧ (workBegins id cls s).pending = s.pending := by
  unfold workBegins
  simp

@[simp] theorem workEnds_keeps (id : Nat) (s : State) : (workEnds id s).ident = s.ident ∧ (workEnds id s).supply =
    s.supply ∧ (workEnds id s).sys = s.sys ∧ (workEnds id s).rails = s.rails ∧ (workEnds id s).seq = s.seq ∧
    (workEnds id s).log = s.log ∧ (workEnds id s).cell = s.cell ∧ (workEnds id s).flash = s.flash ∧ (workEnds id
    s).shadow = s.shadow ∧ (workEnds id s).light = s.light ∧ (workEnds id s).neg = s.neg ∧ (workEnds id s).tiers =
    s.tiers ∧ (workEnds id s).ports = s.ports ∧ (workEnds id s).irq = s.irq ∧ (workEnds id s).bus = s.bus ∧
    (workEnds id s).sec = s.sec ∧ (workEnds id s).free = s.free ∧ (workEnds id s).pending = s.pending := by
  unfold workEnds
  simp

@[simp] theorem resumeErase_keeps (c : ChanId) (lun : Fin 16) (s : State) : (resumeErase c lun s).ident = s.ident ∧
    (resumeErase c lun s).supply = s.supply ∧ (resumeErase c lun s).sys = s.sys ∧ (resumeErase c lun s).rails =
    s.rails ∧ (resumeErase c lun s).seq = s.seq ∧ (resumeErase c lun s).log = s.log ∧ (resumeErase c lun s).cell =
    s.cell ∧ (resumeErase c lun s).flash = s.flash ∧ (resumeErase c lun s).shadow = s.shadow ∧ (resumeErase c lun
    s).light = s.light ∧ (resumeErase c lun s).neg = s.neg ∧ (resumeErase c lun s).tiers = s.tiers ∧ (resumeErase c
    lun s).ports = s.ports ∧ (resumeErase c lun s).irq = s.irq ∧ (resumeErase c lun s).bus = s.bus ∧ (resumeErase c
    lun s).sec = s.sec ∧ (resumeErase c lun s).free = s.free ∧ (resumeErase c lun s).pending = s.pending := by
  unfold resumeErase
  simp

@[simp] theorem holdoffEnds_keeps (c : ChanId) (lun : Fin 16) (s : State) : (holdoffEnds c lun s).ident = s.ident ∧
    (holdoffEnds c lun s).supply = s.supply ∧ (holdoffEnds c lun s).sys = s.sys ∧ (holdoffEnds c lun s).rails =
    s.rails ∧ (holdoffEnds c lun s).seq = s.seq ∧ (holdoffEnds c lun s).log = s.log ∧ (holdoffEnds c lun s).cell =
    s.cell ∧ (holdoffEnds c lun s).flash = s.flash ∧ (holdoffEnds c lun s).shadow = s.shadow ∧ (holdoffEnds c lun
    s).light = s.light ∧ (holdoffEnds c lun s).neg = s.neg ∧ (holdoffEnds c lun s).tiers = s.tiers ∧ (holdoffEnds c
    lun s).ports = s.ports ∧ (holdoffEnds c lun s).irq = s.irq ∧ (holdoffEnds c lun s).bus = s.bus ∧ (holdoffEnds c
    lun s).sec = s.sec ∧ (holdoffEnds c lun s).free = s.free ∧ (holdoffEnds c lun s).pending = s.pending := by
  unfold holdoffEnds
  simp

@[simp] theorem suspendAll_keeps (s : State) : (suspendAll s).ident = s.ident ∧ (suspendAll s).supply = s.supply ∧
    (suspendAll s).sys = s.sys ∧ (suspendAll s).rails = s.rails ∧ (suspendAll s).seq = s.seq ∧ (suspendAll s).log =
    s.log ∧ (suspendAll s).cell = s.cell ∧ (suspendAll s).flash = s.flash ∧ (suspendAll s).shadow = s.shadow ∧
    (suspendAll s).light = s.light ∧ (suspendAll s).neg = s.neg ∧ (suspendAll s).tiers = s.tiers ∧ (suspendAll
    s).ports = s.ports ∧ (suspendAll s).irq = s.irq ∧ (suspendAll s).bus = s.bus ∧ (suspendAll s).sec = s.sec ∧
    (suspendAll s).free = s.free ∧ (suspendAll s).pending = s.pending := by
  unfold suspendAll
  simp

@[simp] theorem giveCommands_keeps (c : ChanId) (cmds : List Onfi) (s : State) : (giveCommands c cmds s).ident =
    s.ident ∧ (giveCommands c cmds s).supply = s.supply ∧ (giveCommands c cmds s).sys = s.sys ∧ (giveCommands c cmds
    s).rails = s.rails ∧ (giveCommands c cmds s).seq = s.seq ∧ (giveCommands c cmds s).log = s.log ∧ (giveCommands c
    cmds s).cell = s.cell ∧ (giveCommands c cmds s).flash = s.flash ∧ (giveCommands c cmds s).shadow = s.shadow ∧
    (giveCommands c cmds s).light = s.light ∧ (giveCommands c cmds s).neg = s.neg ∧ (giveCommands c cmds s).tiers =
    s.tiers ∧ (giveCommands c cmds s).ports = s.ports ∧ (giveCommands c cmds s).irq = s.irq ∧ (giveCommands c cmds
    s).bus = s.bus ∧ (giveCommands c cmds s).sec = s.sec ∧ (giveCommands c cmds s).free = s.free ∧ (giveCommands c
    cmds s).pending = s.pending := by
  unfold giveCommands
  simp

@[simp] theorem promote_keeps (c : ChanId) (id : Nat) (s : State) : (promote c id s).ident = s.ident ∧ (promote c id
    s).supply = s.supply ∧ (promote c id s).sys = s.sys ∧ (promote c id s).rails = s.rails ∧ (promote c id s).seq =
    s.seq ∧ (promote c id s).log = s.log ∧ (promote c id s).cell = s.cell ∧ (promote c id s).flash = s.flash ∧
    (promote c id s).shadow = s.shadow ∧ (promote c id s).light = s.light ∧ (promote c id s).neg = s.neg ∧ (promote
    c id s).tiers = s.tiers ∧ (promote c id s).ports = s.ports ∧ (promote c id s).irq = s.irq ∧ (promote c id s).bus
    = s.bus ∧ (promote c id s).sec = s.sec ∧ (promote c id s).free = s.free ∧ (promote c id s).pending = s.pending
    := by
  unfold promote
  simp

@[simp] theorem writeTable_keeps (c : ChanId) (s : State) : (writeTable c s).ident = s.ident ∧ (writeTable c
    s).supply = s.supply ∧ (writeTable c s).sys = s.sys ∧ (writeTable c s).rails = s.rails ∧ (writeTable c s).seq =
    s.seq ∧ (writeTable c s).log = s.log ∧ (writeTable c s).cell = s.cell ∧ (writeTable c s).flash = s.flash ∧
    (writeTable c s).shadow = s.shadow ∧ (writeTable c s).light = s.light ∧ (writeTable c s).neg = s.neg ∧
    (writeTable c s).tiers = s.tiers ∧ (writeTable c s).ports = s.ports ∧ (writeTable c s).irq = s.irq ∧ (writeTable
    c s).bus = s.bus ∧ (writeTable c s).sec = s.sec ∧ (writeTable c s).free = s.free ∧ (writeTable c s).pending =
    s.pending := by
  unfold writeTable
  simp

@[simp] theorem writeTables_keeps (s : State) : (writeTables s).ident = s.ident ∧ (writeTables s).supply = s.supply
    ∧ (writeTables s).sys = s.sys ∧ (writeTables s).rails = s.rails ∧ (writeTables s).seq = s.seq ∧ (writeTables
    s).log = s.log ∧ (writeTables s).cell = s.cell ∧ (writeTables s).flash = s.flash ∧ (writeTables s).shadow =
    s.shadow ∧ (writeTables s).light = s.light ∧ (writeTables s).neg = s.neg ∧ (writeTables s).tiers = s.tiers ∧
    (writeTables s).ports = s.ports ∧ (writeTables s).irq = s.irq ∧ (writeTables s).bus = s.bus ∧ (writeTables
    s).sec = s.sec ∧ (writeTables s).free = s.free ∧ (writeTables s).pending = s.pending := by
  unfold writeTables
  simp

@[simp] theorem retire_keeps (c : ChanId) (b : Nat) (s : State) : (retire c b s).ident = s.ident ∧ (retire c b
    s).supply = s.supply ∧ (retire c b s).sys = s.sys ∧ (retire c b s).rails = s.rails ∧ (retire c b s).seq = s.seq
    ∧ (retire c b s).log = s.log ∧ (retire c b s).cell = s.cell ∧ (retire c b s).flash = s.flash ∧ (retire c b
    s).shadow = s.shadow ∧ (retire c b s).light = s.light ∧ (retire c b s).neg = s.neg ∧ (retire c b s).tiers =
    s.tiers ∧ (retire c b s).ports = s.ports ∧ (retire c b s).sec = s.sec ∧ (retire c b s).pending = s.pending := by
  unfold retire
  simp

@[simp] theorem letGo_keeps (c : ChanId) (b : Nat) (s : State) : (letGo c b s).ident = s.ident ∧ (letGo c b
    s).supply = s.supply ∧ (letGo c b s).sys = s.sys ∧ (letGo c b s).rails = s.rails ∧ (letGo c b s).seq = s.seq ∧
    (letGo c b s).log = s.log ∧ (letGo c b s).cell = s.cell ∧ (letGo c b s).flash = s.flash ∧ (letGo c b s).shadow =
    s.shadow ∧ (letGo c b s).light = s.light ∧ (letGo c b s).neg = s.neg ∧ (letGo c b s).tiers = s.tiers ∧ (letGo c
    b s).ports = s.ports ∧ (letGo c b s).sec = s.sec ∧ (letGo c b s).pending = s.pending := by
  unfold letGo
  simp

@[simp] theorem freeBlocks_keeps (c : ChanId) (test : Nat → NandBlock → Bool) (s : State) : (freeBlocks c test
    s).ident = s.ident ∧ (freeBlocks c test s).supply = s.supply ∧ (freeBlocks c test s).sys = s.sys ∧ (freeBlocks c
    test s).rails = s.rails ∧ (freeBlocks c test s).seq = s.seq ∧ (freeBlocks c test s).log = s.log ∧ (freeBlocks c
    test s).cell = s.cell ∧ (freeBlocks c test s).flash = s.flash ∧ (freeBlocks c test s).shadow = s.shadow ∧
    (freeBlocks c test s).light = s.light ∧ (freeBlocks c test s).neg = s.neg ∧ (freeBlocks c test s).tiers =
    s.tiers ∧ (freeBlocks c test s).ports = s.ports ∧ (freeBlocks c test s).sec = s.sec ∧ (freeBlocks c test
    s).pending = s.pending := by
  unfold freeBlocks
  simp

@[simp] theorem freeBlocksAll_keeps (test : ChanId → Nat → NandBlock → Bool) (s : State) : (freeBlocksAll test
    s).ident = s.ident ∧ (freeBlocksAll test s).supply = s.supply ∧ (freeBlocksAll test s).sys = s.sys ∧
    (freeBlocksAll test s).rails = s.rails ∧ (freeBlocksAll test s).seq = s.seq ∧ (freeBlocksAll test s).log = s.log
    ∧ (freeBlocksAll test s).cell = s.cell ∧ (freeBlocksAll test s).flash = s.flash ∧ (freeBlocksAll test s).shadow
    = s.shadow ∧ (freeBlocksAll test s).light = s.light ∧ (freeBlocksAll test s).neg = s.neg ∧ (freeBlocksAll test
    s).tiers = s.tiers ∧ (freeBlocksAll test s).ports = s.ports ∧ (freeBlocksAll test s).sec = s.sec ∧
    (freeBlocksAll test s).pending = s.pending := by
  unfold freeBlocksAll
  simp

@[simp] theorem updateLife_keeps (s : State) : (updateLife s).ident = s.ident ∧ (updateLife s).supply = s.supply ∧
    (updateLife s).sys = s.sys ∧ (updateLife s).rails = s.rails ∧ (updateLife s).seq = s.seq ∧ (updateLife s).log =
    s.log ∧ (updateLife s).cell = s.cell ∧ (updateLife s).flash = s.flash ∧ (updateLife s).shadow = s.shadow ∧
    (updateLife s).light = s.light ∧ (updateLife s).neg = s.neg ∧ (updateLife s).tiers = s.tiers ∧ (updateLife
    s).ports = s.ports ∧ (updateLife s).sec = s.sec ∧ (updateLife s).pending = s.pending := by
  unfold updateLife
  simp

@[simp] theorem onNeg_keeps (f : Neg → Neg) (s : State) : (onNeg f s).ident = s.ident ∧ (onNeg f s).supply =
    s.supply ∧ (onNeg f s).sys = s.sys ∧ (onNeg f s).rails = s.rails ∧ (onNeg f s).seq = s.seq ∧ (onNeg f s).log =
    s.log ∧ (onNeg f s).cell = s.cell ∧ (onNeg f s).flash = s.flash ∧ (onNeg f s).shadow = s.shadow ∧ (onNeg f
    s).light = s.light ∧ (onNeg f s).nand = s.nand ∧ (onNeg f s).tiers = s.tiers ∧ (onNeg f s).ports = s.ports ∧
    (onNeg f s).irq = s.irq ∧ (onNeg f s).bus = s.bus ∧ (onNeg f s).sec = s.sec ∧ (onNeg f s).free = s.free ∧ (onNeg
    f s).pending = s.pending := by
  unfold onNeg
  simp

@[simp] theorem anchorWrite_keeps (c : ChanId) (r : List Byte) (s : State) : (anchorWrite c r s).2.ident = s.ident ∧
    (anchorWrite c r s).2.supply = s.supply ∧ (anchorWrite c r s).2.sys = s.sys ∧ (anchorWrite c r s).2.rails =
    s.rails ∧ (anchorWrite c r s).2.seq = s.seq ∧ (anchorWrite c r s).2.log = s.log ∧ (anchorWrite c r s).2.cell =
    s.cell ∧ (anchorWrite c r s).2.flash = s.flash ∧ (anchorWrite c r s).2.shadow = s.shadow ∧ (anchorWrite c r
    s).2.light = s.light ∧ (anchorWrite c r s).2.neg = s.neg ∧ (anchorWrite c r s).2.tiers = s.tiers ∧ (anchorWrite
    c r s).2.ports = s.ports ∧ (anchorWrite c r s).2.irq = s.irq ∧ (anchorWrite c r s).2.bus = s.bus ∧ (anchorWrite
    c r s).2.sec = s.sec ∧ (anchorWrite c r s).2.free = s.free ∧ (anchorWrite c r s).2.pending = s.pending := by
  unfold anchorWrite
  try dsimp only
  (repeat' split) <;> simp_all

@[simp] theorem putCopies_keeps (gen : Nat) (r : List Byte) (s : State) : (putCopies gen r s).2.ident = s.ident ∧
    (putCopies gen r s).2.supply = s.supply ∧ (putCopies gen r s).2.sys = s.sys ∧ (putCopies gen r s).2.rails =
    s.rails ∧ (putCopies gen r s).2.seq = s.seq ∧ (putCopies gen r s).2.log = s.log ∧ (putCopies gen r s).2.cell =
    s.cell ∧ (putCopies gen r s).2.flash = s.flash ∧ (putCopies gen r s).2.shadow = s.shadow ∧ (putCopies gen r
    s).2.light = s.light ∧ (putCopies gen r s).2.neg = s.neg ∧ (putCopies gen r s).2.tiers = s.tiers ∧ (putCopies
    gen r s).2.ports = s.ports ∧ (putCopies gen r s).2.irq = s.irq ∧ (putCopies gen r s).2.bus = s.bus ∧ (putCopies
    gen r s).2.sec = s.sec ∧ (putCopies gen r s).2.free = s.free ∧ (putCopies gen r s).2.pending = s.pending := by
  unfold putCopies
  simp

@[simp] theorem noteRecord_keeps (gen : Nat) (type : Byte) (body : List Byte) (s : State) : (noteRecord gen type
    body s).ident = s.ident ∧ (noteRecord gen type body s).supply = s.supply ∧ (noteRecord gen type body s).sys =
    s.sys ∧ (noteRecord gen type body s).rails = s.rails ∧ (noteRecord gen type body s).seq = s.seq ∧ (noteRecord
    gen type body s).log = s.log ∧ (noteRecord gen type body s).cell = s.cell ∧ (noteRecord gen type body s).flash =
    s.flash ∧ (noteRecord gen type body s).shadow = s.shadow ∧ (noteRecord gen type body s).light = s.light ∧
    (noteRecord gen type body s).tiers = s.tiers ∧ (noteRecord gen type body s).ports = s.ports ∧ (noteRecord gen
    type body s).irq = s.irq ∧ (noteRecord gen type body s).bus = s.bus ∧ (noteRecord gen type body s).sec = s.sec ∧
    (noteRecord gen type body s).free = s.free ∧ (noteRecord gen type body s).pending = s.pending := by
  unfold noteRecord
  simp

theorem commitRecord_keeps (g : Gen) (c : Commit) (s : State) (t : State) (h : commitRecord g c s = some t) :
    t.ident = s.ident ∧ t.supply = s.supply ∧ t.sys = s.sys ∧ t.rails = s.rails ∧ t.seq = s.seq ∧ t.log = s.log ∧
    t.cell = s.cell ∧ t.flash = s.flash ∧ t.shadow = s.shadow ∧ t.light = s.light ∧ t.tiers = s.tiers ∧ t.ports =
    s.ports ∧ t.irq = s.irq ∧ t.bus = s.bus ∧ t.sec = s.sec ∧ t.free = s.free ∧ t.pending = s.pending := by
  unfold commitRecord at h
  try dsimp only at h
  (repeat' split at h) <;> simp_all
  all_goals (subst h; simp)

@[simp] theorem mark_keeps (gen : Nat) (code : Nat) (s : State) : (mark gen code s).ident = s.ident ∧ (mark gen code
    s).supply = s.supply ∧ (mark gen code s).sys = s.sys ∧ (mark gen code s).rails = s.rails ∧ (mark gen code s).seq
    = s.seq ∧ (mark gen code s).log = s.log ∧ (mark gen code s).cell = s.cell ∧ (mark gen code s).flash = s.flash ∧
    (mark gen code s).shadow = s.shadow ∧ (mark gen code s).light = s.light ∧ (mark gen code s).tiers = s.tiers ∧
    (mark gen code s).ports = s.ports ∧ (mark gen code s).irq = s.irq ∧ (mark gen code s).bus = s.bus ∧ (mark gen
    code s).sec = s.sec ∧ (mark gen code s).free = s.free ∧ (mark gen code s).pending = s.pending := by
  unfold mark
  simp

end Sys2Proof.Machine
end

