-- ==== Sys2Proof/Laws/KeepsFlash.lean ====
section
/-! SUPPORT. What each operation of Machine/Flash leaves as it was: one lemma an operation, for `simp`. -/

set_option linter.unusedSimpArgs false
set_option linter.unusedVariables false
set_option linter.unusedTactic false
set_option linter.unreachableTactic false

namespace Sys2Proof.Machine

@[simp] theorem onFlash_keeps (f : Flash → Flash) (s : State) : (onFlash f s).ident = s.ident ∧ (onFlash f s).supply
    = s.supply ∧ (onFlash f s).sys = s.sys ∧ (onFlash f s).rails = s.rails ∧ (onFlash f s).seq = s.seq ∧ (onFlash f
    s).log = s.log ∧ (onFlash f s).cell = s.cell ∧ (onFlash f s).shadow = s.shadow ∧ (onFlash f s).light = s.light ∧
    (onFlash f s).neg = s.neg ∧ (onFlash f s).nand = s.nand ∧ (onFlash f s).tiers = s.tiers ∧ (onFlash f s).ports =
    s.ports ∧ (onFlash f s).irq = s.irq ∧ (onFlash f s).bus = s.bus ∧ (onFlash f s).sec = s.sec ∧ (onFlash f s).free
    = s.free ∧ (onFlash f s).pending = s.pending := by
  unfold onFlash
  simp

@[simp] theorem countRead_keeps (errs : WordErrors) (addr : Nat) (len : Nat) (s : State) : (countRead errs addr len
    s).ident = s.ident ∧ (countRead errs addr len s).supply = s.supply ∧ (countRead errs addr len s).sys = s.sys ∧
    (countRead errs addr len s).rails = s.rails ∧ (countRead errs addr len s).seq = s.seq ∧ (countRead errs addr len
    s).log = s.log ∧ (countRead errs addr len s).cell = s.cell ∧ (countRead errs addr len s).shadow = s.shadow ∧
    (countRead errs addr len s).light = s.light ∧ (countRead errs addr len s).neg = s.neg ∧ (countRead errs addr len
    s).nand = s.nand ∧ (countRead errs addr len s).tiers = s.tiers ∧ (countRead errs addr len s).ports = s.ports ∧
    (countRead errs addr len s).sec = s.sec ∧ (countRead errs addr len s).pending = s.pending := by
  unfold countRead
  simp

@[simp] theorem flashReply_keeps (a : Abort) (s : State) : (flashReply a s).ident = s.ident ∧ (flashReply a
    s).supply = s.supply ∧ (flashReply a s).sys = s.sys ∧ (flashReply a s).rails = s.rails ∧ (flashReply a s).seq =
    s.seq ∧ (flashReply a s).log = s.log ∧ (flashReply a s).cell = s.cell ∧ (flashReply a s).flash = s.flash ∧
    (flashReply a s).shadow = s.shadow ∧ (flashReply a s).light = s.light ∧ (flashReply a s).neg = s.neg ∧
    (flashReply a s).nand = s.nand ∧ (flashReply a s).tiers = s.tiers ∧ (flashReply a s).ports = s.ports ∧
    (flashReply a s).irq = s.irq ∧ (flashReply a s).sec = s.sec ∧ (flashReply a s).free = s.free ∧ (flashReply a
    s).pending = s.pending := by
  unfold flashReply
  simp

@[simp] theorem commitEnded_keeps (completed : Bool) (s : State) : (commitEnded completed s).ident = s.ident ∧
    (commitEnded completed s).supply = s.supply ∧ (commitEnded completed s).sys = s.sys ∧ (commitEnded completed
    s).rails = s.rails ∧ (commitEnded completed s).seq = s.seq ∧ (commitEnded completed s).log = s.log ∧
    (commitEnded completed s).cell = s.cell ∧ (commitEnded completed s).shadow = s.shadow ∧ (commitEnded completed
    s).light = s.light ∧ (commitEnded completed s).neg = s.neg ∧ (commitEnded completed s).nand = s.nand ∧
    (commitEnded completed s).tiers = s.tiers ∧ (commitEnded completed s).ports = s.ports ∧ (commitEnded completed
    s).sec = s.sec ∧ (commitEnded completed s).pending = s.pending := by
  unfold commitEnded
  simp

@[simp] theorem queueJob_keeps (k : FlashKind) (ops : List FlashPrim) (s : State) : (queueJob k ops s).ident =
    s.ident ∧ (queueJob k ops s).supply = s.supply ∧ (queueJob k ops s).sys = s.sys ∧ (queueJob k ops s).rails =
    s.rails ∧ (queueJob k ops s).seq = s.seq ∧ (queueJob k ops s).log = s.log ∧ (queueJob k ops s).cell = s.cell ∧
    (queueJob k ops s).shadow = s.shadow ∧ (queueJob k ops s).light = s.light ∧ (queueJob k ops s).neg = s.neg ∧
    (queueJob k ops s).nand = s.nand ∧ (queueJob k ops s).tiers = s.tiers ∧ (queueJob k ops s).ports = s.ports ∧
    (queueJob k ops s).irq = s.irq ∧ (queueJob k ops s).bus = s.bus ∧ (queueJob k ops s).sec = s.sec ∧ (queueJob k
    ops s).free = s.free ∧ (queueJob k ops s).pending = s.pending := by
  unfold queueJob
  simp

@[simp] theorem dropJob_keeps (id : Nat) (s : State) : (dropJob id s).ident = s.ident ∧ (dropJob id s).supply =
    s.supply ∧ (dropJob id s).sys = s.sys ∧ (dropJob id s).rails = s.rails ∧ (dropJob id s).seq = s.seq ∧ (dropJob
    id s).log = s.log ∧ (dropJob id s).cell = s.cell ∧ (dropJob id s).shadow = s.shadow ∧ (dropJob id s).light =
    s.light ∧ (dropJob id s).neg = s.neg ∧ (dropJob id s).nand = s.nand ∧ (dropJob id s).tiers = s.tiers ∧ (dropJob
    id s).ports = s.ports ∧ (dropJob id s).irq = s.irq ∧ (dropJob id s).bus = s.bus ∧ (dropJob id s).sec = s.sec ∧
    (dropJob id s).free = s.free ∧ (dropJob id s).pending = s.pending := by
  unfold dropJob
  simp

@[simp] theorem refuseJob_keeps (j : FlashJob) (a : Abort) (s : State) : (refuseJob j a s).ident = s.ident ∧
    (refuseJob j a s).supply = s.supply ∧ (refuseJob j a s).sys = s.sys ∧ (refuseJob j a s).rails = s.rails ∧
    (refuseJob j a s).seq = s.seq ∧ (refuseJob j a s).log = s.log ∧ (refuseJob j a s).cell = s.cell ∧ (refuseJob j a
    s).shadow = s.shadow ∧ (refuseJob j a s).light = s.light ∧ (refuseJob j a s).neg = s.neg ∧ (refuseJob j a
    s).nand = s.nand ∧ (refuseJob j a s).tiers = s.tiers ∧ (refuseJob j a s).ports = s.ports ∧ (refuseJob j a
    s).pending = s.pending := by
  unfold refuseJob
  try dsimp only
  (repeat' split) <;> simp_all

@[simp] theorem prepare_keeps (j : FlashJob) (s : State) : (prepare j s).2.ident = s.ident ∧ (prepare j s).2.supply
    = s.supply ∧ (prepare j s).2.sys = s.sys ∧ (prepare j s).2.rails = s.rails ∧ (prepare j s).2.seq = s.seq ∧
    (prepare j s).2.log = s.log ∧ (prepare j s).2.cell = s.cell ∧ (prepare j s).2.shadow = s.shadow ∧ (prepare j
    s).2.light = s.light ∧ (prepare j s).2.neg = s.neg ∧ (prepare j s).2.nand = s.nand ∧ (prepare j s).2.tiers =
    s.tiers ∧ (prepare j s).2.ports = s.ports ∧ (prepare j s).2.irq = s.irq ∧ (prepare j s).2.bus = s.bus ∧ (prepare
    j s).2.free = s.free ∧ (prepare j s).2.pending = s.pending := by
  unfold prepare
  try dsimp only
  (repeat' split) <;> simp_all

@[simp] theorem putJob_keeps (j : FlashJob) (s : State) : (putJob j s).ident = s.ident ∧ (putJob j s).supply =
    s.supply ∧ (putJob j s).sys = s.sys ∧ (putJob j s).rails = s.rails ∧ (putJob j s).seq = s.seq ∧ (putJob j s).log
    = s.log ∧ (putJob j s).cell = s.cell ∧ (putJob j s).shadow = s.shadow ∧ (putJob j s).light = s.light ∧ (putJob j
    s).neg = s.neg ∧ (putJob j s).nand = s.nand ∧ (putJob j s).tiers = s.tiers ∧ (putJob j s).ports = s.ports ∧
    (putJob j s).irq = s.irq ∧ (putJob j s).bus = s.bus ∧ (putJob j s).sec = s.sec ∧ (putJob j s).free = s.free ∧
    (putJob j s).pending = s.pending := by
  unfold putJob
  simp

@[simp] theorem askSuspend_keeps (s : State) : (askSuspend s).ident = s.ident ∧ (askSuspend s).supply = s.supply ∧
    (askSuspend s).sys = s.sys ∧ (askSuspend s).rails = s.rails ∧ (askSuspend s).seq = s.seq ∧ (askSuspend s).log =
    s.log ∧ (askSuspend s).cell = s.cell ∧ (askSuspend s).shadow = s.shadow ∧ (askSuspend s).light = s.light ∧
    (askSuspend s).neg = s.neg ∧ (askSuspend s).nand = s.nand ∧ (askSuspend s).tiers = s.tiers ∧ (askSuspend
    s).ports = s.ports ∧ (askSuspend s).irq = s.irq ∧ (askSuspend s).bus = s.bus ∧ (askSuspend s).sec = s.sec ∧
    (askSuspend s).free = s.free ∧ (askSuspend s).pending = s.pending := by
  unfold askSuspend
  simp

@[simp] theorem startPrim_keeps (j : FlashJob) (op : FlashPrim) (s : State) : (startPrim j op s).2.ident = s.ident ∧
    (startPrim j op s).2.supply = s.supply ∧ (startPrim j op s).2.sys = s.sys ∧ (startPrim j op s).2.rails = s.rails
    ∧ (startPrim j op s).2.seq = s.seq ∧ (startPrim j op s).2.log = s.log ∧ (startPrim j op s).2.cell = s.cell ∧
    (startPrim j op s).2.shadow = s.shadow ∧ (startPrim j op s).2.light = s.light ∧ (startPrim j op s).2.neg = s.neg
    ∧ (startPrim j op s).2.nand = s.nand ∧ (startPrim j op s).2.tiers = s.tiers ∧ (startPrim j op s).2.ports =
    s.ports ∧ (startPrim j op s).2.sec = s.sec ∧ (startPrim j op s).2.pending = s.pending := by
  unfold startPrim
  try dsimp only
  (repeat' split) <;> simp_all

@[simp] theorem tryJob_keeps (j : FlashJob) (s : State) : (tryJob j s).2.ident = s.ident ∧ (tryJob j s).2.supply =
    s.supply ∧ (tryJob j s).2.sys = s.sys ∧ (tryJob j s).2.rails = s.rails ∧ (tryJob j s).2.seq = s.seq ∧ (tryJob j
    s).2.log = s.log ∧ (tryJob j s).2.cell = s.cell ∧ (tryJob j s).2.shadow = s.shadow ∧ (tryJob j s).2.light =
    s.light ∧ (tryJob j s).2.neg = s.neg ∧ (tryJob j s).2.nand = s.nand ∧ (tryJob j s).2.tiers = s.tiers ∧ (tryJob j
    s).2.ports = s.ports ∧ (tryJob j s).2.pending = s.pending := by
  unfold tryJob
  try dsimp only
  (repeat' split) <;> simp_all

@[simp] theorem pump_keeps (x1 : Nat) (x2 : State) : (pump x1 x2).ident = x2.ident ∧ (pump x1 x2).supply = x2.supply
    ∧ (pump x1 x2).sys = x2.sys ∧ (pump x1 x2).rails = x2.rails ∧ (pump x1 x2).seq = x2.seq ∧ (pump x1 x2).log =
    x2.log ∧ (pump x1 x2).cell = x2.cell ∧ (pump x1 x2).shadow = x2.shadow ∧ (pump x1 x2).light = x2.light ∧ (pump
    x1 x2).neg = x2.neg ∧ (pump x1 x2).nand = x2.nand ∧ (pump x1 x2).tiers = x2.tiers ∧ (pump x1 x2).ports =
    x2.ports ∧ (pump x1 x2).pending = x2.pending := by
  induction x1 generalizing x2 with
  | zero => simp [pump]
  | succ n ih =>
    unfold pump
    try dsimp only
    (repeat' split) <;> simp [ih]

@[simp] theorem flashKick_keeps (s : State) : (flashKick s).ident = s.ident ∧ (flashKick s).supply = s.supply ∧
    (flashKick s).sys = s.sys ∧ (flashKick s).rails = s.rails ∧ (flashKick s).seq = s.seq ∧ (flashKick s).log =
    s.log ∧ (flashKick s).cell = s.cell ∧ (flashKick s).shadow = s.shadow ∧ (flashKick s).light = s.light ∧
    (flashKick s).neg = s.neg ∧ (flashKick s).nand = s.nand ∧ (flashKick s).tiers = s.tiers ∧ (flashKick s).ports =
    s.ports ∧ (flashKick s).pending = s.pending := by
  unfold flashKick
  simp

@[simp] theorem logPoint_keeps (cause : Byte) (s : State) : (logPoint cause s).ident = s.ident ∧ (logPoint cause
    s).supply = s.supply ∧ (logPoint cause s).sys = s.sys ∧ (logPoint cause s).rails = s.rails ∧ (logPoint cause
    s).seq = s.seq ∧ (logPoint cause s).cell = s.cell ∧ (logPoint cause s).shadow = s.shadow ∧ (logPoint cause
    s).light = s.light ∧ (logPoint cause s).neg = s.neg ∧ (logPoint cause s).nand = s.nand ∧ (logPoint cause
    s).tiers = s.tiers ∧ (logPoint cause s).ports = s.ports ∧ (logPoint cause s).pending = s.pending := by
  unfold logPoint
  simp

@[simp] theorem logDeferred_keeps (s : State) : (logDeferred s).ident = s.ident ∧ (logDeferred s).supply = s.supply
    ∧ (logDeferred s).sys = s.sys ∧ (logDeferred s).rails = s.rails ∧ (logDeferred s).seq = s.seq ∧ (logDeferred
    s).cell = s.cell ∧ (logDeferred s).shadow = s.shadow ∧ (logDeferred s).light = s.light ∧ (logDeferred s).neg =
    s.neg ∧ (logDeferred s).nand = s.nand ∧ (logDeferred s).tiers = s.tiers ∧ (logDeferred s).ports = s.ports ∧
    (logDeferred s).pending = s.pending := by
  unfold logDeferred
  try dsimp only
  (repeat' split) <;> simp_all

@[simp] theorem requestCommit_keeps (s : State) : (requestCommit s).ident = s.ident ∧ (requestCommit s).supply =
    s.supply ∧ (requestCommit s).sys = s.sys ∧ (requestCommit s).rails = s.rails ∧ (requestCommit s).seq = s.seq ∧
    (requestCommit s).log = s.log ∧ (requestCommit s).cell = s.cell ∧ (requestCommit s).shadow = s.shadow ∧
    (requestCommit s).light = s.light ∧ (requestCommit s).neg = s.neg ∧ (requestCommit s).nand = s.nand ∧
    (requestCommit s).tiers = s.tiers ∧ (requestCommit s).ports = s.ports ∧ (requestCommit s).pending = s.pending :=
    by
  unfold requestCommit
  simp

@[simp] theorem commitNow_keeps (s : State) : (commitNow s).ident = s.ident ∧ (commitNow s).supply = s.supply ∧
    (commitNow s).sys = s.sys ∧ (commitNow s).rails = s.rails ∧ (commitNow s).seq = s.seq ∧ (commitNow s).log =
    s.log ∧ (commitNow s).cell = s.cell ∧ (commitNow s).shadow = s.shadow ∧ (commitNow s).light = s.light ∧
    (commitNow s).neg = s.neg ∧ (commitNow s).nand = s.nand ∧ (commitNow s).tiers = s.tiers ∧ (commitNow s).ports =
    s.ports ∧ (commitNow s).pending = s.pending := by
  unfold commitNow
  simp

@[simp] theorem enterFault_keeps (code : Byte) (cause : Byte) (s : State) : (enterFault code cause s).ident =
    s.ident ∧ (enterFault code cause s).supply = s.supply ∧ (enterFault code cause s).rails = s.rails ∧ (enterFault
    code cause s).seq = s.seq ∧ (enterFault code cause s).log = s.log ∧ (enterFault code cause s).cell = s.cell ∧
    (enterFault code cause s).shadow = s.shadow ∧ (enterFault code cause s).light = s.light ∧ (enterFault code cause
    s).neg = s.neg ∧ (enterFault code cause s).nand = s.nand ∧ (enterFault code cause s).tiers = s.tiers ∧
    (enterFault code cause s).ports = s.ports ∧ (enterFault code cause s).pending = s.pending := by
  unfold enterFault
  simp

@[simp] theorem writeP_keeps (key : Nat) (v : Nat) (s : State) : (writeP key v s).ident = s.ident ∧ (writeP key v
    s).supply = s.supply ∧ (writeP key v s).sys = s.sys ∧ (writeP key v s).rails = s.rails ∧ (writeP key v s).seq =
    s.seq ∧ (writeP key v s).log = s.log ∧ (writeP key v s).cell = s.cell ∧ (writeP key v s).light = s.light ∧
    (writeP key v s).neg = s.neg ∧ (writeP key v s).nand = s.nand ∧ (writeP key v s).tiers = s.tiers ∧ (writeP key v
    s).ports = s.ports ∧ (writeP key v s).irq = s.irq ∧ (writeP key v s).bus = s.bus ∧ (writeP key v s).sec = s.sec
    ∧ (writeP key v s).free = s.free ∧ (writeP key v s).pending = s.pending := by
  unfold writeP
  simp

@[simp] theorem abortProgram_keeps (s : State) (b : Fin 2) : (abortProgram s b).ident = s.ident ∧ (abortProgram s
    b).supply = s.supply ∧ (abortProgram s b).sys = s.sys ∧ (abortProgram s b).rails = s.rails ∧ (abortProgram s
    b).seq = s.seq ∧ (abortProgram s b).log = s.log ∧ (abortProgram s b).cell = s.cell ∧ (abortProgram s b).shadow =
    s.shadow ∧ (abortProgram s b).light = s.light ∧ (abortProgram s b).neg = s.neg ∧ (abortProgram s b).nand =
    s.nand ∧ (abortProgram s b).tiers = s.tiers ∧ (abortProgram s b).ports = s.ports ∧ (abortProgram s b).irq =
    s.irq ∧ (abortProgram s b).bus = s.bus ∧ (abortProgram s b).sec = s.sec ∧ (abortProgram s b).pending = s.pending
    := by
  unfold abortProgram
  try dsimp only
  (repeat' split) <;> simp_all

@[simp] theorem abortErase_keeps (s : State) : (abortErase s).ident = s.ident ∧ (abortErase s).supply = s.supply ∧
    (abortErase s).sys = s.sys ∧ (abortErase s).rails = s.rails ∧ (abortErase s).seq = s.seq ∧ (abortErase s).log =
    s.log ∧ (abortErase s).cell = s.cell ∧ (abortErase s).shadow = s.shadow ∧ (abortErase s).light = s.light ∧
    (abortErase s).neg = s.neg ∧ (abortErase s).nand = s.nand ∧ (abortErase s).tiers = s.tiers ∧ (abortErase
    s).ports = s.ports ∧ (abortErase s).irq = s.irq ∧ (abortErase s).bus = s.bus ∧ (abortErase s).pending =
    s.pending := by
  unfold abortErase
  try dsimp only
  (repeat' split) <;> simp_all

@[simp] theorem abortJob_keeps (s : State) (j : FlashJob) : (abortJob s j).ident = s.ident ∧ (abortJob s j).supply =
    s.supply ∧ (abortJob s j).sys = s.sys ∧ (abortJob s j).rails = s.rails ∧ (abortJob s j).seq = s.seq ∧ (abortJob
    s j).cell = s.cell ∧ (abortJob s j).shadow = s.shadow ∧ (abortJob s j).light = s.light ∧ (abortJob s j).neg =
    s.neg ∧ (abortJob s j).nand = s.nand ∧ (abortJob s j).tiers = s.tiers ∧ (abortJob s j).ports = s.ports ∧
    (abortJob s j).pending = s.pending := by
  unfold abortJob
  try dsimp only
  (repeat' split) <;> simp_all

@[simp] theorem flashAbort_keeps (s : State) : (flashAbort s).ident = s.ident ∧ (flashAbort s).supply = s.supply ∧
    (flashAbort s).sys = s.sys ∧ (flashAbort s).rails = s.rails ∧ (flashAbort s).seq = s.seq ∧ (flashAbort s).cell =
    s.cell ∧ (flashAbort s).shadow = s.shadow ∧ (flashAbort s).light = s.light ∧ (flashAbort s).neg = s.neg ∧
    (flashAbort s).nand = s.nand ∧ (flashAbort s).tiers = s.tiers ∧ (flashAbort s).ports = s.ports ∧ (flashAbort
    s).pending = s.pending := by
  unfold flashAbort
  simp

@[simp] theorem opEnded_keeps (id : Nat) (s : State) : (opEnded id s).ident = s.ident ∧ (opEnded id s).supply =
    s.supply ∧ (opEnded id s).sys = s.sys ∧ (opEnded id s).rails = s.rails ∧ (opEnded id s).seq = s.seq ∧ (opEnded
    id s).log = s.log ∧ (opEnded id s).cell = s.cell ∧ (opEnded id s).shadow = s.shadow ∧ (opEnded id s).light =
    s.light ∧ (opEnded id s).neg = s.neg ∧ (opEnded id s).nand = s.nand ∧ (opEnded id s).tiers = s.tiers ∧ (opEnded
    id s).ports = s.ports ∧ (opEnded id s).irq = s.irq ∧ (opEnded id s).bus = s.bus ∧ (opEnded id s).sec = s.sec ∧
    (opEnded id s).free = s.free ∧ (opEnded id s).pending = s.pending := by
  unfold opEnded
  simp

@[simp] theorem readSuspends_keeps (sec : Nat) (s : State) : (readSuspends sec s).ident = s.ident ∧ (readSuspends
    sec s).supply = s.supply ∧ (readSuspends sec s).sys = s.sys ∧ (readSuspends sec s).rails = s.rails ∧
    (readSuspends sec s).seq = s.seq ∧ (readSuspends sec s).log = s.log ∧ (readSuspends sec s).cell = s.cell ∧
    (readSuspends sec s).shadow = s.shadow ∧ (readSuspends sec s).light = s.light ∧ (readSuspends sec s).neg = s.neg
    ∧ (readSuspends sec s).nand = s.nand ∧ (readSuspends sec s).tiers = s.tiers ∧ (readSuspends sec s).ports =
    s.ports ∧ (readSuspends sec s).irq = s.irq ∧ (readSuspends sec s).bus = s.bus ∧ (readSuspends sec s).sec = s.sec
    ∧ (readSuspends sec s).free = s.free ∧ (readSuspends sec s).pending = s.pending := by
  unfold readSuspends
  try dsimp only
  (repeat' split) <;> simp_all

@[simp] theorem scanFlash_keeps (s : State) : (scanFlash s).ident = s.ident ∧ (scanFlash s).supply = s.supply ∧
    (scanFlash s).sys = s.sys ∧ (scanFlash s).rails = s.rails ∧ (scanFlash s).seq = s.seq ∧ (scanFlash s).log =
    s.log ∧ (scanFlash s).cell = s.cell ∧ (scanFlash s).shadow = s.shadow ∧ (scanFlash s).light = s.light ∧
    (scanFlash s).neg = s.neg ∧ (scanFlash s).nand = s.nand ∧ (scanFlash s).tiers = s.tiers ∧ (scanFlash s).ports =
    s.ports ∧ (scanFlash s).irq = s.irq ∧ (scanFlash s).bus = s.bus ∧ (scanFlash s).sec = s.sec ∧ (scanFlash s).free
    = s.free ∧ (scanFlash s).pending = s.pending := by
  unfold scanFlash
  simp

end Sys2Proof.Machine
end

