-- ==== Sys2Proof/Laws/KeepsRails.lean ====
section
/-! SUPPORT. What each operation of Machine/Cell, Flags, Rails, Sequencer leaves as it was: one lemma an operation,
for `simp`. -/

set_option linter.unusedSimpArgs false
set_option linter.unusedVariables false
set_option linter.unusedTactic false
set_option linter.unreachableTactic false

namespace Sys2Proof.Machine

@[simp] theorem onCell_keeps (f : Cell → Cell) (s : State) : (onCell f s).ident = s.ident ∧ (onCell f s).supply =
    s.supply ∧ (onCell f s).sys = s.sys ∧ (onCell f s).rails = s.rails ∧ (onCell f s).seq = s.seq ∧ (onCell f s).log
    = s.log ∧ (onCell f s).flash = s.flash ∧ (onCell f s).shadow = s.shadow ∧ (onCell f s).light = s.light ∧ (onCell
    f s).neg = s.neg ∧ (onCell f s).nand = s.nand ∧ (onCell f s).tiers = s.tiers ∧ (onCell f s).ports = s.ports ∧
    (onCell f s).irq = s.irq ∧ (onCell f s).bus = s.bus ∧ (onCell f s).sec = s.sec ∧ (onCell f s).free = s.free ∧
    (onCell f s).pending = s.pending := by
  unfold onCell
  simp

@[simp] theorem clampQ_keeps (s : State) : (clampQ s).ident = s.ident ∧ (clampQ s).supply = s.supply ∧ (clampQ
    s).sys = s.sys ∧ (clampQ s).rails = s.rails ∧ (clampQ s).seq = s.seq ∧ (clampQ s).log = s.log ∧ (clampQ s).flash
    = s.flash ∧ (clampQ s).shadow = s.shadow ∧ (clampQ s).light = s.light ∧ (clampQ s).neg = s.neg ∧ (clampQ s).nand
    = s.nand ∧ (clampQ s).tiers = s.tiers ∧ (clampQ s).ports = s.ports ∧ (clampQ s).irq = s.irq ∧ (clampQ s).bus =
    s.bus ∧ (clampQ s).sec = s.sec ∧ (clampQ s).free = s.free ∧ (clampQ s).pending = s.pending := by
  unfold clampQ
  simp

@[simp] theorem tenPercent_keeps (s : State) : (tenPercent s).ident = s.ident ∧ (tenPercent s).supply = s.supply ∧
    (tenPercent s).sys = s.sys ∧ (tenPercent s).rails = s.rails ∧ (tenPercent s).seq = s.seq ∧ (tenPercent s).shadow
    = s.shadow ∧ (tenPercent s).light = s.light ∧ (tenPercent s).neg = s.neg ∧ (tenPercent s).nand = s.nand ∧
    (tenPercent s).tiers = s.tiers ∧ (tenPercent s).ports = s.ports ∧ (tenPercent s).pending = s.pending := by
  unfold tenPercent
  simp

@[simp] theorem cellPeriod_keeps (s : State) : (cellPeriod s).ident = s.ident ∧ (cellPeriod s).supply = s.supply ∧
    (cellPeriod s).sys = s.sys ∧ (cellPeriod s).rails = s.rails ∧ (cellPeriod s).seq = s.seq ∧ (cellPeriod s).shadow
    = s.shadow ∧ (cellPeriod s).light = s.light ∧ (cellPeriod s).neg = s.neg ∧ (cellPeriod s).nand = s.nand ∧
    (cellPeriod s).tiers = s.tiers ∧ (cellPeriod s).ports = s.ports ∧ (cellPeriod s).pending = s.pending := by
  unfold cellPeriod
  simp

@[simp] theorem setPhase_keeps (p : KeeperPhase) (s : State) : (setPhase p s).ident = s.ident ∧ (setPhase p
    s).supply = s.supply ∧ (setPhase p s).sys = s.sys ∧ (setPhase p s).rails = s.rails ∧ (setPhase p s).seq = s.seq
    ∧ (setPhase p s).log = s.log ∧ (setPhase p s).flash = s.flash ∧ (setPhase p s).shadow = s.shadow ∧ (setPhase p
    s).light = s.light ∧ (setPhase p s).neg = s.neg ∧ (setPhase p s).nand = s.nand ∧ (setPhase p s).tiers = s.tiers
    ∧ (setPhase p s).ports = s.ports ∧ (setPhase p s).sec = s.sec ∧ (setPhase p s).pending = s.pending := by
  unfold setPhase
  simp

@[simp] theorem noteRest_keeps (s : State) : (noteRest s).ident = s.ident ∧ (noteRest s).supply = s.supply ∧
    (noteRest s).sys = s.sys ∧ (noteRest s).rails = s.rails ∧ (noteRest s).seq = s.seq ∧ (noteRest s).log = s.log ∧
    (noteRest s).flash = s.flash ∧ (noteRest s).shadow = s.shadow ∧ (noteRest s).light = s.light ∧ (noteRest s).neg
    = s.neg ∧ (noteRest s).nand = s.nand ∧ (noteRest s).tiers = s.tiers ∧ (noteRest s).ports = s.ports ∧ (noteRest
    s).irq = s.irq ∧ (noteRest s).bus = s.bus ∧ (noteRest s).sec = s.sec ∧ (noteRest s).free = s.free ∧ (noteRest
    s).pending = s.pending := by
  unfold noteRest
  simp

@[simp] theorem coulomb_keeps (delta : Int) (s : State) : (coulomb delta s).ident = s.ident ∧ (coulomb delta
    s).supply = s.supply ∧ (coulomb delta s).sys = s.sys ∧ (coulomb delta s).rails = s.rails ∧ (coulomb delta s).seq
    = s.seq ∧ (coulomb delta s).shadow = s.shadow ∧ (coulomb delta s).light = s.light ∧ (coulomb delta s).neg =
    s.neg ∧ (coulomb delta s).nand = s.nand ∧ (coulomb delta s).tiers = s.tiers ∧ (coulomb delta s).ports = s.ports
    ∧ (coulomb delta s).pending = s.pending := by
  unfold coulomb
  try dsimp only
  (repeat' split) <;> simp_all

@[simp] theorem guaranteeNow_keeps (s : State) : (guaranteeNow s).ident = s.ident ∧ (guaranteeNow s).supply =
    s.supply ∧ (guaranteeNow s).sys = s.sys ∧ (guaranteeNow s).rails = s.rails ∧ (guaranteeNow s).seq = s.seq ∧
    (guaranteeNow s).log = s.log ∧ (guaranteeNow s).flash = s.flash ∧ (guaranteeNow s).shadow = s.shadow ∧
    (guaranteeNow s).light = s.light ∧ (guaranteeNow s).neg = s.neg ∧ (guaranteeNow s).nand = s.nand ∧ (guaranteeNow
    s).tiers = s.tiers ∧ (guaranteeNow s).ports = s.ports ∧ (guaranteeNow s).sec = s.sec ∧ (guaranteeNow s).pending
    = s.pending := by
  unfold guaranteeNow
  simp

@[simp] theorem cellFault_keeps (code : Byte) (s : State) : (cellFault code s).ident = s.ident ∧ (cellFault code
    s).supply = s.supply ∧ (cellFault code s).sys = s.sys ∧ (cellFault code s).rails = s.rails ∧ (cellFault code
    s).seq = s.seq ∧ (cellFault code s).shadow = s.shadow ∧ (cellFault code s).light = s.light ∧ (cellFault code
    s).neg = s.neg ∧ (cellFault code s).nand = s.nand ∧ (cellFault code s).tiers = s.tiers ∧ (cellFault code
    s).ports = s.ports ∧ (cellFault code s).pending = s.pending := by
  unfold cellFault
  simp

@[simp] theorem faultEnds_keeps (code : Byte) (s : State) : (faultEnds code s).ident = s.ident ∧ (faultEnds code
    s).supply = s.supply ∧ (faultEnds code s).sys = s.sys ∧ (faultEnds code s).rails = s.rails ∧ (faultEnds code
    s).seq = s.seq ∧ (faultEnds code s).log = s.log ∧ (faultEnds code s).flash = s.flash ∧ (faultEnds code s).shadow
    = s.shadow ∧ (faultEnds code s).light = s.light ∧ (faultEnds code s).neg = s.neg ∧ (faultEnds code s).nand =
    s.nand ∧ (faultEnds code s).tiers = s.tiers ∧ (faultEnds code s).ports = s.ports ∧ (faultEnds code s).irq =
    s.irq ∧ (faultEnds code s).bus = s.bus ∧ (faultEnds code s).sec = s.sec ∧ (faultEnds code s).free = s.free ∧
    (faultEnds code s).pending = s.pending := by
  unfold faultEnds
  simp

@[simp] theorem clearFaults_keeps (s : State) : (clearFaults s).ident = s.ident ∧ (clearFaults s).supply = s.supply
    ∧ (clearFaults s).sys = s.sys ∧ (clearFaults s).rails = s.rails ∧ (clearFaults s).seq = s.seq ∧ (clearFaults
    s).log = s.log ∧ (clearFaults s).flash = s.flash ∧ (clearFaults s).shadow = s.shadow ∧ (clearFaults s).light =
    s.light ∧ (clearFaults s).neg = s.neg ∧ (clearFaults s).nand = s.nand ∧ (clearFaults s).tiers = s.tiers ∧
    (clearFaults s).ports = s.ports ∧ (clearFaults s).irq = s.irq ∧ (clearFaults s).bus = s.bus ∧ (clearFaults
    s).sec = s.sec ∧ (clearFaults s).free = s.free ∧ (clearFaults s).pending = s.pending := by
  unfold clearFaults
  simp

@[simp] theorem switchClose_keeps (s : State) : (switchClose s).ident = s.ident ∧ (switchClose s).supply = s.supply
    ∧ (switchClose s).sys = s.sys ∧ (switchClose s).rails = s.rails ∧ (switchClose s).seq = s.seq ∧ (switchClose
    s).shadow = s.shadow ∧ (switchClose s).light = s.light ∧ (switchClose s).neg = s.neg ∧ (switchClose s).nand =
    s.nand ∧ (switchClose s).tiers = s.tiers ∧ (switchClose s).ports = s.ports ∧ (switchClose s).pending = s.pending
    := by
  unfold switchClose
  simp

@[simp] theorem switchOpen_keeps (s : State) : (switchOpen s).ident = s.ident ∧ (switchOpen s).supply = s.supply ∧
    (switchOpen s).sys = s.sys ∧ (switchOpen s).rails = s.rails ∧ (switchOpen s).seq = s.seq ∧ (switchOpen s).shadow
    = s.shadow ∧ (switchOpen s).light = s.light ∧ (switchOpen s).neg = s.neg ∧ (switchOpen s).nand = s.nand ∧
    (switchOpen s).tiers = s.tiers ∧ (switchOpen s).ports = s.ports ∧ (switchOpen s).pending = s.pending := by
  unfold switchOpen
  simp

@[simp] theorem onRail_keeps (n : SlotId) (f : RailSlot → RailSlot) (s : State) : (onRail n f s).ident = s.ident ∧
    (onRail n f s).supply = s.supply ∧ (onRail n f s).sys = s.sys ∧ (onRail n f s).seq = s.seq ∧ (onRail n f s).log
    = s.log ∧ (onRail n f s).cell = s.cell ∧ (onRail n f s).flash = s.flash ∧ (onRail n f s).shadow = s.shadow ∧
    (onRail n f s).light = s.light ∧ (onRail n f s).neg = s.neg ∧ (onRail n f s).nand = s.nand ∧ (onRail n f
    s).tiers = s.tiers ∧ (onRail n f s).ports = s.ports ∧ (onRail n f s).irq = s.irq ∧ (onRail n f s).bus = s.bus ∧
    (onRail n f s).sec = s.sec ∧ (onRail n f s).free = s.free ∧ (onRail n f s).pending = s.pending := by
  unfold onRail
  simp

@[simp] theorem onRun_keeps (f : SeqRun → SeqRun) (s : State) : (onRun f s).ident = s.ident ∧ (onRun f s).supply =
    s.supply ∧ (onRun f s).sys = s.sys ∧ (onRun f s).rails = s.rails ∧ (onRun f s).log = s.log ∧ (onRun f s).cell =
    s.cell ∧ (onRun f s).flash = s.flash ∧ (onRun f s).shadow = s.shadow ∧ (onRun f s).light = s.light ∧ (onRun f
    s).neg = s.neg ∧ (onRun f s).nand = s.nand ∧ (onRun f s).tiers = s.tiers ∧ (onRun f s).ports = s.ports ∧ (onRun
    f s).irq = s.irq ∧ (onRun f s).bus = s.bus ∧ (onRun f s).sec = s.sec ∧ (onRun f s).free = s.free ∧ (onRun f
    s).pending = s.pending := by
  unfold onRun
  simp

@[simp] theorem setFlag_keeps (n : SlotId) (fl : SlotFlag) (s : State) : (setFlag n fl s).ident = s.ident ∧ (setFlag
    n fl s).supply = s.supply ∧ (setFlag n fl s).sys = s.sys ∧ (setFlag n fl s).log = s.log ∧ (setFlag n fl s).cell
    = s.cell ∧ (setFlag n fl s).flash = s.flash ∧ (setFlag n fl s).shadow = s.shadow ∧ (setFlag n fl s).light =
    s.light ∧ (setFlag n fl s).neg = s.neg ∧ (setFlag n fl s).nand = s.nand ∧ (setFlag n fl s).tiers = s.tiers ∧
    (setFlag n fl s).ports = s.ports ∧ (setFlag n fl s).sec = s.sec ∧ (setFlag n fl s).pending = s.pending := by
  unfold setFlag
  simp

@[simp] theorem count_keeps (n : SlotId) (c : RailCount) (s : State) : (count n c s).ident = s.ident ∧ (count n c
    s).supply = s.supply ∧ (count n c s).sys = s.sys ∧ (count n c s).seq = s.seq ∧ (count n c s).log = s.log ∧
    (count n c s).cell = s.cell ∧ (count n c s).flash = s.flash ∧ (count n c s).shadow = s.shadow ∧ (count n c
    s).light = s.light ∧ (count n c s).neg = s.neg ∧ (count n c s).nand = s.nand ∧ (count n c s).tiers = s.tiers ∧
    (count n c s).ports = s.ports ∧ (count n c s).sec = s.sec ∧ (count n c s).pending = s.pending := by
  unfold count
  try dsimp only
  (repeat' split) <;> simp_all

@[simp] theorem clearSlotFlags_keeps (n : SlotId) (ones : U32) (s : State) : (clearSlotFlags n ones s).ident =
    s.ident ∧ (clearSlotFlags n ones s).supply = s.supply ∧ (clearSlotFlags n ones s).sys = s.sys ∧ (clearSlotFlags
    n ones s).seq = s.seq ∧ (clearSlotFlags n ones s).log = s.log ∧ (clearSlotFlags n ones s).cell = s.cell ∧
    (clearSlotFlags n ones s).flash = s.flash ∧ (clearSlotFlags n ones s).shadow = s.shadow ∧ (clearSlotFlags n ones
    s).light = s.light ∧ (clearSlotFlags n ones s).neg = s.neg ∧ (clearSlotFlags n ones s).nand = s.nand ∧
    (clearSlotFlags n ones s).tiers = s.tiers ∧ (clearSlotFlags n ones s).ports = s.ports ∧ (clearSlotFlags n ones
    s).irq = s.irq ∧ (clearSlotFlags n ones s).bus = s.bus ∧ (clearSlotFlags n ones s).sec = s.sec ∧ (clearSlotFlags
    n ones s).free = s.free ∧ (clearSlotFlags n ones s).pending = s.pending := by
  unfold clearSlotFlags
  simp

@[simp] theorem clearMarginFlags_keeps (n : SlotId) (ones : U32) (s : State) : (clearMarginFlags n ones s).ident =
    s.ident ∧ (clearMarginFlags n ones s).supply = s.supply ∧ (clearMarginFlags n ones s).sys = s.sys ∧
    (clearMarginFlags n ones s).seq = s.seq ∧ (clearMarginFlags n ones s).log = s.log ∧ (clearMarginFlags n ones
    s).cell = s.cell ∧ (clearMarginFlags n ones s).flash = s.flash ∧ (clearMarginFlags n ones s).shadow = s.shadow ∧
    (clearMarginFlags n ones s).light = s.light ∧ (clearMarginFlags n ones s).neg = s.neg ∧ (clearMarginFlags n ones
    s).nand = s.nand ∧ (clearMarginFlags n ones s).tiers = s.tiers ∧ (clearMarginFlags n ones s).ports = s.ports ∧
    (clearMarginFlags n ones s).irq = s.irq ∧ (clearMarginFlags n ones s).bus = s.bus ∧ (clearMarginFlags n ones
    s).sec = s.sec ∧ (clearMarginFlags n ones s).free = s.free ∧ (clearMarginFlags n ones s).pending = s.pending :=
    by
  unfold clearMarginFlags
  simp

@[simp] theorem clearCrystal_keeps (ones : Byte) (s : State) : (clearCrystal ones s).ident = s.ident ∧ (clearCrystal
    ones s).supply = s.supply ∧ (clearCrystal ones s).rails = s.rails ∧ (clearCrystal ones s).seq = s.seq ∧
    (clearCrystal ones s).log = s.log ∧ (clearCrystal ones s).cell = s.cell ∧ (clearCrystal ones s).flash = s.flash
    ∧ (clearCrystal ones s).shadow = s.shadow ∧ (clearCrystal ones s).light = s.light ∧ (clearCrystal ones s).neg =
    s.neg ∧ (clearCrystal ones s).nand = s.nand ∧ (clearCrystal ones s).tiers = s.tiers ∧ (clearCrystal ones
    s).ports = s.ports ∧ (clearCrystal ones s).irq = s.irq ∧ (clearCrystal ones s).bus = s.bus ∧ (clearCrystal ones
    s).sec = s.sec ∧ (clearCrystal ones s).free = s.free ∧ (clearCrystal ones s).pending = s.pending := by
  unfold clearCrystal
  simp

@[simp] theorem slotOff_keeps (st : SlotState) (n : SlotId) (s : State) : (slotOff st n s).ident = s.ident ∧
    (slotOff st n s).supply = s.supply ∧ (slotOff st n s).sys = s.sys ∧ (slotOff st n s).seq = s.seq ∧ (slotOff st n
    s).log = s.log ∧ (slotOff st n s).cell = s.cell ∧ (slotOff st n s).flash = s.flash ∧ (slotOff st n s).shadow =
    s.shadow ∧ (slotOff st n s).light = s.light ∧ (slotOff st n s).neg = s.neg ∧ (slotOff st n s).nand = s.nand ∧
    (slotOff st n s).tiers = s.tiers ∧ (slotOff st n s).ports = s.ports ∧ (slotOff st n s).irq = s.irq ∧ (slotOff st
    n s).bus = s.bus ∧ (slotOff st n s).sec = s.sec ∧ (slotOff st n s).free = s.free ∧ (slotOff st n s).pending =
    s.pending := by
  unfold slotOff
  simp

@[simp] theorem latchOff_keeps (n : SlotId) (s : State) : (latchOff n s).ident = s.ident ∧ (latchOff n s).supply =
    s.supply ∧ (latchOff n s).sys = s.sys ∧ (latchOff n s).seq = s.seq ∧ (latchOff n s).log = s.log ∧ (latchOff n
    s).cell = s.cell ∧ (latchOff n s).flash = s.flash ∧ (latchOff n s).shadow = s.shadow ∧ (latchOff n s).light =
    s.light ∧ (latchOff n s).neg = s.neg ∧ (latchOff n s).nand = s.nand ∧ (latchOff n s).tiers = s.tiers ∧ (latchOff
    n s).ports = s.ports ∧ (latchOff n s).irq = s.irq ∧ (latchOff n s).bus = s.bus ∧ (latchOff n s).sec = s.sec ∧
    (latchOff n s).free = s.free ∧ (latchOff n s).pending = s.pending := by
  unfold latchOff
  simp

@[simp] theorem enableSlot_keeps (n : SlotId) (s : State) : (enableSlot n s).ident = s.ident ∧ (enableSlot n
    s).supply = s.supply ∧ (enableSlot n s).sys = s.sys ∧ (enableSlot n s).log = s.log ∧ (enableSlot n s).cell =
    s.cell ∧ (enableSlot n s).flash = s.flash ∧ (enableSlot n s).shadow = s.shadow ∧ (enableSlot n s).neg = s.neg ∧
    (enableSlot n s).nand = s.nand ∧ (enableSlot n s).tiers = s.tiers ∧ (enableSlot n s).ports = s.ports ∧
    (enableSlot n s).sec = s.sec ∧ (enableSlot n s).pending = s.pending := by
  unfold enableSlot
  simp

@[simp] theorem disableSlot_keeps (n : SlotId) (s : State) : (disableSlot n s).ident = s.ident ∧ (disableSlot n
    s).supply = s.supply ∧ (disableSlot n s).sys = s.sys ∧ (disableSlot n s).seq = s.seq ∧ (disableSlot n s).log =
    s.log ∧ (disableSlot n s).cell = s.cell ∧ (disableSlot n s).flash = s.flash ∧ (disableSlot n s).shadow =
    s.shadow ∧ (disableSlot n s).light = s.light ∧ (disableSlot n s).neg = s.neg ∧ (disableSlot n s).nand = s.nand ∧
    (disableSlot n s).tiers = s.tiers ∧ (disableSlot n s).ports = s.ports ∧ (disableSlot n s).irq = s.irq ∧
    (disableSlot n s).bus = s.bus ∧ (disableSlot n s).sec = s.sec ∧ (disableSlot n s).free = s.free ∧ (disableSlot n
    s).pending = s.pending := by
  unfold disableSlot
  simp

@[simp] theorem tripUv_keeps (n : SlotId) (s : State) : (tripUv n s).ident = s.ident ∧ (tripUv n s).supply =
    s.supply ∧ (tripUv n s).sys = s.sys ∧ (tripUv n s).log = s.log ∧ (tripUv n s).cell = s.cell ∧ (tripUv n s).flash
    = s.flash ∧ (tripUv n s).shadow = s.shadow ∧ (tripUv n s).light = s.light ∧ (tripUv n s).neg = s.neg ∧ (tripUv n
    s).nand = s.nand ∧ (tripUv n s).tiers = s.tiers ∧ (tripUv n s).ports = s.ports ∧ (tripUv n s).sec = s.sec ∧
    (tripUv n s).pending = s.pending := by
  unfold tripUv
  simp

@[simp] theorem tripOv_keeps (n : SlotId) (s : State) : (tripOv n s).ident = s.ident ∧ (tripOv n s).supply =
    s.supply ∧ (tripOv n s).sys = s.sys ∧ (tripOv n s).log = s.log ∧ (tripOv n s).cell = s.cell ∧ (tripOv n s).flash
    = s.flash ∧ (tripOv n s).shadow = s.shadow ∧ (tripOv n s).light = s.light ∧ (tripOv n s).neg = s.neg ∧ (tripOv n
    s).nand = s.nand ∧ (tripOv n s).tiers = s.tiers ∧ (tripOv n s).ports = s.ports ∧ (tripOv n s).sec = s.sec ∧
    (tripOv n s).pending = s.pending := by
  unfold tripOv
  simp

@[simp] theorem evalTrips_keeps (n : SlotId) (s : State) : (evalTrips n s).ident = s.ident ∧ (evalTrips n s).supply
    = s.supply ∧ (evalTrips n s).sys = s.sys ∧ (evalTrips n s).log = s.log ∧ (evalTrips n s).cell = s.cell ∧
    (evalTrips n s).flash = s.flash ∧ (evalTrips n s).shadow = s.shadow ∧ (evalTrips n s).light = s.light ∧
    (evalTrips n s).neg = s.neg ∧ (evalTrips n s).nand = s.nand ∧ (evalTrips n s).tiers = s.tiers ∧ (evalTrips n
    s).ports = s.ports ∧ (evalTrips n s).sec = s.sec ∧ (evalTrips n s).pending = s.pending := by
  unfold evalTrips
  simp

@[simp] theorem backInWindow_keeps (n : SlotId) (s : State) : (backInWindow n s).ident = s.ident ∧ (backInWindow n
    s).supply = s.supply ∧ (backInWindow n s).sys = s.sys ∧ (backInWindow n s).seq = s.seq ∧ (backInWindow n s).log
    = s.log ∧ (backInWindow n s).cell = s.cell ∧ (backInWindow n s).flash = s.flash ∧ (backInWindow n s).shadow =
    s.shadow ∧ (backInWindow n s).light = s.light ∧ (backInWindow n s).neg = s.neg ∧ (backInWindow n s).nand =
    s.nand ∧ (backInWindow n s).tiers = s.tiers ∧ (backInWindow n s).ports = s.ports ∧ (backInWindow n s).irq =
    s.irq ∧ (backInWindow n s).bus = s.bus ∧ (backInWindow n s).sec = s.sec ∧ (backInWindow n s).free = s.free ∧
    (backInWindow n s).pending = s.pending := by
  unfold backInWindow
  simp

@[simp] theorem onCmp_keeps (n : SlotId) (c : Comp) (f : Cmp → Cmp) (s : State) : (onCmp n c f s).ident = s.ident ∧
    (onCmp n c f s).supply = s.supply ∧ (onCmp n c f s).sys = s.sys ∧ (onCmp n c f s).seq = s.seq ∧ (onCmp n c f
    s).log = s.log ∧ (onCmp n c f s).cell = s.cell ∧ (onCmp n c f s).flash = s.flash ∧ (onCmp n c f s).shadow =
    s.shadow ∧ (onCmp n c f s).light = s.light ∧ (onCmp n c f s).neg = s.neg ∧ (onCmp n c f s).nand = s.nand ∧
    (onCmp n c f s).tiers = s.tiers ∧ (onCmp n c f s).ports = s.ports ∧ (onCmp n c f s).irq = s.irq ∧ (onCmp n c f
    s).bus = s.bus ∧ (onCmp n c f s).sec = s.sec ∧ (onCmp n c f s).free = s.free ∧ (onCmp n c f s).pending =
    s.pending := by
  unfold onCmp
  simp

@[simp] theorem disagree_keeps (n : SlotId) (s : State) : (disagree n s).ident = s.ident ∧ (disagree n s).supply =
    s.supply ∧ (disagree n s).sys = s.sys ∧ (disagree n s).log = s.log ∧ (disagree n s).cell = s.cell ∧ (disagree n
    s).flash = s.flash ∧ (disagree n s).shadow = s.shadow ∧ (disagree n s).light = s.light ∧ (disagree n s).neg =
    s.neg ∧ (disagree n s).nand = s.nand ∧ (disagree n s).tiers = s.tiers ∧ (disagree n s).ports = s.ports ∧
    (disagree n s).sec = s.sec ∧ (disagree n s).pending = s.pending := by
  unfold disagree
  simp

@[simp] theorem shortLatch_keeps (n : SlotId) (s : State) : (shortLatch n s).ident = s.ident ∧ (shortLatch n
    s).supply = s.supply ∧ (shortLatch n s).sys = s.sys ∧ (shortLatch n s).log = s.log ∧ (shortLatch n s).cell =
    s.cell ∧ (shortLatch n s).flash = s.flash ∧ (shortLatch n s).shadow = s.shadow ∧ (shortLatch n s).light =
    s.light ∧ (shortLatch n s).neg = s.neg ∧ (shortLatch n s).nand = s.nand ∧ (shortLatch n s).tiers = s.tiers ∧
    (shortLatch n s).ports = s.ports ∧ (shortLatch n s).sec = s.sec ∧ (shortLatch n s).pending = s.pending := by
  unfold shortLatch
  simp

@[simp] theorem shortChanged_keeps (n : SlotId) (c : Comp) (asserts : Bool) (s : State) : (shortChanged n c asserts
    s).ident = s.ident ∧ (shortChanged n c asserts s).supply = s.supply ∧ (shortChanged n c asserts s).sys = s.sys ∧
    (shortChanged n c asserts s).log = s.log ∧ (shortChanged n c asserts s).cell = s.cell ∧ (shortChanged n c
    asserts s).flash = s.flash ∧ (shortChanged n c asserts s).shadow = s.shadow ∧ (shortChanged n c asserts s).light
    = s.light ∧ (shortChanged n c asserts s).neg = s.neg ∧ (shortChanged n c asserts s).nand = s.nand ∧
    (shortChanged n c asserts s).tiers = s.tiers ∧ (shortChanged n c asserts s).ports = s.ports ∧ (shortChanged n c
    asserts s).sec = s.sec ∧ (shortChanged n c asserts s).pending = s.pending := by
  unfold shortChanged
  simp

@[simp] theorem blankingEnd_keeps (n : SlotId) (s : State) : (blankingEnd n s).ident = s.ident ∧ (blankingEnd n
    s).supply = s.supply ∧ (blankingEnd n s).sys = s.sys ∧ (blankingEnd n s).log = s.log ∧ (blankingEnd n s).cell =
    s.cell ∧ (blankingEnd n s).flash = s.flash ∧ (blankingEnd n s).shadow = s.shadow ∧ (blankingEnd n s).light =
    s.light ∧ (blankingEnd n s).neg = s.neg ∧ (blankingEnd n s).nand = s.nand ∧ (blankingEnd n s).tiers = s.tiers ∧
    (blankingEnd n s).ports = s.ports ∧ (blankingEnd n s).sec = s.sec ∧ (blankingEnd n s).pending = s.pending := by
  unfold blankingEnd
  simp

@[simp] theorem windowEntered_keeps (n : SlotId) (ticks : Nat) (s : State) : (windowEntered n ticks s).ident =
    s.ident ∧ (windowEntered n ticks s).supply = s.supply ∧ (windowEntered n ticks s).sys = s.sys ∧ (windowEntered n
    ticks s).log = s.log ∧ (windowEntered n ticks s).cell = s.cell ∧ (windowEntered n ticks s).flash = s.flash ∧
    (windowEntered n ticks s).shadow = s.shadow ∧ (windowEntered n ticks s).light = s.light ∧ (windowEntered n ticks
    s).neg = s.neg ∧ (windowEntered n ticks s).nand = s.nand ∧ (windowEntered n ticks s).tiers = s.tiers ∧
    (windowEntered n ticks s).ports = s.ports ∧ (windowEntered n ticks s).sec = s.sec ∧ (windowEntered n ticks
    s).pending = s.pending := by
  unfold windowEntered
  simp

@[simp] theorem rampSlowFlag_keeps (n : SlotId) (s : State) : (rampSlowFlag n s).ident = s.ident ∧ (rampSlowFlag n
    s).supply = s.supply ∧ (rampSlowFlag n s).sys = s.sys ∧ (rampSlowFlag n s).log = s.log ∧ (rampSlowFlag n s).cell
    = s.cell ∧ (rampSlowFlag n s).flash = s.flash ∧ (rampSlowFlag n s).shadow = s.shadow ∧ (rampSlowFlag n s).light
    = s.light ∧ (rampSlowFlag n s).neg = s.neg ∧ (rampSlowFlag n s).nand = s.nand ∧ (rampSlowFlag n s).tiers =
    s.tiers ∧ (rampSlowFlag n s).ports = s.ports ∧ (rampSlowFlag n s).sec = s.sec ∧ (rampSlowFlag n s).pending =
    s.pending := by
  unfold rampSlowFlag
  simp

@[simp] theorem rampExpired_keeps (n : SlotId) (s : State) : (rampExpired n s).ident = s.ident ∧ (rampExpired n
    s).supply = s.supply ∧ (rampExpired n s).sys = s.sys ∧ (rampExpired n s).log = s.log ∧ (rampExpired n s).cell =
    s.cell ∧ (rampExpired n s).flash = s.flash ∧ (rampExpired n s).shadow = s.shadow ∧ (rampExpired n s).light =
    s.light ∧ (rampExpired n s).neg = s.neg ∧ (rampExpired n s).nand = s.nand ∧ (rampExpired n s).tiers = s.tiers ∧
    (rampExpired n s).ports = s.ports ∧ (rampExpired n s).sec = s.sec ∧ (rampExpired n s).pending = s.pending := by
  unfold rampExpired
  simp

@[simp] theorem auditOne_keeps (n : SlotId) (c : Comp) (s : State) : (auditOne n c s).ident = s.ident ∧ (auditOne n
    c s).supply = s.supply ∧ (auditOne n c s).sys = s.sys ∧ (auditOne n c s).log = s.log ∧ (auditOne n c s).cell =
    s.cell ∧ (auditOne n c s).flash = s.flash ∧ (auditOne n c s).shadow = s.shadow ∧ (auditOne n c s).light =
    s.light ∧ (auditOne n c s).neg = s.neg ∧ (auditOne n c s).nand = s.nand ∧ (auditOne n c s).tiers = s.tiers ∧
    (auditOne n c s).ports = s.ports ∧ (auditOne n c s).sec = s.sec ∧ (auditOne n c s).pending = s.pending := by
  unfold auditOne
  simp

@[simp] theorem auditSlot_keeps (n : SlotId) (s : State) : (auditSlot n s).ident = s.ident ∧ (auditSlot n s).supply
    = s.supply ∧ (auditSlot n s).sys = s.sys ∧ (auditSlot n s).log = s.log ∧ (auditSlot n s).cell = s.cell ∧
    (auditSlot n s).flash = s.flash ∧ (auditSlot n s).shadow = s.shadow ∧ (auditSlot n s).light = s.light ∧
    (auditSlot n s).neg = s.neg ∧ (auditSlot n s).nand = s.nand ∧ (auditSlot n s).tiers = s.tiers ∧ (auditSlot n
    s).ports = s.ports ∧ (auditSlot n s).sec = s.sec ∧ (auditSlot n s).pending = s.pending := by
  unfold auditSlot
  simp

@[simp] theorem requestMargin_keeps (n : SlotId) (steps : U16) (s : State) : (requestMargin n steps s).ident =
    s.ident ∧ (requestMargin n steps s).supply = s.supply ∧ (requestMargin n steps s).sys = s.sys ∧ (requestMargin n
    steps s).seq = s.seq ∧ (requestMargin n steps s).log = s.log ∧ (requestMargin n steps s).cell = s.cell ∧
    (requestMargin n steps s).flash = s.flash ∧ (requestMargin n steps s).shadow = s.shadow ∧ (requestMargin n steps
    s).light = s.light ∧ (requestMargin n steps s).neg = s.neg ∧ (requestMargin n steps s).nand = s.nand ∧
    (requestMargin n steps s).tiers = s.tiers ∧ (requestMargin n steps s).ports = s.ports ∧ (requestMargin n steps
    s).irq = s.irq ∧ (requestMargin n steps s).bus = s.bus ∧ (requestMargin n steps s).sec = s.sec ∧ (requestMargin
    n steps s).free = s.free ∧ (requestMargin n steps s).pending = s.pending := by
  unfold requestMargin
  simp

@[simp] theorem marginStep_keeps (n : SlotId) (loop : U16) (s : State) : (marginStep n loop s).ident = s.ident ∧
    (marginStep n loop s).supply = s.supply ∧ (marginStep n loop s).sys = s.sys ∧ (marginStep n loop s).seq = s.seq
    ∧ (marginStep n loop s).log = s.log ∧ (marginStep n loop s).cell = s.cell ∧ (marginStep n loop s).flash =
    s.flash ∧ (marginStep n loop s).shadow = s.shadow ∧ (marginStep n loop s).light = s.light ∧ (marginStep n loop
    s).neg = s.neg ∧ (marginStep n loop s).nand = s.nand ∧ (marginStep n loop s).tiers = s.tiers ∧ (marginStep n
    loop s).ports = s.ports ∧ (marginStep n loop s).sec = s.sec ∧ (marginStep n loop s).pending = s.pending := by
  unfold marginStep
  simp

@[simp] theorem slotConverted_keeps (n : SlotId) (code : U16) (loop : U16) (s : State) : (slotConverted n code loop
    s).ident = s.ident ∧ (slotConverted n code loop s).supply = s.supply ∧ (slotConverted n code loop s).sys = s.sys
    ∧ (slotConverted n code loop s).log = s.log ∧ (slotConverted n code loop s).cell = s.cell ∧ (slotConverted n
    code loop s).flash = s.flash ∧ (slotConverted n code loop s).shadow = s.shadow ∧ (slotConverted n code loop
    s).light = s.light ∧ (slotConverted n code loop s).neg = s.neg ∧ (slotConverted n code loop s).nand = s.nand ∧
    (slotConverted n code loop s).tiers = s.tiers ∧ (slotConverted n code loop s).ports = s.ports ∧ (slotConverted n
    code loop s).sec = s.sec ∧ (slotConverted n code loop s).pending = s.pending := by
  unfold slotConverted
  simp

@[simp] theorem marginsBack_keeps (s : State) : (marginsBack s).ident = s.ident ∧ (marginsBack s).supply = s.supply
    ∧ (marginsBack s).sys = s.sys ∧ (marginsBack s).seq = s.seq ∧ (marginsBack s).log = s.log ∧ (marginsBack s).cell
    = s.cell ∧ (marginsBack s).flash = s.flash ∧ (marginsBack s).shadow = s.shadow ∧ (marginsBack s).light = s.light
    ∧ (marginsBack s).neg = s.neg ∧ (marginsBack s).nand = s.nand ∧ (marginsBack s).tiers = s.tiers ∧ (marginsBack
    s).ports = s.ports ∧ (marginsBack s).irq = s.irq ∧ (marginsBack s).bus = s.bus ∧ (marginsBack s).sec = s.sec ∧
    (marginsBack s).free = s.free ∧ (marginsBack s).pending = s.pending := by
  unfold marginsBack
  simp

@[simp] theorem marginsZero_keeps (s : State) : (marginsZero s).ident = s.ident ∧ (marginsZero s).supply = s.supply
    ∧ (marginsZero s).sys = s.sys ∧ (marginsZero s).seq = s.seq ∧ (marginsZero s).log = s.log ∧ (marginsZero s).cell
    = s.cell ∧ (marginsZero s).flash = s.flash ∧ (marginsZero s).shadow = s.shadow ∧ (marginsZero s).light = s.light
    ∧ (marginsZero s).neg = s.neg ∧ (marginsZero s).nand = s.nand ∧ (marginsZero s).tiers = s.tiers ∧ (marginsZero
    s).ports = s.ports ∧ (marginsZero s).irq = s.irq ∧ (marginsZero s).bus = s.bus ∧ (marginsZero s).sec = s.sec ∧
    (marginsZero s).free = s.free ∧ (marginsZero s).pending = s.pending := by
  unfold marginsZero
  simp

@[simp] theorem suspectsEnd_keeps (s : State) : (suspectsEnd s).ident = s.ident ∧ (suspectsEnd s).supply = s.supply
    ∧ (suspectsEnd s).sys = s.sys ∧ (suspectsEnd s).seq = s.seq ∧ (suspectsEnd s).log = s.log ∧ (suspectsEnd s).cell
    = s.cell ∧ (suspectsEnd s).flash = s.flash ∧ (suspectsEnd s).shadow = s.shadow ∧ (suspectsEnd s).light = s.light
    ∧ (suspectsEnd s).neg = s.neg ∧ (suspectsEnd s).nand = s.nand ∧ (suspectsEnd s).tiers = s.tiers ∧ (suspectsEnd
    s).ports = s.ports ∧ (suspectsEnd s).irq = s.irq ∧ (suspectsEnd s).bus = s.bus ∧ (suspectsEnd s).sec = s.sec ∧
    (suspectsEnd s).free = s.free ∧ (suspectsEnd s).pending = s.pending := by
  unfold suspectsEnd
  simp

@[simp] theorem railsLost_keeps (s : State) : (railsLost s).ident = s.ident ∧ (railsLost s).supply = s.supply ∧
    (railsLost s).sys = s.sys ∧ (railsLost s).seq = s.seq ∧ (railsLost s).log = s.log ∧ (railsLost s).cell = s.cell
    ∧ (railsLost s).flash = s.flash ∧ (railsLost s).shadow = s.shadow ∧ (railsLost s).light = s.light ∧ (railsLost
    s).neg = s.neg ∧ (railsLost s).nand = s.nand ∧ (railsLost s).tiers = s.tiers ∧ (railsLost s).ports = s.ports ∧
    (railsLost s).irq = s.irq ∧ (railsLost s).bus = s.bus ∧ (railsLost s).sec = s.sec ∧ (railsLost s).free = s.free
    ∧ (railsLost s).pending = s.pending := by
  unfold railsLost
  simp

@[simp] theorem setResult_keeps (role : Nat) (r : Byte) (s : State) : (setResult role r s).ident = s.ident ∧
    (setResult role r s).supply = s.supply ∧ (setResult role r s).sys = s.sys ∧ (setResult role r s).rails = s.rails
    ∧ (setResult role r s).log = s.log ∧ (setResult role r s).cell = s.cell ∧ (setResult role r s).flash = s.flash ∧
    (setResult role r s).shadow = s.shadow ∧ (setResult role r s).light = s.light ∧ (setResult role r s).neg = s.neg
    ∧ (setResult role r s).nand = s.nand ∧ (setResult role r s).tiers = s.tiers ∧ (setResult role r s).ports =
    s.ports ∧ (setResult role r s).irq = s.irq ∧ (setResult role r s).bus = s.bus ∧ (setResult role r s).sec = s.sec
    ∧ (setResult role r s).free = s.free ∧ (setResult role r s).pending = s.pending := by
  unfold setResult
  try dsimp only
  (repeat' split) <;> simp_all

@[simp] theorem programEnds_keeps (result : Byte) (s : State) : (programEnds result s).ident = s.ident ∧
    (programEnds result s).supply = s.supply ∧ (programEnds result s).sys = s.sys ∧ (programEnds result s).rails =
    s.rails ∧ (programEnds result s).log = s.log ∧ (programEnds result s).cell = s.cell ∧ (programEnds result
    s).flash = s.flash ∧ (programEnds result s).shadow = s.shadow ∧ (programEnds result s).light = s.light ∧
    (programEnds result s).neg = s.neg ∧ (programEnds result s).nand = s.nand ∧ (programEnds result s).tiers =
    s.tiers ∧ (programEnds result s).ports = s.ports ∧ (programEnds result s).sec = s.sec ∧ (programEnds result
    s).pending = s.pending := by
  unfold programEnds
  try dsimp only
  (repeat' split) <;> simp_all

@[simp] theorem loadProgram_keeps (sub : Nat) (role : Nat) (s : State) : (loadProgram sub role s).ident = s.ident ∧
    (loadProgram sub role s).supply = s.supply ∧ (loadProgram sub role s).sys = s.sys ∧ (loadProgram sub role
    s).rails = s.rails ∧ (loadProgram sub role s).log = s.log ∧ (loadProgram sub role s).cell = s.cell ∧
    (loadProgram sub role s).shadow = s.shadow ∧ (loadProgram sub role s).light = s.light ∧ (loadProgram sub role
    s).neg = s.neg ∧ (loadProgram sub role s).nand = s.nand ∧ (loadProgram sub role s).tiers = s.tiers ∧
    (loadProgram sub role s).ports = s.ports ∧ (loadProgram sub role s).irq = s.irq ∧ (loadProgram sub role s).bus =
    s.bus ∧ (loadProgram sub role s).sec = s.sec ∧ (loadProgram sub role s).free = s.free ∧ (loadProgram sub role
    s).pending = s.pending := by
  unfold loadProgram
  simp

@[simp] theorem runPowerFail_keeps (s : State) : (runPowerFail s).ident = s.ident ∧ (runPowerFail s).supply =
    s.supply ∧ (runPowerFail s).sys = s.sys ∧ (runPowerFail s).rails = s.rails ∧ (runPowerFail s).log = s.log ∧
    (runPowerFail s).cell = s.cell ∧ (runPowerFail s).flash = s.flash ∧ (runPowerFail s).shadow = s.shadow ∧
    (runPowerFail s).light = s.light ∧ (runPowerFail s).neg = s.neg ∧ (runPowerFail s).nand = s.nand ∧ (runPowerFail
    s).tiers = s.tiers ∧ (runPowerFail s).ports = s.ports ∧ (runPowerFail s).irq = s.irq ∧ (runPowerFail s).bus =
    s.bus ∧ (runPowerFail s).sec = s.sec ∧ (runPowerFail s).free = s.free ∧ (runPowerFail s).pending = s.pending :=
    by
  unfold runPowerFail
  try dsimp only
  (repeat' split) <;> simp_all

@[simp] theorem startRole_keeps (role : Nat) (s : State) : (startRole role s).ident = s.ident ∧ (startRole role
    s).supply = s.supply ∧ (startRole role s).sys = s.sys ∧ (startRole role s).rails = s.rails ∧ (startRole role
    s).log = s.log ∧ (startRole role s).cell = s.cell ∧ (startRole role s).shadow = s.shadow ∧ (startRole role
    s).light = s.light ∧ (startRole role s).neg = s.neg ∧ (startRole role s).nand = s.nand ∧ (startRole role
    s).tiers = s.tiers ∧ (startRole role s).ports = s.ports ∧ (startRole role s).irq = s.irq ∧ (startRole role
    s).bus = s.bus ∧ (startRole role s).sec = s.sec ∧ (startRole role s).free = s.free ∧ (startRole role s).pending
    = s.pending := by
  unfold startRole
  try dsimp only
  (repeat' split) <;> simp_all

@[simp] theorem fillPowerFail_keeps (errs : WordErrors) (s : State) : (fillPowerFail errs s).ident = s.ident ∧
    (fillPowerFail errs s).supply = s.supply ∧ (fillPowerFail errs s).sys = s.sys ∧ (fillPowerFail errs s).rails =
    s.rails ∧ (fillPowerFail errs s).log = s.log ∧ (fillPowerFail errs s).cell = s.cell ∧ (fillPowerFail errs
    s).shadow = s.shadow ∧ (fillPowerFail errs s).light = s.light ∧ (fillPowerFail errs s).neg = s.neg ∧
    (fillPowerFail errs s).nand = s.nand ∧ (fillPowerFail errs s).tiers = s.tiers ∧ (fillPowerFail errs s).ports =
    s.ports ∧ (fillPowerFail errs s).sec = s.sec ∧ (fillPowerFail errs s).pending = s.pending := by
  unfold fillPowerFail
  try dsimp only
  (repeat' split) <;> simp_all

@[simp] theorem preempt_keeps (s : State) : (preempt s).ident = s.ident ∧ (preempt s).supply = s.supply ∧ (preempt
    s).sys = s.sys ∧ (preempt s).rails = s.rails ∧ (preempt s).log = s.log ∧ (preempt s).cell = s.cell ∧ (preempt
    s).flash = s.flash ∧ (preempt s).shadow = s.shadow ∧ (preempt s).light = s.light ∧ (preempt s).neg = s.neg ∧
    (preempt s).nand = s.nand ∧ (preempt s).tiers = s.tiers ∧ (preempt s).ports = s.ports ∧ (preempt s).sec = s.sec
    ∧ (preempt s).pending = s.pending := by
  unfold preempt
  simp

@[simp] theorem safeExit_keeps (result : Byte) (s : State) : (safeExit result s).ident = s.ident ∧ (safeExit result
    s).supply = s.supply ∧ (safeExit result s).sys = s.sys ∧ (safeExit result s).rails = s.rails ∧ (safeExit result
    s).log = s.log ∧ (safeExit result s).cell = s.cell ∧ (safeExit result s).flash = s.flash ∧ (safeExit result
    s).shadow = s.shadow ∧ (safeExit result s).light = s.light ∧ (safeExit result s).neg = s.neg ∧ (safeExit result
    s).nand = s.nand ∧ (safeExit result s).tiers = s.tiers ∧ (safeExit result s).ports = s.ports ∧ (safeExit result
    s).sec = s.sec ∧ (safeExit result s).pending = s.pending := by
  unfold safeExit
  try dsimp only
  (repeat' split) <;> simp_all

@[simp] theorem nextStep_keeps (s : State) : (nextStep s).ident = s.ident ∧ (nextStep s).supply = s.supply ∧
    (nextStep s).sys = s.sys ∧ (nextStep s).rails = s.rails ∧ (nextStep s).log = s.log ∧ (nextStep s).cell = s.cell
    ∧ (nextStep s).flash = s.flash ∧ (nextStep s).shadow = s.shadow ∧ (nextStep s).light = s.light ∧ (nextStep
    s).neg = s.neg ∧ (nextStep s).nand = s.nand ∧ (nextStep s).tiers = s.tiers ∧ (nextStep s).ports = s.ports ∧
    (nextStep s).irq = s.irq ∧ (nextStep s).bus = s.bus ∧ (nextStep s).sec = s.sec ∧ (nextStep s).free = s.free ∧
    (nextStep s).pending = s.pending := by
  unfold nextStep
  simp

@[simp] theorem noteCorrected_keeps (c : Bool) (s : State) : (noteCorrected c s).ident = s.ident ∧ (noteCorrected c
    s).supply = s.supply ∧ (noteCorrected c s).sys = s.sys ∧ (noteCorrected c s).rails = s.rails ∧ (noteCorrected c
    s).log = s.log ∧ (noteCorrected c s).cell = s.cell ∧ (noteCorrected c s).flash = s.flash ∧ (noteCorrected c
    s).shadow = s.shadow ∧ (noteCorrected c s).light = s.light ∧ (noteCorrected c s).neg = s.neg ∧ (noteCorrected c
    s).nand = s.nand ∧ (noteCorrected c s).tiers = s.tiers ∧ (noteCorrected c s).ports = s.ports ∧ (noteCorrected c
    s).irq = s.irq ∧ (noteCorrected c s).bus = s.bus ∧ (noteCorrected c s).sec = s.sec ∧ (noteCorrected c s).free =
    s.free ∧ (noteCorrected c s).pending = s.pending := by
  unfold noteCorrected
  simp

@[simp] theorem stepEnable_keeps (w : StepWord) (s : State) : (stepEnable w s).ident = s.ident ∧ (stepEnable w
    s).supply = s.supply ∧ (stepEnable w s).sys = s.sys ∧ (stepEnable w s).log = s.log ∧ (stepEnable w s).cell =
    s.cell ∧ (stepEnable w s).flash = s.flash ∧ (stepEnable w s).shadow = s.shadow ∧ (stepEnable w s).neg = s.neg ∧
    (stepEnable w s).nand = s.nand ∧ (stepEnable w s).tiers = s.tiers ∧ (stepEnable w s).ports = s.ports ∧
    (stepEnable w s).sec = s.sec ∧ (stepEnable w s).pending = s.pending := by
  unfold stepEnable
  simp

@[simp] theorem stepWait_keeps (x1 : StepWord) (s : State) : (stepWait x1 s).ident = s.ident ∧ (stepWait x1
    s).supply = s.supply ∧ (stepWait x1 s).sys = s.sys ∧ (stepWait x1 s).rails = s.rails ∧ (stepWait x1 s).log =
    s.log ∧ (stepWait x1 s).cell = s.cell ∧ (stepWait x1 s).flash = s.flash ∧ (stepWait x1 s).shadow = s.shadow ∧
    (stepWait x1 s).light = s.light ∧ (stepWait x1 s).neg = s.neg ∧ (stepWait x1 s).nand = s.nand ∧ (stepWait x1
    s).tiers = s.tiers ∧ (stepWait x1 s).ports = s.ports ∧ (stepWait x1 s).irq = s.irq ∧ (stepWait x1 s).bus = s.bus
    ∧ (stepWait x1 s).sec = s.sec ∧ (stepWait x1 s).free = s.free ∧ (stepWait x1 s).pending = s.pending := by
  unfold stepWait
  simp

@[simp] theorem stepWaitFor_keeps (w : StepWord) (s : State) : (stepWaitFor w s).ident = s.ident ∧ (stepWaitFor w
    s).supply = s.supply ∧ (stepWaitFor w s).sys = s.sys ∧ (stepWaitFor w s).rails = s.rails ∧ (stepWaitFor w s).log
    = s.log ∧ (stepWaitFor w s).cell = s.cell ∧ (stepWaitFor w s).flash = s.flash ∧ (stepWaitFor w s).shadow =
    s.shadow ∧ (stepWaitFor w s).light = s.light ∧ (stepWaitFor w s).neg = s.neg ∧ (stepWaitFor w s).nand = s.nand ∧
    (stepWaitFor w s).tiers = s.tiers ∧ (stepWaitFor w s).ports = s.ports ∧ (stepWaitFor w s).irq = s.irq ∧
    (stepWaitFor w s).bus = s.bus ∧ (stepWaitFor w s).sec = s.sec ∧ (stepWaitFor w s).free = s.free ∧ (stepWaitFor w
    s).pending = s.pending := by
  unfold stepWaitFor
  simp

@[simp] theorem timeoutFlag_keeps (arg : Nat) (n : SlotId) (s : State) : (timeoutFlag arg n s).ident = s.ident ∧
    (timeoutFlag arg n s).supply = s.supply ∧ (timeoutFlag arg n s).sys = s.sys ∧ (timeoutFlag arg n s).log = s.log
    ∧ (timeoutFlag arg n s).cell = s.cell ∧ (timeoutFlag arg n s).flash = s.flash ∧ (timeoutFlag arg n s).shadow =
    s.shadow ∧ (timeoutFlag arg n s).light = s.light ∧ (timeoutFlag arg n s).neg = s.neg ∧ (timeoutFlag arg n
    s).nand = s.nand ∧ (timeoutFlag arg n s).tiers = s.tiers ∧ (timeoutFlag arg n s).ports = s.ports ∧ (timeoutFlag
    arg n s).sec = s.sec ∧ (timeoutFlag arg n s).pending = s.pending := by
  unfold timeoutFlag
  try dsimp only
  (repeat' split) <;> simp_all

@[simp] theorem waitTimedOut_keeps (arg : Nat) (mask : U16) (s : State) : (waitTimedOut arg mask s).ident = s.ident
    ∧ (waitTimedOut arg mask s).supply = s.supply ∧ (waitTimedOut arg mask s).sys = s.sys ∧ (waitTimedOut arg mask
    s).log = s.log ∧ (waitTimedOut arg mask s).cell = s.cell ∧ (waitTimedOut arg mask s).flash = s.flash ∧
    (waitTimedOut arg mask s).shadow = s.shadow ∧ (waitTimedOut arg mask s).light = s.light ∧ (waitTimedOut arg mask
    s).neg = s.neg ∧ (waitTimedOut arg mask s).nand = s.nand ∧ (waitTimedOut arg mask s).tiers = s.tiers ∧
    (waitTimedOut arg mask s).ports = s.ports ∧ (waitTimedOut arg mask s).sec = s.sec ∧ (waitTimedOut arg mask
    s).pending = s.pending := by
  unfold waitTimedOut
  simp

@[simp] theorem noteMismatch_keeps (mismatch : Bool) (s : State) : (noteMismatch mismatch s).ident = s.ident ∧
    (noteMismatch mismatch s).supply = s.supply ∧ (noteMismatch mismatch s).sys = s.sys ∧ (noteMismatch mismatch
    s).rails = s.rails ∧ (noteMismatch mismatch s).log = s.log ∧ (noteMismatch mismatch s).cell = s.cell ∧
    (noteMismatch mismatch s).flash = s.flash ∧ (noteMismatch mismatch s).shadow = s.shadow ∧ (noteMismatch mismatch
    s).light = s.light ∧ (noteMismatch mismatch s).neg = s.neg ∧ (noteMismatch mismatch s).nand = s.nand ∧
    (noteMismatch mismatch s).tiers = s.tiers ∧ (noteMismatch mismatch s).ports = s.ports ∧ (noteMismatch mismatch
    s).irq = s.irq ∧ (noteMismatch mismatch s).bus = s.bus ∧ (noteMismatch mismatch s).sec = s.sec ∧ (noteMismatch
    mismatch s).free = s.free ∧ (noteMismatch mismatch s).pending = s.pending := by
  unfold noteMismatch
  simp

@[simp] theorem waitExpired_keeps (mismatch : Bool) (s : State) : (waitExpired mismatch s).ident = s.ident ∧
    (waitExpired mismatch s).supply = s.supply ∧ (waitExpired mismatch s).sys = s.sys ∧ (waitExpired mismatch s).log
    = s.log ∧ (waitExpired mismatch s).cell = s.cell ∧ (waitExpired mismatch s).flash = s.flash ∧ (waitExpired
    mismatch s).shadow = s.shadow ∧ (waitExpired mismatch s).light = s.light ∧ (waitExpired mismatch s).neg = s.neg
    ∧ (waitExpired mismatch s).nand = s.nand ∧ (waitExpired mismatch s).tiers = s.tiers ∧ (waitExpired mismatch
    s).ports = s.ports ∧ (waitExpired mismatch s).sec = s.sec ∧ (waitExpired mismatch s).pending = s.pending := by
  unfold waitExpired
  try dsimp only
  (repeat' split) <;> simp_all

@[simp] theorem stepCheck_keeps (codes : Fam 16 U16) (w : StepWord) (s : State) : (stepCheck codes w s).ident =
    s.ident ∧ (stepCheck codes w s).supply = s.supply ∧ (stepCheck codes w s).sys = s.sys ∧ (stepCheck codes w
    s).log = s.log ∧ (stepCheck codes w s).cell = s.cell ∧ (stepCheck codes w s).flash = s.flash ∧ (stepCheck codes
    w s).shadow = s.shadow ∧ (stepCheck codes w s).light = s.light ∧ (stepCheck codes w s).neg = s.neg ∧ (stepCheck
    codes w s).nand = s.nand ∧ (stepCheck codes w s).tiers = s.tiers ∧ (stepCheck codes w s).ports = s.ports ∧
    (stepCheck codes w s).irq = s.irq ∧ (stepCheck codes w s).bus = s.bus ∧ (stepCheck codes w s).sec = s.sec ∧
    (stepCheck codes w s).free = s.free ∧ (stepCheck codes w s).pending = s.pending := by
  unfold stepCheck
  simp

@[simp] theorem stepJump_keeps (w : StepWord) (s : State) : (stepJump w s).ident = s.ident ∧ (stepJump w s).supply =
    s.supply ∧ (stepJump w s).sys = s.sys ∧ (stepJump w s).rails = s.rails ∧ (stepJump w s).log = s.log ∧ (stepJump
    w s).cell = s.cell ∧ (stepJump w s).flash = s.flash ∧ (stepJump w s).shadow = s.shadow ∧ (stepJump w s).light =
    s.light ∧ (stepJump w s).neg = s.neg ∧ (stepJump w s).nand = s.nand ∧ (stepJump w s).tiers = s.tiers ∧ (stepJump
    w s).ports = s.ports ∧ (stepJump w s).sec = s.sec ∧ (stepJump w s).pending = s.pending := by
  unfold stepJump
  try dsimp only
  (repeat' split) <;> simp_all

@[simp] theorem trimSlot_keeps (steps : U16) (n : SlotId) (s : State) : (trimSlot steps n s).ident = s.ident ∧
    (trimSlot steps n s).supply = s.supply ∧ (trimSlot steps n s).sys = s.sys ∧ (trimSlot steps n s).seq = s.seq ∧
    (trimSlot steps n s).log = s.log ∧ (trimSlot steps n s).cell = s.cell ∧ (trimSlot steps n s).flash = s.flash ∧
    (trimSlot steps n s).shadow = s.shadow ∧ (trimSlot steps n s).light = s.light ∧ (trimSlot steps n s).neg = s.neg
    ∧ (trimSlot steps n s).nand = s.nand ∧ (trimSlot steps n s).tiers = s.tiers ∧ (trimSlot steps n s).ports =
    s.ports ∧ (trimSlot steps n s).irq = s.irq ∧ (trimSlot steps n s).bus = s.bus ∧ (trimSlot steps n s).sec = s.sec
    ∧ (trimSlot steps n s).free = s.free ∧ (trimSlot steps n s).pending = s.pending := by
  unfold trimSlot
  simp

@[simp] theorem stepTrim_keeps (w : StepWord) (s : State) : (stepTrim w s).ident = s.ident ∧ (stepTrim w s).supply =
    s.supply ∧ (stepTrim w s).sys = s.sys ∧ (stepTrim w s).log = s.log ∧ (stepTrim w s).cell = s.cell ∧ (stepTrim w
    s).flash = s.flash ∧ (stepTrim w s).shadow = s.shadow ∧ (stepTrim w s).light = s.light ∧ (stepTrim w s).neg =
    s.neg ∧ (stepTrim w s).nand = s.nand ∧ (stepTrim w s).tiers = s.tiers ∧ (stepTrim w s).ports = s.ports ∧
    (stepTrim w s).irq = s.irq ∧ (stepTrim w s).bus = s.bus ∧ (stepTrim w s).sec = s.sec ∧ (stepTrim w s).free =
    s.free ∧ (stepTrim w s).pending = s.pending := by
  unfold stepTrim
  simp

@[simp] theorem stepSignal_keeps (w : StepWord) (s : State) : (stepSignal w s).ident = s.ident ∧ (stepSignal w
    s).supply = s.supply ∧ (stepSignal w s).sys = s.sys ∧ (stepSignal w s).rails = s.rails ∧ (stepSignal w s).log =
    s.log ∧ (stepSignal w s).cell = s.cell ∧ (stepSignal w s).flash = s.flash ∧ (stepSignal w s).shadow = s.shadow ∧
    (stepSignal w s).light = s.light ∧ (stepSignal w s).neg = s.neg ∧ (stepSignal w s).nand = s.nand ∧ (stepSignal w
    s).tiers = s.tiers ∧ (stepSignal w s).ports = s.ports ∧ (stepSignal w s).sec = s.sec ∧ (stepSignal w s).pending
    = s.pending := by
  unfold stepSignal
  simp

@[simp] theorem stepEnd_keeps (w : StepWord) (s : State) : (stepEnd w s).ident = s.ident ∧ (stepEnd w s).supply =
    s.supply ∧ (stepEnd w s).sys = s.sys ∧ (stepEnd w s).rails = s.rails ∧ (stepEnd w s).log = s.log ∧ (stepEnd w
    s).cell = s.cell ∧ (stepEnd w s).flash = s.flash ∧ (stepEnd w s).shadow = s.shadow ∧ (stepEnd w s).light =
    s.light ∧ (stepEnd w s).neg = s.neg ∧ (stepEnd w s).nand = s.nand ∧ (stepEnd w s).tiers = s.tiers ∧ (stepEnd w
    s).ports = s.ports ∧ (stepEnd w s).sec = s.sec ∧ (stepEnd w s).pending = s.pending := by
  unfold stepEnd
  try dsimp only
  (repeat' split) <;> simp_all

@[simp] theorem loadEnded_keeps (errs : WordErrors) (s : State) : (loadEnded errs s).ident = s.ident ∧ (loadEnded
    errs s).supply = s.supply ∧ (loadEnded errs s).sys = s.sys ∧ (loadEnded errs s).rails = s.rails ∧ (loadEnded
    errs s).log = s.log ∧ (loadEnded errs s).cell = s.cell ∧ (loadEnded errs s).shadow = s.shadow ∧ (loadEnded errs
    s).light = s.light ∧ (loadEnded errs s).neg = s.neg ∧ (loadEnded errs s).nand = s.nand ∧ (loadEnded errs
    s).tiers = s.tiers ∧ (loadEnded errs s).ports = s.ports ∧ (loadEnded errs s).sec = s.sec ∧ (loadEnded errs
    s).pending = s.pending := by
  unfold loadEnded
  try dsimp only
  (repeat' split) <;> simp_all

@[simp] theorem runTooLong_keeps (s : State) : (runTooLong s).ident = s.ident ∧ (runTooLong s).supply = s.supply ∧
    (runTooLong s).sys = s.sys ∧ (runTooLong s).rails = s.rails ∧ (runTooLong s).log = s.log ∧ (runTooLong s).cell =
    s.cell ∧ (runTooLong s).flash = s.flash ∧ (runTooLong s).shadow = s.shadow ∧ (runTooLong s).light = s.light ∧
    (runTooLong s).neg = s.neg ∧ (runTooLong s).nand = s.nand ∧ (runTooLong s).tiers = s.tiers ∧ (runTooLong
    s).ports = s.ports ∧ (runTooLong s).sec = s.sec ∧ (runTooLong s).pending = s.pending := by
  unfold runTooLong
  try dsimp only
  (repeat' split) <;> simp_all

end Sys2Proof.Machine
end

