-- ==== Sys2Proof/Laws/KeepsNegative.lean ====
section
/-! SUPPORT. What each operation of Machine/Negative, Exposure, Development leaves as it was: one lemma an operation,
for `simp`. -/

set_option linter.unusedSimpArgs false
set_option linter.unusedVariables false
set_option linter.unusedTactic false
set_option linter.unreachableTactic false

namespace Sys2Proof.Machine

@[simp] theorem setStatus_keeps (s : State) : (setStatus s).ident = s.ident ∧ (setStatus s).supply = s.supply ∧
    (setStatus s).sys = s.sys ∧ (setStatus s).rails = s.rails ∧ (setStatus s).seq = s.seq ∧ (setStatus s).log =
    s.log ∧ (setStatus s).cell = s.cell ∧ (setStatus s).flash = s.flash ∧ (setStatus s).shadow = s.shadow ∧
    (setStatus s).light = s.light ∧ (setStatus s).nand = s.nand ∧ (setStatus s).tiers = s.tiers ∧ (setStatus
    s).ports = s.ports ∧ (setStatus s).irq = s.irq ∧ (setStatus s).bus = s.bus ∧ (setStatus s).sec = s.sec ∧
    (setStatus s).free = s.free ∧ (setStatus s).pending = s.pending := by
  unfold setStatus
  simp

@[simp] theorem readsInSequence_keeps (s : State) : (readsInSequence s).ident = s.ident ∧ (readsInSequence s).supply
    = s.supply ∧ (readsInSequence s).sys = s.sys ∧ (readsInSequence s).rails = s.rails ∧ (readsInSequence s).seq =
    s.seq ∧ (readsInSequence s).log = s.log ∧ (readsInSequence s).cell = s.cell ∧ (readsInSequence s).flash =
    s.flash ∧ (readsInSequence s).shadow = s.shadow ∧ (readsInSequence s).light = s.light ∧ (readsInSequence s).neg
    = s.neg ∧ (readsInSequence s).tiers = s.tiers ∧ (readsInSequence s).ports = s.ports ∧ (readsInSequence s).irq =
    s.irq ∧ (readsInSequence s).bus = s.bus ∧ (readsInSequence s).sec = s.sec ∧ (readsInSequence s).free = s.free ∧
    (readsInSequence s).pending = s.pending := by
  unfold readsInSequence
  try dsimp only
  refine ⟨?_, ?_, ?_, ?_, ?_, ?_, ?_, ?_, ?_, ?_, ?_, ?_, ?_, ?_, ?_, ?_, ?_, ?_⟩
  all_goals
    first
    | rw [fold_ident]
    | rw [fold_supply]
    | rw [fold_sys]
    | rw [fold_rails]
    | rw [fold_seq]
    | rw [fold_log]
    | rw [fold_cell]
    | rw [fold_flash]
    | rw [fold_shadow]
    | rw [fold_light]
    | rw [fold_neg]
    | rw [fold_tiers]
    | rw [fold_ports]
    | rw [fold_irq]
    | rw [fold_bus]
    | rw [fold_sec]
    | rw [fold_free]
    | rw [fold_pending]
    · intro x a
      (repeat' split) <;> simp

@[simp] theorem sequencesEnd_keeps (s : State) : (sequencesEnd s).ident = s.ident ∧ (sequencesEnd s).supply =
    s.supply ∧ (sequencesEnd s).sys = s.sys ∧ (sequencesEnd s).rails = s.rails ∧ (sequencesEnd s).seq = s.seq ∧
    (sequencesEnd s).log = s.log ∧ (sequencesEnd s).cell = s.cell ∧ (sequencesEnd s).flash = s.flash ∧ (sequencesEnd
    s).shadow = s.shadow ∧ (sequencesEnd s).light = s.light ∧ (sequencesEnd s).neg = s.neg ∧ (sequencesEnd s).tiers
    = s.tiers ∧ (sequencesEnd s).ports = s.ports ∧ (sequencesEnd s).irq = s.irq ∧ (sequencesEnd s).bus = s.bus ∧
    (sequencesEnd s).sec = s.sec ∧ (sequencesEnd s).free = s.free ∧ (sequencesEnd s).pending = s.pending := by
  unfold sequencesEnd
  simp

@[simp] theorem updateFits_keeps (s : State) : (updateFits s).ident = s.ident ∧ (updateFits s).supply = s.supply ∧
    (updateFits s).sys = s.sys ∧ (updateFits s).rails = s.rails ∧ (updateFits s).seq = s.seq ∧ (updateFits s).log =
    s.log ∧ (updateFits s).cell = s.cell ∧ (updateFits s).flash = s.flash ∧ (updateFits s).shadow = s.shadow ∧
    (updateFits s).light = s.light ∧ (updateFits s).nand = s.nand ∧ (updateFits s).tiers = s.tiers ∧ (updateFits
    s).ports = s.ports ∧ (updateFits s).sec = s.sec ∧ (updateFits s).pending = s.pending := by
  unfold updateFits
  simp

@[simp] theorem freeGens_keeps (test : Nat → Bool) (s : State) : (freeGens test s).ident = s.ident ∧ (freeGens test
    s).supply = s.supply ∧ (freeGens test s).sys = s.sys ∧ (freeGens test s).rails = s.rails ∧ (freeGens test s).seq
    = s.seq ∧ (freeGens test s).log = s.log ∧ (freeGens test s).cell = s.cell ∧ (freeGens test s).flash = s.flash ∧
    (freeGens test s).shadow = s.shadow ∧ (freeGens test s).light = s.light ∧ (freeGens test s).tiers = s.tiers ∧
    (freeGens test s).ports = s.ports ∧ (freeGens test s).sec = s.sec ∧ (freeGens test s).pending = s.pending := by
  unfold freeGens
  simp

@[simp] theorem anchorCopied_keeps (c : ChanId) (s : State) : (anchorCopied c s).ident = s.ident ∧ (anchorCopied c
    s).supply = s.supply ∧ (anchorCopied c s).sys = s.sys ∧ (anchorCopied c s).rails = s.rails ∧ (anchorCopied c
    s).seq = s.seq ∧ (anchorCopied c s).log = s.log ∧ (anchorCopied c s).cell = s.cell ∧ (anchorCopied c s).flash =
    s.flash ∧ (anchorCopied c s).shadow = s.shadow ∧ (anchorCopied c s).light = s.light ∧ (anchorCopied c s).neg =
    s.neg ∧ (anchorCopied c s).tiers = s.tiers ∧ (anchorCopied c s).ports = s.ports ∧ (anchorCopied c s).sec = s.sec
    ∧ (anchorCopied c s).pending = s.pending := by
  unfold anchorCopied
  try dsimp only
  (repeat' split) <;> simp_all

@[simp] theorem anchorCopies_keeps (s : State) : (anchorCopies s).ident = s.ident ∧ (anchorCopies s).supply =
    s.supply ∧ (anchorCopies s).sys = s.sys ∧ (anchorCopies s).rails = s.rails ∧ (anchorCopies s).seq = s.seq ∧
    (anchorCopies s).log = s.log ∧ (anchorCopies s).cell = s.cell ∧ (anchorCopies s).flash = s.flash ∧ (anchorCopies
    s).shadow = s.shadow ∧ (anchorCopies s).light = s.light ∧ (anchorCopies s).neg = s.neg ∧ (anchorCopies s).tiers
    = s.tiers ∧ (anchorCopies s).ports = s.ports ∧ (anchorCopies s).sec = s.sec ∧ (anchorCopies s).pending =
    s.pending := by
  unfold anchorCopies
  simp

@[simp] theorem discardPending_keeps (s : State) : (discardPending s).ident = s.ident ∧ (discardPending s).supply =
    s.supply ∧ (discardPending s).sys = s.sys ∧ (discardPending s).rails = s.rails ∧ (discardPending s).seq = s.seq
    ∧ (discardPending s).log = s.log ∧ (discardPending s).cell = s.cell ∧ (discardPending s).flash = s.flash ∧
    (discardPending s).shadow = s.shadow ∧ (discardPending s).light = s.light ∧ (discardPending s).tiers = s.tiers ∧
    (discardPending s).ports = s.ports ∧ (discardPending s).sec = s.sec ∧ (discardPending s).pending = s.pending :=
    by
  unfold discardPending
  try dsimp only
  (repeat' split) <;> simp_all

@[simp] theorem acceptStaleNow_keeps (s : State) : (acceptStaleNow s).ident = s.ident ∧ (acceptStaleNow s).supply =
    s.supply ∧ (acceptStaleNow s).sys = s.sys ∧ (acceptStaleNow s).rails = s.rails ∧ (acceptStaleNow s).seq = s.seq
    ∧ (acceptStaleNow s).log = s.log ∧ (acceptStaleNow s).cell = s.cell ∧ (acceptStaleNow s).flash = s.flash ∧
    (acceptStaleNow s).shadow = s.shadow ∧ (acceptStaleNow s).light = s.light ∧ (acceptStaleNow s).tiers = s.tiers ∧
    (acceptStaleNow s).ports = s.ports ∧ (acceptStaleNow s).sec = s.sec ∧ (acceptStaleNow s).pending = s.pending :=
    by
  unfold acceptStaleNow
  try dsimp only
  (repeat' split) <;> simp_all

@[simp] theorem bothTaken_keeps (s : State) : (bothTaken s).ident = s.ident ∧ (bothTaken s).supply = s.supply ∧
    (bothTaken s).sys = s.sys ∧ (bothTaken s).rails = s.rails ∧ (bothTaken s).seq = s.seq ∧ (bothTaken s).log =
    s.log ∧ (bothTaken s).cell = s.cell ∧ (bothTaken s).flash = s.flash ∧ (bothTaken s).shadow = s.shadow ∧
    (bothTaken s).neg = s.neg ∧ (bothTaken s).nand = s.nand ∧ (bothTaken s).tiers = s.tiers ∧ (bothTaken s).ports =
    s.ports ∧ (bothTaken s).irq = s.irq ∧ (bothTaken s).bus = s.bus ∧ (bothTaken s).sec = s.sec ∧ (bothTaken s).free
    = s.free ∧ (bothTaken s).pending = s.pending := by
  unfold bothTaken
  simp

@[simp] theorem takeVoluntary_keeps (s : State) : (takeVoluntary s).ident = s.ident ∧ (takeVoluntary s).supply =
    s.supply ∧ (takeVoluntary s).sys = s.sys ∧ (takeVoluntary s).rails = s.rails ∧ (takeVoluntary s).seq = s.seq ∧
    (takeVoluntary s).log = s.log ∧ (takeVoluntary s).cell = s.cell ∧ (takeVoluntary s).flash = s.flash ∧
    (takeVoluntary s).shadow = s.shadow ∧ (takeVoluntary s).neg = s.neg ∧ (takeVoluntary s).nand = s.nand ∧
    (takeVoluntary s).tiers = s.tiers ∧ (takeVoluntary s).ports = s.ports ∧ (takeVoluntary s).sec = s.sec ∧
    (takeVoluntary s).pending = s.pending := by
  unfold takeVoluntary
  simp

@[simp] theorem blurSuspects_keeps (s : State) : (blurSuspects s).ident = s.ident ∧ (blurSuspects s).supply =
    s.supply ∧ (blurSuspects s).sys = s.sys ∧ (blurSuspects s).rails = s.rails ∧ (blurSuspects s).seq = s.seq ∧
    (blurSuspects s).log = s.log ∧ (blurSuspects s).cell = s.cell ∧ (blurSuspects s).flash = s.flash ∧ (blurSuspects
    s).shadow = s.shadow ∧ (blurSuspects s).neg = s.neg ∧ (blurSuspects s).nand = s.nand ∧ (blurSuspects s).tiers =
    s.tiers ∧ (blurSuspects s).ports = s.ports ∧ (blurSuspects s).irq = s.irq ∧ (blurSuspects s).bus = s.bus ∧
    (blurSuspects s).sec = s.sec ∧ (blurSuspects s).pending = s.pending := by
  unfold blurSuspects
  try dsimp only
  (repeat' split) <;> simp_all

@[simp] theorem takeForced_keeps (cause : Byte) (s : State) : (takeForced cause s).ident = s.ident ∧ (takeForced
    cause s).supply = s.supply ∧ (takeForced cause s).sys = s.sys ∧ (takeForced cause s).rails = s.rails ∧
    (takeForced cause s).seq = s.seq ∧ (takeForced cause s).log = s.log ∧ (takeForced cause s).cell = s.cell ∧
    (takeForced cause s).flash = s.flash ∧ (takeForced cause s).shadow = s.shadow ∧ (takeForced cause s).neg = s.neg
    ∧ (takeForced cause s).nand = s.nand ∧ (takeForced cause s).tiers = s.tiers ∧ (takeForced cause s).ports =
    s.ports ∧ (takeForced cause s).sec = s.sec ∧ (takeForced cause s).pending = s.pending := by
  unfold takeForced
  simp

@[simp] theorem reclaim_keeps (d : Nat) (x1 : List Gen) (x2 : State) : (reclaim d x1 x2).ident = x2.ident ∧ (reclaim
    d x1 x2).supply = x2.supply ∧ (reclaim d x1 x2).sys = x2.sys ∧ (reclaim d x1 x2).rails = x2.rails ∧ (reclaim d
    x1 x2).seq = x2.seq ∧ (reclaim d x1 x2).log = x2.log ∧ (reclaim d x1 x2).cell = x2.cell ∧ (reclaim d x1
    x2).flash = x2.flash ∧ (reclaim d x1 x2).shadow = x2.shadow ∧ (reclaim d x1 x2).light = x2.light ∧ (reclaim d x1
    x2).tiers = x2.tiers ∧ (reclaim d x1 x2).ports = x2.ports ∧ (reclaim d x1 x2).sec = x2.sec ∧ (reclaim d x1
    x2).pending = x2.pending := by
  induction x1 generalizing x2 with
  | nil => simp [reclaim]
  | cons a l ih =>
    unfold reclaim
    try dsimp only
    (repeat' split) <;> simp [ih]

@[simp] theorem makeRoom_keeps (d : Nat) (s : State) : (makeRoom d s).ident = s.ident ∧ (makeRoom d s).supply =
    s.supply ∧ (makeRoom d s).sys = s.sys ∧ (makeRoom d s).rails = s.rails ∧ (makeRoom d s).seq = s.seq ∧ (makeRoom
    d s).log = s.log ∧ (makeRoom d s).cell = s.cell ∧ (makeRoom d s).flash = s.flash ∧ (makeRoom d s).shadow =
    s.shadow ∧ (makeRoom d s).light = s.light ∧ (makeRoom d s).tiers = s.tiers ∧ (makeRoom d s).ports = s.ports ∧
    (makeRoom d s).sec = s.sec ∧ (makeRoom d s).pending = s.pending := by
  unfold makeRoom
  try dsimp only
  (repeat' split) <;> simp_all

@[simp] theorem putHeader_keeps (g : Gen) (s : State) : (putHeader g s).ident = s.ident ∧ (putHeader g s).supply =
    s.supply ∧ (putHeader g s).sys = s.sys ∧ (putHeader g s).rails = s.rails ∧ (putHeader g s).seq = s.seq ∧
    (putHeader g s).log = s.log ∧ (putHeader g s).cell = s.cell ∧ (putHeader g s).flash = s.flash ∧ (putHeader g
    s).shadow = s.shadow ∧ (putHeader g s).light = s.light ∧ (putHeader g s).tiers = s.tiers ∧ (putHeader g s).ports
    = s.ports ∧ (putHeader g s).irq = s.irq ∧ (putHeader g s).bus = s.bus ∧ (putHeader g s).sec = s.sec ∧ (putHeader
    g s).free = s.free ∧ (putHeader g s).pending = s.pending := by
  unfold putHeader
  simp

@[simp] theorem beginGeneration_keeps (s : State) : (beginGeneration s).ident = s.ident ∧ (beginGeneration s).supply
    = s.supply ∧ (beginGeneration s).sys = s.sys ∧ (beginGeneration s).rails = s.rails ∧ (beginGeneration s).seq =
    s.seq ∧ (beginGeneration s).log = s.log ∧ (beginGeneration s).cell = s.cell ∧ (beginGeneration s).flash =
    s.flash ∧ (beginGeneration s).shadow = s.shadow ∧ (beginGeneration s).light = s.light ∧ (beginGeneration
    s).tiers = s.tiers ∧ (beginGeneration s).ports = s.ports ∧ (beginGeneration s).sec = s.sec ∧ (beginGeneration
    s).pending = s.pending := by
  unfold beginGeneration
  try dsimp only
  (repeat' split) <;> simp_all

@[simp] theorem afterTakeover_keeps (s : State) : (afterTakeover s).ident = s.ident ∧ (afterTakeover s).supply =
    s.supply ∧ (afterTakeover s).sys = s.sys ∧ (afterTakeover s).rails = s.rails ∧ (afterTakeover s).seq = s.seq ∧
    (afterTakeover s).log = s.log ∧ (afterTakeover s).cell = s.cell ∧ (afterTakeover s).flash = s.flash ∧
    (afterTakeover s).shadow = s.shadow ∧ (afterTakeover s).light = s.light ∧ (afterTakeover s).tiers = s.tiers ∧
    (afterTakeover s).ports = s.ports ∧ (afterTakeover s).sec = s.sec ∧ (afterTakeover s).pending = s.pending := by
  unfold afterTakeover
  try dsimp only
  (repeat' split) <;> simp_all

@[simp] theorem captureWhole_keeps (s : State) : (captureWhole s).ident = s.ident ∧ (captureWhole s).supply =
    s.supply ∧ (captureWhole s).sys = s.sys ∧ (captureWhole s).rails = s.rails ∧ (captureWhole s).seq = s.seq ∧
    (captureWhole s).log = s.log ∧ (captureWhole s).cell = s.cell ∧ (captureWhole s).flash = s.flash ∧ (captureWhole
    s).shadow = s.shadow ∧ (captureWhole s).light = s.light ∧ (captureWhole s).tiers = s.tiers ∧ (captureWhole
    s).ports = s.ports ∧ (captureWhole s).irq = s.irq ∧ (captureWhole s).bus = s.bus ∧ (captureWhole s).sec = s.sec
    ∧ (captureWhole s).free = s.free ∧ (captureWhole s).pending = s.pending := by
  unfold captureWhole
  try dsimp only
  (repeat' split) <;> simp_all

theorem writtenGeneration_keeps (g : Gen) (e : Expo) (s : State) (t : State) (h : writtenGeneration g e s = some t)
    : t.ident = s.ident ∧ t.supply = s.supply ∧ t.sys = s.sys ∧ t.rails = s.rails ∧ t.seq = s.seq ∧ t.log = s.log ∧
    t.cell = s.cell ∧ t.flash = s.flash ∧ t.shadow = s.shadow ∧ t.light = s.light ∧ t.tiers = s.tiers ∧ t.ports =
    s.ports ∧ t.irq = s.irq ∧ t.bus = s.bus ∧ t.sec = s.sec ∧ t.free = s.free ∧ t.pending = s.pending := by
  unfold writtenGeneration at h
  try dsimp only at h
  (repeat' split at h) <;> first | (cases h; done) | (cases h; simp) | (cases h; simp_all) | skip
  all_goals ((have hk := commitRecord_keeps _ _ _ _ (by assumption); simp_all); skip)

theorem commitGeneration_keeps (e : Expo) (s : State) (t : State) (h : commitGeneration e s = some t) : t.ident =
    s.ident ∧ t.supply = s.supply ∧ t.sys = s.sys ∧ t.rails = s.rails ∧ t.seq = s.seq ∧ t.log = s.log ∧ t.cell =
    s.cell ∧ t.flash = s.flash ∧ t.shadow = s.shadow ∧ t.tiers = s.tiers ∧ t.ports = s.ports ∧ t.sec = s.sec ∧
    t.pending = s.pending := by
  unfold commitGeneration at h
  split at h
  · cases h
  · simp only [Option.map_eq_some_iff] at h
    obtain ⟨u, hu, rfl⟩ := h
    have hk := writtenGeneration_keeps _ _ _ _ hu
    (repeat' split) <;> simp_all

@[simp] theorem exposureEnds_keeps (result : Byte) (s : State) : (exposureEnds result s).ident = s.ident ∧
    (exposureEnds result s).supply = s.supply ∧ (exposureEnds result s).sys = s.sys ∧ (exposureEnds result s).rails
    = s.rails ∧ (exposureEnds result s).seq = s.seq ∧ (exposureEnds result s).log = s.log ∧ (exposureEnds result
    s).cell = s.cell ∧ (exposureEnds result s).flash = s.flash ∧ (exposureEnds result s).shadow = s.shadow ∧
    (exposureEnds result s).light = s.light ∧ (exposureEnds result s).tiers = s.tiers ∧ (exposureEnds result
    s).ports = s.ports ∧ (exposureEnds result s).sec = s.sec ∧ (exposureEnds result s).pending = s.pending := by
  unfold exposureEnds
  try dsimp only
  (repeat' split) <;> simp_all

@[simp] theorem beginReturn_keeps (s : State) : (beginReturn s).ident = s.ident ∧ (beginReturn s).supply = s.supply
    ∧ (beginReturn s).sys = s.sys ∧ (beginReturn s).rails = s.rails ∧ (beginReturn s).seq = s.seq ∧ (beginReturn
    s).log = s.log ∧ (beginReturn s).cell = s.cell ∧ (beginReturn s).flash = s.flash ∧ (beginReturn s).shadow =
    s.shadow ∧ (beginReturn s).neg = s.neg ∧ (beginReturn s).nand = s.nand ∧ (beginReturn s).tiers = s.tiers ∧
    (beginReturn s).ports = s.ports ∧ (beginReturn s).irq = s.irq ∧ (beginReturn s).bus = s.bus ∧ (beginReturn
    s).sec = s.sec ∧ (beginReturn s).free = s.free ∧ (beginReturn s).pending = s.pending := by
  unfold beginReturn
  simp

@[simp] theorem sideReturned_keeps (side : Fin 2) (us : U32) (s : State) : (sideReturned side us s).ident = s.ident
    ∧ (sideReturned side us s).supply = s.supply ∧ (sideReturned side us s).sys = s.sys ∧ (sideReturned side us
    s).rails = s.rails ∧ (sideReturned side us s).seq = s.seq ∧ (sideReturned side us s).log = s.log ∧ (sideReturned
    side us s).cell = s.cell ∧ (sideReturned side us s).flash = s.flash ∧ (sideReturned side us s).shadow = s.shadow
    ∧ (sideReturned side us s).neg = s.neg ∧ (sideReturned side us s).nand = s.nand ∧ (sideReturned side us s).tiers
    = s.tiers ∧ (sideReturned side us s).ports = s.ports ∧ (sideReturned side us s).sec = s.sec ∧ (sideReturned side
    us s).pending = s.pending := by
  unfold sideReturned
  simp

@[simp] theorem noteLosses_keeps (gen : Nat) (ls : List Loss) (s : State) : (noteLosses gen ls s).ident = s.ident ∧
    (noteLosses gen ls s).supply = s.supply ∧ (noteLosses gen ls s).sys = s.sys ∧ (noteLosses gen ls s).rails =
    s.rails ∧ (noteLosses gen ls s).seq = s.seq ∧ (noteLosses gen ls s).log = s.log ∧ (noteLosses gen ls s).cell =
    s.cell ∧ (noteLosses gen ls s).flash = s.flash ∧ (noteLosses gen ls s).shadow = s.shadow ∧ (noteLosses gen ls
    s).light = s.light ∧ (noteLosses gen ls s).tiers = s.tiers ∧ (noteLosses gen ls s).ports = s.ports ∧ (noteLosses
    gen ls s).irq = s.irq ∧ (noteLosses gen ls s).bus = s.bus ∧ (noteLosses gen ls s).sec = s.sec ∧ (noteLosses gen
    ls s).free = s.free ∧ (noteLosses gen ls s).pending = s.pending := by
  unfold noteLosses
  simp

@[simp] theorem startCons_keeps (s : State) : (startCons s).ident = s.ident ∧ (startCons s).supply = s.supply ∧
    (startCons s).sys = s.sys ∧ (startCons s).rails = s.rails ∧ (startCons s).seq = s.seq ∧ (startCons s).log =
    s.log ∧ (startCons s).cell = s.cell ∧ (startCons s).flash = s.flash ∧ (startCons s).shadow = s.shadow ∧
    (startCons s).light = s.light ∧ (startCons s).tiers = s.tiers ∧ (startCons s).ports = s.ports ∧ (startCons
    s).irq = s.irq ∧ (startCons s).bus = s.bus ∧ (startCons s).sec = s.sec ∧ (startCons s).free = s.free ∧
    (startCons s).pending = s.pending := by
  unfold startCons
  try dsimp only
  (repeat' split) <;> simp_all

@[simp] theorem autoCons_keeps (s : State) : (autoCons s).ident = s.ident ∧ (autoCons s).supply = s.supply ∧
    (autoCons s).sys = s.sys ∧ (autoCons s).rails = s.rails ∧ (autoCons s).seq = s.seq ∧ (autoCons s).log = s.log ∧
    (autoCons s).cell = s.cell ∧ (autoCons s).flash = s.flash ∧ (autoCons s).shadow = s.shadow ∧ (autoCons s).light
    = s.light ∧ (autoCons s).tiers = s.tiers ∧ (autoCons s).ports = s.ports ∧ (autoCons s).irq = s.irq ∧ (autoCons
    s).bus = s.bus ∧ (autoCons s).sec = s.sec ∧ (autoCons s).free = s.free ∧ (autoCons s).pending = s.pending := by
  unfold autoCons
  simp

@[simp] theorem dropCons_keeps (s : State) : (dropCons s).ident = s.ident ∧ (dropCons s).supply = s.supply ∧
    (dropCons s).sys = s.sys ∧ (dropCons s).rails = s.rails ∧ (dropCons s).seq = s.seq ∧ (dropCons s).log = s.log ∧
    (dropCons s).cell = s.cell ∧ (dropCons s).flash = s.flash ∧ (dropCons s).shadow = s.shadow ∧ (dropCons s).light
    = s.light ∧ (dropCons s).tiers = s.tiers ∧ (dropCons s).ports = s.ports ∧ (dropCons s).sec = s.sec ∧ (dropCons
    s).pending = s.pending := by
  unfold dropCons
  try dsimp only
  (repeat' split) <;> simp_all

theorem writtenCons_keeps (g : Gen) (c : Gen) (k : Commit) (s : State) (t : State) (h : writtenCons g c k s = some
    t) : t.ident = s.ident ∧ t.supply = s.supply ∧ t.sys = s.sys ∧ t.rails = s.rails ∧ t.seq = s.seq ∧ t.log = s.log
    ∧ t.cell = s.cell ∧ t.flash = s.flash ∧ t.shadow = s.shadow ∧ t.light = s.light ∧ t.tiers = s.tiers ∧ t.ports =
    s.ports ∧ t.irq = s.irq ∧ t.bus = s.bus ∧ t.sec = s.sec ∧ t.free = s.free ∧ t.pending = s.pending := by
  unfold writtenCons at h
  split at h
  · cases h
  · simp only [Option.map_eq_some_iff] at h
    obtain ⟨u, hu, rfl⟩ := h
    have hk := commitRecord_keeps _ _ _ _ hu
    simp_all

@[simp] theorem consCommitted_keeps (s : State) : (consCommitted s).ident = s.ident ∧ (consCommitted s).supply =
    s.supply ∧ (consCommitted s).sys = s.sys ∧ (consCommitted s).rails = s.rails ∧ (consCommitted s).seq = s.seq ∧
    (consCommitted s).log = s.log ∧ (consCommitted s).cell = s.cell ∧ (consCommitted s).flash = s.flash ∧
    (consCommitted s).shadow = s.shadow ∧ (consCommitted s).light = s.light ∧ (consCommitted s).tiers = s.tiers ∧
    (consCommitted s).ports = s.ports ∧ (consCommitted s).sec = s.sec ∧ (consCommitted s).pending = s.pending := by
  unfold consCommitted
  try dsimp only
  (repeat' split) <;> first | (simp_all; done) | (have hk := writtenCons_keeps _ _ _ _ _ (by assumption); simp_all)

@[simp] theorem maskSegments_keeps (m : Byte) (s : State) : (maskSegments m s).ident = s.ident ∧ (maskSegments m
    s).supply = s.supply ∧ (maskSegments m s).sys = s.sys ∧ (maskSegments m s).rails = s.rails ∧ (maskSegments m
    s).seq = s.seq ∧ (maskSegments m s).log = s.log ∧ (maskSegments m s).cell = s.cell ∧ (maskSegments m s).flash =
    s.flash ∧ (maskSegments m s).shadow = s.shadow ∧ (maskSegments m s).neg = s.neg ∧ (maskSegments m s).nand =
    s.nand ∧ (maskSegments m s).tiers = s.tiers ∧ (maskSegments m s).ports = s.ports ∧ (maskSegments m s).irq =
    s.irq ∧ (maskSegments m s).bus = s.bus ∧ (maskSegments m s).sec = s.sec ∧ (maskSegments m s).free = s.free ∧
    (maskSegments m s).pending = s.pending := by
  unfold maskSegments
  simp

@[simp] theorem developFrames_keeps (s : State) (d : Devel) : (developFrames s d).ident = s.ident ∧ (developFrames s
    d).supply = s.supply ∧ (developFrames s d).sys = s.sys ∧ (developFrames s d).rails = s.rails ∧ (developFrames s
    d).seq = s.seq ∧ (developFrames s d).log = s.log ∧ (developFrames s d).cell = s.cell ∧ (developFrames s d).flash
    = s.flash ∧ (developFrames s d).shadow = s.shadow ∧ (developFrames s d).neg = s.neg ∧ (developFrames s d).tiers
    = s.tiers ∧ (developFrames s d).ports = s.ports ∧ (developFrames s d).irq = s.irq ∧ (developFrames s d).bus =
    s.bus ∧ (developFrames s d).sec = s.sec ∧ (developFrames s d).free = s.free ∧ (developFrames s d).pending =
    s.pending := by
  unfold developFrames
  simp

@[simp] theorem developmentEnds_keeps (d : Devel) (s : State) : (developmentEnds d s).ident = s.ident ∧
    (developmentEnds d s).supply = s.supply ∧ (developmentEnds d s).sys = s.sys ∧ (developmentEnds d s).rails =
    s.rails ∧ (developmentEnds d s).seq = s.seq ∧ (developmentEnds d s).log = s.log ∧ (developmentEnds d s).cell =
    s.cell ∧ (developmentEnds d s).flash = s.flash ∧ (developmentEnds d s).shadow = s.shadow ∧ (developmentEnds d
    s).tiers = s.tiers ∧ (developmentEnds d s).ports = s.ports ∧ (developmentEnds d s).sec = s.sec ∧
    (developmentEnds d s).pending = s.pending := by
  unfold developmentEnds
  try dsimp only
  (repeat' split) <;> simp_all

@[simp] theorem dramOff_keeps (s : State) : (dramOff s).ident = s.ident ∧ (dramOff s).supply = s.supply ∧ (dramOff
    s).sys = s.sys ∧ (dramOff s).seq = s.seq ∧ (dramOff s).log = s.log ∧ (dramOff s).cell = s.cell ∧ (dramOff
    s).flash = s.flash ∧ (dramOff s).shadow = s.shadow ∧ (dramOff s).neg = s.neg ∧ (dramOff s).nand = s.nand ∧
    (dramOff s).tiers = s.tiers ∧ (dramOff s).ports = s.ports ∧ (dramOff s).irq = s.irq ∧ (dramOff s).bus = s.bus ∧
    (dramOff s).sec = s.sec ∧ (dramOff s).pending = s.pending := by
  unfold dramOff
  simp

@[simp] theorem developmentFails_keeps (s : State) : (developmentFails s).ident = s.ident ∧ (developmentFails
    s).supply = s.supply ∧ (developmentFails s).sys = s.sys ∧ (developmentFails s).rails = s.rails ∧
    (developmentFails s).seq = s.seq ∧ (developmentFails s).log = s.log ∧ (developmentFails s).cell = s.cell ∧
    (developmentFails s).flash = s.flash ∧ (developmentFails s).shadow = s.shadow ∧ (developmentFails s).light =
    s.light ∧ (developmentFails s).tiers = s.tiers ∧ (developmentFails s).ports = s.ports ∧ (developmentFails s).sec
    = s.sec ∧ (developmentFails s).pending = s.pending := by
  unfold developmentFails
  try dsimp only
  (repeat' split) <;> simp_all

@[simp] theorem persistenceFault_keeps (code : Byte) (s : State) : (persistenceFault code s).ident = s.ident ∧
    (persistenceFault code s).supply = s.supply ∧ (persistenceFault code s).seq = s.seq ∧ (persistenceFault code
    s).log = s.log ∧ (persistenceFault code s).cell = s.cell ∧ (persistenceFault code s).shadow = s.shadow ∧
    (persistenceFault code s).tiers = s.tiers ∧ (persistenceFault code s).ports = s.ports ∧ (persistenceFault code
    s).pending = s.pending := by
  unfold persistenceFault
  simp

end Sys2Proof.Machine
end

