-- ==== Sys2Proof/Laws/KeepsTiers.lean ====
section
/-! SUPPORT. What each operation of Machine/TierF, Tiers, Nand leaves as it was: one lemma an operation, for `simp`. -/

set_option linter.unusedSimpArgs false
set_option linter.unusedVariables false
set_option linter.unusedTactic false
set_option linter.unreachableTactic false

namespace Sys2Proof.Machine

@[simp] theorem collectF_keeps (s : State) : (collectF s).ident = s.ident ∧ (collectF s).supply = s.supply ∧
    (collectF s).sys = s.sys ∧ (collectF s).rails = s.rails ∧ (collectF s).seq = s.seq ∧ (collectF s).log = s.log ∧
    (collectF s).cell = s.cell ∧ (collectF s).flash = s.flash ∧ (collectF s).shadow = s.shadow ∧ (collectF s).light
    = s.light ∧ (collectF s).neg = s.neg ∧ (collectF s).tiers = s.tiers ∧ (collectF s).ports = s.ports ∧ (collectF
    s).sec = s.sec ∧ (collectF s).pending = s.pending := by
  unfold collectF
  simp

@[simp] theorem releaseF_keeps (s : State) : (releaseF s).ident = s.ident ∧ (releaseF s).supply = s.supply ∧
    (releaseF s).sys = s.sys ∧ (releaseF s).rails = s.rails ∧ (releaseF s).seq = s.seq ∧ (releaseF s).log = s.log ∧
    (releaseF s).cell = s.cell ∧ (releaseF s).flash = s.flash ∧ (releaseF s).shadow = s.shadow ∧ (releaseF s).light
    = s.light ∧ (releaseF s).neg = s.neg ∧ (releaseF s).tiers = s.tiers ∧ (releaseF s).ports = s.ports ∧ (releaseF
    s).sec = s.sec ∧ (releaseF s).pending = s.pending := by
  unfold releaseF
  simp

@[simp] theorem onTiers_keeps (f : Tiers → Tiers) (s : State) : (onTiers f s).ident = s.ident ∧ (onTiers f s).supply
    = s.supply ∧ (onTiers f s).sys = s.sys ∧ (onTiers f s).rails = s.rails ∧ (onTiers f s).seq = s.seq ∧ (onTiers f
    s).log = s.log ∧ (onTiers f s).cell = s.cell ∧ (onTiers f s).flash = s.flash ∧ (onTiers f s).shadow = s.shadow ∧
    (onTiers f s).light = s.light ∧ (onTiers f s).neg = s.neg ∧ (onTiers f s).nand = s.nand ∧ (onTiers f s).ports =
    s.ports ∧ (onTiers f s).irq = s.irq ∧ (onTiers f s).bus = s.bus ∧ (onTiers f s).sec = s.sec ∧ (onTiers f s).free
    = s.free ∧ (onTiers f s).pending = s.pending := by
  unfold onTiers
  simp

@[simp] theorem fetchEntry_keeps (stream : Nat) (s : State) : (fetchEntry stream s).2.ident = s.ident ∧ (fetchEntry
    stream s).2.supply = s.supply ∧ (fetchEntry stream s).2.sys = s.sys ∧ (fetchEntry stream s).2.rails = s.rails ∧
    (fetchEntry stream s).2.seq = s.seq ∧ (fetchEntry stream s).2.log = s.log ∧ (fetchEntry stream s).2.cell =
    s.cell ∧ (fetchEntry stream s).2.flash = s.flash ∧ (fetchEntry stream s).2.shadow = s.shadow ∧ (fetchEntry
    stream s).2.light = s.light ∧ (fetchEntry stream s).2.neg = s.neg ∧ (fetchEntry stream s).2.nand = s.nand ∧
    (fetchEntry stream s).2.ports = s.ports ∧ (fetchEntry stream s).2.sec = s.sec ∧ (fetchEntry stream s).2.pending
    = s.pending := by
  unfold fetchEntry
  try dsimp only
  (repeat' split) <;> simp_all

@[simp] theorem setTile_keeps (k : Nat) (t : Tile) (s : State) : (setTile k t s).ident = s.ident ∧ (setTile k t
    s).supply = s.supply ∧ (setTile k t s).sys = s.sys ∧ (setTile k t s).rails = s.rails ∧ (setTile k t s).seq =
    s.seq ∧ (setTile k t s).log = s.log ∧ (setTile k t s).cell = s.cell ∧ (setTile k t s).flash = s.flash ∧ (setTile
    k t s).shadow = s.shadow ∧ (setTile k t s).light = s.light ∧ (setTile k t s).neg = s.neg ∧ (setTile k t s).nand
    = s.nand ∧ (setTile k t s).ports = s.ports ∧ (setTile k t s).irq = s.irq ∧ (setTile k t s).bus = s.bus ∧
    (setTile k t s).sec = s.sec ∧ (setTile k t s).free = s.free ∧ (setTile k t s).pending = s.pending := by
  unfold setTile
  simp

@[simp] theorem onTile_keeps (k : Nat) (f : Tile → Tile) (s : State) : (onTile k f s).ident = s.ident ∧ (onTile k f
    s).supply = s.supply ∧ (onTile k f s).sys = s.sys ∧ (onTile k f s).rails = s.rails ∧ (onTile k f s).seq = s.seq
    ∧ (onTile k f s).log = s.log ∧ (onTile k f s).cell = s.cell ∧ (onTile k f s).flash = s.flash ∧ (onTile k f
    s).shadow = s.shadow ∧ (onTile k f s).light = s.light ∧ (onTile k f s).neg = s.neg ∧ (onTile k f s).nand =
    s.nand ∧ (onTile k f s).ports = s.ports ∧ (onTile k f s).irq = s.irq ∧ (onTile k f s).bus = s.bus ∧ (onTile k f
    s).sec = s.sec ∧ (onTile k f s).free = s.free ∧ (onTile k f s).pending = s.pending := by
  unfold onTile
  simp

@[simp] theorem makeRoomD_keeps (a : Nat) (need : Nat) (x1 : Nat) (x2 : State) : (makeRoomD a need x1 x2).2.ident =
    x2.ident ∧ (makeRoomD a need x1 x2).2.supply = x2.supply ∧ (makeRoomD a need x1 x2).2.sys = x2.sys ∧ (makeRoomD
    a need x1 x2).2.rails = x2.rails ∧ (makeRoomD a need x1 x2).2.seq = x2.seq ∧ (makeRoomD a need x1 x2).2.log =
    x2.log ∧ (makeRoomD a need x1 x2).2.cell = x2.cell ∧ (makeRoomD a need x1 x2).2.flash = x2.flash ∧ (makeRoomD a
    need x1 x2).2.shadow = x2.shadow ∧ (makeRoomD a need x1 x2).2.light = x2.light ∧ (makeRoomD a need x1 x2).2.neg
    = x2.neg ∧ (makeRoomD a need x1 x2).2.nand = x2.nand ∧ (makeRoomD a need x1 x2).2.ports = x2.ports ∧ (makeRoomD
    a need x1 x2).2.irq = x2.irq ∧ (makeRoomD a need x1 x2).2.bus = x2.bus ∧ (makeRoomD a need x1 x2).2.sec = x2.sec
    ∧ (makeRoomD a need x1 x2).2.free = x2.free ∧ (makeRoomD a need x1 x2).2.pending = x2.pending := by
  induction x1 generalizing x2 with
  | zero => simp [makeRoomD]
  | succ n ih =>
    unfold makeRoomD
    try dsimp only
    (repeat' split) <;> simp [ih]

@[simp] theorem reserveUsed_keeps (a : Nat) (s : State) : (reserveUsed a s).ident = s.ident ∧ (reserveUsed a
    s).supply = s.supply ∧ (reserveUsed a s).sys = s.sys ∧ (reserveUsed a s).rails = s.rails ∧ (reserveUsed a s).seq
    = s.seq ∧ (reserveUsed a s).log = s.log ∧ (reserveUsed a s).cell = s.cell ∧ (reserveUsed a s).flash = s.flash ∧
    (reserveUsed a s).shadow = s.shadow ∧ (reserveUsed a s).light = s.light ∧ (reserveUsed a s).neg = s.neg ∧
    (reserveUsed a s).nand = s.nand ∧ (reserveUsed a s).ports = s.ports ∧ (reserveUsed a s).sec = s.sec ∧
    (reserveUsed a s).pending = s.pending := by
  unfold reserveUsed
  simp

@[simp] theorem putD_keeps (k : Nat) (bs : List Byte) (dirty : U16) (reserve : Bool) (s : State) : (putD k bs dirty
    reserve s).ident = s.ident ∧ (putD k bs dirty reserve s).supply = s.supply ∧ (putD k bs dirty reserve s).sys =
    s.sys ∧ (putD k bs dirty reserve s).rails = s.rails ∧ (putD k bs dirty reserve s).seq = s.seq ∧ (putD k bs dirty
    reserve s).log = s.log ∧ (putD k bs dirty reserve s).cell = s.cell ∧ (putD k bs dirty reserve s).flash = s.flash
    ∧ (putD k bs dirty reserve s).shadow = s.shadow ∧ (putD k bs dirty reserve s).light = s.light ∧ (putD k bs dirty
    reserve s).neg = s.neg ∧ (putD k bs dirty reserve s).nand = s.nand ∧ (putD k bs dirty reserve s).ports = s.ports
    ∧ (putD k bs dirty reserve s).irq = s.irq ∧ (putD k bs dirty reserve s).bus = s.bus ∧ (putD k bs dirty reserve
    s).sec = s.sec ∧ (putD k bs dirty reserve s).free = s.free ∧ (putD k bs dirty reserve s).pending = s.pending :=
    by
  unfold putD
  simp

@[simp] theorem placeD_keeps (k : Nat) (bs : List Byte) (dirty : U16) (reserve : Bool) (s : State) : (placeD k bs
    dirty reserve s).2.ident = s.ident ∧ (placeD k bs dirty reserve s).2.supply = s.supply ∧ (placeD k bs dirty
    reserve s).2.sys = s.sys ∧ (placeD k bs dirty reserve s).2.rails = s.rails ∧ (placeD k bs dirty reserve s).2.seq
    = s.seq ∧ (placeD k bs dirty reserve s).2.log = s.log ∧ (placeD k bs dirty reserve s).2.cell = s.cell ∧ (placeD
    k bs dirty reserve s).2.flash = s.flash ∧ (placeD k bs dirty reserve s).2.shadow = s.shadow ∧ (placeD k bs dirty
    reserve s).2.light = s.light ∧ (placeD k bs dirty reserve s).2.neg = s.neg ∧ (placeD k bs dirty reserve
    s).2.nand = s.nand ∧ (placeD k bs dirty reserve s).2.ports = s.ports ∧ (placeD k bs dirty reserve s).2.sec =
    s.sec ∧ (placeD k bs dirty reserve s).2.pending = s.pending := by
  unfold placeD
  simp

@[simp] theorem writeDown_keeps (k : Nat) (reserve : Bool) (s : State) : (writeDown k reserve s).2.ident = s.ident ∧
    (writeDown k reserve s).2.supply = s.supply ∧ (writeDown k reserve s).2.sys = s.sys ∧ (writeDown k reserve
    s).2.rails = s.rails ∧ (writeDown k reserve s).2.seq = s.seq ∧ (writeDown k reserve s).2.log = s.log ∧
    (writeDown k reserve s).2.cell = s.cell ∧ (writeDown k reserve s).2.flash = s.flash ∧ (writeDown k reserve
    s).2.shadow = s.shadow ∧ (writeDown k reserve s).2.light = s.light ∧ (writeDown k reserve s).2.neg = s.neg ∧
    (writeDown k reserve s).2.nand = s.nand ∧ (writeDown k reserve s).2.ports = s.ports ∧ (writeDown k reserve
    s).2.sec = s.sec ∧ (writeDown k reserve s).2.pending = s.pending := by
  unfold writeDown
  try dsimp only
  (repeat' split) <;> simp_all

@[simp] theorem claimSlot_keeps (a : Nat) (s : State) : (claimSlot a s).2.ident = s.ident ∧ (claimSlot a s).2.supply
    = s.supply ∧ (claimSlot a s).2.sys = s.sys ∧ (claimSlot a s).2.rails = s.rails ∧ (claimSlot a s).2.seq = s.seq ∧
    (claimSlot a s).2.log = s.log ∧ (claimSlot a s).2.cell = s.cell ∧ (claimSlot a s).2.flash = s.flash ∧ (claimSlot
    a s).2.shadow = s.shadow ∧ (claimSlot a s).2.light = s.light ∧ (claimSlot a s).2.neg = s.neg ∧ (claimSlot a
    s).2.nand = s.nand ∧ (claimSlot a s).2.ports = s.ports ∧ (claimSlot a s).2.sec = s.sec ∧ (claimSlot a
    s).2.pending = s.pending := by
  unfold claimSlot
  try dsimp only
  (repeat' split) <;> simp_all

@[simp] theorem slotFor_keeps (k : Nat) (a : Nat) (s : State) : (slotFor k a s).2.ident = s.ident ∧ (slotFor k a
    s).2.supply = s.supply ∧ (slotFor k a s).2.sys = s.sys ∧ (slotFor k a s).2.rails = s.rails ∧ (slotFor k a
    s).2.seq = s.seq ∧ (slotFor k a s).2.log = s.log ∧ (slotFor k a s).2.cell = s.cell ∧ (slotFor k a s).2.flash =
    s.flash ∧ (slotFor k a s).2.shadow = s.shadow ∧ (slotFor k a s).2.light = s.light ∧ (slotFor k a s).2.neg =
    s.neg ∧ (slotFor k a s).2.nand = s.nand ∧ (slotFor k a s).2.ports = s.ports ∧ (slotFor k a s).2.sec = s.sec ∧
    (slotFor k a s).2.pending = s.pending := by
  unfold slotFor
  simp

@[simp] theorem noteWrite_keeps (k : Nat) (order : Nat) (s : State) : (noteWrite k order s).ident = s.ident ∧
    (noteWrite k order s).supply = s.supply ∧ (noteWrite k order s).sys = s.sys ∧ (noteWrite k order s).rails =
    s.rails ∧ (noteWrite k order s).seq = s.seq ∧ (noteWrite k order s).log = s.log ∧ (noteWrite k order s).cell =
    s.cell ∧ (noteWrite k order s).flash = s.flash ∧ (noteWrite k order s).shadow = s.shadow ∧ (noteWrite k order
    s).light = s.light ∧ (noteWrite k order s).neg = s.neg ∧ (noteWrite k order s).nand = s.nand ∧ (noteWrite k
    order s).ports = s.ports ∧ (noteWrite k order s).irq = s.irq ∧ (noteWrite k order s).bus = s.bus ∧ (noteWrite k
    order s).sec = s.sec ∧ (noteWrite k order s).free = s.free ∧ (noteWrite k order s).pending = s.pending := by
  unfold noteWrite
  simp

@[simp] theorem placeUnits_keeps (bs : List Byte) (s : State) : (placeUnits bs s).2.ident = s.ident ∧ (placeUnits bs
    s).2.supply = s.supply ∧ (placeUnits bs s).2.sys = s.sys ∧ (placeUnits bs s).2.rails = s.rails ∧ (placeUnits bs
    s).2.seq = s.seq ∧ (placeUnits bs s).2.log = s.log ∧ (placeUnits bs s).2.cell = s.cell ∧ (placeUnits bs
    s).2.flash = s.flash ∧ (placeUnits bs s).2.shadow = s.shadow ∧ (placeUnits bs s).2.light = s.light ∧ (placeUnits
    bs s).2.neg = s.neg ∧ (placeUnits bs s).2.tiers = s.tiers ∧ (placeUnits bs s).2.ports = s.ports ∧ (placeUnits bs
    s).2.irq = s.irq ∧ (placeUnits bs s).2.bus = s.bus ∧ (placeUnits bs s).2.sec = s.sec ∧ (placeUnits bs s).2.free
    = s.free ∧ (placeUnits bs s).2.pending = s.pending := by
  unfold placeUnits
  try dsimp only
  (repeat' split) <;> simp_all

@[simp] theorem queueProgram_keeps (k : Nat) (cls : Nat) (f : CopyF) (s : State) : (queueProgram k cls f s).ident =
    s.ident ∧ (queueProgram k cls f s).supply = s.supply ∧ (queueProgram k cls f s).sys = s.sys ∧ (queueProgram k
    cls f s).rails = s.rails ∧ (queueProgram k cls f s).seq = s.seq ∧ (queueProgram k cls f s).log = s.log ∧
    (queueProgram k cls f s).cell = s.cell ∧ (queueProgram k cls f s).flash = s.flash ∧ (queueProgram k cls f
    s).shadow = s.shadow ∧ (queueProgram k cls f s).light = s.light ∧ (queueProgram k cls f s).neg = s.neg ∧
    (queueProgram k cls f s).tiers = s.tiers ∧ (queueProgram k cls f s).ports = s.ports ∧ (queueProgram k cls f
    s).irq = s.irq ∧ (queueProgram k cls f s).bus = s.bus ∧ (queueProgram k cls f s).sec = s.sec ∧ (queueProgram k
    cls f s).free = s.free ∧ (queueProgram k cls f s).pending = s.pending := by
  unfold queueProgram
  simp

@[simp] theorem programF_keeps (k : Nat) (bs : List Byte) (save : Nat) (cls : Nat) (ended : Bool) (brings : Option
    Nat) (left : Option Nat) (s : State) : (programF k bs save cls ended brings left s).ident = s.ident ∧ (programF
    k bs save cls ended brings left s).supply = s.supply ∧ (programF k bs save cls ended brings left s).sys = s.sys
    ∧ (programF k bs save cls ended brings left s).rails = s.rails ∧ (programF k bs save cls ended brings left
    s).seq = s.seq ∧ (programF k bs save cls ended brings left s).log = s.log ∧ (programF k bs save cls ended brings
    left s).cell = s.cell ∧ (programF k bs save cls ended brings left s).flash = s.flash ∧ (programF k bs save cls
    ended brings left s).shadow = s.shadow ∧ (programF k bs save cls ended brings left s).light = s.light ∧
    (programF k bs save cls ended brings left s).neg = s.neg ∧ (programF k bs save cls ended brings left s).ports =
    s.ports ∧ (programF k bs save cls ended brings left s).irq = s.irq ∧ (programF k bs save cls ended brings left
    s).bus = s.bus ∧ (programF k bs save cls ended brings left s).sec = s.sec ∧ (programF k bs save cls ended brings
    left s).free = s.free ∧ (programF k bs save cls ended brings left s).pending = s.pending := by
  unfold programF
  simp

@[simp] theorem toTierF_keeps (k : Nat) (bs : List Byte) (save : Nat) (cls : Nat) (ended : Bool) (s : State) :
    (toTierF k bs save cls ended s).ident = s.ident ∧ (toTierF k bs save cls ended s).supply = s.supply ∧ (toTierF k
    bs save cls ended s).sys = s.sys ∧ (toTierF k bs save cls ended s).rails = s.rails ∧ (toTierF k bs save cls
    ended s).seq = s.seq ∧ (toTierF k bs save cls ended s).log = s.log ∧ (toTierF k bs save cls ended s).cell =
    s.cell ∧ (toTierF k bs save cls ended s).flash = s.flash ∧ (toTierF k bs save cls ended s).shadow = s.shadow ∧
    (toTierF k bs save cls ended s).light = s.light ∧ (toTierF k bs save cls ended s).neg = s.neg ∧ (toTierF k bs
    save cls ended s).ports = s.ports ∧ (toTierF k bs save cls ended s).irq = s.irq ∧ (toTierF k bs save cls ended
    s).bus = s.bus ∧ (toTierF k bs save cls ended s).sec = s.sec ∧ (toTierF k bs save cls ended s).free = s.free ∧
    (toTierF k bs save cls ended s).pending = s.pending := by
  unfold toTierF
  simp

@[simp] theorem programEnded_keeps (k : Nat) (s : State) : (programEnded k s).ident = s.ident ∧ (programEnded k
    s).supply = s.supply ∧ (programEnded k s).sys = s.sys ∧ (programEnded k s).rails = s.rails ∧ (programEnded k
    s).seq = s.seq ∧ (programEnded k s).log = s.log ∧ (programEnded k s).cell = s.cell ∧ (programEnded k s).flash =
    s.flash ∧ (programEnded k s).shadow = s.shadow ∧ (programEnded k s).light = s.light ∧ (programEnded k s).neg =
    s.neg ∧ (programEnded k s).ports = s.ports ∧ (programEnded k s).sec = s.sec ∧ (programEnded k s).pending =
    s.pending := by
  unfold programEnded
  simp

@[simp] theorem saveTile_keeps (seq : Nat) (k : Nat) (s : State) : (saveTile seq k s).ident = s.ident ∧ (saveTile
    seq k s).supply = s.supply ∧ (saveTile seq k s).sys = s.sys ∧ (saveTile seq k s).rails = s.rails ∧ (saveTile seq
    k s).seq = s.seq ∧ (saveTile seq k s).log = s.log ∧ (saveTile seq k s).cell = s.cell ∧ (saveTile seq k s).flash
    = s.flash ∧ (saveTile seq k s).shadow = s.shadow ∧ (saveTile seq k s).light = s.light ∧ (saveTile seq k s).neg =
    s.neg ∧ (saveTile seq k s).ports = s.ports ∧ (saveTile seq k s).sec = s.sec ∧ (saveTile seq k s).pending =
    s.pending := by
  unfold saveTile
  try dsimp only
  (repeat' split) <;> simp_all

@[simp] theorem placeAgain_keeps (k : Nat) (s : State) : (placeAgain k s).ident = s.ident ∧ (placeAgain k s).supply
    = s.supply ∧ (placeAgain k s).sys = s.sys ∧ (placeAgain k s).rails = s.rails ∧ (placeAgain k s).seq = s.seq ∧
    (placeAgain k s).log = s.log ∧ (placeAgain k s).cell = s.cell ∧ (placeAgain k s).flash = s.flash ∧ (placeAgain k
    s).shadow = s.shadow ∧ (placeAgain k s).light = s.light ∧ (placeAgain k s).neg = s.neg ∧ (placeAgain k s).ports
    = s.ports ∧ (placeAgain k s).irq = s.irq ∧ (placeAgain k s).bus = s.bus ∧ (placeAgain k s).sec = s.sec ∧
    (placeAgain k s).free = s.free ∧ (placeAgain k s).pending = s.pending := by
  unfold placeAgain
  try dsimp only
  (repeat' split) <;> simp_all

@[simp] theorem placeWaiting_keeps (s : State) : (placeWaiting s).ident = s.ident ∧ (placeWaiting s).supply =
    s.supply ∧ (placeWaiting s).sys = s.sys ∧ (placeWaiting s).rails = s.rails ∧ (placeWaiting s).seq = s.seq ∧
    (placeWaiting s).log = s.log ∧ (placeWaiting s).cell = s.cell ∧ (placeWaiting s).flash = s.flash ∧ (placeWaiting
    s).shadow = s.shadow ∧ (placeWaiting s).light = s.light ∧ (placeWaiting s).neg = s.neg ∧ (placeWaiting s).ports
    = s.ports ∧ (placeWaiting s).irq = s.irq ∧ (placeWaiting s).bus = s.bus ∧ (placeWaiting s).sec = s.sec ∧
    (placeWaiting s).free = s.free ∧ (placeWaiting s).pending = s.pending := by
  unfold placeWaiting
  simp

@[simp] theorem tierFEnds_keeps (k : Nat) (s : State) : (tierFEnds k s).ident = s.ident ∧ (tierFEnds k s).supply =
    s.supply ∧ (tierFEnds k s).sys = s.sys ∧ (tierFEnds k s).rails = s.rails ∧ (tierFEnds k s).seq = s.seq ∧
    (tierFEnds k s).log = s.log ∧ (tierFEnds k s).cell = s.cell ∧ (tierFEnds k s).flash = s.flash ∧ (tierFEnds k
    s).shadow = s.shadow ∧ (tierFEnds k s).light = s.light ∧ (tierFEnds k s).neg = s.neg ∧ (tierFEnds k s).ports =
    s.ports ∧ (tierFEnds k s).sec = s.sec ∧ (tierFEnds k s).pending = s.pending := by
  unfold tierFEnds
  try dsimp only
  (repeat' split) <;> simp_all

@[simp] theorem writeBack_keeps (k : Nat) (s : State) : (writeBack k s).ident = s.ident ∧ (writeBack k s).supply =
    s.supply ∧ (writeBack k s).sys = s.sys ∧ (writeBack k s).rails = s.rails ∧ (writeBack k s).seq = s.seq ∧
    (writeBack k s).log = s.log ∧ (writeBack k s).cell = s.cell ∧ (writeBack k s).flash = s.flash ∧ (writeBack k
    s).shadow = s.shadow ∧ (writeBack k s).light = s.light ∧ (writeBack k s).neg = s.neg ∧ (writeBack k s).ports =
    s.ports ∧ (writeBack k s).irq = s.irq ∧ (writeBack k s).bus = s.bus ∧ (writeBack k s).sec = s.sec ∧ (writeBack k
    s).free = s.free ∧ (writeBack k s).pending = s.pending := by
  unfold writeBack
  try dsimp only
  (repeat' split) <;> simp_all

@[simp] theorem relocateTile_keeps (k : Nat) (s : State) : (relocateTile k s).ident = s.ident ∧ (relocateTile k
    s).supply = s.supply ∧ (relocateTile k s).sys = s.sys ∧ (relocateTile k s).rails = s.rails ∧ (relocateTile k
    s).seq = s.seq ∧ (relocateTile k s).log = s.log ∧ (relocateTile k s).cell = s.cell ∧ (relocateTile k s).flash =
    s.flash ∧ (relocateTile k s).shadow = s.shadow ∧ (relocateTile k s).light = s.light ∧ (relocateTile k s).neg =
    s.neg ∧ (relocateTile k s).ports = s.ports ∧ (relocateTile k s).irq = s.irq ∧ (relocateTile k s).bus = s.bus ∧
    (relocateTile k s).sec = s.sec ∧ (relocateTile k s).free = s.free ∧ (relocateTile k s).pending = s.pending := by
  unfold relocateTile
  try dsimp only
  (repeat' split) <;> simp_all

@[simp] theorem relocateStripe_keeps (i : Nat) (s : State) : (relocateStripe i s).ident = s.ident ∧ (relocateStripe
    i s).supply = s.supply ∧ (relocateStripe i s).sys = s.sys ∧ (relocateStripe i s).rails = s.rails ∧
    (relocateStripe i s).seq = s.seq ∧ (relocateStripe i s).log = s.log ∧ (relocateStripe i s).cell = s.cell ∧
    (relocateStripe i s).flash = s.flash ∧ (relocateStripe i s).shadow = s.shadow ∧ (relocateStripe i s).light =
    s.light ∧ (relocateStripe i s).neg = s.neg ∧ (relocateStripe i s).ports = s.ports ∧ (relocateStripe i s).irq =
    s.irq ∧ (relocateStripe i s).bus = s.bus ∧ (relocateStripe i s).sec = s.sec ∧ (relocateStripe i s).free = s.free
    ∧ (relocateStripe i s).pending = s.pending := by
  unfold relocateStripe
  simp

@[simp] theorem unitLost_keeps (k : Nat) (s : State) : (unitLost k s).ident = s.ident ∧ (unitLost k s).supply =
    s.supply ∧ (unitLost k s).sys = s.sys ∧ (unitLost k s).rails = s.rails ∧ (unitLost k s).seq = s.seq ∧ (unitLost
    k s).log = s.log ∧ (unitLost k s).cell = s.cell ∧ (unitLost k s).flash = s.flash ∧ (unitLost k s).shadow =
    s.shadow ∧ (unitLost k s).light = s.light ∧ (unitLost k s).neg = s.neg ∧ (unitLost k s).ports = s.ports ∧
    (unitLost k s).sec = s.sec ∧ (unitLost k s).pending = s.pending := by
  unfold unitLost
  try dsimp only
  (repeat' split) <;> simp_all

@[simp] theorem proofServed_keeps (a : Nat) (s : State) : (proofServed a s).ident = s.ident ∧ (proofServed a
    s).supply = s.supply ∧ (proofServed a s).sys = s.sys ∧ (proofServed a s).rails = s.rails ∧ (proofServed a s).seq
    = s.seq ∧ (proofServed a s).log = s.log ∧ (proofServed a s).cell = s.cell ∧ (proofServed a s).flash = s.flash ∧
    (proofServed a s).shadow = s.shadow ∧ (proofServed a s).light = s.light ∧ (proofServed a s).neg = s.neg ∧
    (proofServed a s).nand = s.nand ∧ (proofServed a s).ports = s.ports ∧ (proofServed a s).sec = s.sec ∧
    (proofServed a s).pending = s.pending := by
  unfold proofServed
  simp

@[simp] theorem takeD_keeps (k : Nat) (e : List Byte) (s : State) : (takeD k e s).2.ident = s.ident ∧ (takeD k e
    s).2.supply = s.supply ∧ (takeD k e s).2.sys = s.sys ∧ (takeD k e s).2.rails = s.rails ∧ (takeD k e s).2.seq =
    s.seq ∧ (takeD k e s).2.log = s.log ∧ (takeD k e s).2.cell = s.cell ∧ (takeD k e s).2.flash = s.flash ∧ (takeD k
    e s).2.shadow = s.shadow ∧ (takeD k e s).2.light = s.light ∧ (takeD k e s).2.neg = s.neg ∧ (takeD k e s).2.nand
    = s.nand ∧ (takeD k e s).2.ports = s.ports ∧ (takeD k e s).2.irq = s.irq ∧ (takeD k e s).2.bus = s.bus ∧ (takeD
    k e s).2.sec = s.sec ∧ (takeD k e s).2.pending = s.pending := by
  unfold takeD
  try dsimp only
  (repeat' split) <;> simp_all

@[simp] theorem takeF_keeps (k : Nat) (e : List Byte) (s : State) : (takeF k e s).2.ident = s.ident ∧ (takeF k e
    s).2.supply = s.supply ∧ (takeF k e s).2.sys = s.sys ∧ (takeF k e s).2.rails = s.rails ∧ (takeF k e s).2.seq =
    s.seq ∧ (takeF k e s).2.log = s.log ∧ (takeF k e s).2.cell = s.cell ∧ (takeF k e s).2.flash = s.flash ∧ (takeF k
    e s).2.shadow = s.shadow ∧ (takeF k e s).2.light = s.light ∧ (takeF k e s).2.neg = s.neg ∧ (takeF k e s).2.ports
    = s.ports ∧ (takeF k e s).2.sec = s.sec ∧ (takeF k e s).2.pending = s.pending := by
  unfold takeF
  try dsimp only
  (repeat' split) <;> simp_all

@[simp] theorem readD_keeps (k : Nat) (e : List Byte) (dirty : U16) (s : State) : (readD k e dirty s).2.ident =
    s.ident ∧ (readD k e dirty s).2.supply = s.supply ∧ (readD k e dirty s).2.sys = s.sys ∧ (readD k e dirty
    s).2.rails = s.rails ∧ (readD k e dirty s).2.seq = s.seq ∧ (readD k e dirty s).2.log = s.log ∧ (readD k e dirty
    s).2.cell = s.cell ∧ (readD k e dirty s).2.flash = s.flash ∧ (readD k e dirty s).2.shadow = s.shadow ∧ (readD k
    e dirty s).2.light = s.light ∧ (readD k e dirty s).2.neg = s.neg ∧ (readD k e dirty s).2.ports = s.ports ∧
    (readD k e dirty s).2.sec = s.sec ∧ (readD k e dirty s).2.pending = s.pending := by
  have ht := takeD_keeps k e s
  unfold readD
  (repeat' split) <;> simp_all

@[simp] theorem readTile_keeps (k : Nat) (e : List Byte) (s : State) : (readTile k e s).2.ident = s.ident ∧
    (readTile k e s).2.supply = s.supply ∧ (readTile k e s).2.sys = s.sys ∧ (readTile k e s).2.rails = s.rails ∧
    (readTile k e s).2.seq = s.seq ∧ (readTile k e s).2.log = s.log ∧ (readTile k e s).2.cell = s.cell ∧ (readTile k
    e s).2.flash = s.flash ∧ (readTile k e s).2.shadow = s.shadow ∧ (readTile k e s).2.light = s.light ∧ (readTile k
    e s).2.neg = s.neg ∧ (readTile k e s).2.ports = s.ports ∧ (readTile k e s).2.sec = s.sec ∧ (readTile k e
    s).2.pending = s.pending := by
  unfold readTile
  try dsimp only
  (repeat' split) <;> simp_all

@[simp] theorem recordMalformed_keeps (a : Nat) (stream : Nat) (tile : Nat) (reason : Nat) (s : State) :
    (recordMalformed a stream tile reason s).ident = s.ident ∧ (recordMalformed a stream tile reason s).supply =
    s.supply ∧ (recordMalformed a stream tile reason s).sys = s.sys ∧ (recordMalformed a stream tile reason s).rails
    = s.rails ∧ (recordMalformed a stream tile reason s).seq = s.seq ∧ (recordMalformed a stream tile reason s).log
    = s.log ∧ (recordMalformed a stream tile reason s).cell = s.cell ∧ (recordMalformed a stream tile reason
    s).flash = s.flash ∧ (recordMalformed a stream tile reason s).shadow = s.shadow ∧ (recordMalformed a stream tile
    reason s).light = s.light ∧ (recordMalformed a stream tile reason s).neg = s.neg ∧ (recordMalformed a stream
    tile reason s).nand = s.nand ∧ (recordMalformed a stream tile reason s).ports = s.ports ∧ (recordMalformed a
    stream tile reason s).irq = s.irq ∧ (recordMalformed a stream tile reason s).bus = s.bus ∧ (recordMalformed a
    stream tile reason s).sec = s.sec ∧ (recordMalformed a stream tile reason s).free = s.free ∧ (recordMalformed a
    stream tile reason s).pending = s.pending := by
  unfold recordMalformed
  simp

@[simp] theorem beforeWrite_keeps (k : Nat) (e : List Byte) (s : State) : (beforeWrite k e s).2.ident = s.ident ∧
    (beforeWrite k e s).2.supply = s.supply ∧ (beforeWrite k e s).2.sys = s.sys ∧ (beforeWrite k e s).2.rails =
    s.rails ∧ (beforeWrite k e s).2.seq = s.seq ∧ (beforeWrite k e s).2.log = s.log ∧ (beforeWrite k e s).2.cell =
    s.cell ∧ (beforeWrite k e s).2.flash = s.flash ∧ (beforeWrite k e s).2.shadow = s.shadow ∧ (beforeWrite k e
    s).2.light = s.light ∧ (beforeWrite k e s).2.neg = s.neg ∧ (beforeWrite k e s).2.ports = s.ports ∧ (beforeWrite
    k e s).2.sec = s.sec ∧ (beforeWrite k e s).2.pending = s.pending := by
  unfold beforeWrite
  simp

theorem storeD_keeps (k : Nat) (enc : List Byte) (dirty : U16) (s : State) (t : State) (h : storeD k enc dirty s =
    some t) : t.ident = s.ident ∧ t.supply = s.supply ∧ t.sys = s.sys ∧ t.rails = s.rails ∧ t.seq = s.seq ∧ t.log =
    s.log ∧ t.cell = s.cell ∧ t.flash = s.flash ∧ t.shadow = s.shadow ∧ t.light = s.light ∧ t.neg = s.neg ∧ t.nand =
    s.nand ∧ t.ports = s.ports ∧ t.sec = s.sec ∧ t.pending = s.pending := by
  unfold storeD at h
  try dsimp only at h
  (repeat' split at h) <;> simp_all
  all_goals (subst h; simp)

@[simp] theorem storeS_keeps (k : Nat) (data : List Byte) (dirty : U16) (reserve : Bool) (s : State) : (storeS k
    data dirty reserve s).ident = s.ident ∧ (storeS k data dirty reserve s).supply = s.supply ∧ (storeS k data dirty
    reserve s).sys = s.sys ∧ (storeS k data dirty reserve s).rails = s.rails ∧ (storeS k data dirty reserve s).seq =
    s.seq ∧ (storeS k data dirty reserve s).log = s.log ∧ (storeS k data dirty reserve s).cell = s.cell ∧ (storeS k
    data dirty reserve s).flash = s.flash ∧ (storeS k data dirty reserve s).shadow = s.shadow ∧ (storeS k data dirty
    reserve s).light = s.light ∧ (storeS k data dirty reserve s).neg = s.neg ∧ (storeS k data dirty reserve s).nand
    = s.nand ∧ (storeS k data dirty reserve s).ports = s.ports ∧ (storeS k data dirty reserve s).irq = s.irq ∧
    (storeS k data dirty reserve s).bus = s.bus ∧ (storeS k data dirty reserve s).sec = s.sec ∧ (storeS k data dirty
    reserve s).free = s.free ∧ (storeS k data dirty reserve s).pending = s.pending := by
  unfold storeS
  simp

theorem storeTile_keeps (k : Nat) (e : List Byte) (data : List Byte) (enc : List Byte) (mask : U16) (slot : Bool) (s
    : State) (t : State) (h : storeTile k e data enc mask slot s = some t) : t.ident = s.ident ∧ t.supply = s.supply
    ∧ t.sys = s.sys ∧ t.rails = s.rails ∧ t.seq = s.seq ∧ t.log = s.log ∧ t.cell = s.cell ∧ t.flash = s.flash ∧
    t.shadow = s.shadow ∧ t.light = s.light ∧ t.neg = s.neg ∧ t.ports = s.ports ∧ t.sec = s.sec ∧ t.pending =
    s.pending := by
  unfold storeTile at h
  simp only [Option.map_eq_some_iff] at h
  obtain ⟨u, hu, rfl⟩ := h
  have hk : u.ident = s.ident ∧ u.supply = s.supply ∧ u.sys = s.sys ∧ u.rails = s.rails ∧ u.seq = s.seq ∧ u.log = s.log ∧ u.cell
      = s.cell ∧ u.flash = s.flash ∧ u.shadow = s.shadow ∧ u.light = s.light ∧ u.neg = s.neg ∧ u.ports = s.ports ∧
      u.sec = s.sec ∧ u.pending = s.pending := by
    split at hu
    · have hd := storeD_keeps _ _ _ _ _ hu
      simp_all
    · split at hu
      · obtain ⟨v, hv, rfl⟩ := Option.map_eq_some_iff.mp hu
        have hd := storeD_keeps _ _ _ _ _ hv
        simp_all
      · split at hu
        · have hu := Option.some.inj hu
          subst hu
          simp
        · obtain ⟨v, hv, rfl⟩ := Option.map_eq_some_iff.mp hu
          have hd := storeD_keeps _ _ _ _ _ hv
          simp_all
  split <;> simp_all

@[simp] theorem returnReserve_keeps (k : Nat) (s : State) : (returnReserve k s).ident = s.ident ∧ (returnReserve
    k s).supply = s.supply ∧ (returnReserve k s).sys = s.sys ∧ (returnReserve k s).rails = s.rails ∧
    (returnReserve k s).seq = s.seq ∧ (returnReserve k s).log = s.log ∧ (returnReserve k s).cell = s.cell ∧
    (returnReserve k s).flash = s.flash ∧ (returnReserve k s).shadow = s.shadow ∧ (returnReserve k s).light =
    s.light ∧ (returnReserve k s).neg = s.neg ∧ (returnReserve k s).nand = s.nand ∧ (returnReserve k s).ports =
    s.ports ∧ (returnReserve k s).irq = s.irq ∧ (returnReserve k s).bus = s.bus ∧ (returnReserve k s).sec = s.sec
    ∧ (returnReserve k s).free = s.free ∧ (returnReserve k s).pending = s.pending := by
  unfold returnReserve; split <;> simp

@[simp] theorem addTileHeat_keeps (k : Nat) (s : State) : (addTileHeat k s).ident = s.ident ∧ (addTileHeat k
    s).supply = s.supply ∧ (addTileHeat k s).sys = s.sys ∧ (addTileHeat k s).rails = s.rails ∧ (addTileHeat k s).seq
    = s.seq ∧ (addTileHeat k s).log = s.log ∧ (addTileHeat k s).cell = s.cell ∧ (addTileHeat k s).flash = s.flash ∧
    (addTileHeat k s).shadow = s.shadow ∧ (addTileHeat k s).light = s.light ∧ (addTileHeat k s).neg = s.neg ∧
    (addTileHeat k s).nand = s.nand ∧ (addTileHeat k s).ports = s.ports ∧ (addTileHeat k s).irq = s.irq ∧
    (addTileHeat k s).bus = s.bus ∧ (addTileHeat k s).sec = s.sec ∧ (addTileHeat k s).free = s.free ∧ (addTileHeat k
    s).pending = s.pending := by
  unfold addTileHeat
  simp

@[simp] theorem decayHeat_keeps (s : State) : (decayHeat s).ident = s.ident ∧ (decayHeat s).supply = s.supply ∧
    (decayHeat s).sys = s.sys ∧ (decayHeat s).rails = s.rails ∧ (decayHeat s).seq = s.seq ∧ (decayHeat s).log =
    s.log ∧ (decayHeat s).cell = s.cell ∧ (decayHeat s).flash = s.flash ∧ (decayHeat s).shadow = s.shadow ∧
    (decayHeat s).light = s.light ∧ (decayHeat s).neg = s.neg ∧ (decayHeat s).nand = s.nand ∧ (decayHeat s).ports =
    s.ports ∧ (decayHeat s).irq = s.irq ∧ (decayHeat s).bus = s.bus ∧ (decayHeat s).sec = s.sec ∧ (decayHeat s).free
    = s.free ∧ (decayHeat s).pending = s.pending := by
  unfold decayHeat
  simp

@[simp] theorem liftS_keeps (k : Nat) (s : State) : (liftS k s).ident = s.ident ∧ (liftS k s).supply = s.supply ∧
    (liftS k s).sys = s.sys ∧ (liftS k s).rails = s.rails ∧ (liftS k s).seq = s.seq ∧ (liftS k s).log = s.log ∧
    (liftS k s).cell = s.cell ∧ (liftS k s).flash = s.flash ∧ (liftS k s).shadow = s.shadow ∧ (liftS k s).light =
    s.light ∧ (liftS k s).neg = s.neg ∧ (liftS k s).ports = s.ports ∧ (liftS k s).sec = s.sec ∧ (liftS k s).pending
    = s.pending := by
  have ht := takeD_keeps k (entryNow s (keyStream k)) s
  unfold liftS
  try dsimp only
  (repeat' split) <;> simp_all

@[simp] theorem liftD_keeps (k : Nat) (s : State) : (liftD k s).ident = s.ident ∧ (liftD k s).supply = s.supply ∧
    (liftD k s).sys = s.sys ∧ (liftD k s).rails = s.rails ∧ (liftD k s).seq = s.seq ∧ (liftD k s).log = s.log ∧
    (liftD k s).cell = s.cell ∧ (liftD k s).flash = s.flash ∧ (liftD k s).shadow = s.shadow ∧ (liftD k s).light =
    s.light ∧ (liftD k s).neg = s.neg ∧ (liftD k s).nand = s.nand ∧ (liftD k s).ports = s.ports ∧ (liftD k s).irq =
    s.irq ∧ (liftD k s).bus = s.bus ∧ (liftD k s).sec = s.sec ∧ (liftD k s).free = s.free ∧ (liftD k s).pending =
    s.pending := by
  unfold liftD
  try dsimp only
  (repeat' split) <;> simp_all

@[simp] theorem placeAccount_keeps (a : Nat) (s : State) : (placeAccount a s).ident = s.ident ∧ (placeAccount a
    s).supply = s.supply ∧ (placeAccount a s).sys = s.sys ∧ (placeAccount a s).rails = s.rails ∧ (placeAccount a
    s).seq = s.seq ∧ (placeAccount a s).log = s.log ∧ (placeAccount a s).cell = s.cell ∧ (placeAccount a s).flash =
    s.flash ∧ (placeAccount a s).shadow = s.shadow ∧ (placeAccount a s).light = s.light ∧ (placeAccount a s).neg =
    s.neg ∧ (placeAccount a s).ports = s.ports ∧ (placeAccount a s).sec = s.sec ∧ (placeAccount a s).pending =
    s.pending := by
  unfold placeAccount
  simp

@[simp] theorem tileEpoch_keeps (s : State) : (tileEpoch s).ident = s.ident ∧ (tileEpoch s).supply = s.supply ∧
    (tileEpoch s).sys = s.sys ∧ (tileEpoch s).rails = s.rails ∧ (tileEpoch s).seq = s.seq ∧ (tileEpoch s).log =
    s.log ∧ (tileEpoch s).cell = s.cell ∧ (tileEpoch s).flash = s.flash ∧ (tileEpoch s).shadow = s.shadow ∧
    (tileEpoch s).light = s.light ∧ (tileEpoch s).neg = s.neg ∧ (tileEpoch s).ports = s.ports ∧ (tileEpoch s).sec =
    s.sec ∧ (tileEpoch s).pending = s.pending := by
  unfold tileEpoch
  simp

@[simp] theorem saveBegins_keeps (s : State) : (saveBegins s).ident = s.ident ∧ (saveBegins s).supply = s.supply ∧
    (saveBegins s).sys = s.sys ∧ (saveBegins s).rails = s.rails ∧ (saveBegins s).seq = s.seq ∧ (saveBegins s).log =
    s.log ∧ (saveBegins s).cell = s.cell ∧ (saveBegins s).flash = s.flash ∧ (saveBegins s).shadow = s.shadow ∧
    (saveBegins s).light = s.light ∧ (saveBegins s).neg = s.neg ∧ (saveBegins s).nand = s.nand ∧ (saveBegins
    s).ports = s.ports ∧ (saveBegins s).irq = s.irq ∧ (saveBegins s).bus = s.bus ∧ (saveBegins s).sec = s.sec ∧
    (saveBegins s).free = s.free ∧ (saveBegins s).pending = s.pending := by
  unfold saveBegins
  simp

@[simp] theorem programsEnd_keeps (s : State) : (programsEnd s).ident = s.ident ∧ (programsEnd s).supply = s.supply
    ∧ (programsEnd s).sys = s.sys ∧ (programsEnd s).rails = s.rails ∧ (programsEnd s).seq = s.seq ∧ (programsEnd
    s).log = s.log ∧ (programsEnd s).cell = s.cell ∧ (programsEnd s).flash = s.flash ∧ (programsEnd s).shadow =
    s.shadow ∧ (programsEnd s).light = s.light ∧ (programsEnd s).neg = s.neg ∧ (programsEnd s).ports = s.ports ∧
    (programsEnd s).sec = s.sec ∧ (programsEnd s).pending = s.pending := by
  unfold programsEnd
  try dsimp only
  refine ⟨?_, ?_, ?_, ?_, ?_, ?_, ?_, ?_, ?_, ?_, ?_, ?_, ?_, ?_⟩
  all_goals
    first
    | rw [fold_ident]
    | rw [fold_supply]
    | rw [fold_sys]
    | rw [fold_rails]
    | rw [fold_seq]
    | rw [fold_log]
    | rw [fold_cell]
    | rw [fold_flash]
    | rw [fold_shadow]
    | rw [fold_light]
    | rw [fold_neg]
    | rw [fold_ports]
    | rw [fold_sec]
    | rw [fold_pending]
    · intro x a
      (repeat' split) <;> simp

@[simp] theorem saveEnds_keeps (s : State) : (saveEnds s).ident = s.ident ∧ (saveEnds s).supply = s.supply ∧
    (saveEnds s).sys = s.sys ∧ (saveEnds s).rails = s.rails ∧ (saveEnds s).seq = s.seq ∧ (saveEnds s).log = s.log ∧
    (saveEnds s).cell = s.cell ∧ (saveEnds s).flash = s.flash ∧ (saveEnds s).shadow = s.shadow ∧ (saveEnds s).light
    = s.light ∧ (saveEnds s).neg = s.neg ∧ (saveEnds s).ports = s.ports ∧ (saveEnds s).sec = s.sec ∧ (saveEnds
    s).pending = s.pending := by
  unfold saveEnds
  simp

@[simp] theorem tiersLost_keeps (s : State) : (tiersLost s).ident = s.ident ∧ (tiersLost s).supply = s.supply ∧
    (tiersLost s).sys = s.sys ∧ (tiersLost s).rails = s.rails ∧ (tiersLost s).seq = s.seq ∧ (tiersLost s).log =
    s.log ∧ (tiersLost s).cell = s.cell ∧ (tiersLost s).flash = s.flash ∧ (tiersLost s).shadow = s.shadow ∧
    (tiersLost s).light = s.light ∧ (tiersLost s).neg = s.neg ∧ (tiersLost s).nand = s.nand ∧ (tiersLost s).ports =
    s.ports ∧ (tiersLost s).irq = s.irq ∧ (tiersLost s).bus = s.bus ∧ (tiersLost s).sec = s.sec ∧ (tiersLost s).free
    = s.free ∧ (tiersLost s).pending = s.pending := by
  unfold tiersLost
  simp

@[simp] theorem tierLoad_keeps (s : State) : (tierLoad s).ident = s.ident ∧ (tierLoad s).supply = s.supply ∧
    (tierLoad s).sys = s.sys ∧ (tierLoad s).rails = s.rails ∧ (tierLoad s).seq = s.seq ∧ (tierLoad s).log = s.log ∧
    (tierLoad s).cell = s.cell ∧ (tierLoad s).flash = s.flash ∧ (tierLoad s).shadow = s.shadow ∧ (tierLoad s).light
    = s.light ∧ (tierLoad s).neg = s.neg ∧ (tierLoad s).nand = s.nand ∧ (tierLoad s).ports = s.ports ∧ (tierLoad
    s).sec = s.sec ∧ (tierLoad s).pending = s.pending := by
  unfold tierLoad
  simp

@[simp] theorem tiersReleased_keeps (s : State) : (tiersReleased s).ident = s.ident ∧ (tiersReleased s).supply =
    s.supply ∧ (tiersReleased s).sys = s.sys ∧ (tiersReleased s).rails = s.rails ∧ (tiersReleased s).seq = s.seq ∧
    (tiersReleased s).log = s.log ∧ (tiersReleased s).cell = s.cell ∧ (tiersReleased s).flash = s.flash ∧
    (tiersReleased s).shadow = s.shadow ∧ (tiersReleased s).light = s.light ∧ (tiersReleased s).neg = s.neg ∧
    (tiersReleased s).ports = s.ports ∧ (tiersReleased s).sec = s.sec ∧ (tiersReleased s).pending = s.pending := by
  unfold tiersReleased
  simp

@[simp] theorem sealNow_keeps (stream : Nat) (s : State) : (sealNow stream s).ident = s.ident ∧ (sealNow stream
    s).supply = s.supply ∧ (sealNow stream s).sys = s.sys ∧ (sealNow stream s).rails = s.rails ∧ (sealNow stream
    s).seq = s.seq ∧ (sealNow stream s).log = s.log ∧ (sealNow stream s).cell = s.cell ∧ (sealNow stream s).flash =
    s.flash ∧ (sealNow stream s).shadow = s.shadow ∧ (sealNow stream s).light = s.light ∧ (sealNow stream s).neg =
    s.neg ∧ (sealNow stream s).nand = s.nand ∧ (sealNow stream s).ports = s.ports ∧ (sealNow stream s).irq = s.irq ∧
    (sealNow stream s).bus = s.bus ∧ (sealNow stream s).sec = s.sec ∧ (sealNow stream s).free = s.free ∧ (sealNow
    stream s).pending = s.pending := by
  unfold sealNow
  simp

@[simp] theorem deleteNow_keeps (stream : Nat) (s : State) : (deleteNow stream s).ident = s.ident ∧ (deleteNow
    stream s).supply = s.supply ∧ (deleteNow stream s).sys = s.sys ∧ (deleteNow stream s).rails = s.rails ∧
    (deleteNow stream s).seq = s.seq ∧ (deleteNow stream s).log = s.log ∧ (deleteNow stream s).cell = s.cell ∧
    (deleteNow stream s).flash = s.flash ∧ (deleteNow stream s).shadow = s.shadow ∧ (deleteNow stream s).light =
    s.light ∧ (deleteNow stream s).neg = s.neg ∧ (deleteNow stream s).ports = s.ports ∧ (deleteNow stream s).sec =
    s.sec ∧ (deleteNow stream s).pending = s.pending := by
  unfold deleteNow
  simp

@[simp] theorem dropEntries_keeps (keep : Nat → Bool) (s : State) : (dropEntries keep s).ident = s.ident ∧
    (dropEntries keep s).supply = s.supply ∧ (dropEntries keep s).sys = s.sys ∧ (dropEntries keep s).rails = s.rails
    ∧ (dropEntries keep s).seq = s.seq ∧ (dropEntries keep s).log = s.log ∧ (dropEntries keep s).cell = s.cell ∧
    (dropEntries keep s).flash = s.flash ∧ (dropEntries keep s).shadow = s.shadow ∧ (dropEntries keep s).light =
    s.light ∧ (dropEntries keep s).neg = s.neg ∧ (dropEntries keep s).nand = s.nand ∧ (dropEntries keep s).ports =
    s.ports ∧ (dropEntries keep s).irq = s.irq ∧ (dropEntries keep s).bus = s.bus ∧ (dropEntries keep s).sec = s.sec
    ∧ (dropEntries keep s).free = s.free ∧ (dropEntries keep s).pending = s.pending := by
  unfold dropEntries
  simp

@[simp] theorem invalidateDone_keeps (who : Option PortId) (stream : Nat) (s : State) : (invalidateDone who stream
    s).ident = s.ident ∧ (invalidateDone who stream s).supply = s.supply ∧ (invalidateDone who stream s).sys = s.sys
    ∧ (invalidateDone who stream s).rails = s.rails ∧ (invalidateDone who stream s).seq = s.seq ∧ (invalidateDone
    who stream s).log = s.log ∧ (invalidateDone who stream s).cell = s.cell ∧ (invalidateDone who stream s).flash =
    s.flash ∧ (invalidateDone who stream s).shadow = s.shadow ∧ (invalidateDone who stream s).light = s.light ∧
    (invalidateDone who stream s).neg = s.neg ∧ (invalidateDone who stream s).nand = s.nand ∧ (invalidateDone who
    stream s).ports = s.ports ∧ (invalidateDone who stream s).irq = s.irq ∧ (invalidateDone who stream s).bus =
    s.bus ∧ (invalidateDone who stream s).sec = s.sec ∧ (invalidateDone who stream s).free = s.free ∧
    (invalidateDone who stream s).pending = s.pending := by
  unfold invalidateDone
  try dsimp only
  (repeat' split) <;> simp_all

@[simp] theorem moveAccount_keeps (c : Fin 4) (s : State) (p : Fin 4) : (moveAccount c s p).ident = s.ident ∧
    (moveAccount c s p).supply = s.supply ∧ (moveAccount c s p).sys = s.sys ∧ (moveAccount c s p).rails = s.rails ∧
    (moveAccount c s p).seq = s.seq ∧ (moveAccount c s p).log = s.log ∧ (moveAccount c s p).cell = s.cell ∧
    (moveAccount c s p).flash = s.flash ∧ (moveAccount c s p).shadow = s.shadow ∧ (moveAccount c s p).light =
    s.light ∧ (moveAccount c s p).neg = s.neg ∧ (moveAccount c s p).nand = s.nand ∧ (moveAccount c s p).ports =
    s.ports ∧ (moveAccount c s p).irq = s.irq ∧ (moveAccount c s p).bus = s.bus ∧ (moveAccount c s p).sec = s.sec ∧
    (moveAccount c s p).free = s.free ∧ (moveAccount c s p).pending = s.pending := by
  unfold moveAccount
  try dsimp only
  (repeat' split) <;> simp_all

@[simp] theorem coreFails_keeps (c : Fin 4) (s : State) : (coreFails c s).ident = s.ident ∧ (coreFails c s).supply =
    s.supply ∧ (coreFails c s).sys = s.sys ∧ (coreFails c s).rails = s.rails ∧ (coreFails c s).seq = s.seq ∧
    (coreFails c s).log = s.log ∧ (coreFails c s).cell = s.cell ∧ (coreFails c s).flash = s.flash ∧ (coreFails c
    s).shadow = s.shadow ∧ (coreFails c s).light = s.light ∧ (coreFails c s).neg = s.neg ∧ (coreFails c s).nand =
    s.nand ∧ (coreFails c s).ports = s.ports ∧ (coreFails c s).sec = s.sec ∧ (coreFails c s).pending = s.pending :=
    by
  unfold coreFails
  simp

@[simp] theorem eraseEnds_keeps (c : ChanId) (b : Nat) (s : State) : (eraseEnds c b s).ident = s.ident ∧ (eraseEnds
    c b s).supply = s.supply ∧ (eraseEnds c b s).sys = s.sys ∧ (eraseEnds c b s).rails = s.rails ∧ (eraseEnds c b
    s).seq = s.seq ∧ (eraseEnds c b s).log = s.log ∧ (eraseEnds c b s).cell = s.cell ∧ (eraseEnds c b s).flash =
    s.flash ∧ (eraseEnds c b s).shadow = s.shadow ∧ (eraseEnds c b s).light = s.light ∧ (eraseEnds c b s).tiers =
    s.tiers ∧ (eraseEnds c b s).ports = s.ports ∧ (eraseEnds c b s).sec = s.sec ∧ (eraseEnds c b s).pending =
    s.pending := by
  unfold eraseEnds
  simp

@[simp] theorem eraseFails_keeps (c : ChanId) (b : Nat) (s : State) : (eraseFails c b s).ident = s.ident ∧
    (eraseFails c b s).supply = s.supply ∧ (eraseFails c b s).sys = s.sys ∧ (eraseFails c b s).rails = s.rails ∧
    (eraseFails c b s).seq = s.seq ∧ (eraseFails c b s).log = s.log ∧ (eraseFails c b s).cell = s.cell ∧ (eraseFails
    c b s).flash = s.flash ∧ (eraseFails c b s).shadow = s.shadow ∧ (eraseFails c b s).light = s.light ∧ (eraseFails
    c b s).tiers = s.tiers ∧ (eraseFails c b s).ports = s.ports ∧ (eraseFails c b s).sec = s.sec ∧ (eraseFails c b
    s).pending = s.pending := by
  unfold eraseFails
  simp

@[simp] theorem programAgain_keeps (k : Nat) (s : State) : (programAgain k s).ident = s.ident ∧ (programAgain k
    s).supply = s.supply ∧ (programAgain k s).sys = s.sys ∧ (programAgain k s).rails = s.rails ∧ (programAgain k
    s).seq = s.seq ∧ (programAgain k s).log = s.log ∧ (programAgain k s).cell = s.cell ∧ (programAgain k s).flash =
    s.flash ∧ (programAgain k s).shadow = s.shadow ∧ (programAgain k s).light = s.light ∧ (programAgain k s).neg =
    s.neg ∧ (programAgain k s).ports = s.ports ∧ (programAgain k s).irq = s.irq ∧ (programAgain k s).bus = s.bus ∧
    (programAgain k s).sec = s.sec ∧ (programAgain k s).free = s.free ∧ (programAgain k s).pending = s.pending := by
  unfold programAgain
  try dsimp only
  (repeat' split) <;> simp_all

@[simp] theorem programFails_keeps (c : ChanId) (b : Nat) (s : State) : (programFails c b s).ident = s.ident ∧
    (programFails c b s).supply = s.supply ∧ (programFails c b s).sys = s.sys ∧ (programFails c b s).rails = s.rails
    ∧ (programFails c b s).seq = s.seq ∧ (programFails c b s).log = s.log ∧ (programFails c b s).cell = s.cell ∧
    (programFails c b s).flash = s.flash ∧ (programFails c b s).shadow = s.shadow ∧ (programFails c b s).light =
    s.light ∧ (programFails c b s).ports = s.ports ∧ (programFails c b s).sec = s.sec ∧ (programFails c b s).pending
    = s.pending := by
  unfold programFails
  simp

@[simp] theorem noteRead_keeps (a : Nat) (r : UnitRead) (s : State) : (noteRead a r s).ident = s.ident ∧ (noteRead a
    r s).supply = s.supply ∧ (noteRead a r s).sys = s.sys ∧ (noteRead a r s).rails = s.rails ∧ (noteRead a r s).seq
    = s.seq ∧ (noteRead a r s).log = s.log ∧ (noteRead a r s).cell = s.cell ∧ (noteRead a r s).flash = s.flash ∧
    (noteRead a r s).shadow = s.shadow ∧ (noteRead a r s).light = s.light ∧ (noteRead a r s).neg = s.neg ∧ (noteRead
    a r s).tiers = s.tiers ∧ (noteRead a r s).ports = s.ports ∧ (noteRead a r s).irq = s.irq ∧ (noteRead a r s).bus
    = s.bus ∧ (noteRead a r s).sec = s.sec ∧ (noteRead a r s).free = s.free ∧ (noteRead a r s).pending = s.pending
    := by
  unfold noteRead
  simp

@[simp] theorem rebuilt_keeps (h : Holds) (s : State) : (rebuilt h s).ident = s.ident ∧ (rebuilt h s).supply =
    s.supply ∧ (rebuilt h s).sys = s.sys ∧ (rebuilt h s).rails = s.rails ∧ (rebuilt h s).seq = s.seq ∧ (rebuilt h
    s).log = s.log ∧ (rebuilt h s).cell = s.cell ∧ (rebuilt h s).flash = s.flash ∧ (rebuilt h s).shadow = s.shadow ∧
    (rebuilt h s).light = s.light ∧ (rebuilt h s).neg = s.neg ∧ (rebuilt h s).ports = s.ports ∧ (rebuilt h s).irq =
    s.irq ∧ (rebuilt h s).bus = s.bus ∧ (rebuilt h s).sec = s.sec ∧ (rebuilt h s).free = s.free ∧ (rebuilt h
    s).pending = s.pending := by
  unfold rebuilt
  try dsimp only
  (repeat' split) <;> simp_all

@[simp] theorem tilesLost_keeps (i : Nat) (unit : Option Nat) (s : State) : (tilesLost i unit s).ident = s.ident ∧
    (tilesLost i unit s).supply = s.supply ∧ (tilesLost i unit s).sys = s.sys ∧ (tilesLost i unit s).rails = s.rails
    ∧ (tilesLost i unit s).seq = s.seq ∧ (tilesLost i unit s).log = s.log ∧ (tilesLost i unit s).cell = s.cell ∧
    (tilesLost i unit s).flash = s.flash ∧ (tilesLost i unit s).shadow = s.shadow ∧ (tilesLost i unit s).light =
    s.light ∧ (tilesLost i unit s).neg = s.neg ∧ (tilesLost i unit s).ports = s.ports ∧ (tilesLost i unit s).sec =
    s.sec ∧ (tilesLost i unit s).pending = s.pending := by
  unfold tilesLost
  simp

@[simp] theorem developLoss_keeps (ls : List Loss) (s : State) : (developLoss ls s).ident = s.ident ∧ (developLoss
    ls s).supply = s.supply ∧ (developLoss ls s).sys = s.sys ∧ (developLoss ls s).rails = s.rails ∧ (developLoss ls
    s).seq = s.seq ∧ (developLoss ls s).log = s.log ∧ (developLoss ls s).cell = s.cell ∧ (developLoss ls s).flash =
    s.flash ∧ (developLoss ls s).shadow = s.shadow ∧ (developLoss ls s).light = s.light ∧ (developLoss ls s).nand =
    s.nand ∧ (developLoss ls s).tiers = s.tiers ∧ (developLoss ls s).ports = s.ports ∧ (developLoss ls s).irq =
    s.irq ∧ (developLoss ls s).bus = s.bus ∧ (developLoss ls s).sec = s.sec ∧ (developLoss ls s).free = s.free ∧
    (developLoss ls s).pending = s.pending := by
  unfold developLoss
  simp

@[simp] theorem lostToReader_keeps (h : Holds) (s : State) : (lostToReader h s).ident = s.ident ∧ (lostToReader h
    s).supply = s.supply ∧ (lostToReader h s).sys = s.sys ∧ (lostToReader h s).rails = s.rails ∧ (lostToReader h
    s).seq = s.seq ∧ (lostToReader h s).log = s.log ∧ (lostToReader h s).cell = s.cell ∧ (lostToReader h s).flash =
    s.flash ∧ (lostToReader h s).shadow = s.shadow ∧ (lostToReader h s).light = s.light ∧ (lostToReader h s).ports =
    s.ports ∧ (lostToReader h s).sec = s.sec ∧ (lostToReader h s).pending = s.pending := by
  unfold lostToReader
  try dsimp only
  (repeat' split) <;> simp_all

@[simp] theorem unitRead_keeps (c : ChanId) (key : Nat) (r : UnitRead) (s : State) : (unitRead c key r s).ident =
    s.ident ∧ (unitRead c key r s).supply = s.supply ∧ (unitRead c key r s).sys = s.sys ∧ (unitRead c key r s).rails
    = s.rails ∧ (unitRead c key r s).seq = s.seq ∧ (unitRead c key r s).log = s.log ∧ (unitRead c key r s).cell =
    s.cell ∧ (unitRead c key r s).flash = s.flash ∧ (unitRead c key r s).shadow = s.shadow ∧ (unitRead c key r
    s).light = s.light ∧ (unitRead c key r s).ports = s.ports ∧ (unitRead c key r s).sec = s.sec ∧ (unitRead c key r
    s).pending = s.pending := by
  unfold unitRead
  simp

@[simp] theorem promoted_keeps (c : ChanId) (id : Nat) (s : State) : (promoted c id s).ident = s.ident ∧ (promoted c
    id s).supply = s.supply ∧ (promoted c id s).sys = s.sys ∧ (promoted c id s).rails = s.rails ∧ (promoted c id
    s).seq = s.seq ∧ (promoted c id s).log = s.log ∧ (promoted c id s).cell = s.cell ∧ (promoted c id s).flash =
    s.flash ∧ (promoted c id s).shadow = s.shadow ∧ (promoted c id s).light = s.light ∧ (promoted c id s).neg =
    s.neg ∧ (promoted c id s).tiers = s.tiers ∧ (promoted c id s).ports = s.ports ∧ (promoted c id s).irq = s.irq ∧
    (promoted c id s).bus = s.bus ∧ (promoted c id s).sec = s.sec ∧ (promoted c id s).free = s.free ∧ (promoted c id
    s).pending = s.pending := by
  unfold promoted
  try dsimp only
  (repeat' split) <;> simp_all

@[simp] theorem relocate_keeps (c : ChanId) (h : Holds) (s : State) : (relocate c h s).ident = s.ident ∧ (relocate c
    h s).supply = s.supply ∧ (relocate c h s).sys = s.sys ∧ (relocate c h s).rails = s.rails ∧ (relocate c h s).seq
    = s.seq ∧ (relocate c h s).log = s.log ∧ (relocate c h s).cell = s.cell ∧ (relocate c h s).flash = s.flash ∧
    (relocate c h s).shadow = s.shadow ∧ (relocate c h s).light = s.light ∧ (relocate c h s).ports = s.ports ∧
    (relocate c h s).irq = s.irq ∧ (relocate c h s).bus = s.bus ∧ (relocate c h s).sec = s.sec ∧ (relocate c h
    s).free = s.free ∧ (relocate c h s).pending = s.pending := by
  unfold relocate
  try dsimp only
  (repeat' split) <;> simp_all

@[simp] theorem lossRecord_keeps (gen : Nat) (ls : List Loss) (s : State) : (lossRecord gen ls s).ident = s.ident ∧
    (lossRecord gen ls s).supply = s.supply ∧ (lossRecord gen ls s).sys = s.sys ∧ (lossRecord gen ls s).rails =
    s.rails ∧ (lossRecord gen ls s).seq = s.seq ∧ (lossRecord gen ls s).log = s.log ∧ (lossRecord gen ls s).cell =
    s.cell ∧ (lossRecord gen ls s).flash = s.flash ∧ (lossRecord gen ls s).shadow = s.shadow ∧ (lossRecord gen ls
    s).light = s.light ∧ (lossRecord gen ls s).tiers = s.tiers ∧ (lossRecord gen ls s).ports = s.ports ∧ (lossRecord
    gen ls s).sec = s.sec ∧ (lossRecord gen ls s).pending = s.pending := by
  unfold lossRecord
  simp

@[simp] theorem rewriteRecord_keeps (a : Nat) (s : State) : (rewriteRecord a s).ident = s.ident ∧ (rewriteRecord a
    s).supply = s.supply ∧ (rewriteRecord a s).sys = s.sys ∧ (rewriteRecord a s).rails = s.rails ∧ (rewriteRecord a
    s).seq = s.seq ∧ (rewriteRecord a s).log = s.log ∧ (rewriteRecord a s).cell = s.cell ∧ (rewriteRecord a s).flash
    = s.flash ∧ (rewriteRecord a s).shadow = s.shadow ∧ (rewriteRecord a s).light = s.light ∧ (rewriteRecord a
    s).neg = s.neg ∧ (rewriteRecord a s).tiers = s.tiers ∧ (rewriteRecord a s).ports = s.ports ∧ (rewriteRecord a
    s).irq = s.irq ∧ (rewriteRecord a s).bus = s.bus ∧ (rewriteRecord a s).sec = s.sec ∧ (rewriteRecord a s).free =
    s.free ∧ (rewriteRecord a s).pending = s.pending := by
  unfold rewriteRecord
  try dsimp only
  (repeat' split) <;> simp_all

@[simp] theorem unrecovered_keeps (a : Nat) (h : Holds) (s : State) : (unrecovered a h s).ident = s.ident ∧
    (unrecovered a h s).supply = s.supply ∧ (unrecovered a h s).sys = s.sys ∧ (unrecovered a h s).rails = s.rails ∧
    (unrecovered a h s).seq = s.seq ∧ (unrecovered a h s).log = s.log ∧ (unrecovered a h s).cell = s.cell ∧
    (unrecovered a h s).flash = s.flash ∧ (unrecovered a h s).shadow = s.shadow ∧ (unrecovered a h s).light =
    s.light ∧ (unrecovered a h s).ports = s.ports ∧ (unrecovered a h s).sec = s.sec ∧ (unrecovered a h s).pending =
    s.pending := by
  unfold unrecovered
  try dsimp only
  (repeat' split) <;> simp_all

@[simp] theorem patrolled_keeps (a : Nat) (r : UnitRead) (s : State) : (patrolled a r s).ident = s.ident ∧
    (patrolled a r s).supply = s.supply ∧ (patrolled a r s).sys = s.sys ∧ (patrolled a r s).rails = s.rails ∧
    (patrolled a r s).seq = s.seq ∧ (patrolled a r s).log = s.log ∧ (patrolled a r s).cell = s.cell ∧ (patrolled a r
    s).flash = s.flash ∧ (patrolled a r s).shadow = s.shadow ∧ (patrolled a r s).light = s.light ∧ (patrolled a r
    s).ports = s.ports ∧ (patrolled a r s).sec = s.sec ∧ (patrolled a r s).pending = s.pending := by
  unfold patrolled
  try dsimp only
  (repeat' split) <;> simp_all

@[simp] theorem levelWear_keeps (c : ChanId) (s : State) : (levelWear c s).ident = s.ident ∧ (levelWear c s).supply
    = s.supply ∧ (levelWear c s).sys = s.sys ∧ (levelWear c s).rails = s.rails ∧ (levelWear c s).seq = s.seq ∧
    (levelWear c s).log = s.log ∧ (levelWear c s).cell = s.cell ∧ (levelWear c s).flash = s.flash ∧ (levelWear c
    s).shadow = s.shadow ∧ (levelWear c s).light = s.light ∧ (levelWear c s).ports = s.ports ∧ (levelWear c s).irq =
    s.irq ∧ (levelWear c s).bus = s.bus ∧ (levelWear c s).sec = s.sec ∧ (levelWear c s).free = s.free ∧ (levelWear c
    s).pending = s.pending := by
  unfold levelWear
  try dsimp only
  (repeat' split) <;> simp_all

@[simp] theorem leaveDead_keeps (s : State) : (leaveDead s).ident = s.ident ∧ (leaveDead s).supply = s.supply ∧
    (leaveDead s).sys = s.sys ∧ (leaveDead s).rails = s.rails ∧ (leaveDead s).seq = s.seq ∧ (leaveDead s).log =
    s.log ∧ (leaveDead s).cell = s.cell ∧ (leaveDead s).flash = s.flash ∧ (leaveDead s).shadow = s.shadow ∧
    (leaveDead s).light = s.light ∧ (leaveDead s).neg = s.neg ∧ (leaveDead s).ports = s.ports ∧ (leaveDead s).irq =
    s.irq ∧ (leaveDead s).bus = s.bus ∧ (leaveDead s).sec = s.sec ∧ (leaveDead s).free = s.free ∧ (leaveDead
    s).pending = s.pending := by
  unfold leaveDead
  simp

@[simp] theorem passGoesOn_keeps (c : ChanId) (key : Nat) (s : State) : (passGoesOn c key s).ident = s.ident ∧
    (passGoesOn c key s).supply = s.supply ∧ (passGoesOn c key s).sys = s.sys ∧ (passGoesOn c key s).rails = s.rails
    ∧ (passGoesOn c key s).seq = s.seq ∧ (passGoesOn c key s).log = s.log ∧ (passGoesOn c key s).cell = s.cell ∧
    (passGoesOn c key s).flash = s.flash ∧ (passGoesOn c key s).shadow = s.shadow ∧ (passGoesOn c key s).light =
    s.light ∧ (passGoesOn c key s).neg = s.neg ∧ (passGoesOn c key s).tiers = s.tiers ∧ (passGoesOn c key s).ports =
    s.ports ∧ (passGoesOn c key s).irq = s.irq ∧ (passGoesOn c key s).bus = s.bus ∧ (passGoesOn c key s).sec = s.sec
    ∧ (passGoesOn c key s).free = s.free ∧ (passGoesOn c key s).pending = s.pending := by
  unfold passGoesOn
  simp

@[simp] theorem patrolStep_keeps (c : ChanId) (r : UnitRead) (s : State) : (patrolStep c r s).ident = s.ident ∧
    (patrolStep c r s).supply = s.supply ∧ (patrolStep c r s).sys = s.sys ∧ (patrolStep c r s).rails = s.rails ∧
    (patrolStep c r s).seq = s.seq ∧ (patrolStep c r s).log = s.log ∧ (patrolStep c r s).cell = s.cell ∧ (patrolStep
    c r s).flash = s.flash ∧ (patrolStep c r s).shadow = s.shadow ∧ (patrolStep c r s).light = s.light ∧ (patrolStep
    c r s).ports = s.ports ∧ (patrolStep c r s).sec = s.sec ∧ (patrolStep c r s).pending = s.pending := by
  unfold patrolStep
  try dsimp only
  (repeat' split) <;> simp_all

@[simp] theorem updateWidth_keeps (s : State) : (updateWidth s).ident = s.ident ∧ (updateWidth s).supply = s.supply
    ∧ (updateWidth s).sys = s.sys ∧ (updateWidth s).rails = s.rails ∧ (updateWidth s).seq = s.seq ∧ (updateWidth
    s).log = s.log ∧ (updateWidth s).cell = s.cell ∧ (updateWidth s).flash = s.flash ∧ (updateWidth s).shadow =
    s.shadow ∧ (updateWidth s).light = s.light ∧ (updateWidth s).neg = s.neg ∧ (updateWidth s).tiers = s.tiers ∧
    (updateWidth s).ports = s.ports ∧ (updateWidth s).irq = s.irq ∧ (updateWidth s).bus = s.bus ∧ (updateWidth
    s).sec = s.sec ∧ (updateWidth s).free = s.free ∧ (updateWidth s).pending = s.pending := by
  unfold updateWidth
  simp

@[simp] theorem markDead_keeps (c : ChanId) (cause : Byte) (s : State) : (markDead c cause s).ident = s.ident ∧
    (markDead c cause s).supply = s.supply ∧ (markDead c cause s).sys = s.sys ∧ (markDead c cause s).rails = s.rails
    ∧ (markDead c cause s).seq = s.seq ∧ (markDead c cause s).log = s.log ∧ (markDead c cause s).cell = s.cell ∧
    (markDead c cause s).flash = s.flash ∧ (markDead c cause s).shadow = s.shadow ∧ (markDead c cause s).light =
    s.light ∧ (markDead c cause s).neg = s.neg ∧ (markDead c cause s).tiers = s.tiers ∧ (markDead c cause s).ports =
    s.ports ∧ (markDead c cause s).sec = s.sec ∧ (markDead c cause s).pending = s.pending := by
  unfold markDead
  simp

@[simp] theorem declareDead_keeps (c : ChanId) (cause : Byte) (s : State) : (declareDead c cause s).ident = s.ident
    ∧ (declareDead c cause s).supply = s.supply ∧ (declareDead c cause s).sys = s.sys ∧ (declareDead c cause
    s).rails = s.rails ∧ (declareDead c cause s).seq = s.seq ∧ (declareDead c cause s).log = s.log ∧ (declareDead c
    cause s).cell = s.cell ∧ (declareDead c cause s).flash = s.flash ∧ (declareDead c cause s).shadow = s.shadow ∧
    (declareDead c cause s).light = s.light ∧ (declareDead c cause s).tiers = s.tiers ∧ (declareDead c cause
    s).ports = s.ports ∧ (declareDead c cause s).sec = s.sec ∧ (declareDead c cause s).pending = s.pending := by
  unfold declareDead
  simp

@[simp] theorem afterDead_keeps (s : State) : (afterDead s).ident = s.ident ∧ (afterDead s).supply = s.supply ∧
    (afterDead s).seq = s.seq ∧ (afterDead s).log = s.log ∧ (afterDead s).cell = s.cell ∧ (afterDead s).shadow =
    s.shadow ∧ (afterDead s).tiers = s.tiers ∧ (afterDead s).ports = s.ports ∧ (afterDead s).pending = s.pending :=
    by
  unfold afterDead
  try dsimp only
  (repeat' split) <;> simp_all

@[simp] theorem channelTested_keeps (result : U16) (s : State) (c : ChanId) : (channelTested result s c).ident =
    s.ident ∧ (channelTested result s c).supply = s.supply ∧ (channelTested result s c).sys = s.sys ∧ (channelTested
    result s c).rails = s.rails ∧ (channelTested result s c).seq = s.seq ∧ (channelTested result s c).log = s.log ∧
    (channelTested result s c).cell = s.cell ∧ (channelTested result s c).flash = s.flash ∧ (channelTested result s
    c).shadow = s.shadow ∧ (channelTested result s c).light = s.light ∧ (channelTested result s c).neg = s.neg ∧
    (channelTested result s c).tiers = s.tiers ∧ (channelTested result s c).ports = s.ports ∧ (channelTested result
    s c).sec = s.sec ∧ (channelTested result s c).pending = s.pending := by
  unfold channelTested
  simp

@[simp] theorem channelsTested_keeps (result : U16) (s : State) : (channelsTested result s).ident = s.ident ∧
    (channelsTested result s).supply = s.supply ∧ (channelsTested result s).sys = s.sys ∧ (channelsTested result
    s).rails = s.rails ∧ (channelsTested result s).seq = s.seq ∧ (channelsTested result s).log = s.log ∧
    (channelsTested result s).cell = s.cell ∧ (channelsTested result s).flash = s.flash ∧ (channelsTested result
    s).shadow = s.shadow ∧ (channelsTested result s).light = s.light ∧ (channelsTested result s).neg = s.neg ∧
    (channelsTested result s).tiers = s.tiers ∧ (channelsTested result s).ports = s.ports ∧ (channelsTested result
    s).sec = s.sec ∧ (channelsTested result s).pending = s.pending := by
  unfold channelsTested
  simp

@[simp] theorem clearMarks_keeps (s : State) : (clearMarks s).ident = s.ident ∧ (clearMarks s).supply = s.supply ∧
    (clearMarks s).sys = s.sys ∧ (clearMarks s).rails = s.rails ∧ (clearMarks s).seq = s.seq ∧ (clearMarks s).log =
    s.log ∧ (clearMarks s).cell = s.cell ∧ (clearMarks s).flash = s.flash ∧ (clearMarks s).shadow = s.shadow ∧
    (clearMarks s).light = s.light ∧ (clearMarks s).neg = s.neg ∧ (clearMarks s).tiers = s.tiers ∧ (clearMarks
    s).ports = s.ports ∧ (clearMarks s).irq = s.irq ∧ (clearMarks s).bus = s.bus ∧ (clearMarks s).sec = s.sec ∧
    (clearMarks s).free = s.free ∧ (clearMarks s).pending = s.pending := by
  unfold clearMarks
  simp

@[simp] theorem setRegions_keeps (percent : Nat) (s : State) : (setRegions percent s).ident = s.ident ∧ (setRegions
    percent s).supply = s.supply ∧ (setRegions percent s).sys = s.sys ∧ (setRegions percent s).rails = s.rails ∧
    (setRegions percent s).seq = s.seq ∧ (setRegions percent s).log = s.log ∧ (setRegions percent s).cell = s.cell ∧
    (setRegions percent s).flash = s.flash ∧ (setRegions percent s).shadow = s.shadow ∧ (setRegions percent s).light
    = s.light ∧ (setRegions percent s).neg = s.neg ∧ (setRegions percent s).tiers = s.tiers ∧ (setRegions percent
    s).ports = s.ports ∧ (setRegions percent s).sec = s.sec ∧ (setRegions percent s).pending = s.pending := by
  unfold setRegions
  simp

@[simp] theorem blankBuilt_keeps (s : State) : (blankBuilt s).ident = s.ident ∧ (blankBuilt s).supply = s.supply ∧
    (blankBuilt s).sys = s.sys ∧ (blankBuilt s).rails = s.rails ∧ (blankBuilt s).seq = s.seq ∧ (blankBuilt s).log =
    s.log ∧ (blankBuilt s).cell = s.cell ∧ (blankBuilt s).flash = s.flash ∧ (blankBuilt s).shadow = s.shadow ∧
    (blankBuilt s).light = s.light ∧ (blankBuilt s).ports = s.ports ∧ (blankBuilt s).sec = s.sec ∧ (blankBuilt
    s).pending = s.pending := by
  unfold blankBuilt
  simp

end Sys2Proof.Machine
end

