-- ==== Sys2Proof/Laws/KeepsSecurity.lean ====
section
/-! SUPPORT. What each operation of Machine/Security, FlashEvents leaves as it was: one lemma an operation, for
`simp`. -/

set_option linter.unusedSimpArgs false
set_option linter.unusedVariables false
set_option linter.unusedTactic false
set_option linter.unreachableTactic false

namespace Sys2Proof.Machine

@[simp] theorem onSec_keeps (f : Sec → Sec) (s : State) : (onSec f s).ident = s.ident ∧ (onSec f s).supply =
    s.supply ∧ (onSec f s).sys = s.sys ∧ (onSec f s).rails = s.rails ∧ (onSec f s).seq = s.seq ∧ (onSec f s).log =
    s.log ∧ (onSec f s).cell = s.cell ∧ (onSec f s).flash = s.flash ∧ (onSec f s).shadow = s.shadow ∧ (onSec f
    s).light = s.light ∧ (onSec f s).neg = s.neg ∧ (onSec f s).nand = s.nand ∧ (onSec f s).tiers = s.tiers ∧ (onSec
    f s).ports = s.ports ∧ (onSec f s).irq = s.irq ∧ (onSec f s).bus = s.bus ∧ (onSec f s).free = s.free ∧ (onSec f
    s).pending = s.pending := by
  unfold onSec
  simp

@[simp] theorem closeSession_keeps (s : State) : (closeSession s).ident = s.ident ∧ (closeSession s).supply =
    s.supply ∧ (closeSession s).sys = s.sys ∧ (closeSession s).rails = s.rails ∧ (closeSession s).seq = s.seq ∧
    (closeSession s).log = s.log ∧ (closeSession s).cell = s.cell ∧ (closeSession s).flash = s.flash ∧ (closeSession
    s).shadow = s.shadow ∧ (closeSession s).light = s.light ∧ (closeSession s).neg = s.neg ∧ (closeSession s).nand =
    s.nand ∧ (closeSession s).tiers = s.tiers ∧ (closeSession s).ports = s.ports ∧ (closeSession s).pending =
    s.pending := by
  unfold closeSession
  simp

@[simp] theorem authFails_keeps (s : State) : (authFails s).2.ident = s.ident ∧ (authFails s).2.supply = s.supply ∧
    (authFails s).2.sys = s.sys ∧ (authFails s).2.rails = s.rails ∧ (authFails s).2.seq = s.seq ∧ (authFails
    s).2.log = s.log ∧ (authFails s).2.cell = s.cell ∧ (authFails s).2.flash = s.flash ∧ (authFails s).2.shadow =
    s.shadow ∧ (authFails s).2.light = s.light ∧ (authFails s).2.neg = s.neg ∧ (authFails s).2.nand = s.nand ∧
    (authFails s).2.tiers = s.tiers ∧ (authFails s).2.ports = s.ports ∧ (authFails s).2.sec = s.sec ∧ (authFails
    s).2.pending = s.pending := by
  unfold authFails
  simp

@[simp] theorem readChallenge_keeps (s : State) : (readChallenge s).2.2.ident = s.ident ∧ (readChallenge
    s).2.2.supply = s.supply ∧ (readChallenge s).2.2.sys = s.sys ∧ (readChallenge s).2.2.rails = s.rails ∧
    (readChallenge s).2.2.seq = s.seq ∧ (readChallenge s).2.2.log = s.log ∧ (readChallenge s).2.2.cell = s.cell ∧
    (readChallenge s).2.2.flash = s.flash ∧ (readChallenge s).2.2.shadow = s.shadow ∧ (readChallenge s).2.2.light =
    s.light ∧ (readChallenge s).2.2.neg = s.neg ∧ (readChallenge s).2.2.nand = s.nand ∧ (readChallenge s).2.2.tiers
    = s.tiers ∧ (readChallenge s).2.2.ports = s.ports ∧ (readChallenge s).2.2.pending = s.pending := by
  unfold readChallenge
  try dsimp only
  (repeat' split) <;> simp_all

@[simp] theorem writeResponse_keeps (mac : List Byte) (s : State) : (writeResponse mac s).2.ident = s.ident ∧
    (writeResponse mac s).2.supply = s.supply ∧ (writeResponse mac s).2.sys = s.sys ∧ (writeResponse mac s).2.rails
    = s.rails ∧ (writeResponse mac s).2.seq = s.seq ∧ (writeResponse mac s).2.log = s.log ∧ (writeResponse mac
    s).2.cell = s.cell ∧ (writeResponse mac s).2.flash = s.flash ∧ (writeResponse mac s).2.shadow = s.shadow ∧
    (writeResponse mac s).2.light = s.light ∧ (writeResponse mac s).2.neg = s.neg ∧ (writeResponse mac s).2.nand =
    s.nand ∧ (writeResponse mac s).2.tiers = s.tiers ∧ (writeResponse mac s).2.ports = s.ports ∧ (writeResponse mac
    s).2.pending = s.pending := by
  unfold writeResponse
  simp

@[simp] theorem lockoutEnds_keeps (s : State) : (lockoutEnds s).ident = s.ident ∧ (lockoutEnds s).supply = s.supply
    ∧ (lockoutEnds s).sys = s.sys ∧ (lockoutEnds s).rails = s.rails ∧ (lockoutEnds s).seq = s.seq ∧ (lockoutEnds
    s).log = s.log ∧ (lockoutEnds s).cell = s.cell ∧ (lockoutEnds s).flash = s.flash ∧ (lockoutEnds s).shadow =
    s.shadow ∧ (lockoutEnds s).light = s.light ∧ (lockoutEnds s).neg = s.neg ∧ (lockoutEnds s).nand = s.nand ∧
    (lockoutEnds s).tiers = s.tiers ∧ (lockoutEnds s).ports = s.ports ∧ (lockoutEnds s).irq = s.irq ∧ (lockoutEnds
    s).bus = s.bus ∧ (lockoutEnds s).free = s.free ∧ (lockoutEnds s).pending = s.pending := by
  unfold lockoutEnds
  simp

@[simp] theorem setBinding_keeps (b : Byte) (key : U32) (s : State) : (setBinding b key s).ident = s.ident ∧
    (setBinding b key s).supply = s.supply ∧ (setBinding b key s).sys = s.sys ∧ (setBinding b key s).rails = s.rails
    ∧ (setBinding b key s).seq = s.seq ∧ (setBinding b key s).log = s.log ∧ (setBinding b key s).cell = s.cell ∧
    (setBinding b key s).flash = s.flash ∧ (setBinding b key s).shadow = s.shadow ∧ (setBinding b key s).light =
    s.light ∧ (setBinding b key s).neg = s.neg ∧ (setBinding b key s).nand = s.nand ∧ (setBinding b key s).tiers =
    s.tiers ∧ (setBinding b key s).ports = s.ports ∧ (setBinding b key s).pending = s.pending := by
  unfold setBinding
  simp

@[simp] theorem bindingAtSetup_keeps (s : State) : (bindingAtSetup s).ident = s.ident ∧ (bindingAtSetup s).supply =
    s.supply ∧ (bindingAtSetup s).sys = s.sys ∧ (bindingAtSetup s).rails = s.rails ∧ (bindingAtSetup s).seq = s.seq
    ∧ (bindingAtSetup s).log = s.log ∧ (bindingAtSetup s).cell = s.cell ∧ (bindingAtSetup s).flash = s.flash ∧
    (bindingAtSetup s).shadow = s.shadow ∧ (bindingAtSetup s).light = s.light ∧ (bindingAtSetup s).neg = s.neg ∧
    (bindingAtSetup s).nand = s.nand ∧ (bindingAtSetup s).tiers = s.tiers ∧ (bindingAtSetup s).ports = s.ports ∧
    (bindingAtSetup s).pending = s.pending := by
  unfold bindingAtSetup
  try dsimp only
  (repeat' split) <;> simp_all

@[simp] theorem presentToken_keeps (token : List Byte) (s : State) : (presentToken token s).2.ident = s.ident ∧
    (presentToken token s).2.supply = s.supply ∧ (presentToken token s).2.sys = s.sys ∧ (presentToken token
    s).2.rails = s.rails ∧ (presentToken token s).2.seq = s.seq ∧ (presentToken token s).2.log = s.log ∧
    (presentToken token s).2.cell = s.cell ∧ (presentToken token s).2.shadow = s.shadow ∧ (presentToken token
    s).2.light = s.light ∧ (presentToken token s).2.nand = s.nand ∧ (presentToken token s).2.tiers = s.tiers ∧
    (presentToken token s).2.ports = s.ports ∧ (presentToken token s).2.pending = s.pending := by
  unfold presentToken
  try dsimp only
  (repeat' split) <;> simp_all

@[simp] theorem rebind_keeps (s : State) : (rebind s).ident = s.ident ∧ (rebind s).supply = s.supply ∧ (rebind
    s).sys = s.sys ∧ (rebind s).rails = s.rails ∧ (rebind s).seq = s.seq ∧ (rebind s).log = s.log ∧ (rebind s).cell
    = s.cell ∧ (rebind s).shadow = s.shadow ∧ (rebind s).light = s.light ∧ (rebind s).neg = s.neg ∧ (rebind s).ports
    = s.ports ∧ (rebind s).pending = s.pending := by
  unfold rebind
  simp

@[simp] theorem loadKeys_keeps (errs : WordErrors) (s : State) : (loadKeys errs s).ident = s.ident ∧ (loadKeys errs
    s).supply = s.supply ∧ (loadKeys errs s).sys = s.sys ∧ (loadKeys errs s).rails = s.rails ∧ (loadKeys errs s).seq
    = s.seq ∧ (loadKeys errs s).log = s.log ∧ (loadKeys errs s).cell = s.cell ∧ (loadKeys errs s).shadow = s.shadow
    ∧ (loadKeys errs s).light = s.light ∧ (loadKeys errs s).neg = s.neg ∧ (loadKeys errs s).nand = s.nand ∧
    (loadKeys errs s).tiers = s.tiers ∧ (loadKeys errs s).ports = s.ports ∧ (loadKeys errs s).pending = s.pending :=
    by
  unfold loadKeys
  try dsimp only
  (repeat' split) <;> simp_all

@[simp] theorem countImage_keeps (errs : WordErrors) (b : Bool) (s : State) : (countImage errs b s).ident = s.ident
    ∧ (countImage errs b s).supply = s.supply ∧ (countImage errs b s).sys = s.sys ∧ (countImage errs b s).rails =
    s.rails ∧ (countImage errs b s).seq = s.seq ∧ (countImage errs b s).log = s.log ∧ (countImage errs b s).cell =
    s.cell ∧ (countImage errs b s).shadow = s.shadow ∧ (countImage errs b s).light = s.light ∧ (countImage errs b
    s).neg = s.neg ∧ (countImage errs b s).nand = s.nand ∧ (countImage errs b s).tiers = s.tiers ∧ (countImage errs
    b s).ports = s.ports ∧ (countImage errs b s).sec = s.sec ∧ (countImage errs b s).pending = s.pending := by
  unfold countImage
  simp

@[simp] theorem inactiveNow_keeps (errs : WordErrors) (s : State) : (inactiveNow errs s).ident = s.ident ∧
    (inactiveNow errs s).supply = s.supply ∧ (inactiveNow errs s).sys = s.sys ∧ (inactiveNow errs s).rails = s.rails
    ∧ (inactiveNow errs s).seq = s.seq ∧ (inactiveNow errs s).log = s.log ∧ (inactiveNow errs s).cell = s.cell ∧
    (inactiveNow errs s).flash = s.flash ∧ (inactiveNow errs s).shadow = s.shadow ∧ (inactiveNow errs s).light =
    s.light ∧ (inactiveNow errs s).neg = s.neg ∧ (inactiveNow errs s).nand = s.nand ∧ (inactiveNow errs s).tiers =
    s.tiers ∧ (inactiveNow errs s).ports = s.ports ∧ (inactiveNow errs s).irq = s.irq ∧ (inactiveNow errs s).bus =
    s.bus ∧ (inactiveNow errs s).free = s.free ∧ (inactiveNow errs s).pending = s.pending := by
  unfold inactiveNow
  simp

@[simp] theorem setUpdate_keeps (v : Byte) (s : State) : (setUpdate v s).ident = s.ident ∧ (setUpdate v s).supply =
    s.supply ∧ (setUpdate v s).sys = s.sys ∧ (setUpdate v s).rails = s.rails ∧ (setUpdate v s).seq = s.seq ∧
    (setUpdate v s).log = s.log ∧ (setUpdate v s).cell = s.cell ∧ (setUpdate v s).flash = s.flash ∧ (setUpdate v
    s).shadow = s.shadow ∧ (setUpdate v s).light = s.light ∧ (setUpdate v s).neg = s.neg ∧ (setUpdate v s).nand =
    s.nand ∧ (setUpdate v s).tiers = s.tiers ∧ (setUpdate v s).ports = s.ports ∧ (setUpdate v s).pending = s.pending
    := by
  unfold setUpdate
  simp

@[simp] theorem verifyUpdate_keeps (errs : WordErrors) (s : State) : (verifyUpdate errs s).2.ident = s.ident ∧
    (verifyUpdate errs s).2.supply = s.supply ∧ (verifyUpdate errs s).2.sys = s.sys ∧ (verifyUpdate errs s).2.rails
    = s.rails ∧ (verifyUpdate errs s).2.seq = s.seq ∧ (verifyUpdate errs s).2.log = s.log ∧ (verifyUpdate errs
    s).2.cell = s.cell ∧ (verifyUpdate errs s).2.shadow = s.shadow ∧ (verifyUpdate errs s).2.light = s.light ∧
    (verifyUpdate errs s).2.neg = s.neg ∧ (verifyUpdate errs s).2.nand = s.nand ∧ (verifyUpdate errs s).2.tiers =
    s.tiers ∧ (verifyUpdate errs s).2.ports = s.ports ∧ (verifyUpdate errs s).2.pending = s.pending := by
  unfold verifyUpdate
  simp

@[simp] theorem activate_keeps (s : State) : (activate s).2.ident = s.ident ∧ (activate s).2.supply = s.supply ∧
    (activate s).2.sys = s.sys ∧ (activate s).2.rails = s.rails ∧ (activate s).2.seq = s.seq ∧ (activate s).2.log =
    s.log ∧ (activate s).2.cell = s.cell ∧ (activate s).2.shadow = s.shadow ∧ (activate s).2.light = s.light ∧
    (activate s).2.neg = s.neg ∧ (activate s).2.nand = s.nand ∧ (activate s).2.tiers = s.tiers ∧ (activate
    s).2.ports = s.ports ∧ (activate s).2.pending = s.pending := by
  unfold activate
  simp

@[simp] theorem advanceRollback_keeps (s : State) : (advanceRollback s).supply = s.supply ∧ (advanceRollback s).sys
    = s.sys ∧ (advanceRollback s).rails = s.rails ∧ (advanceRollback s).seq = s.seq ∧ (advanceRollback s).log =
    s.log ∧ (advanceRollback s).cell = s.cell ∧ (advanceRollback s).flash = s.flash ∧ (advanceRollback s).shadow =
    s.shadow ∧ (advanceRollback s).light = s.light ∧ (advanceRollback s).neg = s.neg ∧ (advanceRollback s).nand =
    s.nand ∧ (advanceRollback s).tiers = s.tiers ∧ (advanceRollback s).ports = s.ports ∧ (advanceRollback s).pending
    = s.pending := by
  unfold advanceRollback
  simp

@[simp] theorem sanitizeFrom_keeps (code : U32) (s : State) : (sanitizeFrom code s).2.ident = s.ident ∧
    (sanitizeFrom code s).2.supply = s.supply ∧ (sanitizeFrom code s).2.sys = s.sys ∧ (sanitizeFrom code s).2.rails
    = s.rails ∧ (sanitizeFrom code s).2.seq = s.seq ∧ (sanitizeFrom code s).2.log = s.log ∧ (sanitizeFrom code
    s).2.cell = s.cell ∧ (sanitizeFrom code s).2.shadow = s.shadow ∧ (sanitizeFrom code s).2.light = s.light ∧
    (sanitizeFrom code s).2.neg = s.neg ∧ (sanitizeFrom code s).2.nand = s.nand ∧ (sanitizeFrom code s).2.tiers =
    s.tiers ∧ (sanitizeFrom code s).2.ports = s.ports ∧ (sanitizeFrom code s).2.pending = s.pending := by
  unfold sanitizeFrom
  simp

@[simp] theorem sanitized_keeps (s : State) : (sanitized s).ident = s.ident ∧ (sanitized s).supply = s.supply ∧
    (sanitized s).sys = s.sys ∧ (sanitized s).rails = s.rails ∧ (sanitized s).seq = s.seq ∧ (sanitized s).log =
    s.log ∧ (sanitized s).cell = s.cell ∧ (sanitized s).flash = s.flash ∧ (sanitized s).shadow = s.shadow ∧
    (sanitized s).light = s.light ∧ (sanitized s).nand = s.nand ∧ (sanitized s).tiers = s.tiers ∧ (sanitized
    s).ports = s.ports ∧ (sanitized s).pending = s.pending := by
  unfold sanitized
  simp

@[simp] theorem releaseBlocks_keeps (s : State) : (releaseBlocks s).ident = s.ident ∧ (releaseBlocks s).supply =
    s.supply ∧ (releaseBlocks s).sys = s.sys ∧ (releaseBlocks s).rails = s.rails ∧ (releaseBlocks s).seq = s.seq ∧
    (releaseBlocks s).log = s.log ∧ (releaseBlocks s).cell = s.cell ∧ (releaseBlocks s).flash = s.flash ∧
    (releaseBlocks s).shadow = s.shadow ∧ (releaseBlocks s).light = s.light ∧ (releaseBlocks s).ports = s.ports ∧
    (releaseBlocks s).pending = s.pending := by
  unfold releaseBlocks
  simp

@[simp] theorem takeArray_keeps (q : FlashRead) (s : State) : (takeArray q s).2.ident = s.ident ∧ (takeArray q
    s).2.supply = s.supply ∧ (takeArray q s).2.sys = s.sys ∧ (takeArray q s).2.rails = s.rails ∧ (takeArray q
    s).2.seq = s.seq ∧ (takeArray q s).2.log = s.log ∧ (takeArray q s).2.cell = s.cell ∧ (takeArray q s).2.shadow =
    s.shadow ∧ (takeArray q s).2.light = s.light ∧ (takeArray q s).2.neg = s.neg ∧ (takeArray q s).2.nand = s.nand ∧
    (takeArray q s).2.tiers = s.tiers ∧ (takeArray q s).2.ports = s.ports ∧ (takeArray q s).2.sec = s.sec ∧
    (takeArray q s).2.pending = s.pending := by
  unfold takeArray
  simp

@[simp] theorem readArray_keeps (q : FlashRead) (s : State) : (readArray q s).2.ident = s.ident ∧ (readArray q
    s).2.supply = s.supply ∧ (readArray q s).2.sys = s.sys ∧ (readArray q s).2.rails = s.rails ∧ (readArray q
    s).2.seq = s.seq ∧ (readArray q s).2.log = s.log ∧ (readArray q s).2.cell = s.cell ∧ (readArray q s).2.shadow =
    s.shadow ∧ (readArray q s).2.light = s.light ∧ (readArray q s).2.neg = s.neg ∧ (readArray q s).2.nand = s.nand ∧
    (readArray q s).2.tiers = s.tiers ∧ (readArray q s).2.ports = s.ports ∧ (readArray q s).2.sec = s.sec ∧
    (readArray q s).2.pending = s.pending := by
  unfold readArray
  simp

@[simp] theorem serveWaiting_keeps (s : State) : (serveWaiting s).ident = s.ident ∧ (serveWaiting s).supply =
    s.supply ∧ (serveWaiting s).sys = s.sys ∧ (serveWaiting s).rails = s.rails ∧ (serveWaiting s).seq = s.seq ∧
    (serveWaiting s).log = s.log ∧ (serveWaiting s).cell = s.cell ∧ (serveWaiting s).shadow = s.shadow ∧
    (serveWaiting s).light = s.light ∧ (serveWaiting s).neg = s.neg ∧ (serveWaiting s).nand = s.nand ∧ (serveWaiting
    s).tiers = s.tiers ∧ (serveWaiting s).ports = s.ports ∧ (serveWaiting s).sec = s.sec ∧ (serveWaiting s).pending
    = s.pending := by
  unfold serveWaiting
  try dsimp only
  (repeat' split) <;> simp_all

@[simp] theorem readTimeout_keeps (s : State) : (readTimeout s).ident = s.ident ∧ (readTimeout s).supply = s.supply
    ∧ (readTimeout s).sys = s.sys ∧ (readTimeout s).rails = s.rails ∧ (readTimeout s).seq = s.seq ∧ (readTimeout
    s).log = s.log ∧ (readTimeout s).cell = s.cell ∧ (readTimeout s).shadow = s.shadow ∧ (readTimeout s).light =
    s.light ∧ (readTimeout s).neg = s.neg ∧ (readTimeout s).nand = s.nand ∧ (readTimeout s).tiers = s.tiers ∧
    (readTimeout s).ports = s.ports ∧ (readTimeout s).irq = s.irq ∧ (readTimeout s).sec = s.sec ∧ (readTimeout
    s).free = s.free ∧ (readTimeout s).pending = s.pending := by
  unfold readTimeout
  try dsimp only
  (repeat' split) <;> simp_all

@[simp] theorem jobEnds_keeps (j : FlashJob) (errs : WordErrors) (s : State) : (jobEnds j errs s).ident = s.ident ∧
    (jobEnds j errs s).supply = s.supply ∧ (jobEnds j errs s).sys = s.sys ∧ (jobEnds j errs s).rails = s.rails ∧
    (jobEnds j errs s).seq = s.seq ∧ (jobEnds j errs s).log = s.log ∧ (jobEnds j errs s).cell = s.cell ∧ (jobEnds j
    errs s).shadow = s.shadow ∧ (jobEnds j errs s).light = s.light ∧ (jobEnds j errs s).ports = s.ports ∧ (jobEnds j
    errs s).pending = s.pending := by
  unfold jobEnds
  try dsimp only
  (repeat' split) <;> simp_all

@[simp] theorem copyWritten_keeps (sec : Nat) (s : State) : (copyWritten sec s).ident = s.ident ∧ (copyWritten sec
    s).supply = s.supply ∧ (copyWritten sec s).sys = s.sys ∧ (copyWritten sec s).rails = s.rails ∧ (copyWritten sec
    s).seq = s.seq ∧ (copyWritten sec s).log = s.log ∧ (copyWritten sec s).cell = s.cell ∧ (copyWritten sec s).flash
    = s.flash ∧ (copyWritten sec s).shadow = s.shadow ∧ (copyWritten sec s).light = s.light ∧ (copyWritten sec
    s).neg = s.neg ∧ (copyWritten sec s).nand = s.nand ∧ (copyWritten sec s).tiers = s.tiers ∧ (copyWritten sec
    s).ports = s.ports ∧ (copyWritten sec s).irq = s.irq ∧ (copyWritten sec s).bus = s.bus ∧ (copyWritten sec
    s).free = s.free ∧ (copyWritten sec s).pending = s.pending := by
  unfold copyWritten
  simp

@[simp] theorem copyErased_keeps (sec : Nat) (s : State) : (copyErased sec s).ident = s.ident ∧ (copyErased sec
    s).supply = s.supply ∧ (copyErased sec s).sys = s.sys ∧ (copyErased sec s).rails = s.rails ∧ (copyErased sec
    s).seq = s.seq ∧ (copyErased sec s).log = s.log ∧ (copyErased sec s).cell = s.cell ∧ (copyErased sec s).flash =
    s.flash ∧ (copyErased sec s).shadow = s.shadow ∧ (copyErased sec s).light = s.light ∧ (copyErased sec s).neg =
    s.neg ∧ (copyErased sec s).nand = s.nand ∧ (copyErased sec s).tiers = s.tiers ∧ (copyErased sec s).ports =
    s.ports ∧ (copyErased sec s).irq = s.irq ∧ (copyErased sec s).bus = s.bus ∧ (copyErased sec s).free = s.free ∧
    (copyErased sec s).pending = s.pending := by
  unfold copyErased
  simp

@[simp] theorem afterOp_keeps (id : Nat) (errs : WordErrors) (s : State) : (afterOp id errs s).ident = s.ident ∧
    (afterOp id errs s).supply = s.supply ∧ (afterOp id errs s).sys = s.sys ∧ (afterOp id errs s).rails = s.rails ∧
    (afterOp id errs s).seq = s.seq ∧ (afterOp id errs s).log = s.log ∧ (afterOp id errs s).cell = s.cell ∧ (afterOp
    id errs s).shadow = s.shadow ∧ (afterOp id errs s).light = s.light ∧ (afterOp id errs s).ports = s.ports ∧
    (afterOp id errs s).pending = s.pending := by
  unfold afterOp
  try dsimp only
  (repeat' split) <;> simp_all

@[simp] theorem pageEnds_keeps (b : Fin 2) (errs : WordErrors) (s : State) : (pageEnds b errs s).ident = s.ident ∧
    (pageEnds b errs s).supply = s.supply ∧ (pageEnds b errs s).sys = s.sys ∧ (pageEnds b errs s).rails = s.rails ∧
    (pageEnds b errs s).seq = s.seq ∧ (pageEnds b errs s).log = s.log ∧ (pageEnds b errs s).cell = s.cell ∧
    (pageEnds b errs s).shadow = s.shadow ∧ (pageEnds b errs s).light = s.light ∧ (pageEnds b errs s).ports =
    s.ports ∧ (pageEnds b errs s).pending = s.pending := by
  unfold pageEnds
  try dsimp only
  (repeat' split) <;> simp_all

@[simp] theorem eraseDone_keeps (s : State) : (eraseDone s).ident = s.ident ∧ (eraseDone s).supply = s.supply ∧
    (eraseDone s).sys = s.sys ∧ (eraseDone s).rails = s.rails ∧ (eraseDone s).seq = s.seq ∧ (eraseDone s).log =
    s.log ∧ (eraseDone s).cell = s.cell ∧ (eraseDone s).shadow = s.shadow ∧ (eraseDone s).light = s.light ∧
    (eraseDone s).ports = s.ports ∧ (eraseDone s).pending = s.pending := by
  unfold eraseDone
  try dsimp only
  (repeat' split) <;> simp_all

@[simp] theorem eraseGoesOn_keeps (s : State) : (eraseGoesOn s).ident = s.ident ∧ (eraseGoesOn s).supply = s.supply
    ∧ (eraseGoesOn s).sys = s.sys ∧ (eraseGoesOn s).rails = s.rails ∧ (eraseGoesOn s).seq = s.seq ∧ (eraseGoesOn
    s).log = s.log ∧ (eraseGoesOn s).cell = s.cell ∧ (eraseGoesOn s).shadow = s.shadow ∧ (eraseGoesOn s).light =
    s.light ∧ (eraseGoesOn s).neg = s.neg ∧ (eraseGoesOn s).nand = s.nand ∧ (eraseGoesOn s).tiers = s.tiers ∧
    (eraseGoesOn s).ports = s.ports ∧ (eraseGoesOn s).pending = s.pending := by
  unfold eraseGoesOn
  try dsimp only
  (repeat' split) <;> simp_all

@[simp] theorem holdoffOver_keeps (s : State) : (holdoffOver s).ident = s.ident ∧ (holdoffOver s).supply = s.supply
    ∧ (holdoffOver s).sys = s.sys ∧ (holdoffOver s).rails = s.rails ∧ (holdoffOver s).seq = s.seq ∧ (holdoffOver
    s).log = s.log ∧ (holdoffOver s).cell = s.cell ∧ (holdoffOver s).shadow = s.shadow ∧ (holdoffOver s).light =
    s.light ∧ (holdoffOver s).neg = s.neg ∧ (holdoffOver s).nand = s.nand ∧ (holdoffOver s).tiers = s.tiers ∧
    (holdoffOver s).ports = s.ports ∧ (holdoffOver s).pending = s.pending := by
  unfold holdoffOver
  try dsimp only
  (repeat' split) <;> simp_all

@[simp] theorem queueTimeout_keeps (id : Option Nat) (s : State) : (queueTimeout id s).ident = s.ident ∧
    (queueTimeout id s).supply = s.supply ∧ (queueTimeout id s).sys = s.sys ∧ (queueTimeout id s).rails = s.rails ∧
    (queueTimeout id s).seq = s.seq ∧ (queueTimeout id s).log = s.log ∧ (queueTimeout id s).cell = s.cell ∧
    (queueTimeout id s).shadow = s.shadow ∧ (queueTimeout id s).light = s.light ∧ (queueTimeout id s).neg = s.neg ∧
    (queueTimeout id s).nand = s.nand ∧ (queueTimeout id s).tiers = s.tiers ∧ (queueTimeout id s).ports = s.ports ∧
    (queueTimeout id s).pending = s.pending := by
  unfold queueTimeout
  try dsimp only
  (repeat' split) <;> simp_all

@[simp] theorem commitAsked_keeps (s : State) : (commitAsked s).2.ident = s.ident ∧ (commitAsked s).2.supply =
    s.supply ∧ (commitAsked s).2.sys = s.sys ∧ (commitAsked s).2.rails = s.rails ∧ (commitAsked s).2.seq = s.seq ∧
    (commitAsked s).2.log = s.log ∧ (commitAsked s).2.cell = s.cell ∧ (commitAsked s).2.shadow = s.shadow ∧
    (commitAsked s).2.light = s.light ∧ (commitAsked s).2.neg = s.neg ∧ (commitAsked s).2.nand = s.nand ∧
    (commitAsked s).2.tiers = s.tiers ∧ (commitAsked s).2.ports = s.ports ∧ (commitAsked s).2.pending = s.pending :=
    by
  unfold commitAsked
  simp

@[simp] theorem commitTimed_keeps (s : State) : (commitTimed s).ident = s.ident ∧ (commitTimed s).supply = s.supply
    ∧ (commitTimed s).sys = s.sys ∧ (commitTimed s).rails = s.rails ∧ (commitTimed s).seq = s.seq ∧ (commitTimed
    s).log = s.log ∧ (commitTimed s).cell = s.cell ∧ (commitTimed s).shadow = s.shadow ∧ (commitTimed s).light =
    s.light ∧ (commitTimed s).neg = s.neg ∧ (commitTimed s).nand = s.nand ∧ (commitTimed s).tiers = s.tiers ∧
    (commitTimed s).ports = s.ports ∧ (commitTimed s).pending = s.pending := by
  unfold commitTimed
  simp

@[simp] theorem blockInForce_keeps (s : State) : (blockInForce s).ident = s.ident ∧ (blockInForce s).supply =
    s.supply ∧ (blockInForce s).sys = s.sys ∧ (blockInForce s).rails = s.rails ∧ (blockInForce s).seq = s.seq ∧
    (blockInForce s).log = s.log ∧ (blockInForce s).cell = s.cell ∧ (blockInForce s).shadow = s.shadow ∧
    (blockInForce s).light = s.light ∧ (blockInForce s).neg = s.neg ∧ (blockInForce s).nand = s.nand ∧ (blockInForce
    s).tiers = s.tiers ∧ (blockInForce s).ports = s.ports ∧ (blockInForce s).irq = s.irq ∧ (blockInForce s).bus =
    s.bus ∧ (blockInForce s).sec = s.sec ∧ (blockInForce s).free = s.free ∧ (blockInForce s).pending = s.pending :=
    by
  unfold blockInForce
  simp

@[simp] theorem commitDone_keeps (s : State) : (commitDone s).ident = s.ident ∧ (commitDone s).supply = s.supply ∧
    (commitDone s).sys = s.sys ∧ (commitDone s).rails = s.rails ∧ (commitDone s).seq = s.seq ∧ (commitDone s).log =
    s.log ∧ (commitDone s).cell = s.cell ∧ (commitDone s).shadow = s.shadow ∧ (commitDone s).light = s.light ∧
    (commitDone s).neg = s.neg ∧ (commitDone s).nand = s.nand ∧ (commitDone s).tiers = s.tiers ∧ (commitDone
    s).ports = s.ports ∧ (commitDone s).pending = s.pending := by
  unfold commitDone
  try dsimp only
  (repeat' split) <;> simp_all

@[simp] theorem repairStarts_keeps (s : State) : (repairStarts s).ident = s.ident ∧ (repairStarts s).supply =
    s.supply ∧ (repairStarts s).sys = s.sys ∧ (repairStarts s).rails = s.rails ∧ (repairStarts s).seq = s.seq ∧
    (repairStarts s).log = s.log ∧ (repairStarts s).cell = s.cell ∧ (repairStarts s).shadow = s.shadow ∧
    (repairStarts s).light = s.light ∧ (repairStarts s).neg = s.neg ∧ (repairStarts s).nand = s.nand ∧ (repairStarts
    s).tiers = s.tiers ∧ (repairStarts s).ports = s.ports ∧ (repairStarts s).pending = s.pending := by
  unfold repairStarts
  try dsimp only
  (repeat' split) <;> simp_all

@[simp] theorem logDone_keeps (s : State) : (logDone s).ident = s.ident ∧ (logDone s).supply = s.supply ∧ (logDone
    s).sys = s.sys ∧ (logDone s).rails = s.rails ∧ (logDone s).seq = s.seq ∧ (logDone s).log = s.log ∧ (logDone
    s).cell = s.cell ∧ (logDone s).shadow = s.shadow ∧ (logDone s).light = s.light ∧ (logDone s).neg = s.neg ∧
    (logDone s).nand = s.nand ∧ (logDone s).tiers = s.tiers ∧ (logDone s).ports = s.ports ∧ (logDone s).pending =
    s.pending := by
  unfold logDone
  try dsimp only
  (repeat' split) <;> simp_all

@[simp] theorem readRaw_keeps (off : Nat) (len : Nat) (errs : WordErrors) (s : State) : (readRaw off len errs
    s).2.ident = s.ident ∧ (readRaw off len errs s).2.supply = s.supply ∧ (readRaw off len errs s).2.sys = s.sys ∧
    (readRaw off len errs s).2.rails = s.rails ∧ (readRaw off len errs s).2.seq = s.seq ∧ (readRaw off len errs
    s).2.log = s.log ∧ (readRaw off len errs s).2.cell = s.cell ∧ (readRaw off len errs s).2.shadow = s.shadow ∧
    (readRaw off len errs s).2.light = s.light ∧ (readRaw off len errs s).2.neg = s.neg ∧ (readRaw off len errs
    s).2.nand = s.nand ∧ (readRaw off len errs s).2.tiers = s.tiers ∧ (readRaw off len errs s).2.ports = s.ports ∧
    (readRaw off len errs s).2.sec = s.sec ∧ (readRaw off len errs s).2.pending = s.pending := by
  unfold readRaw
  simp

@[simp] theorem rawRefused_keeps (a : Abort) (s : State) : (rawRefused a s).2.ident = s.ident ∧ (rawRefused a
    s).2.supply = s.supply ∧ (rawRefused a s).2.sys = s.sys ∧ (rawRefused a s).2.rails = s.rails ∧ (rawRefused a
    s).2.seq = s.seq ∧ (rawRefused a s).2.log = s.log ∧ (rawRefused a s).2.cell = s.cell ∧ (rawRefused a s).2.shadow
    = s.shadow ∧ (rawRefused a s).2.light = s.light ∧ (rawRefused a s).2.neg = s.neg ∧ (rawRefused a s).2.nand =
    s.nand ∧ (rawRefused a s).2.tiers = s.tiers ∧ (rawRefused a s).2.ports = s.ports ∧ (rawRefused a s).2.irq =
    s.irq ∧ (rawRefused a s).2.bus = s.bus ∧ (rawRefused a s).2.sec = s.sec ∧ (rawRefused a s).2.free = s.free ∧
    (rawRefused a s).2.pending = s.pending := by
  unfold rawRefused
  simp

@[simp] theorem rawJob_keeps (ops : List FlashPrim) (resp : List Byte) (s : State) : (rawJob ops resp s).ident =
    s.ident ∧ (rawJob ops resp s).supply = s.supply ∧ (rawJob ops resp s).sys = s.sys ∧ (rawJob ops resp s).rails =
    s.rails ∧ (rawJob ops resp s).seq = s.seq ∧ (rawJob ops resp s).log = s.log ∧ (rawJob ops resp s).cell = s.cell
    ∧ (rawJob ops resp s).shadow = s.shadow ∧ (rawJob ops resp s).light = s.light ∧ (rawJob ops resp s).neg = s.neg
    ∧ (rawJob ops resp s).nand = s.nand ∧ (rawJob ops resp s).tiers = s.tiers ∧ (rawJob ops resp s).ports = s.ports
    ∧ (rawJob ops resp s).pending = s.pending := by
  unfold rawJob
  simp

@[simp] theorem programRaw_keeps (data : List Byte) (resp : List Byte) (s : State) : (programRaw data resp
    s).2.ident = s.ident ∧ (programRaw data resp s).2.supply = s.supply ∧ (programRaw data resp s).2.sys = s.sys ∧
    (programRaw data resp s).2.rails = s.rails ∧ (programRaw data resp s).2.seq = s.seq ∧ (programRaw data resp
    s).2.log = s.log ∧ (programRaw data resp s).2.cell = s.cell ∧ (programRaw data resp s).2.shadow = s.shadow ∧
    (programRaw data resp s).2.light = s.light ∧ (programRaw data resp s).2.neg = s.neg ∧ (programRaw data resp
    s).2.nand = s.nand ∧ (programRaw data resp s).2.tiers = s.tiers ∧ (programRaw data resp s).2.ports = s.ports ∧
    (programRaw data resp s).2.pending = s.pending := by
  unfold programRaw
  simp

@[simp] theorem eraseRaw_keeps (sec : Byte) (resp : List Byte) (s : State) : (eraseRaw sec resp s).2.ident = s.ident
    ∧ (eraseRaw sec resp s).2.supply = s.supply ∧ (eraseRaw sec resp s).2.sys = s.sys ∧ (eraseRaw sec resp
    s).2.rails = s.rails ∧ (eraseRaw sec resp s).2.seq = s.seq ∧ (eraseRaw sec resp s).2.log = s.log ∧ (eraseRaw sec
    resp s).2.cell = s.cell ∧ (eraseRaw sec resp s).2.shadow = s.shadow ∧ (eraseRaw sec resp s).2.light = s.light ∧
    (eraseRaw sec resp s).2.neg = s.neg ∧ (eraseRaw sec resp s).2.nand = s.nand ∧ (eraseRaw sec resp s).2.tiers =
    s.tiers ∧ (eraseRaw sec resp s).2.ports = s.ports ∧ (eraseRaw sec resp s).2.pending = s.pending := by
  unfold eraseRaw
  simp

@[simp] theorem segmentJob_keeps (kind : FlashKind) (ops : List FlashPrim) (s : State) : (segmentJob kind ops
    s).ident = s.ident ∧ (segmentJob kind ops s).supply = s.supply ∧ (segmentJob kind ops s).sys = s.sys ∧
    (segmentJob kind ops s).rails = s.rails ∧ (segmentJob kind ops s).seq = s.seq ∧ (segmentJob kind ops s).log =
    s.log ∧ (segmentJob kind ops s).cell = s.cell ∧ (segmentJob kind ops s).shadow = s.shadow ∧ (segmentJob kind ops
    s).light = s.light ∧ (segmentJob kind ops s).neg = s.neg ∧ (segmentJob kind ops s).nand = s.nand ∧ (segmentJob
    kind ops s).tiers = s.tiers ∧ (segmentJob kind ops s).ports = s.ports ∧ (segmentJob kind ops s).pending =
    s.pending := by
  unfold segmentJob
  simp

@[simp] theorem storeOpened_keeps (s : State) : (storeOpened s).ident = s.ident ∧ (storeOpened s).supply = s.supply
    ∧ (storeOpened s).sys = s.sys ∧ (storeOpened s).rails = s.rails ∧ (storeOpened s).seq = s.seq ∧ (storeOpened
    s).log = s.log ∧ (storeOpened s).cell = s.cell ∧ (storeOpened s).shadow = s.shadow ∧ (storeOpened s).light =
    s.light ∧ (storeOpened s).neg = s.neg ∧ (storeOpened s).nand = s.nand ∧ (storeOpened s).tiers = s.tiers ∧
    (storeOpened s).ports = s.ports ∧ (storeOpened s).irq = s.irq ∧ (storeOpened s).bus = s.bus ∧ (storeOpened
    s).sec = s.sec ∧ (storeOpened s).free = s.free ∧ (storeOpened s).pending = s.pending := by
  unfold storeOpened
  simp

@[simp] theorem storeSegment_keeps (g : OpenSeg) (data : List Byte) (last : Bool) (s : State) : (storeSegment g data
    last s).2.ident = s.ident ∧ (storeSegment g data last s).2.supply = s.supply ∧ (storeSegment g data last
    s).2.sys = s.sys ∧ (storeSegment g data last s).2.rails = s.rails ∧ (storeSegment g data last s).2.seq = s.seq ∧
    (storeSegment g data last s).2.log = s.log ∧ (storeSegment g data last s).2.cell = s.cell ∧ (storeSegment g data
    last s).2.shadow = s.shadow ∧ (storeSegment g data last s).2.light = s.light ∧ (storeSegment g data last
    s).2.neg = s.neg ∧ (storeSegment g data last s).2.nand = s.nand ∧ (storeSegment g data last s).2.tiers = s.tiers
    ∧ (storeSegment g data last s).2.ports = s.ports ∧ (storeSegment g data last s).2.pending = s.pending := by
  unfold storeSegment
  simp

@[simp] theorem imageSegment_keeps (g : OpenSeg) (data : List Byte) (last : Bool) (s : State) : (imageSegment g data
    last s).2.ident = s.ident ∧ (imageSegment g data last s).2.supply = s.supply ∧ (imageSegment g data last
    s).2.sys = s.sys ∧ (imageSegment g data last s).2.rails = s.rails ∧ (imageSegment g data last s).2.seq = s.seq ∧
    (imageSegment g data last s).2.log = s.log ∧ (imageSegment g data last s).2.cell = s.cell ∧ (imageSegment g data
    last s).2.shadow = s.shadow ∧ (imageSegment g data last s).2.light = s.light ∧ (imageSegment g data last
    s).2.neg = s.neg ∧ (imageSegment g data last s).2.nand = s.nand ∧ (imageSegment g data last s).2.tiers = s.tiers
    ∧ (imageSegment g data last s).2.ports = s.ports ∧ (imageSegment g data last s).2.pending = s.pending := by
  unfold imageSegment
  simp

end Sys2Proof.Machine
end

