-- ==== Sys2Proof/Laws/KeepsPorts.lean ====
section
/-! SUPPORT. What each operation of Machine/Ports leaves as it was: one lemma an operation, for `simp`. -/

set_option linter.unusedSimpArgs false
set_option linter.unusedVariables false
set_option linter.unusedTactic false
set_option linter.unreachableTactic false

namespace Sys2Proof.Machine

@[simp] theorem haltPort_keeps (p : PortId) (code : Byte) (s : State) : (haltPort p code s).ident = s.ident ∧
    (haltPort p code s).supply = s.supply ∧ (haltPort p code s).sys = s.sys ∧ (haltPort p code s).rails = s.rails ∧
    (haltPort p code s).seq = s.seq ∧ (haltPort p code s).log = s.log ∧ (haltPort p code s).cell = s.cell ∧
    (haltPort p code s).flash = s.flash ∧ (haltPort p code s).shadow = s.shadow ∧ (haltPort p code s).light =
    s.light ∧ (haltPort p code s).neg = s.neg ∧ (haltPort p code s).nand = s.nand ∧ (haltPort p code s).tiers =
    s.tiers ∧ (haltPort p code s).sec = s.sec ∧ (haltPort p code s).pending = s.pending := by
  unfold haltPort
  simp

@[simp] theorem doorbell_keeps (p : PortId) (q : Fin 3) (v : U16) (s : State) : (doorbell p q v s).ident = s.ident ∧
    (doorbell p q v s).supply = s.supply ∧ (doorbell p q v s).sys = s.sys ∧ (doorbell p q v s).rails = s.rails ∧
    (doorbell p q v s).seq = s.seq ∧ (doorbell p q v s).log = s.log ∧ (doorbell p q v s).cell = s.cell ∧ (doorbell p
    q v s).flash = s.flash ∧ (doorbell p q v s).shadow = s.shadow ∧ (doorbell p q v s).light = s.light ∧ (doorbell p
    q v s).neg = s.neg ∧ (doorbell p q v s).nand = s.nand ∧ (doorbell p q v s).tiers = s.tiers ∧ (doorbell p q v
    s).sec = s.sec ∧ (doorbell p q v s).pending = s.pending := by
  unfold doorbell
  simp

@[simp] theorem enablePort_keeps (p : PortId) (s : State) : (enablePort p s).ident = s.ident ∧ (enablePort p
    s).supply = s.supply ∧ (enablePort p s).sys = s.sys ∧ (enablePort p s).rails = s.rails ∧ (enablePort p s).seq =
    s.seq ∧ (enablePort p s).log = s.log ∧ (enablePort p s).cell = s.cell ∧ (enablePort p s).flash = s.flash ∧
    (enablePort p s).shadow = s.shadow ∧ (enablePort p s).light = s.light ∧ (enablePort p s).neg = s.neg ∧
    (enablePort p s).nand = s.nand ∧ (enablePort p s).tiers = s.tiers ∧ (enablePort p s).irq = s.irq ∧ (enablePort p
    s).bus = s.bus ∧ (enablePort p s).sec = s.sec ∧ (enablePort p s).free = s.free ∧ (enablePort p s).pending =
    s.pending := by
  unfold enablePort
  simp

@[simp] theorem disablePort_keeps (p : PortId) (s : State) : (disablePort p s).ident = s.ident ∧ (disablePort p
    s).supply = s.supply ∧ (disablePort p s).sys = s.sys ∧ (disablePort p s).rails = s.rails ∧ (disablePort p s).seq
    = s.seq ∧ (disablePort p s).log = s.log ∧ (disablePort p s).cell = s.cell ∧ (disablePort p s).flash = s.flash ∧
    (disablePort p s).shadow = s.shadow ∧ (disablePort p s).light = s.light ∧ (disablePort p s).neg = s.neg ∧
    (disablePort p s).nand = s.nand ∧ (disablePort p s).tiers = s.tiers ∧ (disablePort p s).irq = s.irq ∧
    (disablePort p s).bus = s.bus ∧ (disablePort p s).sec = s.sec ∧ (disablePort p s).free = s.free ∧ (disablePort p
    s).pending = s.pending := by
  unfold disablePort
  simp

@[simp] theorem onReq_keeps (p : PortId) (order : Nat) (f : Req → Req) (s : State) : (onReq p order f s).ident =
    s.ident ∧ (onReq p order f s).supply = s.supply ∧ (onReq p order f s).sys = s.sys ∧ (onReq p order f s).rails =
    s.rails ∧ (onReq p order f s).seq = s.seq ∧ (onReq p order f s).log = s.log ∧ (onReq p order f s).cell = s.cell
    ∧ (onReq p order f s).flash = s.flash ∧ (onReq p order f s).shadow = s.shadow ∧ (onReq p order f s).light =
    s.light ∧ (onReq p order f s).neg = s.neg ∧ (onReq p order f s).nand = s.nand ∧ (onReq p order f s).tiers =
    s.tiers ∧ (onReq p order f s).irq = s.irq ∧ (onReq p order f s).bus = s.bus ∧ (onReq p order f s).sec = s.sec ∧
    (onReq p order f s).free = s.free ∧ (onReq p order f s).pending = s.pending := by
  unfold onReq
  simp

@[simp] theorem endReq_keeps (p : PortId) (r : Req) (st : Status) (bytes : Nat) (detail : Nat) (proof : Bool) (s :
    State) : (endReq p r st bytes detail proof s).ident = s.ident ∧ (endReq p r st bytes detail proof s).supply =
    s.supply ∧ (endReq p r st bytes detail proof s).sys = s.sys ∧ (endReq p r st bytes detail proof s).rails =
    s.rails ∧ (endReq p r st bytes detail proof s).seq = s.seq ∧ (endReq p r st bytes detail proof s).log = s.log ∧
    (endReq p r st bytes detail proof s).cell = s.cell ∧ (endReq p r st bytes detail proof s).flash = s.flash ∧
    (endReq p r st bytes detail proof s).shadow = s.shadow ∧ (endReq p r st bytes detail proof s).light = s.light ∧
    (endReq p r st bytes detail proof s).neg = s.neg ∧ (endReq p r st bytes detail proof s).nand = s.nand ∧ (endReq
    p r st bytes detail proof s).tiers = s.tiers ∧ (endReq p r st bytes detail proof s).irq = s.irq ∧ (endReq p r st
    bytes detail proof s).bus = s.bus ∧ (endReq p r st bytes detail proof s).sec = s.sec ∧ (endReq p r st bytes
    detail proof s).free = s.free ∧ (endReq p r st bytes detail proof s).pending = s.pending := by
  unfold endReq
  simp

@[simp] theorem queueRead_keeps (k : Nat) (cls : Nat) (due : Nat) (s : State) : (queueRead k cls due s).ident =
    s.ident ∧ (queueRead k cls due s).supply = s.supply ∧ (queueRead k cls due s).sys = s.sys ∧ (queueRead k cls due
    s).rails = s.rails ∧ (queueRead k cls due s).seq = s.seq ∧ (queueRead k cls due s).log = s.log ∧ (queueRead k
    cls due s).cell = s.cell ∧ (queueRead k cls due s).flash = s.flash ∧ (queueRead k cls due s).shadow = s.shadow ∧
    (queueRead k cls due s).light = s.light ∧ (queueRead k cls due s).neg = s.neg ∧ (queueRead k cls due s).tiers =
    s.tiers ∧ (queueRead k cls due s).ports = s.ports ∧ (queueRead k cls due s).irq = s.irq ∧ (queueRead k cls due
    s).bus = s.bus ∧ (queueRead k cls due s).sec = s.sec ∧ (queueRead k cls due s).free = s.free ∧ (queueRead k cls
    due s).pending = s.pending := by
  unfold queueRead
  simp

@[simp] theorem unqueueRead_keeps (k : Nat) (s : State) : (unqueueRead k s).ident = s.ident ∧ (unqueueRead k
    s).supply = s.supply ∧ (unqueueRead k s).sys = s.sys ∧ (unqueueRead k s).rails = s.rails ∧ (unqueueRead k s).seq
    = s.seq ∧ (unqueueRead k s).log = s.log ∧ (unqueueRead k s).cell = s.cell ∧ (unqueueRead k s).flash = s.flash ∧
    (unqueueRead k s).shadow = s.shadow ∧ (unqueueRead k s).light = s.light ∧ (unqueueRead k s).neg = s.neg ∧
    (unqueueRead k s).tiers = s.tiers ∧ (unqueueRead k s).ports = s.ports ∧ (unqueueRead k s).irq = s.irq ∧
    (unqueueRead k s).bus = s.bus ∧ (unqueueRead k s).sec = s.sec ∧ (unqueueRead k s).free = s.free ∧ (unqueueRead k
    s).pending = s.pending := by
  unfold unqueueRead
  simp

@[simp] theorem admitted_keeps (p : PortId) (r : Req) (e : List Byte) (s : State) : (admitted p r e s).ident =
    s.ident ∧ (admitted p r e s).supply = s.supply ∧ (admitted p r e s).sys = s.sys ∧ (admitted p r e s).rails =
    s.rails ∧ (admitted p r e s).seq = s.seq ∧ (admitted p r e s).log = s.log ∧ (admitted p r e s).cell = s.cell ∧
    (admitted p r e s).flash = s.flash ∧ (admitted p r e s).shadow = s.shadow ∧ (admitted p r e s).light = s.light ∧
    (admitted p r e s).neg = s.neg ∧ (admitted p r e s).irq = s.irq ∧ (admitted p r e s).bus = s.bus ∧ (admitted p r
    e s).sec = s.sec ∧ (admitted p r e s).free = s.free ∧ (admitted p r e s).pending = s.pending := by
  unfold admitted
  simp

@[simp] theorem acceptRequest_keeps (p : PortId) (sq : Bool) (bs : List Byte) (s : State) : (acceptRequest p sq bs
    s).ident = s.ident ∧ (acceptRequest p sq bs s).supply = s.supply ∧ (acceptRequest p sq bs s).sys = s.sys ∧
    (acceptRequest p sq bs s).rails = s.rails ∧ (acceptRequest p sq bs s).seq = s.seq ∧ (acceptRequest p sq bs
    s).log = s.log ∧ (acceptRequest p sq bs s).cell = s.cell ∧ (acceptRequest p sq bs s).flash = s.flash ∧
    (acceptRequest p sq bs s).shadow = s.shadow ∧ (acceptRequest p sq bs s).light = s.light ∧ (acceptRequest p sq bs
    s).neg = s.neg ∧ (acceptRequest p sq bs s).sec = s.sec ∧ (acceptRequest p sq bs s).pending = s.pending := by
  unfold acceptRequest
  try dsimp only
  (repeat' split) <;> simp_all

@[simp] theorem descriptorArrives_keeps (p : PortId) (bs : List Byte) (s : State) : (descriptorArrives p bs s).ident
    = s.ident ∧ (descriptorArrives p bs s).supply = s.supply ∧ (descriptorArrives p bs s).sys = s.sys ∧
    (descriptorArrives p bs s).rails = s.rails ∧ (descriptorArrives p bs s).seq = s.seq ∧ (descriptorArrives p bs
    s).log = s.log ∧ (descriptorArrives p bs s).cell = s.cell ∧ (descriptorArrives p bs s).flash = s.flash ∧
    (descriptorArrives p bs s).shadow = s.shadow ∧ (descriptorArrives p bs s).light = s.light ∧ (descriptorArrives p
    bs s).neg = s.neg ∧ (descriptorArrives p bs s).sec = s.sec ∧ (descriptorArrives p bs s).pending = s.pending :=
    by
  unfold descriptorArrives
  try dsimp only
  (repeat' split) <;> simp_all

@[simp] theorem descriptorLost_keeps (p : PortId) (s : State) : (descriptorLost p s).ident = s.ident ∧
    (descriptorLost p s).supply = s.supply ∧ (descriptorLost p s).sys = s.sys ∧ (descriptorLost p s).rails = s.rails
    ∧ (descriptorLost p s).seq = s.seq ∧ (descriptorLost p s).log = s.log ∧ (descriptorLost p s).cell = s.cell ∧
    (descriptorLost p s).flash = s.flash ∧ (descriptorLost p s).shadow = s.shadow ∧ (descriptorLost p s).light =
    s.light ∧ (descriptorLost p s).neg = s.neg ∧ (descriptorLost p s).nand = s.nand ∧ (descriptorLost p s).tiers =
    s.tiers ∧ (descriptorLost p s).sec = s.sec ∧ (descriptorLost p s).pending = s.pending := by
  unfold descriptorLost
  try dsimp only
  (repeat' split) <;> simp_all

@[simp] theorem sendOut_keeps (p : PortId) (bs : List Byte) (s : State) : (sendOut p bs s).ident = s.ident ∧
    (sendOut p bs s).supply = s.supply ∧ (sendOut p bs s).sys = s.sys ∧ (sendOut p bs s).rails = s.rails ∧ (sendOut
    p bs s).seq = s.seq ∧ (sendOut p bs s).log = s.log ∧ (sendOut p bs s).cell = s.cell ∧ (sendOut p bs s).flash =
    s.flash ∧ (sendOut p bs s).shadow = s.shadow ∧ (sendOut p bs s).light = s.light ∧ (sendOut p bs s).neg = s.neg ∧
    (sendOut p bs s).nand = s.nand ∧ (sendOut p bs s).tiers = s.tiers ∧ (sendOut p bs s).irq = s.irq ∧ (sendOut p bs
    s).bus = s.bus ∧ (sendOut p bs s).sec = s.sec ∧ (sendOut p bs s).free = s.free ∧ (sendOut p bs s).pending =
    s.pending := by
  unfold sendOut
  simp

theorem readInto_keeps (p : PortId) (r : Req) (k : Nat) (e : List Byte) (use : List Byte → State → State) (s :
    State) (hu : ∀ bs u, (use bs u).ident = u.ident ∧ (use bs u).supply = u.supply ∧ (use bs u).sys = u.sys ∧ (use
    bs u).rails = u.rails ∧ (use bs u).seq = u.seq ∧ (use bs u).log = u.log ∧ (use bs u).cell = u.cell ∧ (use bs
    u).flash = u.flash ∧ (use bs u).shadow = u.shadow ∧ (use bs u).light = u.light ∧ (use bs u).neg = u.neg ∧ (use
    bs u).sec = u.sec ∧ (use bs u).pending = u.pending) : (readInto p r k e use s).ident = s.ident ∧ (readInto p r k
    e use s).supply = s.supply ∧ (readInto p r k e use s).sys = s.sys ∧ (readInto p r k e use s).rails = s.rails ∧
    (readInto p r k e use s).seq = s.seq ∧ (readInto p r k e use s).log = s.log ∧ (readInto p r k e use s).cell =
    s.cell ∧ (readInto p r k e use s).flash = s.flash ∧ (readInto p r k e use s).shadow = s.shadow ∧ (readInto p r k
    e use s).light = s.light ∧ (readInto p r k e use s).neg = s.neg ∧ (readInto p r k e use s).sec = s.sec ∧
    (readInto p r k e use s).pending = s.pending := by
  unfold readInto
  dsimp only
  split
  · simp
  · have k1 := readTile_keeps k e (queueRead k 3 (dueOf r) s)
    rcases h1 : readTile k e (queueRead k 3 (dueOf r) s) with ⟨f, u⟩
    rw [h1] at k1
    cases f with
    | waits => simp_all
    | gone => simp_all
    | data bs =>
      have k2 := slotFor_keeps k (accountOf r.stream) u
      dsimp only
      rcases h2 : slotFor k (accountOf r.stream) u with ⟨o, v⟩
      rw [h2] at k2
      cases o <;> simp_all

@[simp] theorem readProof_keeps (p : PortId) (r : Req) (e : List Byte) (s : State) : (readProof p r e s).ident =
    s.ident ∧ (readProof p r e s).supply = s.supply ∧ (readProof p r e s).sys = s.sys ∧ (readProof p r e s).rails =
    s.rails ∧ (readProof p r e s).seq = s.seq ∧ (readProof p r e s).log = s.log ∧ (readProof p r e s).cell = s.cell
    ∧ (readProof p r e s).flash = s.flash ∧ (readProof p r e s).shadow = s.shadow ∧ (readProof p r e s).light =
    s.light ∧ (readProof p r e s).neg = s.neg ∧ (readProof p r e s).sec = s.sec ∧ (readProof p r e s).pending =
    s.pending := by
  unfold readProof
  dsimp only
  split
  · simp
  · exact readInto_keeps _ _ _ _ _ _ (fun bs u => by simp)

@[simp] theorem readFull_keeps (p : PortId) (r : Req) (e : List Byte) (s : State) : (readFull p r e s).ident =
    s.ident ∧ (readFull p r e s).supply = s.supply ∧ (readFull p r e s).sys = s.sys ∧ (readFull p r e s).rails =
    s.rails ∧ (readFull p r e s).seq = s.seq ∧ (readFull p r e s).log = s.log ∧ (readFull p r e s).cell = s.cell ∧
    (readFull p r e s).flash = s.flash ∧ (readFull p r e s).shadow = s.shadow ∧ (readFull p r e s).light = s.light ∧
    (readFull p r e s).neg = s.neg ∧ (readFull p r e s).sec = s.sec ∧ (readFull p r e s).pending = s.pending := by
  unfold readFull
  dsimp only
  split
  · split <;> simp
  · exact readInto_keeps _ _ _ _ _ _ (fun bs u => by simp)

@[simp] theorem serveRead_keeps (p : PortId) (tag : U16) (s : State) : (serveRead p tag s).ident = s.ident ∧
    (serveRead p tag s).supply = s.supply ∧ (serveRead p tag s).sys = s.sys ∧ (serveRead p tag s).rails = s.rails ∧
    (serveRead p tag s).seq = s.seq ∧ (serveRead p tag s).log = s.log ∧ (serveRead p tag s).cell = s.cell ∧
    (serveRead p tag s).flash = s.flash ∧ (serveRead p tag s).shadow = s.shadow ∧ (serveRead p tag s).light =
    s.light ∧ (serveRead p tag s).neg = s.neg ∧ (serveRead p tag s).sec = s.sec ∧ (serveRead p tag s).pending =
    s.pending := by
  unfold serveRead
  try dsimp only
  (repeat' split) <;> simp_all

@[simp] theorem switchCheck_keeps (p : PortId) (tag : U16) (s : State) : (switchCheck p tag s).ident = s.ident ∧
    (switchCheck p tag s).supply = s.supply ∧ (switchCheck p tag s).sys = s.sys ∧ (switchCheck p tag s).rails =
    s.rails ∧ (switchCheck p tag s).seq = s.seq ∧ (switchCheck p tag s).log = s.log ∧ (switchCheck p tag s).cell =
    s.cell ∧ (switchCheck p tag s).flash = s.flash ∧ (switchCheck p tag s).shadow = s.shadow ∧ (switchCheck p tag
    s).light = s.light ∧ (switchCheck p tag s).neg = s.neg ∧ (switchCheck p tag s).tiers = s.tiers ∧ (switchCheck p
    tag s).irq = s.irq ∧ (switchCheck p tag s).bus = s.bus ∧ (switchCheck p tag s).sec = s.sec ∧ (switchCheck p tag
    s).free = s.free ∧ (switchCheck p tag s).pending = s.pending := by
  unfold switchCheck
  try dsimp only
  (repeat' split) <;> simp_all

@[simp] theorem writeStore_keeps (p : PortId) (r : Req) (e : List Byte) (data : List Byte) (enc : List Byte) (mask :
    U16) (s : State) : (writeStore p r e data enc mask s).ident = s.ident ∧ (writeStore p r e data enc mask
    s).supply = s.supply ∧ (writeStore p r e data enc mask s).sys = s.sys ∧ (writeStore p r e data enc mask s).rails
    = s.rails ∧ (writeStore p r e data enc mask s).seq = s.seq ∧ (writeStore p r e data enc mask s).log = s.log ∧
    (writeStore p r e data enc mask s).cell = s.cell ∧ (writeStore p r e data enc mask s).flash = s.flash ∧
    (writeStore p r e data enc mask s).shadow = s.shadow ∧ (writeStore p r e data enc mask s).light = s.light ∧
    (writeStore p r e data enc mask s).neg = s.neg ∧ (writeStore p r e data enc mask s).sec = s.sec ∧ (writeStore p
    r e data enc mask s).pending = s.pending := by
  unfold writeStore
  dsimp only
  split
  · simp
  · have k1 := slotFor_keeps (tileKey r.stream r.tile) (accountOf r.stream) s
    rcases h1 : slotFor (tileKey r.stream r.tile) (accountOf r.stream) s with ⟨o, v⟩
    rw [h1] at k1
    cases o with
    | none => simp
    | some b =>
      dsimp only
      split
      · have hk := storeTile_keeps _ _ _ _ _ _ _ _ (by assumption)
        simp_all
      · simp

@[simp] theorem writeEncoded_keeps (p : PortId) (r : Req) (e : List Byte) (bs : List Byte) (s : State) :
    (writeEncoded p r e bs s).ident = s.ident ∧ (writeEncoded p r e bs s).supply = s.supply ∧ (writeEncoded p r e bs
    s).sys = s.sys ∧ (writeEncoded p r e bs s).rails = s.rails ∧ (writeEncoded p r e bs s).seq = s.seq ∧
    (writeEncoded p r e bs s).log = s.log ∧ (writeEncoded p r e bs s).cell = s.cell ∧ (writeEncoded p r e bs
    s).flash = s.flash ∧ (writeEncoded p r e bs s).shadow = s.shadow ∧ (writeEncoded p r e bs s).light = s.light ∧
    (writeEncoded p r e bs s).neg = s.neg ∧ (writeEncoded p r e bs s).sec = s.sec ∧ (writeEncoded p r e bs
    s).pending = s.pending := by
  unfold writeEncoded
  simp

@[simp] theorem writePlain_keeps (p : PortId) (r : Req) (e : List Byte) (bs : List Byte) (s : State) : (writePlain p
    r e bs s).ident = s.ident ∧ (writePlain p r e bs s).supply = s.supply ∧ (writePlain p r e bs s).sys = s.sys ∧
    (writePlain p r e bs s).rails = s.rails ∧ (writePlain p r e bs s).seq = s.seq ∧ (writePlain p r e bs s).log =
    s.log ∧ (writePlain p r e bs s).cell = s.cell ∧ (writePlain p r e bs s).flash = s.flash ∧ (writePlain p r e bs
    s).shadow = s.shadow ∧ (writePlain p r e bs s).light = s.light ∧ (writePlain p r e bs s).neg = s.neg ∧
    (writePlain p r e bs s).sec = s.sec ∧ (writePlain p r e bs s).pending = s.pending := by
  unfold writePlain
  dsimp only
  split
  · simp
  split
  · simp
  split
  · simp
  split
  · simp
  split
  · simp
  · have k1 := beforeWrite_keeps (tileKey r.stream r.tile) e (queueRead (tileKey r.stream r.tile) 5 0 s)
    rcases h1 : beforeWrite (tileKey r.stream r.tile) e (queueRead (tileKey r.stream r.tile) 5 0 s) with ⟨f, u⟩
    rw [h1] at k1
    cases f <;> simp_all

@[simp] theorem serveWrite_keeps (p : PortId) (tag : U16) (data : BufferRead) (s : State) : (serveWrite p tag data
    s).ident = s.ident ∧ (serveWrite p tag data s).supply = s.supply ∧ (serveWrite p tag data s).sys = s.sys ∧
    (serveWrite p tag data s).rails = s.rails ∧ (serveWrite p tag data s).seq = s.seq ∧ (serveWrite p tag data
    s).log = s.log ∧ (serveWrite p tag data s).cell = s.cell ∧ (serveWrite p tag data s).flash = s.flash ∧
    (serveWrite p tag data s).shadow = s.shadow ∧ (serveWrite p tag data s).light = s.light ∧ (serveWrite p tag data
    s).neg = s.neg ∧ (serveWrite p tag data s).sec = s.sec ∧ (serveWrite p tag data s).pending = s.pending := by
  unfold serveWrite
  try dsimp only
  (repeat' split) <;> simp_all

@[simp] theorem serveFlush_keeps (p : PortId) (tag : U16) (s : State) : (serveFlush p tag s).ident = s.ident ∧
    (serveFlush p tag s).supply = s.supply ∧ (serveFlush p tag s).sys = s.sys ∧ (serveFlush p tag s).rails = s.rails
    ∧ (serveFlush p tag s).seq = s.seq ∧ (serveFlush p tag s).log = s.log ∧ (serveFlush p tag s).cell = s.cell ∧
    (serveFlush p tag s).flash = s.flash ∧ (serveFlush p tag s).shadow = s.shadow ∧ (serveFlush p tag s).light =
    s.light ∧ (serveFlush p tag s).neg = s.neg ∧ (serveFlush p tag s).nand = s.nand ∧ (serveFlush p tag s).tiers =
    s.tiers ∧ (serveFlush p tag s).irq = s.irq ∧ (serveFlush p tag s).bus = s.bus ∧ (serveFlush p tag s).sec = s.sec
    ∧ (serveFlush p tag s).free = s.free ∧ (serveFlush p tag s).pending = s.pending := by
  unfold serveFlush
  try dsimp only
  (repeat' split) <;> simp_all

@[simp] theorem serveNop_keeps (p : PortId) (tag : U16) (s : State) : (serveNop p tag s).ident = s.ident ∧ (serveNop
    p tag s).supply = s.supply ∧ (serveNop p tag s).sys = s.sys ∧ (serveNop p tag s).rails = s.rails ∧ (serveNop p
    tag s).seq = s.seq ∧ (serveNop p tag s).log = s.log ∧ (serveNop p tag s).cell = s.cell ∧ (serveNop p tag
    s).flash = s.flash ∧ (serveNop p tag s).shadow = s.shadow ∧ (serveNop p tag s).light = s.light ∧ (serveNop p tag
    s).neg = s.neg ∧ (serveNop p tag s).nand = s.nand ∧ (serveNop p tag s).tiers = s.tiers ∧ (serveNop p tag s).irq
    = s.irq ∧ (serveNop p tag s).bus = s.bus ∧ (serveNop p tag s).sec = s.sec ∧ (serveNop p tag s).free = s.free ∧
    (serveNop p tag s).pending = s.pending := by
  unfold serveNop
  try dsimp only
  (repeat' split) <;> simp_all

@[simp] theorem writeCompletion_keeps (p : PortId) (r : Req) (d : Done) (s : State) : (writeCompletion p r d
    s).ident = s.ident ∧ (writeCompletion p r d s).supply = s.supply ∧ (writeCompletion p r d s).sys = s.sys ∧
    (writeCompletion p r d s).rails = s.rails ∧ (writeCompletion p r d s).seq = s.seq ∧ (writeCompletion p r d
    s).log = s.log ∧ (writeCompletion p r d s).cell = s.cell ∧ (writeCompletion p r d s).flash = s.flash ∧
    (writeCompletion p r d s).shadow = s.shadow ∧ (writeCompletion p r d s).light = s.light ∧ (writeCompletion p r d
    s).neg = s.neg ∧ (writeCompletion p r d s).nand = s.nand ∧ (writeCompletion p r d s).irq = s.irq ∧
    (writeCompletion p r d s).bus = s.bus ∧ (writeCompletion p r d s).sec = s.sec ∧ (writeCompletion p r d s).free =
    s.free ∧ (writeCompletion p r d s).pending = s.pending := by
  unfold writeCompletion
  simp

@[simp] theorem bufferLeft_keeps (p : PortId) (r : Req) (d : Done) (s : State) : (bufferLeft p r d s).ident =
    s.ident ∧ (bufferLeft p r d s).supply = s.supply ∧ (bufferLeft p r d s).sys = s.sys ∧ (bufferLeft p r d s).rails
    = s.rails ∧ (bufferLeft p r d s).seq = s.seq ∧ (bufferLeft p r d s).log = s.log ∧ (bufferLeft p r d s).cell =
    s.cell ∧ (bufferLeft p r d s).flash = s.flash ∧ (bufferLeft p r d s).shadow = s.shadow ∧ (bufferLeft p r d
    s).light = s.light ∧ (bufferLeft p r d s).neg = s.neg ∧ (bufferLeft p r d s).nand = s.nand ∧ (bufferLeft p r d
    s).tiers = s.tiers ∧ (bufferLeft p r d s).irq = s.irq ∧ (bufferLeft p r d s).bus = s.bus ∧ (bufferLeft p r d
    s).sec = s.sec ∧ (bufferLeft p r d s).pending = s.pending := by
  unfold bufferLeft
  simp

@[simp] theorem complete_keeps (p : PortId) (tag : U16) (s : State) : (complete p tag s).ident = s.ident ∧ (complete
    p tag s).supply = s.supply ∧ (complete p tag s).sys = s.sys ∧ (complete p tag s).rails = s.rails ∧ (complete p
    tag s).seq = s.seq ∧ (complete p tag s).log = s.log ∧ (complete p tag s).cell = s.cell ∧ (complete p tag
    s).flash = s.flash ∧ (complete p tag s).shadow = s.shadow ∧ (complete p tag s).light = s.light ∧ (complete p tag
    s).neg = s.neg ∧ (complete p tag s).sec = s.sec ∧ (complete p tag s).pending = s.pending := by
  unfold complete
  try dsimp only
  (repeat' split) <;> simp_all

@[simp] theorem invalidationEnds_keeps (path : Sys2Proof.Path) (s : State) : (invalidationEnds path s).ident =
    s.ident ∧ (invalidationEnds path s).supply = s.supply ∧ (invalidationEnds path s).sys = s.sys ∧
    (invalidationEnds path s).rails = s.rails ∧ (invalidationEnds path s).seq = s.seq ∧ (invalidationEnds path
    s).log = s.log ∧ (invalidationEnds path s).cell = s.cell ∧ (invalidationEnds path s).flash = s.flash ∧
    (invalidationEnds path s).shadow = s.shadow ∧ (invalidationEnds path s).light = s.light ∧ (invalidationEnds path
    s).neg = s.neg ∧ (invalidationEnds path s).nand = s.nand ∧ (invalidationEnds path s).irq = s.irq ∧
    (invalidationEnds path s).bus = s.bus ∧ (invalidationEnds path s).sec = s.sec ∧ (invalidationEnds path s).free =
    s.free ∧ (invalidationEnds path s).pending = s.pending := by
  unfold invalidationEnds
  try dsimp only
  (repeat' split) <;> simp_all

@[simp] theorem invalidateFrom_keeps (path : Sys2Proof.Path) (stream : U16) (s : State) : (invalidateFrom path
    stream s).ident = s.ident ∧ (invalidateFrom path stream s).supply = s.supply ∧ (invalidateFrom path stream
    s).sys = s.sys ∧ (invalidateFrom path stream s).rails = s.rails ∧ (invalidateFrom path stream s).seq = s.seq ∧
    (invalidateFrom path stream s).log = s.log ∧ (invalidateFrom path stream s).cell = s.cell ∧ (invalidateFrom path
    stream s).flash = s.flash ∧ (invalidateFrom path stream s).shadow = s.shadow ∧ (invalidateFrom path stream
    s).light = s.light ∧ (invalidateFrom path stream s).neg = s.neg ∧ (invalidateFrom path stream s).nand = s.nand ∧
    (invalidateFrom path stream s).sec = s.sec ∧ (invalidateFrom path stream s).pending = s.pending := by
  unfold invalidateFrom
  try dsimp only
  (repeat' split) <;> simp_all

@[simp] theorem bar2Store_keeps (p : PortId) (off : Nat) (data : List Byte) (s : State) : (bar2Store p off data
    s).ident = s.ident ∧ (bar2Store p off data s).supply = s.supply ∧ (bar2Store p off data s).sys = s.sys ∧
    (bar2Store p off data s).rails = s.rails ∧ (bar2Store p off data s).seq = s.seq ∧ (bar2Store p off data s).log =
    s.log ∧ (bar2Store p off data s).cell = s.cell ∧ (bar2Store p off data s).flash = s.flash ∧ (bar2Store p off
    data s).shadow = s.shadow ∧ (bar2Store p off data s).light = s.light ∧ (bar2Store p off data s).neg = s.neg ∧
    (bar2Store p off data s).nand = s.nand ∧ (bar2Store p off data s).sec = s.sec ∧ (bar2Store p off data s).pending
    = s.pending := by
  unfold bar2Store
  simp

@[simp] theorem bar2Fetch_keeps (p : PortId) (off : Nat) (len : Nat) (s : State) : (bar2Fetch p off len s).ident =
    s.ident ∧ (bar2Fetch p off len s).supply = s.supply ∧ (bar2Fetch p off len s).sys = s.sys ∧ (bar2Fetch p off len
    s).rails = s.rails ∧ (bar2Fetch p off len s).seq = s.seq ∧ (bar2Fetch p off len s).log = s.log ∧ (bar2Fetch p
    off len s).cell = s.cell ∧ (bar2Fetch p off len s).flash = s.flash ∧ (bar2Fetch p off len s).shadow = s.shadow ∧
    (bar2Fetch p off len s).light = s.light ∧ (bar2Fetch p off len s).neg = s.neg ∧ (bar2Fetch p off len s).nand =
    s.nand ∧ (bar2Fetch p off len s).tiers = s.tiers ∧ (bar2Fetch p off len s).sec = s.sec ∧ (bar2Fetch p off len
    s).pending = s.pending := by
  unfold bar2Fetch
  simp

@[simp] theorem portsUp_keeps (s : State) : (portsUp s).ident = s.ident ∧ (portsUp s).supply = s.supply ∧ (portsUp
    s).sys = s.sys ∧ (portsUp s).rails = s.rails ∧ (portsUp s).seq = s.seq ∧ (portsUp s).log = s.log ∧ (portsUp
    s).cell = s.cell ∧ (portsUp s).flash = s.flash ∧ (portsUp s).shadow = s.shadow ∧ (portsUp s).light = s.light ∧
    (portsUp s).neg = s.neg ∧ (portsUp s).nand = s.nand ∧ (portsUp s).tiers = s.tiers ∧ (portsUp s).irq = s.irq ∧
    (portsUp s).bus = s.bus ∧ (portsUp s).sec = s.sec ∧ (portsUp s).free = s.free ∧ (portsUp s).pending = s.pending
    := by
  unfold portsUp
  simp

@[simp] theorem linkComesUp_keeps (p : PortId) (speed : Byte) (width : Byte) (s : State) : (linkComesUp p speed
    width s).ident = s.ident ∧ (linkComesUp p speed width s).supply = s.supply ∧ (linkComesUp p speed width s).sys =
    s.sys ∧ (linkComesUp p speed width s).rails = s.rails ∧ (linkComesUp p speed width s).seq = s.seq ∧ (linkComesUp
    p speed width s).log = s.log ∧ (linkComesUp p speed width s).cell = s.cell ∧ (linkComesUp p speed width s).flash
    = s.flash ∧ (linkComesUp p speed width s).shadow = s.shadow ∧ (linkComesUp p speed width s).light = s.light ∧
    (linkComesUp p speed width s).neg = s.neg ∧ (linkComesUp p speed width s).nand = s.nand ∧ (linkComesUp p speed
    width s).tiers = s.tiers ∧ (linkComesUp p speed width s).sec = s.sec ∧ (linkComesUp p speed width s).pending =
    s.pending := by
  unfold linkComesUp
  simp

@[simp] theorem resetPort_keeps (p : PortId) (kind : ResetKind) (s : State) : (resetPort p kind s).ident = s.ident ∧
    (resetPort p kind s).supply = s.supply ∧ (resetPort p kind s).sys = s.sys ∧ (resetPort p kind s).rails = s.rails
    ∧ (resetPort p kind s).seq = s.seq ∧ (resetPort p kind s).log = s.log ∧ (resetPort p kind s).cell = s.cell ∧
    (resetPort p kind s).flash = s.flash ∧ (resetPort p kind s).shadow = s.shadow ∧ (resetPort p kind s).light =
    s.light ∧ (resetPort p kind s).neg = s.neg ∧ (resetPort p kind s).sec =
    s.sec ∧ (resetPort p kind s).pending = s.pending := by
  unfold resetPort
  simp

@[simp] theorem portsDown_keeps (s : State) : (portsDown s).ident = s.ident ∧ (portsDown s).supply = s.supply ∧
    (portsDown s).sys = s.sys ∧ (portsDown s).rails = s.rails ∧ (portsDown s).seq = s.seq ∧ (portsDown s).log =
    s.log ∧ (portsDown s).cell = s.cell ∧ (portsDown s).flash = s.flash ∧ (portsDown s).shadow = s.shadow ∧
    (portsDown s).light = s.light ∧ (portsDown s).neg = s.neg ∧ (portsDown s).sec =
    s.sec ∧ (portsDown s).pending = s.pending := by
  unfold portsDown
  simp

@[simp] theorem preemptPort_keeps (p : PortId) (s : State) : (preemptPort p s).ident = s.ident ∧ (preemptPort p
    s).supply = s.supply ∧ (preemptPort p s).sys = s.sys ∧ (preemptPort p s).rails = s.rails ∧ (preemptPort p s).seq
    = s.seq ∧ (preemptPort p s).log = s.log ∧ (preemptPort p s).cell = s.cell ∧ (preemptPort p s).flash = s.flash ∧
    (preemptPort p s).shadow = s.shadow ∧ (preemptPort p s).light = s.light ∧ (preemptPort p s).neg = s.neg ∧
    (preemptPort p s).tiers = s.tiers ∧ (preemptPort p s).irq = s.irq ∧ (preemptPort p s).bus = s.bus ∧ (preemptPort
    p s).sec = s.sec ∧ (preemptPort p s).free = s.free ∧ (preemptPort p s).pending = s.pending := by
  unfold preemptPort
  simp

@[simp] theorem preemptAll_keeps (s : State) : (preemptAll s).ident = s.ident ∧ (preemptAll s).supply = s.supply ∧
    (preemptAll s).sys = s.sys ∧ (preemptAll s).rails = s.rails ∧ (preemptAll s).seq = s.seq ∧ (preemptAll s).log =
    s.log ∧ (preemptAll s).cell = s.cell ∧ (preemptAll s).flash = s.flash ∧ (preemptAll s).shadow = s.shadow ∧
    (preemptAll s).light = s.light ∧ (preemptAll s).neg = s.neg ∧ (preemptAll s).tiers = s.tiers ∧ (preemptAll
    s).irq = s.irq ∧ (preemptAll s).bus = s.bus ∧ (preemptAll s).sec = s.sec ∧ (preemptAll s).free = s.free ∧
    (preemptAll s).pending = s.pending := by
  unfold preemptAll
  simp

@[simp] theorem setMsix_keeps (p : PortId) (m : MsixState) (s : State) : (setMsix p m s).ident = s.ident ∧ (setMsix
    p m s).supply = s.supply ∧ (setMsix p m s).sys = s.sys ∧ (setMsix p m s).rails = s.rails ∧ (setMsix p m s).seq =
    s.seq ∧ (setMsix p m s).log = s.log ∧ (setMsix p m s).cell = s.cell ∧ (setMsix p m s).flash = s.flash ∧ (setMsix
    p m s).shadow = s.shadow ∧ (setMsix p m s).light = s.light ∧ (setMsix p m s).neg = s.neg ∧ (setMsix p m s).nand
    = s.nand ∧ (setMsix p m s).tiers = s.tiers ∧ (setMsix p m s).sec = s.sec ∧ (setMsix p m s).pending = s.pending
    := by
  unfold setMsix
  simp

@[simp] theorem pcieError_keeps (p : PortId) (uncorrectable : Bool) (recoverable : Bool) (s : State) : (pcieError p
    uncorrectable recoverable s).ident = s.ident ∧ (pcieError p uncorrectable recoverable s).supply = s.supply ∧
    (pcieError p uncorrectable recoverable s).sys = s.sys ∧ (pcieError p uncorrectable recoverable s).rails =
    s.rails ∧ (pcieError p uncorrectable recoverable s).seq = s.seq ∧ (pcieError p uncorrectable recoverable s).log
    = s.log ∧ (pcieError p uncorrectable recoverable s).cell = s.cell ∧ (pcieError p uncorrectable recoverable
    s).flash = s.flash ∧ (pcieError p uncorrectable recoverable s).shadow = s.shadow ∧ (pcieError p uncorrectable
    recoverable s).light = s.light ∧ (pcieError p uncorrectable recoverable s).neg = s.neg ∧ (pcieError p uncorrectable recoverable s).sec = s.sec ∧
    (pcieError p uncorrectable recoverable s).pending = s.pending := by
  unfold pcieError
  simp

@[simp] theorem endCycle_keeps (s : State) (m : PortId × U16) : (endCycle s m).ident = s.ident ∧ (endCycle s
    m).supply = s.supply ∧ (endCycle s m).sys = s.sys ∧ (endCycle s m).rails = s.rails ∧ (endCycle s m).seq = s.seq
    ∧ (endCycle s m).log = s.log ∧ (endCycle s m).cell = s.cell ∧ (endCycle s m).flash = s.flash ∧ (endCycle s
    m).shadow = s.shadow ∧ (endCycle s m).light = s.light ∧ (endCycle s m).neg = s.neg ∧ (endCycle s m).nand =
    s.nand ∧ (endCycle s m).sec = s.sec ∧ (endCycle s m).pending = s.pending := by
  unfold endCycle
  try dsimp only
  (repeat' split) <;> simp_all

@[simp] theorem sweep_keeps (s : State) : (sweep s).ident = s.ident ∧ (sweep s).supply = s.supply ∧ (sweep s).sys =
    s.sys ∧ (sweep s).rails = s.rails ∧ (sweep s).seq = s.seq ∧ (sweep s).log = s.log ∧ (sweep s).cell = s.cell ∧
    (sweep s).flash = s.flash ∧ (sweep s).shadow = s.shadow ∧ (sweep s).light = s.light ∧ (sweep s).neg = s.neg ∧
    (sweep s).nand = s.nand ∧ (sweep s).sec = s.sec ∧ (sweep s).pending = s.pending := by
  unfold sweep
  simp

end Sys2Proof.Machine
end

