-- ==== Sys2Proof/Laws/KeepsStates.lean ====
section
/-! SUPPORT. What each operation of Machine/States, Boot leaves as it was: one lemma an operation, for `simp`. -/

set_option linter.unusedSimpArgs false
set_option linter.unusedVariables false
set_option linter.unusedTactic false
set_option linter.unreachableTactic false

namespace Sys2Proof.Machine

@[simp] theorem onSys_keeps (f : Sys → Sys) (s : State) : (onSys f s).ident = s.ident ∧ (onSys f s).supply =
    s.supply ∧ (onSys f s).rails = s.rails ∧ (onSys f s).seq = s.seq ∧ (onSys f s).log = s.log ∧ (onSys f s).cell =
    s.cell ∧ (onSys f s).flash = s.flash ∧ (onSys f s).shadow = s.shadow ∧ (onSys f s).light = s.light ∧ (onSys f
    s).neg = s.neg ∧ (onSys f s).nand = s.nand ∧ (onSys f s).tiers = s.tiers ∧ (onSys f s).ports = s.ports ∧ (onSys
    f s).irq = s.irq ∧ (onSys f s).bus = s.bus ∧ (onSys f s).sec = s.sec ∧ (onSys f s).free = s.free ∧ (onSys f
    s).pending = s.pending := by
  unfold onSys
  simp

@[simp] theorem onSupply_keeps (f : Supply → Supply) (s : State) : (onSupply f s).ident = s.ident ∧ (onSupply f
    s).sys = s.sys ∧ (onSupply f s).rails = s.rails ∧ (onSupply f s).seq = s.seq ∧ (onSupply f s).log = s.log ∧
    (onSupply f s).cell = s.cell ∧ (onSupply f s).flash = s.flash ∧ (onSupply f s).shadow = s.shadow ∧ (onSupply f
    s).light = s.light ∧ (onSupply f s).neg = s.neg ∧ (onSupply f s).nand = s.nand ∧ (onSupply f s).tiers = s.tiers
    ∧ (onSupply f s).ports = s.ports ∧ (onSupply f s).irq = s.irq ∧ (onSupply f s).bus = s.bus ∧ (onSupply f s).sec
    = s.sec ∧ (onSupply f s).free = s.free ∧ (onSupply f s).pending = s.pending := by
  unfold onSupply
  simp

@[simp] theorem mainUp_keeps (boot : Bool) (s : State) : (mainUp boot s).ident = s.ident ∧ (mainUp boot s).supply =
    s.supply ∧ (mainUp boot s).rails = s.rails ∧ (mainUp boot s).seq = s.seq ∧ (mainUp boot s).log = s.log ∧ (mainUp
    boot s).cell = s.cell ∧ (mainUp boot s).flash = s.flash ∧ (mainUp boot s).shadow = s.shadow ∧ (mainUp boot
    s).neg = s.neg ∧ (mainUp boot s).nand = s.nand ∧ (mainUp boot s).tiers = s.tiers ∧ (mainUp boot s).sec = s.sec ∧
    (mainUp boot s).pending = s.pending := by
  unfold mainUp
  simp

@[simp] theorem mainDown_keeps (s : State) : (mainDown s).ident = s.ident ∧ (mainDown s).rails = s.rails ∧ (mainDown
    s).seq = s.seq ∧ (mainDown s).log = s.log ∧ (mainDown s).cell = s.cell ∧ (mainDown s).flash = s.flash ∧
    (mainDown s).shadow = s.shadow ∧ (mainDown s).pending = s.pending := by
  unfold mainDown
  simp

@[simp] theorem pllOff_keeps (s : State) : (pllOff s).ident = s.ident ∧ (pllOff s).sys = s.sys ∧ (pllOff s).rails =
    s.rails ∧ (pllOff s).seq = s.seq ∧ (pllOff s).log = s.log ∧ (pllOff s).cell = s.cell ∧ (pllOff s).flash =
    s.flash ∧ (pllOff s).shadow = s.shadow ∧ (pllOff s).light = s.light ∧ (pllOff s).neg = s.neg ∧ (pllOff s).nand =
    s.nand ∧ (pllOff s).tiers = s.tiers ∧ (pllOff s).ports = s.ports ∧ (pllOff s).irq = s.irq ∧ (pllOff s).bus =
    s.bus ∧ (pllOff s).sec = s.sec ∧ (pllOff s).free = s.free ∧ (pllOff s).pending = s.pending := by
  unfold pllOff
  simp

@[simp] theorem pllOn_keeps (s : State) : (pllOn s).ident = s.ident ∧ (pllOn s).rails = s.rails ∧ (pllOn s).seq =
    s.seq ∧ (pllOn s).log = s.log ∧ (pllOn s).cell = s.cell ∧ (pllOn s).flash = s.flash ∧ (pllOn s).shadow =
    s.shadow ∧ (pllOn s).light = s.light ∧ (pllOn s).neg = s.neg ∧ (pllOn s).nand = s.nand ∧ (pllOn s).tiers =
    s.tiers ∧ (pllOn s).ports = s.ports ∧ (pllOn s).irq = s.irq ∧ (pllOn s).bus = s.bus ∧ (pllOn s).sec = s.sec ∧
    (pllOn s).free = s.free ∧ (pllOn s).pending = s.pending := by
  unfold pllOn
  simp

@[simp] theorem railsVolatile_keeps (s : State) : (railsVolatile s).ident = s.ident ∧ (railsVolatile s).supply =
    s.supply ∧ (railsVolatile s).sys = s.sys ∧ (railsVolatile s).seq = s.seq ∧ (railsVolatile s).log = s.log ∧
    (railsVolatile s).cell = s.cell ∧ (railsVolatile s).flash = s.flash ∧ (railsVolatile s).shadow = s.shadow ∧
    (railsVolatile s).light = s.light ∧ (railsVolatile s).neg = s.neg ∧ (railsVolatile s).nand = s.nand ∧
    (railsVolatile s).tiers = s.tiers ∧ (railsVolatile s).ports = s.ports ∧ (railsVolatile s).irq = s.irq ∧
    (railsVolatile s).bus = s.bus ∧ (railsVolatile s).sec = s.sec ∧ (railsVolatile s).free = s.free ∧ (railsVolatile
    s).pending = s.pending := by
  unfold railsVolatile
  simp

@[simp] theorem volatileReset_keeps (s : State) : (volatileReset s).ident = s.ident ∧ (volatileReset s).sys = s.sys
    ∧ (volatileReset s).log = s.log ∧ (volatileReset s).shadow = s.shadow ∧ (volatileReset s).irq = s.irq ∧
    (volatileReset s).free = s.free ∧ (volatileReset s).pending = s.pending := by
  unfold volatileReset
  simp

@[simp] theorem bootEntry_keeps (cause : Byte) (s : State) : (bootEntry cause s).ident = s.ident ∧ (bootEntry cause
    s).rails = s.rails ∧ (bootEntry cause s).seq = s.seq ∧ (bootEntry cause s).log = s.log ∧ (bootEntry cause
    s).cell = s.cell ∧ (bootEntry cause s).shadow = s.shadow ∧ (bootEntry cause s).light = s.light ∧ (bootEntry
    cause s).nand = s.nand ∧ (bootEntry cause s).tiers = s.tiers ∧ (bootEntry cause s).ports = s.ports ∧ (bootEntry
    cause s).pending = s.pending := by
  unfold bootEntry
  simp

@[simp] theorem bootFrom_keeps (cause : Byte) (s : State) : (bootFrom cause s).ident = s.ident ∧ (bootFrom cause
    s).log = s.log ∧ (bootFrom cause s).shadow = s.shadow ∧ (bootFrom cause s).pending = s.pending := by
  unfold bootFrom
  simp

@[simp] theorem enterRun_keeps (cause : Byte) (s : State) : (enterRun cause s).ident = s.ident ∧ (enterRun cause
    s).rails = s.rails ∧ (enterRun cause s).seq = s.seq ∧ (enterRun cause s).shadow = s.shadow ∧ (enterRun cause
    s).light = s.light ∧ (enterRun cause s).tiers = s.tiers ∧ (enterRun cause s).ports = s.ports ∧ (enterRun cause
    s).pending = s.pending := by
  unfold enterRun
  simp

@[simp] theorem exposeWork_keeps (powerFail : Bool) (s : State) : (exposeWork powerFail s).ident = s.ident ∧
    (exposeWork powerFail s).supply = s.supply ∧ (exposeWork powerFail s).sys = s.sys ∧ (exposeWork powerFail
    s).rails = s.rails ∧ (exposeWork powerFail s).seq = s.seq ∧ (exposeWork powerFail s).log = s.log ∧ (exposeWork
    powerFail s).cell = s.cell ∧ (exposeWork powerFail s).flash = s.flash ∧ (exposeWork powerFail s).shadow =
    s.shadow ∧ (exposeWork powerFail s).light = s.light ∧ (exposeWork powerFail s).neg = s.neg ∧ (exposeWork
    powerFail s).tiers = s.tiers ∧ (exposeWork powerFail s).ports = s.ports ∧ (exposeWork powerFail s).irq = s.irq ∧
    (exposeWork powerFail s).bus = s.bus ∧ (exposeWork powerFail s).sec = s.sec ∧ (exposeWork powerFail s).free =
    s.free ∧ (exposeWork powerFail s).pending = s.pending := by
  unfold exposeWork
  simp

@[simp] theorem beginExpose_keeps (cause : Byte) (target : Byte) (powerFail : Bool) (s : State) : (beginExpose cause
    target powerFail s).ident = s.ident ∧ (beginExpose cause target powerFail s).supply = s.supply ∧ (beginExpose
    cause target powerFail s).seq = s.seq ∧ (beginExpose cause target powerFail s).log = s.log ∧ (beginExpose cause
    target powerFail s).cell = s.cell ∧ (beginExpose cause target powerFail s).shadow = s.shadow ∧ (beginExpose
    cause target powerFail s).tiers = s.tiers ∧ (beginExpose cause target powerFail s).ports = s.ports ∧
    (beginExpose cause target powerFail s).pending = s.pending := by
  unfold beginExpose
  simp

@[simp] theorem enterDevelop_keeps (cause : Byte) (fromPartial : Bool) (s : State) : (enterDevelop cause fromPartial
    s).ident = s.ident ∧ (enterDevelop cause fromPartial s).supply = s.supply ∧ (enterDevelop cause fromPartial
    s).seq = s.seq ∧ (enterDevelop cause fromPartial s).log = s.log ∧ (enterDevelop cause fromPartial s).cell =
    s.cell ∧ (enterDevelop cause fromPartial s).shadow = s.shadow ∧ (enterDevelop cause fromPartial s).tiers =
    s.tiers ∧ (enterDevelop cause fromPartial s).ports = s.ports ∧ (enterDevelop cause fromPartial s).pending =
    s.pending := by
  unfold enterDevelop
  simp

@[simp] theorem wake_keeps (cause : Byte) (s : State) : (wake cause s).ident = s.ident ∧ (wake cause s).log = s.log
    ∧ (wake cause s).shadow = s.shadow ∧ (wake cause s).pending = s.pending := by
  unfold wake
  simp

@[simp] theorem debounce_keeps (s : State) : (debounce s).ident = s.ident ∧ (debounce s).sys = s.sys ∧ (debounce
    s).rails = s.rails ∧ (debounce s).seq = s.seq ∧ (debounce s).log = s.log ∧ (debounce s).cell = s.cell ∧
    (debounce s).flash = s.flash ∧ (debounce s).shadow = s.shadow ∧ (debounce s).light = s.light ∧ (debounce s).neg
    = s.neg ∧ (debounce s).nand = s.nand ∧ (debounce s).tiers = s.tiers ∧ (debounce s).ports = s.ports ∧ (debounce
    s).irq = s.irq ∧ (debounce s).bus = s.bus ∧ (debounce s).sec = s.sec ∧ (debounce s).free = s.free ∧ (debounce
    s).pending = s.pending := by
  unfold debounce
  simp

@[simp] theorem coldLost_keeps (s : State) : (coldLost s).ident = s.ident ∧ (coldLost s).supply = s.supply ∧
    (coldLost s).sys = s.sys ∧ (coldLost s).rails = s.rails ∧ (coldLost s).seq = s.seq ∧ (coldLost s).log = s.log ∧
    (coldLost s).cell = s.cell ∧ (coldLost s).flash = s.flash ∧ (coldLost s).shadow = s.shadow ∧ (coldLost s).neg =
    s.neg ∧ (coldLost s).nand = s.nand ∧ (coldLost s).tiers = s.tiers ∧ (coldLost s).ports = s.ports ∧ (coldLost
    s).irq = s.irq ∧ (coldLost s).bus = s.bus ∧ (coldLost s).sec = s.sec ∧ (coldLost s).pending = s.pending := by
  unfold coldLost
  simp

@[simp] theorem finishHold_keeps (s : State) : (finishHold s).ident = s.ident ∧ (finishHold s).shadow = s.shadow ∧
    (finishHold s).pending = s.pending := by
  unfold finishHold
  simp

@[simp] theorem finishDark_keeps (cause : Byte) (s : State) : (finishDark cause s).ident = s.ident ∧ (finishDark
    cause s).rails = s.rails ∧ (finishDark cause s).seq = s.seq ∧ (finishDark cause s).log = s.log ∧ (finishDark
    cause s).cell = s.cell ∧ (finishDark cause s).shadow = s.shadow ∧ (finishDark cause s).pending = s.pending := by
  unfold finishDark
  simp

@[simp] theorem leaveDisable_keeps (l : Leave) (s : State) : (leaveDisable l s).ident = s.ident ∧ (leaveDisable l
    s).shadow = s.shadow ∧ (leaveDisable l s).pending = s.pending := by
  unfold leaveDisable
  try dsimp only
  (repeat' split) <;> simp_all

@[simp] theorem leaveProgram_keeps (l : Leave) (s : State) : (leaveProgram l s).ident = s.ident ∧ (leaveProgram l
    s).shadow = s.shadow ∧ (leaveProgram l s).pending = s.pending := by
  unfold leaveProgram
  simp

@[simp] theorem beginLeave_keeps (l : Leave) (s : State) : (beginLeave l s).ident = s.ident ∧ (beginLeave l
    s).shadow = s.shadow ∧ (beginLeave l s).pending = s.pending := by
  unfold beginLeave
  simp

@[simp] theorem tierSaveEnds_keeps (s : State) : (tierSaveEnds s).ident = s.ident ∧ (tierSaveEnds s).shadow =
    s.shadow ∧ (tierSaveEnds s).pending = s.pending := by
  unfold tierSaveEnds
  try dsimp only
  (repeat' split) <;> simp_all

@[simp] theorem criticalDisabled_keeps (s : State) : (criticalDisabled s).ident = s.ident ∧ (criticalDisabled
    s).shadow = s.shadow ∧ (criticalDisabled s).pending = s.pending := by
  unfold criticalDisabled
  try dsimp only
  (repeat' split) <;> simp_all

@[simp] theorem bootTestFault_keeps (s : State) : (bootTestFault s).ident = s.ident ∧ (bootTestFault s).supply =
    s.supply ∧ (bootTestFault s).rails = s.rails ∧ (bootTestFault s).seq = s.seq ∧ (bootTestFault s).log = s.log ∧
    (bootTestFault s).cell = s.cell ∧ (bootTestFault s).shadow = s.shadow ∧ (bootTestFault s).light = s.light ∧
    (bootTestFault s).neg = s.neg ∧ (bootTestFault s).nand = s.nand ∧ (bootTestFault s).tiers = s.tiers ∧
    (bootTestFault s).ports = s.ports ∧ (bootTestFault s).pending = s.pending := by
  unfold bootTestFault
  simp

@[simp] theorem afterProgram_keeps (before : State) (s : State) : (afterProgram before s).ident = s.ident ∧
    (afterProgram before s).shadow = s.shadow ∧ (afterProgram before s).pending = s.pending := by
  unfold afterProgram
  try dsimp only
  (repeat' split) <;> simp_all

@[simp] theorem channelsStop_keeps (s : State) : (channelsStop s).ident = s.ident ∧ (channelsStop s).supply =
    s.supply ∧ (channelsStop s).sys = s.sys ∧ (channelsStop s).rails = s.rails ∧ (channelsStop s).seq = s.seq ∧
    (channelsStop s).log = s.log ∧ (channelsStop s).cell = s.cell ∧ (channelsStop s).flash = s.flash ∧ (channelsStop
    s).shadow = s.shadow ∧ (channelsStop s).light = s.light ∧ (channelsStop s).neg = s.neg ∧ (channelsStop s).tiers
    = s.tiers ∧ (channelsStop s).ports = s.ports ∧ (channelsStop s).irq = s.irq ∧ (channelsStop s).bus = s.bus ∧
    (channelsStop s).sec = s.sec ∧ (channelsStop s).free = s.free ∧ (channelsStop s).pending = s.pending := by
  unfold channelsStop
  simp

@[simp] theorem triggerCommon_keeps (s : State) : (triggerCommon s).ident = s.ident ∧ (triggerCommon s).supply =
    s.supply ∧ (triggerCommon s).sys = s.sys ∧ (triggerCommon s).rails = s.rails ∧ (triggerCommon s).seq = s.seq ∧
    (triggerCommon s).shadow = s.shadow ∧ (triggerCommon s).light = s.light ∧ (triggerCommon s).neg = s.neg ∧
    (triggerCommon s).tiers = s.tiers ∧ (triggerCommon s).ports = s.ports ∧ (triggerCommon s).pending = s.pending :=
    by
  unfold triggerCommon
  simp

@[simp] theorem powerFailProgram_keeps (s : State) : (powerFailProgram s).ident = s.ident ∧ (powerFailProgram
    s).supply = s.supply ∧ (powerFailProgram s).sys = s.sys ∧ (powerFailProgram s).rails = s.rails ∧
    (powerFailProgram s).log = s.log ∧ (powerFailProgram s).cell = s.cell ∧ (powerFailProgram s).shadow = s.shadow ∧
    (powerFailProgram s).light = s.light ∧ (powerFailProgram s).neg = s.neg ∧ (powerFailProgram s).nand = s.nand ∧
    (powerFailProgram s).tiers = s.tiers ∧ (powerFailProgram s).ports = s.ports ∧ (powerFailProgram s).sec = s.sec ∧
    (powerFailProgram s).pending = s.pending := by
  unfold powerFailProgram
  try dsimp only
  (repeat' split) <;> simp_all

@[simp] theorem exposeKept_keeps (cause : Byte) (s : State) : (exposeKept cause s).ident = s.ident ∧ (exposeKept
    cause s).supply = s.supply ∧ (exposeKept cause s).rails = s.rails ∧ (exposeKept cause s).seq = s.seq ∧
    (exposeKept cause s).log = s.log ∧ (exposeKept cause s).cell = s.cell ∧ (exposeKept cause s).flash = s.flash ∧
    (exposeKept cause s).shadow = s.shadow ∧ (exposeKept cause s).light = s.light ∧ (exposeKept cause s).tiers =
    s.tiers ∧ (exposeKept cause s).ports = s.ports ∧ (exposeKept cause s).sec = s.sec ∧ (exposeKept cause s).pending
    = s.pending := by
  unfold exposeKept
  simp

@[simp] theorem stopReturn_keeps (cause : Byte) (s : State) : (stopReturn cause s).ident = s.ident ∧ (stopReturn
    cause s).supply = s.supply ∧ (stopReturn cause s).sys = s.sys ∧ (stopReturn cause s).rails = s.rails ∧
    (stopReturn cause s).seq = s.seq ∧ (stopReturn cause s).log = s.log ∧ (stopReturn cause s).cell = s.cell ∧
    (stopReturn cause s).flash = s.flash ∧ (stopReturn cause s).shadow = s.shadow ∧ (stopReturn cause s).neg = s.neg
    ∧ (stopReturn cause s).nand = s.nand ∧ (stopReturn cause s).tiers = s.tiers ∧ (stopReturn cause s).ports =
    s.ports ∧ (stopReturn cause s).sec = s.sec ∧ (stopReturn cause s).pending = s.pending := by
  unfold stopReturn
  simp

@[simp] theorem resumeLeave_keeps (s : State) : (resumeLeave s).ident = s.ident ∧ (resumeLeave s).shadow = s.shadow
    ∧ (resumeLeave s).pending = s.pending := by
  unfold resumeLeave
  try dsimp only
  (repeat' split) <;> simp_all

@[simp] theorem powerFailExpose_keeps (cause : Byte) (s : State) : (powerFailExpose cause s).ident = s.ident ∧
    (powerFailExpose cause s).shadow = s.shadow ∧ (powerFailExpose cause s).pending = s.pending := by
  unfold powerFailExpose
  try dsimp only
  (repeat' split) <;> simp_all

@[simp] theorem powerFailDark_keeps (cause : Byte) (s : State) : (powerFailDark cause s).ident = s.ident ∧
    (powerFailDark cause s).shadow = s.shadow ∧ (powerFailDark cause s).pending = s.pending := by
  unfold powerFailDark
  try dsimp only
  (repeat' split) <;> simp_all

@[simp] theorem keptExposure_keeps (cause : Byte) (s : State) : (keptExposure cause s).ident = s.ident ∧
    (keptExposure cause s).supply = s.supply ∧ (keptExposure cause s).rails = s.rails ∧ (keptExposure cause s).log =
    s.log ∧ (keptExposure cause s).cell = s.cell ∧ (keptExposure cause s).shadow = s.shadow ∧ (keptExposure cause
    s).light = s.light ∧ (keptExposure cause s).tiers = s.tiers ∧ (keptExposure cause s).ports = s.ports ∧
    (keptExposure cause s).sec = s.sec ∧ (keptExposure cause s).pending = s.pending := by
  unfold keptExposure
  try dsimp only
  (repeat' split) <;> simp_all

@[simp] theorem powerFailPartial_keeps (cause : Byte) (s : State) : (powerFailPartial cause s).ident = s.ident ∧
    (powerFailPartial cause s).supply = s.supply ∧ (powerFailPartial cause s).log = s.log ∧ (powerFailPartial cause
    s).cell = s.cell ∧ (powerFailPartial cause s).shadow = s.shadow ∧ (powerFailPartial cause s).tiers = s.tiers ∧
    (powerFailPartial cause s).pending = s.pending := by
  unfold powerFailPartial
  simp

@[simp] theorem powerFail_keeps (cause : Byte) (s : State) : (powerFail cause s).ident = s.ident ∧ (powerFail cause
    s).shadow = s.shadow ∧ (powerFail cause s).pending = s.pending := by
  unfold powerFail
  try dsimp only
  (repeat' split) <;> simp_all

@[simp] theorem quietEnds_keeps (s : State) : (quietEnds s).ident = s.ident ∧ (quietEnds s).supply = s.supply ∧
    (quietEnds s).sys = s.sys ∧ (quietEnds s).rails = s.rails ∧ (quietEnds s).seq = s.seq ∧ (quietEnds s).log =
    s.log ∧ (quietEnds s).cell = s.cell ∧ (quietEnds s).flash = s.flash ∧ (quietEnds s).shadow = s.shadow ∧
    (quietEnds s).tiers = s.tiers ∧ (quietEnds s).ports = s.ports ∧ (quietEnds s).sec = s.sec ∧ (quietEnds
    s).pending = s.pending := by
  unfold quietEnds
  simp

@[simp] theorem parkEnds_keeps (s : State) : (parkEnds s).ident = s.ident ∧ (parkEnds s).supply = s.supply ∧
    (parkEnds s).sys = s.sys ∧ (parkEnds s).rails = s.rails ∧ (parkEnds s).seq = s.seq ∧ (parkEnds s).log = s.log ∧
    (parkEnds s).cell = s.cell ∧ (parkEnds s).flash = s.flash ∧ (parkEnds s).shadow = s.shadow ∧ (parkEnds s).nand =
    s.nand ∧ (parkEnds s).tiers = s.tiers ∧ (parkEnds s).ports = s.ports ∧ (parkEnds s).irq = s.irq ∧ (parkEnds
    s).bus = s.bus ∧ (parkEnds s).sec = s.sec ∧ (parkEnds s).free = s.free ∧ (parkEnds s).pending = s.pending := by
  unfold parkEnds
  try dsimp only
  (repeat' split) <;> simp_all

@[simp] theorem fenceFalls_keeps (s : State) : (fenceFalls s).ident = s.ident ∧ (fenceFalls s).supply = s.supply ∧
    (fenceFalls s).sys = s.sys ∧ (fenceFalls s).rails = s.rails ∧ (fenceFalls s).seq = s.seq ∧ (fenceFalls s).log =
    s.log ∧ (fenceFalls s).cell = s.cell ∧ (fenceFalls s).flash = s.flash ∧ (fenceFalls s).shadow = s.shadow ∧
    (fenceFalls s).tiers = s.tiers ∧ (fenceFalls s).ports = s.ports ∧ (fenceFalls s).sec = s.sec ∧ (fenceFalls
    s).pending = s.pending := by
  unfold fenceFalls
  try dsimp only
  (repeat' split) <;> simp_all

@[simp] theorem trainingEnds_keeps (pass : Bool) (s : State) : (trainingEnds pass s).ident = s.ident ∧ (trainingEnds
    pass s).supply = s.supply ∧ (trainingEnds pass s).seq = s.seq ∧ (trainingEnds pass s).log = s.log ∧
    (trainingEnds pass s).cell = s.cell ∧ (trainingEnds pass s).shadow = s.shadow ∧ (trainingEnds pass s).tiers =
    s.tiers ∧ (trainingEnds pass s).ports = s.ports ∧ (trainingEnds pass s).pending = s.pending := by
  unfold trainingEnds
  try dsimp only
  (repeat' split) <;> simp_all

@[simp] theorem maskCold_keeps (s : State) : (maskCold s).ident = s.ident ∧ (maskCold s).supply = s.supply ∧
    (maskCold s).sys = s.sys ∧ (maskCold s).rails = s.rails ∧ (maskCold s).seq = s.seq ∧ (maskCold s).log = s.log ∧
    (maskCold s).cell = s.cell ∧ (maskCold s).flash = s.flash ∧ (maskCold s).shadow = s.shadow ∧ (maskCold s).neg =
    s.neg ∧ (maskCold s).nand = s.nand ∧ (maskCold s).tiers = s.tiers ∧ (maskCold s).ports = s.ports ∧ (maskCold
    s).irq = s.irq ∧ (maskCold s).bus = s.bus ∧ (maskCold s).sec = s.sec ∧ (maskCold s).free = s.free ∧ (maskCold
    s).pending = s.pending := by
  unfold maskCold
  try dsimp only
  (repeat' split) <;> simp_all

@[simp] theorem commitWritten_keeps (s : State) : (commitWritten s).ident = s.ident ∧ (commitWritten s).shadow =
    s.shadow ∧ (commitWritten s).pending = s.pending := by
  unfold commitWritten
  try dsimp only
  (repeat' split) <;> first | (simp_all; done) | (have hk := commitGeneration_keeps _ _ _ (by assumption); simp_all)

@[simp] theorem returnEnds_keeps (side : Fin 2) (us : U32) (s : State) : (returnEnds side us s).ident = s.ident ∧
    (returnEnds side us s).rails = s.rails ∧ (returnEnds side us s).seq = s.seq ∧ (returnEnds side us s).shadow =
    s.shadow ∧ (returnEnds side us s).tiers = s.tiers ∧ (returnEnds side us s).ports = s.ports ∧ (returnEnds side us
    s).pending = s.pending := by
  unfold returnEnds
  try dsimp only
  (repeat' split) <;> simp_all

@[simp] theorem mapsLoaded_keeps (s : State) : (mapsLoaded s).ident = s.ident ∧ (mapsLoaded s).supply = s.supply ∧
    (mapsLoaded s).seq = s.seq ∧ (mapsLoaded s).log = s.log ∧ (mapsLoaded s).cell = s.cell ∧ (mapsLoaded s).shadow =
    s.shadow ∧ (mapsLoaded s).tiers = s.tiers ∧ (mapsLoaded s).ports = s.ports ∧ (mapsLoaded s).pending = s.pending
    := by
  unfold mapsLoaded
  try dsimp only
  (repeat' split) <;> simp_all

@[simp] theorem lastFrame_keeps (s : State) : (lastFrame s).ident = s.ident ∧ (lastFrame s).supply = s.supply ∧
    (lastFrame s).sys = s.sys ∧ (lastFrame s).rails = s.rails ∧ (lastFrame s).seq = s.seq ∧ (lastFrame s).log =
    s.log ∧ (lastFrame s).cell = s.cell ∧ (lastFrame s).flash = s.flash ∧ (lastFrame s).shadow = s.shadow ∧
    (lastFrame s).tiers = s.tiers ∧ (lastFrame s).ports = s.ports ∧ (lastFrame s).irq = s.irq ∧ (lastFrame s).bus =
    s.bus ∧ (lastFrame s).sec = s.sec ∧ (lastFrame s).free = s.free ∧ (lastFrame s).pending = s.pending := by
  unfold lastFrame
  try dsimp only
  (repeat' split) <;> simp_all

@[simp] theorem markWritten_keeps (s : State) : (markWritten s).ident = s.ident ∧ (markWritten s).rails = s.rails ∧
    (markWritten s).seq = s.seq ∧ (markWritten s).shadow = s.shadow ∧ (markWritten s).tiers = s.tiers ∧ (markWritten
    s).ports = s.ports ∧ (markWritten s).pending = s.pending := by
  unfold markWritten
  try dsimp only
  (repeat' split) <;> simp_all

@[simp] theorem mainReset_keeps (source : Byte) (s : State) : (mainReset source s).ident = s.ident ∧ (mainReset
    source s).log = s.log ∧ (mainReset source s).shadow = s.shadow ∧ (mainReset source s).pending = s.pending := by
  unfold mainReset
  try dsimp only
  (repeat' split) <;> simp_all

@[simp] theorem watchdog_keeps (s : State) : (watchdog s).ident = s.ident ∧ (watchdog s).supply = s.supply ∧
    (watchdog s).rails = s.rails ∧ (watchdog s).seq = s.seq ∧ (watchdog s).log = s.log ∧ (watchdog s).cell = s.cell
    ∧ (watchdog s).flash = s.flash ∧ (watchdog s).shadow = s.shadow ∧ (watchdog s).light = s.light ∧ (watchdog
    s).neg = s.neg ∧ (watchdog s).nand = s.nand ∧ (watchdog s).tiers = s.tiers ∧ (watchdog s).ports = s.ports ∧
    (watchdog s).sec = s.sec ∧ (watchdog s).pending = s.pending := by
  unfold watchdog
  simp

@[simp] theorem energyCheck_keeps (frames : Nat) (s : State) : (energyCheck frames s).2.ident = s.ident ∧
    (energyCheck frames s).2.supply = s.supply ∧ (energyCheck frames s).2.sys = s.sys ∧ (energyCheck frames
    s).2.rails = s.rails ∧ (energyCheck frames s).2.seq = s.seq ∧ (energyCheck frames s).2.log = s.log ∧
    (energyCheck frames s).2.flash = s.flash ∧ (energyCheck frames s).2.shadow = s.shadow ∧ (energyCheck frames
    s).2.light = s.light ∧ (energyCheck frames s).2.neg = s.neg ∧ (energyCheck frames s).2.nand = s.nand ∧
    (energyCheck frames s).2.tiers = s.tiers ∧ (energyCheck frames s).2.ports = s.ports ∧ (energyCheck frames
    s).2.irq = s.irq ∧ (energyCheck frames s).2.bus = s.bus ∧ (energyCheck frames s).2.sec = s.sec ∧ (energyCheck
    frames s).2.free = s.free ∧ (energyCheck frames s).2.pending = s.pending := by
  unfold energyCheck
  simp

@[simp] theorem exposeRequest_keeps (target : Byte) (s : State) : (exposeRequest target s).2.ident = s.ident ∧
    (exposeRequest target s).2.supply = s.supply ∧ (exposeRequest target s).2.seq = s.seq ∧ (exposeRequest target
    s).2.log = s.log ∧ (exposeRequest target s).2.shadow = s.shadow ∧ (exposeRequest target s).2.tiers = s.tiers ∧
    (exposeRequest target s).2.ports = s.ports ∧ (exposeRequest target s).2.pending = s.pending := by
  unfold exposeRequest
  simp

@[simp] theorem wakeRequest_keeps (s : State) : (wakeRequest s).2.ident = s.ident ∧ (wakeRequest s).2.log = s.log ∧
    (wakeRequest s).2.shadow = s.shadow ∧ (wakeRequest s).2.pending = s.pending := by
  unfold wakeRequest
  simp

@[simp] theorem runRequest_keeps (s : State) : (runRequest s).2.ident = s.ident ∧ (runRequest s).2.rails = s.rails ∧
    (runRequest s).2.seq = s.seq ∧ (runRequest s).2.shadow = s.shadow ∧ (runRequest s).2.light = s.light ∧
    (runRequest s).2.ports = s.ports ∧ (runRequest s).2.pending = s.pending := by
  unfold runRequest
  simp

@[simp] theorem developRequest_keeps (s : State) : (developRequest s).2.ident = s.ident ∧ (developRequest
    s).2.supply = s.supply ∧ (developRequest s).2.seq = s.seq ∧ (developRequest s).2.log = s.log ∧ (developRequest
    s).2.cell = s.cell ∧ (developRequest s).2.shadow = s.shadow ∧ (developRequest s).2.tiers = s.tiers ∧
    (developRequest s).2.ports = s.ports ∧ (developRequest s).2.pending = s.pending := by
  unfold developRequest
  simp

@[simp] theorem stateRequest_keeps (code : Nat) (s : State) : (stateRequest code s).2.ident = s.ident ∧
    (stateRequest code s).2.shadow = s.shadow ∧ (stateRequest code s).2.pending = s.pending := by
  unfold stateRequest
  simp

@[simp] theorem aonLost_keeps (cause : Byte) (s : State) : (aonLost cause s).ident = s.ident ∧ (aonLost cause
    s).shadow = s.shadow ∧ (aonLost cause s).pending = s.pending := by
  unfold aonLost
  simp

@[simp] theorem depleted_keeps (s : State) : (depleted s).ident = s.ident ∧ (depleted s).shadow = s.shadow ∧
    (depleted s).pending = s.pending := by
  unfold depleted
  simp

@[simp] theorem loadLog_keeps (errs : WordErrors) (s : State) : (loadLog errs s).ident = s.ident ∧ (loadLog errs
    s).supply = s.supply ∧ (loadLog errs s).seq = s.seq ∧ (loadLog errs s).log = s.log ∧ (loadLog errs s).shadow =
    s.shadow ∧ (loadLog errs s).light = s.light ∧ (loadLog errs s).neg = s.neg ∧ (loadLog errs s).nand = s.nand ∧
    (loadLog errs s).tiers = s.tiers ∧ (loadLog errs s).ports = s.ports ∧ (loadLog errs s).sec = s.sec ∧ (loadLog
    errs s).pending = s.pending := by
  unfold loadLog
  try dsimp only
  (repeat' split) <;> simp_all

@[simp] theorem aonUp_keeps (straps : BitVec 2) (errs : WordErrors) (s : State) : (aonUp straps errs s).ident =
    s.ident ∧ (aonUp straps errs s).pending = s.pending := by
  unfold aonUp
  simp

@[simp] theorem oscillatorStarts_keeps (s : State) : (oscillatorStarts s).ident = s.ident ∧ (oscillatorStarts s).sys
    = s.sys ∧ (oscillatorStarts s).rails = s.rails ∧ (oscillatorStarts s).seq = s.seq ∧ (oscillatorStarts s).log =
    s.log ∧ (oscillatorStarts s).cell = s.cell ∧ (oscillatorStarts s).flash = s.flash ∧ (oscillatorStarts s).shadow
    = s.shadow ∧ (oscillatorStarts s).light = s.light ∧ (oscillatorStarts s).neg = s.neg ∧ (oscillatorStarts s).nand
    = s.nand ∧ (oscillatorStarts s).tiers = s.tiers ∧ (oscillatorStarts s).ports = s.ports ∧ (oscillatorStarts
    s).irq = s.irq ∧ (oscillatorStarts s).sec = s.sec ∧ (oscillatorStarts s).free = s.free ∧ (oscillatorStarts
    s).pending = s.pending := by
  unfold oscillatorStarts
  simp

@[simp] theorem loadOption_keeps (errs : WordErrors) (s : State) : (loadOption errs s).ident = s.ident ∧ (loadOption
    errs s).supply = s.supply ∧ (loadOption errs s).rails = s.rails ∧ (loadOption errs s).seq = s.seq ∧ (loadOption
    errs s).log = s.log ∧ (loadOption errs s).cell = s.cell ∧ (loadOption errs s).light = s.light ∧ (loadOption errs
    s).neg = s.neg ∧ (loadOption errs s).nand = s.nand ∧ (loadOption errs s).tiers = s.tiers ∧ (loadOption errs
    s).ports = s.ports ∧ (loadOption errs s).sec = s.sec ∧ (loadOption errs s).pending = s.pending := by
  unfold loadOption
  try dsimp only
  (repeat' split) <;> simp_all

@[simp] theorem startPowerUp_keeps (s : State) : (startPowerUp s).ident = s.ident ∧ (startPowerUp s).supply =
    s.supply ∧ (startPowerUp s).rails = s.rails ∧ (startPowerUp s).log = s.log ∧ (startPowerUp s).cell = s.cell ∧
    (startPowerUp s).shadow = s.shadow ∧ (startPowerUp s).light = s.light ∧ (startPowerUp s).neg = s.neg ∧
    (startPowerUp s).nand = s.nand ∧ (startPowerUp s).tiers = s.tiers ∧ (startPowerUp s).ports = s.ports ∧
    (startPowerUp s).irq = s.irq ∧ (startPowerUp s).bus = s.bus ∧ (startPowerUp s).sec = s.sec ∧ (startPowerUp
    s).free = s.free ∧ (startPowerUp s).pending = s.pending := by
  unfold startPowerUp
  simp

@[simp] theorem runImage_keeps (errs : WordErrors) (b : Bool) (s : State) : (runImage errs b s).supply = s.supply ∧
    (runImage errs b s).sys = s.sys ∧ (runImage errs b s).rails = s.rails ∧ (runImage errs b s).seq = s.seq ∧
    (runImage errs b s).log = s.log ∧ (runImage errs b s).cell = s.cell ∧ (runImage errs b s).shadow = s.shadow ∧
    (runImage errs b s).light = s.light ∧ (runImage errs b s).neg = s.neg ∧ (runImage errs b s).nand = s.nand ∧
    (runImage errs b s).tiers = s.tiers ∧ (runImage errs b s).ports = s.ports ∧ (runImage errs b s).pending =
    s.pending := by
  unfold runImage
  simp

@[simp] theorem hostSide_keeps (s : State) : (hostSide s).ident = s.ident ∧ (hostSide s).supply = s.supply ∧
    (hostSide s).sys = s.sys ∧ (hostSide s).rails = s.rails ∧ (hostSide s).seq = s.seq ∧ (hostSide s).log = s.log ∧
    (hostSide s).cell = s.cell ∧ (hostSide s).flash = s.flash ∧ (hostSide s).shadow = s.shadow ∧ (hostSide s).neg =
    s.neg ∧ (hostSide s).nand = s.nand ∧ (hostSide s).tiers = s.tiers ∧ (hostSide s).ports = s.ports ∧ (hostSide
    s).irq = s.irq ∧ (hostSide s).bus = s.bus ∧ (hostSide s).sec = s.sec ∧ (hostSide s).free = s.free ∧ (hostSide
    s).pending = s.pending := by
  unfold hostSide
  simp

@[simp] theorem bootSteps_keeps (errs : WordErrors) (s : State) : (bootSteps errs s).supply = s.supply ∧ (bootSteps
    errs s).rails = s.rails ∧ (bootSteps errs s).log = s.log ∧ (bootSteps errs s).neg = s.neg ∧ (bootSteps errs
    s).nand = s.nand ∧ (bootSteps errs s).tiers = s.tiers ∧ (bootSteps errs s).pending = s.pending := by
  unfold bootSteps
  try dsimp only
  (repeat' split) <;> simp_all

@[simp] theorem pllLocks_keeps (errs : WordErrors) (s : State) : (pllLocks errs s).log = s.log ∧ (pllLocks errs
    s).tiers = s.tiers ∧ (pllLocks errs s).pending = s.pending := by
  unfold pllLocks
  try dsimp only
  (repeat' split) <;> simp_all

@[simp] theorem selfTestEnds_keeps (result : U16) (s : State) : (selfTestEnds result s).ident = s.ident ∧
    (selfTestEnds result s).supply = s.supply ∧ (selfTestEnds result s).rails = s.rails ∧ (selfTestEnds result
    s).seq = s.seq ∧ (selfTestEnds result s).log = s.log ∧ (selfTestEnds result s).cell = s.cell ∧ (selfTestEnds
    result s).shadow = s.shadow ∧ (selfTestEnds result s).light = s.light ∧ (selfTestEnds result s).neg = s.neg ∧
    (selfTestEnds result s).tiers = s.tiers ∧ (selfTestEnds result s).ports = s.ports ∧ (selfTestEnds result
    s).pending = s.pending := by
  unfold selfTestEnds
  simp

@[simp] theorem securityAtSetup_keeps (s : State) : (securityAtSetup s).supply = s.supply ∧ (securityAtSetup s).sys
    = s.sys ∧ (securityAtSetup s).rails = s.rails ∧ (securityAtSetup s).seq = s.seq ∧ (securityAtSetup s).log =
    s.log ∧ (securityAtSetup s).cell = s.cell ∧ (securityAtSetup s).shadow = s.shadow ∧ (securityAtSetup s).light =
    s.light ∧ (securityAtSetup s).ports = s.ports ∧ (securityAtSetup s).pending = s.pending := by
  unfold securityAtSetup
  simp

@[simp] theorem hotJoin_keeps (s : State) : (hotJoin s).ident = s.ident ∧ (hotJoin s).supply = s.supply ∧ (hotJoin
    s).sys = s.sys ∧ (hotJoin s).rails = s.rails ∧ (hotJoin s).seq = s.seq ∧ (hotJoin s).log = s.log ∧ (hotJoin
    s).cell = s.cell ∧ (hotJoin s).flash = s.flash ∧ (hotJoin s).shadow = s.shadow ∧ (hotJoin s).light = s.light ∧
    (hotJoin s).neg = s.neg ∧ (hotJoin s).nand = s.nand ∧ (hotJoin s).tiers = s.tiers ∧ (hotJoin s).ports = s.ports
    ∧ (hotJoin s).sec = s.sec ∧ (hotJoin s).pending = s.pending := by
  unfold hotJoin
  simp

@[simp] theorem negativeAtSetup_keeps (s : State) : (negativeAtSetup s).ident = s.ident ∧ (negativeAtSetup s).supply
    = s.supply ∧ (negativeAtSetup s).sys = s.sys ∧ (negativeAtSetup s).rails = s.rails ∧ (negativeAtSetup s).seq =
    s.seq ∧ (negativeAtSetup s).log = s.log ∧ (negativeAtSetup s).cell = s.cell ∧ (negativeAtSetup s).flash =
    s.flash ∧ (negativeAtSetup s).shadow = s.shadow ∧ (negativeAtSetup s).light = s.light ∧ (negativeAtSetup
    s).tiers = s.tiers ∧ (negativeAtSetup s).ports = s.ports ∧ (negativeAtSetup s).sec = s.sec ∧ (negativeAtSetup
    s).pending = s.pending := by
  unfold negativeAtSetup
  simp

@[simp] theorem bootCompletes_keeps (errs : WordErrors) (s : State) : (bootCompletes errs s).supply = s.supply ∧
    (bootCompletes errs s).rails = s.rails ∧ (bootCompletes errs s).cell = s.cell ∧ (bootCompletes errs s).shadow =
    s.shadow ∧ (bootCompletes errs s).light = s.light ∧ (bootCompletes errs s).ports = s.ports ∧ (bootCompletes errs
    s).pending = s.pending := by
  unfold bootCompletes
  simp

end Sys2Proof.Machine
end

