-- ==== Sys2Proof/Laws/KeepsBus.lean ====
section
/-! SUPPORT. What each operation of Machine/Od, Transport leaves as it was: one lemma an operation, for `simp`. -/

set_option linter.unusedSimpArgs false
set_option linter.unusedVariables false
set_option linter.unusedTactic false
set_option linter.unreachableTactic false

namespace Sys2Proof.Machine

@[simp] theorem geometryChanged_keeps (s : State) : (geometryChanged s).ident = s.ident ∧ (geometryChanged s).supply
    = s.supply ∧ (geometryChanged s).sys = s.sys ∧ (geometryChanged s).rails = s.rails ∧ (geometryChanged s).seq =
    s.seq ∧ (geometryChanged s).log = s.log ∧ (geometryChanged s).cell = s.cell ∧ (geometryChanged s).flash =
    s.flash ∧ (geometryChanged s).shadow = s.shadow ∧ (geometryChanged s).nand = s.nand ∧ (geometryChanged s).tiers
    = s.tiers ∧ (geometryChanged s).ports = s.ports ∧ (geometryChanged s).sec = s.sec ∧ (geometryChanged s).pending
    = s.pending := by
  unfold geometryChanged
  simp

@[simp] theorem retest_keeps (t : TargetId) (s : State) : (retest t s).ident = s.ident ∧ (retest t s).supply =
    s.supply ∧ (retest t s).sys = s.sys ∧ (retest t s).rails = s.rails ∧ (retest t s).seq = s.seq ∧ (retest t s).log
    = s.log ∧ (retest t s).cell = s.cell ∧ (retest t s).flash = s.flash ∧ (retest t s).shadow = s.shadow ∧ (retest t
    s).light = s.light ∧ (retest t s).neg = s.neg ∧ (retest t s).nand = s.nand ∧ (retest t s).tiers = s.tiers ∧
    (retest t s).ports = s.ports ∧ (retest t s).sec = s.sec ∧ (retest t s).pending = s.pending := by
  unfold retest
  simp

@[simp] theorem storePersistent_keeps (i : Nat) (b : Nat) (v : Nat) (s : State) : (storePersistent i b v s).ident =
    s.ident ∧ (storePersistent i b v s).supply = s.supply ∧ (storePersistent i b v s).sys = s.sys ∧ (storePersistent
    i b v s).rails = s.rails ∧ (storePersistent i b v s).seq = s.seq ∧ (storePersistent i b v s).log = s.log ∧
    (storePersistent i b v s).nand = s.nand ∧ (storePersistent i b v s).tiers = s.tiers ∧ (storePersistent i b v
    s).ports = s.ports ∧ (storePersistent i b v s).sec = s.sec ∧ (storePersistent i b v s).pending = s.pending := by
  unfold storePersistent
  simp

@[simp] theorem storeSources_keeps (es : List Nat) (s : State) : (storeSources es s).ident = s.ident ∧ (storeSources
    es s).supply = s.supply ∧ (storeSources es s).sys = s.sys ∧ (storeSources es s).rails = s.rails ∧ (storeSources
    es s).seq = s.seq ∧ (storeSources es s).log = s.log ∧ (storeSources es s).cell = s.cell ∧ (storeSources es
    s).light = s.light ∧ (storeSources es s).neg = s.neg ∧ (storeSources es s).nand = s.nand ∧ (storeSources es
    s).tiers = s.tiers ∧ (storeSources es s).ports = s.ports ∧ (storeSources es s).sec = s.sec ∧ (storeSources es
    s).pending = s.pending := by
  unfold storeSources
  simp

@[simp] theorem runProgram_keeps (sub : Nat) (s : State) : (runProgram sub s).2.ident = s.ident ∧ (runProgram sub
    s).2.supply = s.supply ∧ (runProgram sub s).2.sys = s.sys ∧ (runProgram sub s).2.rails = s.rails ∧ (runProgram
    sub s).2.log = s.log ∧ (runProgram sub s).2.cell = s.cell ∧ (runProgram sub s).2.shadow = s.shadow ∧ (runProgram
    sub s).2.light = s.light ∧ (runProgram sub s).2.neg = s.neg ∧ (runProgram sub s).2.nand = s.nand ∧ (runProgram
    sub s).2.tiers = s.tiers ∧ (runProgram sub s).2.ports = s.ports ∧ (runProgram sub s).2.irq = s.irq ∧ (runProgram
    sub s).2.bus = s.bus ∧ (runProgram sub s).2.sec = s.sec ∧ (runProgram sub s).2.free = s.free ∧ (runProgram sub
    s).2.pending = s.pending := by
  unfold runProgram
  simp

@[simp] theorem hostMargin_keeps (n : SlotId) (steps : U16) (s : State) : (hostMargin n steps s).2.ident = s.ident ∧
    (hostMargin n steps s).2.supply = s.supply ∧ (hostMargin n steps s).2.sys = s.sys ∧ (hostMargin n steps s).2.seq
    = s.seq ∧ (hostMargin n steps s).2.log = s.log ∧ (hostMargin n steps s).2.cell = s.cell ∧ (hostMargin n steps
    s).2.flash = s.flash ∧ (hostMargin n steps s).2.shadow = s.shadow ∧ (hostMargin n steps s).2.light = s.light ∧
    (hostMargin n steps s).2.neg = s.neg ∧ (hostMargin n steps s).2.nand = s.nand ∧ (hostMargin n steps s).2.tiers =
    s.tiers ∧ (hostMargin n steps s).2.ports = s.ports ∧ (hostMargin n steps s).2.irq = s.irq ∧ (hostMargin n steps
    s).2.bus = s.bus ∧ (hostMargin n steps s).2.sec = s.sec ∧ (hostMargin n steps s).2.free = s.free ∧ (hostMargin n
    steps s).2.pending = s.pending := by
  unfold hostMargin
  simp

@[simp] theorem clearLatch_keeps (n : SlotId) (s : State) : (clearLatch n s).ident = s.ident ∧ (clearLatch n
    s).supply = s.supply ∧ (clearLatch n s).sys = s.sys ∧ (clearLatch n s).seq = s.seq ∧ (clearLatch n s).log =
    s.log ∧ (clearLatch n s).cell = s.cell ∧ (clearLatch n s).flash = s.flash ∧ (clearLatch n s).shadow = s.shadow ∧
    (clearLatch n s).light = s.light ∧ (clearLatch n s).neg = s.neg ∧ (clearLatch n s).nand = s.nand ∧ (clearLatch n
    s).tiers = s.tiers ∧ (clearLatch n s).ports = s.ports ∧ (clearLatch n s).irq = s.irq ∧ (clearLatch n s).bus =
    s.bus ∧ (clearLatch n s).sec = s.sec ∧ (clearLatch n s).free = s.free ∧ (clearLatch n s).pending = s.pending :=
    by
  unfold clearLatch
  simp

@[simp] theorem clearCounts_keeps (s : State) : (clearCounts s).ident = s.ident ∧ (clearCounts s).supply = s.supply
    ∧ (clearCounts s).sys = s.sys ∧ (clearCounts s).seq = s.seq ∧ (clearCounts s).cell = s.cell ∧ (clearCounts
    s).shadow = s.shadow ∧ (clearCounts s).light = s.light ∧ (clearCounts s).neg = s.neg ∧ (clearCounts s).nand =
    s.nand ∧ (clearCounts s).tiers = s.tiers ∧ (clearCounts s).ports = s.ports ∧ (clearCounts s).pending = s.pending
    := by
  unfold clearCounts
  simp

@[simp] theorem acceptStale_keeps (v : U32) (s : State) : (acceptStale v s).2.ident = s.ident ∧ (acceptStale v
    s).2.supply = s.supply ∧ (acceptStale v s).2.sys = s.sys ∧ (acceptStale v s).2.rails = s.rails ∧ (acceptStale v
    s).2.seq = s.seq ∧ (acceptStale v s).2.log = s.log ∧ (acceptStale v s).2.cell = s.cell ∧ (acceptStale v
    s).2.flash = s.flash ∧ (acceptStale v s).2.shadow = s.shadow ∧ (acceptStale v s).2.light = s.light ∧
    (acceptStale v s).2.tiers = s.tiers ∧ (acceptStale v s).2.ports = s.ports ∧ (acceptStale v s).2.sec = s.sec ∧
    (acceptStale v s).2.pending = s.pending := by
  unfold acceptStale
  simp

@[simp] theorem sessionClosed_keeps (s : State) : (sessionClosed s).ident = s.ident ∧ (sessionClosed s).supply =
    s.supply ∧ (sessionClosed s).sys = s.sys ∧ (sessionClosed s).rails = s.rails ∧ (sessionClosed s).seq = s.seq ∧
    (sessionClosed s).log = s.log ∧ (sessionClosed s).cell = s.cell ∧ (sessionClosed s).flash = s.flash ∧
    (sessionClosed s).shadow = s.shadow ∧ (sessionClosed s).light = s.light ∧ (sessionClosed s).neg = s.neg ∧
    (sessionClosed s).nand = s.nand ∧ (sessionClosed s).tiers = s.tiers ∧ (sessionClosed s).ports = s.ports ∧
    (sessionClosed s).pending = s.pending := by
  unfold sessionClosed
  simp

@[simp] theorem writeEffect_keeps (i : Nat) (b : Nat) (data : List Byte) (resp : List Byte) (s : State) :
    (writeEffect i b data resp s).2.ident = s.ident ∧ (writeEffect i b data resp s).2.shadow = s.shadow ∧
    (writeEffect i b data resp s).2.pending = s.pending := by
  unfold writeEffect
  simp

@[simp] theorem odRead_keeps (path : Sys2Proof.Path) (i : Nat) (b : Nat) (s : State) : (odRead path i b s).2.2.ident
    = s.ident ∧ (odRead path i b s).2.2.supply = s.supply ∧ (odRead path i b s).2.2.sys = s.sys ∧ (odRead path i b
    s).2.2.rails = s.rails ∧ (odRead path i b s).2.2.seq = s.seq ∧ (odRead path i b s).2.2.log = s.log ∧ (odRead
    path i b s).2.2.cell = s.cell ∧ (odRead path i b s).2.2.flash = s.flash ∧ (odRead path i b s).2.2.shadow =
    s.shadow ∧ (odRead path i b s).2.2.light = s.light ∧ (odRead path i b s).2.2.neg = s.neg ∧ (odRead path i b
    s).2.2.nand = s.nand ∧ (odRead path i b s).2.2.tiers = s.tiers ∧ (odRead path i b s).2.2.ports = s.ports ∧
    (odRead path i b s).2.2.pending = s.pending := by
  unfold odRead
  try dsimp only
  (repeat' split) <;> simp_all

@[simp] theorem objectWrite_keeps (path : Sys2Proof.Path) (i : Nat) (b : Nat) (data : List Byte) (resp : List Byte)
    (s : State) : (objectWrite path i b data resp s).2.ident = s.ident ∧ (objectWrite path i b data resp
    s).2.pending = s.pending := by
  unfold objectWrite
  try dsimp only
  (repeat' split) <;> simp_all

@[simp] theorem odWrite_keeps (path : Sys2Proof.Path) (i : Nat) (b : Nat) (data : List Byte) (resp : List Byte) (s :
    State) : (odWrite path i b data resp s).2.ident = s.ident ∧ (odWrite path i b data resp s).2.pending = s.pending
    := by
  unfold odWrite
  simp [rawNoted]

@[simp] theorem odSegRead_keeps (path : Sys2Proof.Path) (i : Nat) (b : Nat) (off : Nat) (len : Nat) (errs :
    WordErrors) (s : State) : (odSegRead path i b off len errs s).2.ident = s.ident ∧ (odSegRead path i b off len
    errs s).2.supply = s.supply ∧ (odSegRead path i b off len errs s).2.sys = s.sys ∧ (odSegRead path i b off len
    errs s).2.rails = s.rails ∧ (odSegRead path i b off len errs s).2.seq = s.seq ∧ (odSegRead path i b off len errs
    s).2.log = s.log ∧ (odSegRead path i b off len errs s).2.cell = s.cell ∧ (odSegRead path i b off len errs
    s).2.shadow = s.shadow ∧ (odSegRead path i b off len errs s).2.light = s.light ∧ (odSegRead path i b off len
    errs s).2.neg = s.neg ∧ (odSegRead path i b off len errs s).2.nand = s.nand ∧ (odSegRead path i b off len errs
    s).2.tiers = s.tiers ∧ (odSegRead path i b off len errs s).2.ports = s.ports ∧ (odSegRead path i b off len errs
    s).2.sec = s.sec ∧ (odSegRead path i b off len errs s).2.pending = s.pending := by
  unfold odSegRead
  simp

@[simp] theorem segDone_keeps (i : Nat) (bs : List Byte) (resp : List Byte) (s : State) : (segDone i bs resp
    s).2.ident = s.ident ∧ (segDone i bs resp s).2.supply = s.supply ∧ (segDone i bs resp s).2.sys = s.sys ∧
    (segDone i bs resp s).2.rails = s.rails ∧ (segDone i bs resp s).2.seq = s.seq ∧ (segDone i bs resp s).2.log =
    s.log ∧ (segDone i bs resp s).2.cell = s.cell ∧ (segDone i bs resp s).2.light = s.light ∧ (segDone i bs resp
    s).2.neg = s.neg ∧ (segDone i bs resp s).2.nand = s.nand ∧ (segDone i bs resp s).2.tiers = s.tiers ∧ (segDone i
    bs resp s).2.ports = s.ports ∧ (segDone i bs resp s).2.pending = s.pending := by
  unfold segDone
  simp

@[simp] theorem segTake_keeps (path : Sys2Proof.Path) (g : OpenSeg) (last : Bool) (data : List Byte) (s : State) :
    (segTake path g last data s).2.ident = s.ident ∧ (segTake path g last data s).2.supply = s.supply ∧ (segTake
    path g last data s).2.sys = s.sys ∧ (segTake path g last data s).2.rails = s.rails ∧ (segTake path g last data
    s).2.seq = s.seq ∧ (segTake path g last data s).2.log = s.log ∧ (segTake path g last data s).2.cell = s.cell ∧
    (segTake path g last data s).2.light = s.light ∧ (segTake path g last data s).2.neg = s.neg ∧ (segTake path g
    last data s).2.nand = s.nand ∧ (segTake path g last data s).2.tiers = s.tiers ∧ (segTake path g last data
    s).2.ports = s.ports ∧ (segTake path g last data s).2.pending = s.pending := by
  unfold segTake
  simp

@[simp] theorem segmentWrite_keeps (path : Sys2Proof.Path) (i : Nat) (b : Nat) (off : Nat) (last : Bool) (data :
    List Byte) (s : State) : (segmentWrite path i b off last data s).2.ident = s.ident ∧ (segmentWrite path i b off
    last data s).2.supply = s.supply ∧ (segmentWrite path i b off last data s).2.sys = s.sys ∧ (segmentWrite path i
    b off last data s).2.rails = s.rails ∧ (segmentWrite path i b off last data s).2.seq = s.seq ∧ (segmentWrite
    path i b off last data s).2.log = s.log ∧ (segmentWrite path i b off last data s).2.cell = s.cell ∧
    (segmentWrite path i b off last data s).2.light = s.light ∧ (segmentWrite path i b off last data s).2.neg =
    s.neg ∧ (segmentWrite path i b off last data s).2.nand = s.nand ∧ (segmentWrite path i b off last data
    s).2.tiers = s.tiers ∧ (segmentWrite path i b off last data s).2.ports = s.ports ∧ (segmentWrite path i b off
    last data s).2.pending = s.pending := by
  unfold segmentWrite
  try dsimp only
  (repeat' split) <;> simp_all

@[simp] theorem odSegWrite_keeps (path : Sys2Proof.Path) (i : Nat) (b : Nat) (off : Nat) (last : Bool) (data : List
    Byte) (s : State) : (odSegWrite path i b off last data s).2.ident = s.ident ∧ (odSegWrite path i b off last data
    s).2.supply = s.supply ∧ (odSegWrite path i b off last data s).2.sys = s.sys ∧ (odSegWrite path i b off last
    data s).2.rails = s.rails ∧ (odSegWrite path i b off last data s).2.seq = s.seq ∧ (odSegWrite path i b off last
    data s).2.log = s.log ∧ (odSegWrite path i b off last data s).2.cell = s.cell ∧ (odSegWrite path i b off last
    data s).2.light = s.light ∧ (odSegWrite path i b off last data s).2.neg = s.neg ∧ (odSegWrite path i b off last
    data s).2.nand = s.nand ∧ (odSegWrite path i b off last data s).2.tiers = s.tiers ∧ (odSegWrite path i b off
    last data s).2.ports = s.ports ∧ (odSegWrite path i b off last data s).2.pending = s.pending := by
  unfold odSegWrite
  simp [rawNoted]

@[simp] theorem odSegAbort_keeps (path : Sys2Proof.Path) (i : Nat) (b : Nat) (s : State) : (odSegAbort path i b
    s).ident = s.ident ∧ (odSegAbort path i b s).supply = s.supply ∧ (odSegAbort path i b s).sys = s.sys ∧
    (odSegAbort path i b s).rails = s.rails ∧ (odSegAbort path i b s).seq = s.seq ∧ (odSegAbort path i b s).log =
    s.log ∧ (odSegAbort path i b s).cell = s.cell ∧ (odSegAbort path i b s).flash = s.flash ∧ (odSegAbort path i b
    s).shadow = s.shadow ∧ (odSegAbort path i b s).light = s.light ∧ (odSegAbort path i b s).neg = s.neg ∧
    (odSegAbort path i b s).nand = s.nand ∧ (odSegAbort path i b s).tiers = s.tiers ∧ (odSegAbort path i b s).ports
    = s.ports ∧ (odSegAbort path i b s).pending = s.pending := by
  unfold odSegAbort
  try dsimp only
  (repeat' split) <;> simp_all

@[simp] theorem onBus_keeps (f : Bus → Bus) (s : State) : (onBus f s).ident = s.ident ∧ (onBus f s).supply =
    s.supply ∧ (onBus f s).sys = s.sys ∧ (onBus f s).rails = s.rails ∧ (onBus f s).seq = s.seq ∧ (onBus f s).log =
    s.log ∧ (onBus f s).cell = s.cell ∧ (onBus f s).flash = s.flash ∧ (onBus f s).shadow = s.shadow ∧ (onBus f
    s).light = s.light ∧ (onBus f s).neg = s.neg ∧ (onBus f s).nand = s.nand ∧ (onBus f s).tiers = s.tiers ∧ (onBus
    f s).ports = s.ports ∧ (onBus f s).irq = s.irq ∧ (onBus f s).sec = s.sec ∧ (onBus f s).free = s.free ∧ (onBus f
    s).pending = s.pending := by
  unfold onBus
  simp

@[simp] theorem nack_keeps (s : State) : (nack s).ident = s.ident ∧ (nack s).supply = s.supply ∧ (nack s).sys =
    s.sys ∧ (nack s).rails = s.rails ∧ (nack s).seq = s.seq ∧ (nack s).log = s.log ∧ (nack s).cell = s.cell ∧ (nack
    s).flash = s.flash ∧ (nack s).shadow = s.shadow ∧ (nack s).light = s.light ∧ (nack s).neg = s.neg ∧ (nack
    s).nand = s.nand ∧ (nack s).tiers = s.tiers ∧ (nack s).ports = s.ports ∧ (nack s).irq = s.irq ∧ (nack s).sec =
    s.sec ∧ (nack s).free = s.free ∧ (nack s).pending = s.pending := by
  unfold nack
  simp

@[simp] theorem touch_keeps (s : State) : (touch s).ident = s.ident ∧ (touch s).sys = s.sys ∧ (touch s).rails =
    s.rails ∧ (touch s).seq = s.seq ∧ (touch s).log = s.log ∧ (touch s).cell = s.cell ∧ (touch s).flash = s.flash ∧
    (touch s).shadow = s.shadow ∧ (touch s).light = s.light ∧ (touch s).neg = s.neg ∧ (touch s).nand = s.nand ∧
    (touch s).tiers = s.tiers ∧ (touch s).ports = s.ports ∧ (touch s).irq = s.irq ∧ (touch s).sec = s.sec ∧ (touch
    s).free = s.free ∧ (touch s).pending = s.pending := by
  unfold touch
  simp

@[simp] theorem met_keeps (x : Xfer) (s : State) : (met x s).ident = s.ident ∧ (met x s).sys = s.sys ∧ (met x
    s).rails = s.rails ∧ (met x s).seq = s.seq ∧ (met x s).log = s.log ∧ (met x s).cell = s.cell ∧ (met x s).flash =
    s.flash ∧ (met x s).shadow = s.shadow ∧ (met x s).light = s.light ∧ (met x s).neg = s.neg ∧ (met x s).nand =
    s.nand ∧ (met x s).tiers = s.tiers ∧ (met x s).ports = s.ports ∧ (met x s).irq = s.irq ∧ (met x s).sec = s.sec ∧
    (met x s).free = s.free ∧ (met x s).pending = s.pending := by
  unfold met
  simp

@[simp] theorem reply_keeps (a : Abort) (data : List Byte) (s : State) : (reply a data s).ident = s.ident ∧ (reply a
    data s).supply = s.supply ∧ (reply a data s).sys = s.sys ∧ (reply a data s).rails = s.rails ∧ (reply a data
    s).seq = s.seq ∧ (reply a data s).log = s.log ∧ (reply a data s).cell = s.cell ∧ (reply a data s).flash =
    s.flash ∧ (reply a data s).shadow = s.shadow ∧ (reply a data s).light = s.light ∧ (reply a data s).neg = s.neg ∧
    (reply a data s).nand = s.nand ∧ (reply a data s).tiers = s.tiers ∧ (reply a data s).ports = s.ports ∧ (reply a
    data s).irq = s.irq ∧ (reply a data s).sec = s.sec ∧ (reply a data s).free = s.free ∧ (reply a data s).pending =
    s.pending := by
  unfold reply
  simp

@[simp] theorem replySeg_keeps (total : Nat) (data : List Byte) (s : State) : (replySeg total data s).ident =
    s.ident ∧ (replySeg total data s).supply = s.supply ∧ (replySeg total data s).sys = s.sys ∧ (replySeg total data
    s).rails = s.rails ∧ (replySeg total data s).seq = s.seq ∧ (replySeg total data s).log = s.log ∧ (replySeg total
    data s).cell = s.cell ∧ (replySeg total data s).flash = s.flash ∧ (replySeg total data s).shadow = s.shadow ∧
    (replySeg total data s).light = s.light ∧ (replySeg total data s).neg = s.neg ∧ (replySeg total data s).nand =
    s.nand ∧ (replySeg total data s).tiers = s.tiers ∧ (replySeg total data s).ports = s.ports ∧ (replySeg total
    data s).irq = s.irq ∧ (replySeg total data s).sec = s.sec ∧ (replySeg total data s).free = s.free ∧ (replySeg
    total data s).pending = s.pending := by
  unfold replySeg
  simp

@[simp] theorem serveSegRead_keeps (i : Nat) (b : Nat) (off : Nat) (len : Nat) (errs : WordErrors) (s : State) :
    (serveSegRead i b off len errs s).ident = s.ident ∧ (serveSegRead i b off len errs s).supply = s.supply ∧
    (serveSegRead i b off len errs s).sys = s.sys ∧ (serveSegRead i b off len errs s).rails = s.rails ∧
    (serveSegRead i b off len errs s).seq = s.seq ∧ (serveSegRead i b off len errs s).log = s.log ∧ (serveSegRead i
    b off len errs s).cell = s.cell ∧ (serveSegRead i b off len errs s).shadow = s.shadow ∧ (serveSegRead i b off
    len errs s).light = s.light ∧ (serveSegRead i b off len errs s).neg = s.neg ∧ (serveSegRead i b off len errs
    s).nand = s.nand ∧ (serveSegRead i b off len errs s).tiers = s.tiers ∧ (serveSegRead i b off len errs s).ports =
    s.ports ∧ (serveSegRead i b off len errs s).sec = s.sec ∧ (serveSegRead i b off len errs s).pending = s.pending
    := by
  unfold serveSegRead
  try dsimp only
  (repeat' split) <;> simp_all

@[simp] theorem serveSegWrite_keeps (i : Nat) (b : Nat) (off : Nat) (last : Bool) (data : List Byte) (s : State) :
    (serveSegWrite i b off last data s).ident = s.ident ∧ (serveSegWrite i b off last data s).supply = s.supply ∧
    (serveSegWrite i b off last data s).sys = s.sys ∧ (serveSegWrite i b off last data s).rails = s.rails ∧
    (serveSegWrite i b off last data s).seq = s.seq ∧ (serveSegWrite i b off last data s).log = s.log ∧
    (serveSegWrite i b off last data s).cell = s.cell ∧ (serveSegWrite i b off last data s).light = s.light ∧
    (serveSegWrite i b off last data s).neg = s.neg ∧ (serveSegWrite i b off last data s).nand = s.nand ∧
    (serveSegWrite i b off last data s).tiers = s.tiers ∧ (serveSegWrite i b off last data s).ports = s.ports ∧
    (serveSegWrite i b off last data s).pending = s.pending := by
  unfold serveSegWrite
  simp

@[simp] theorem serveObject_keeps (i : Nat) (b : Nat) (s : State) : (serveObject i b s).ident = s.ident ∧
    (serveObject i b s).supply = s.supply ∧ (serveObject i b s).sys = s.sys ∧ (serveObject i b s).rails = s.rails ∧
    (serveObject i b s).seq = s.seq ∧ (serveObject i b s).log = s.log ∧ (serveObject i b s).cell = s.cell ∧
    (serveObject i b s).flash = s.flash ∧ (serveObject i b s).shadow = s.shadow ∧ (serveObject i b s).light =
    s.light ∧ (serveObject i b s).neg = s.neg ∧ (serveObject i b s).nand = s.nand ∧ (serveObject i b s).tiers =
    s.tiers ∧ (serveObject i b s).ports = s.ports ∧ (serveObject i b s).pending = s.pending := by
  unfold serveObject
  simp

@[simp] theorem serve_keeps (errs : WordErrors) (q : Request) (s : State) : (serve errs q s).ident = s.ident ∧
    (serve errs q s).pending = s.pending := by
  unfold serve
  try dsimp only
  (repeat' split) <;> simp_all [written]

@[simp] theorem discardPec_keeps (s : State) : (discardPec s).ident = s.ident ∧ (discardPec s).supply = s.supply ∧
    (discardPec s).sys = s.sys ∧ (discardPec s).rails = s.rails ∧ (discardPec s).seq = s.seq ∧ (discardPec s).log =
    s.log ∧ (discardPec s).cell = s.cell ∧ (discardPec s).flash = s.flash ∧ (discardPec s).shadow = s.shadow ∧
    (discardPec s).light = s.light ∧ (discardPec s).neg = s.neg ∧ (discardPec s).nand = s.nand ∧ (discardPec
    s).tiers = s.tiers ∧ (discardPec s).ports = s.ports ∧ (discardPec s).sec = s.sec ∧ (discardPec s).pending =
    s.pending := by
  unfold discardPec
  simp

@[simp] theorem discardFrame_keeps (s : State) : (discardFrame s).ident = s.ident ∧ (discardFrame s).supply =
    s.supply ∧ (discardFrame s).sys = s.sys ∧ (discardFrame s).rails = s.rails ∧ (discardFrame s).seq = s.seq ∧
    (discardFrame s).log = s.log ∧ (discardFrame s).cell = s.cell ∧ (discardFrame s).flash = s.flash ∧ (discardFrame
    s).shadow = s.shadow ∧ (discardFrame s).light = s.light ∧ (discardFrame s).neg = s.neg ∧ (discardFrame s).nand =
    s.nand ∧ (discardFrame s).tiers = s.tiers ∧ (discardFrame s).ports = s.ports ∧ (discardFrame s).sec = s.sec ∧
    (discardFrame s).pending = s.pending := by
  unfold discardFrame
  simp

@[simp] theorem takeFrame_keeps (x : Xfer) (frame : List Byte) (errs : WordErrors) (s : State) : (takeFrame x frame
    errs s).ident = s.ident ∧ (takeFrame x frame errs s).pending = s.pending := by
  unfold takeFrame
  try dsimp only
  (repeat' split) <;> simp_all

@[simp] theorem readResponse_keeps (x : Xfer) (len : Nat) (s : State) : (readResponse x len s).ident = s.ident ∧
    (readResponse x len s).sys = s.sys ∧ (readResponse x len s).rails = s.rails ∧ (readResponse x len s).seq = s.seq
    ∧ (readResponse x len s).log = s.log ∧ (readResponse x len s).cell = s.cell ∧ (readResponse x len s).flash =
    s.flash ∧ (readResponse x len s).shadow = s.shadow ∧ (readResponse x len s).light = s.light ∧ (readResponse x
    len s).neg = s.neg ∧ (readResponse x len s).nand = s.nand ∧ (readResponse x len s).tiers = s.tiers ∧
    (readResponse x len s).ports = s.ports ∧ (readResponse x len s).irq = s.irq ∧ (readResponse x len s).sec = s.sec
    ∧ (readResponse x len s).free = s.free ∧ (readResponse x len s).pending = s.pending := by
  unfold readResponse
  simp

@[simp] theorem hostRead_keeps (i : Nat) (b : Nat) (s : State) : (hostRead i b s).ident = s.ident ∧ (hostRead i b
    s).sys = s.sys ∧ (hostRead i b s).rails = s.rails ∧ (hostRead i b s).seq = s.seq ∧ (hostRead i b s).log = s.log
    ∧ (hostRead i b s).cell = s.cell ∧ (hostRead i b s).flash = s.flash ∧ (hostRead i b s).shadow = s.shadow ∧
    (hostRead i b s).light = s.light ∧ (hostRead i b s).neg = s.neg ∧ (hostRead i b s).nand = s.nand ∧ (hostRead i b
    s).tiers = s.tiers ∧ (hostRead i b s).ports = s.ports ∧ (hostRead i b s).pending = s.pending := by
  unfold hostRead
  simp [hostRequest]

@[simp] theorem hostWrite_keeps (i : Nat) (b : Nat) (data : List Byte) (s : State) : (hostWrite i b data s).ident =
    s.ident ∧ (hostWrite i b data s).pending = s.pending := by
  unfold hostWrite
  simp [hostRequest, written]

@[simp] theorem hostSegRead_keeps (i : Nat) (b : Nat) (off : Nat) (len : Nat) (errs : WordErrors) (s : State) :
    (hostSegRead i b off len errs s).ident = s.ident ∧ (hostSegRead i b off len errs s).sys = s.sys ∧ (hostSegRead i
    b off len errs s).rails = s.rails ∧ (hostSegRead i b off len errs s).seq = s.seq ∧ (hostSegRead i b off len errs
    s).log = s.log ∧ (hostSegRead i b off len errs s).cell = s.cell ∧ (hostSegRead i b off len errs s).shadow =
    s.shadow ∧ (hostSegRead i b off len errs s).light = s.light ∧ (hostSegRead i b off len errs s).neg = s.neg ∧
    (hostSegRead i b off len errs s).nand = s.nand ∧ (hostSegRead i b off len errs s).tiers = s.tiers ∧ (hostSegRead
    i b off len errs s).ports = s.ports ∧ (hostSegRead i b off len errs s).sec = s.sec ∧ (hostSegRead i b off len
    errs s).pending = s.pending := by
  unfold hostSegRead
  simp [hostRequest]

@[simp] theorem hostSegWrite_keeps (i : Nat) (b : Nat) (off : Nat) (last : Bool) (data : List Byte) (s : State) :
    (hostSegWrite i b off last data s).ident = s.ident ∧ (hostSegWrite i b off last data s).sys = s.sys ∧
    (hostSegWrite i b off last data s).rails = s.rails ∧ (hostSegWrite i b off last data s).seq = s.seq ∧
    (hostSegWrite i b off last data s).log = s.log ∧ (hostSegWrite i b off last data s).cell = s.cell ∧
    (hostSegWrite i b off last data s).light = s.light ∧ (hostSegWrite i b off last data s).neg = s.neg ∧
    (hostSegWrite i b off last data s).nand = s.nand ∧ (hostSegWrite i b off last data s).tiers = s.tiers ∧
    (hostSegWrite i b off last data s).ports = s.ports ∧ (hostSegWrite i b off last data s).pending = s.pending :=
    by
  unfold hostSegWrite
  simp [hostRequest]

@[simp] theorem setAddress_keeps (a : Option (BitVec 7)) (s : State) : (setAddress a s).ident = s.ident ∧
    (setAddress a s).supply = s.supply ∧ (setAddress a s).sys = s.sys ∧ (setAddress a s).rails = s.rails ∧
    (setAddress a s).seq = s.seq ∧ (setAddress a s).log = s.log ∧ (setAddress a s).cell = s.cell ∧ (setAddress a
    s).flash = s.flash ∧ (setAddress a s).shadow = s.shadow ∧ (setAddress a s).light = s.light ∧ (setAddress a
    s).neg = s.neg ∧ (setAddress a s).nand = s.nand ∧ (setAddress a s).tiers = s.tiers ∧ (setAddress a s).ports =
    s.ports ∧ (setAddress a s).sec = s.sec ∧ (setAddress a s).pending = s.pending := by
  unfold setAddress
  simp

@[simp] theorem assignByEntdaa_keeps (addr : BitVec 7) (s : State) : (assignByEntdaa addr s).ident = s.ident ∧
    (assignByEntdaa addr s).sys = s.sys ∧ (assignByEntdaa addr s).rails = s.rails ∧ (assignByEntdaa addr s).seq =
    s.seq ∧ (assignByEntdaa addr s).log = s.log ∧ (assignByEntdaa addr s).cell = s.cell ∧ (assignByEntdaa addr
    s).flash = s.flash ∧ (assignByEntdaa addr s).shadow = s.shadow ∧ (assignByEntdaa addr s).light = s.light ∧
    (assignByEntdaa addr s).neg = s.neg ∧ (assignByEntdaa addr s).nand = s.nand ∧ (assignByEntdaa addr s).tiers =
    s.tiers ∧ (assignByEntdaa addr s).ports = s.ports ∧ (assignByEntdaa addr s).sec = s.sec ∧ (assignByEntdaa addr
    s).pending = s.pending := by
  unfold assignByEntdaa
  simp

@[simp] theorem assignByStatic_keeps (static : BitVec 7) (addr : BitVec 7) (s : State) : (assignByStatic static addr
    s).ident = s.ident ∧ (assignByStatic static addr s).sys = s.sys ∧ (assignByStatic static addr s).rails = s.rails
    ∧ (assignByStatic static addr s).seq = s.seq ∧ (assignByStatic static addr s).log = s.log ∧ (assignByStatic
    static addr s).cell = s.cell ∧ (assignByStatic static addr s).flash = s.flash ∧ (assignByStatic static addr
    s).shadow = s.shadow ∧ (assignByStatic static addr s).light = s.light ∧ (assignByStatic static addr s).neg =
    s.neg ∧ (assignByStatic static addr s).nand = s.nand ∧ (assignByStatic static addr s).tiers = s.tiers ∧
    (assignByStatic static addr s).ports = s.ports ∧ (assignByStatic static addr s).sec = s.sec ∧ (assignByStatic
    static addr s).pending = s.pending := by
  unfold assignByStatic
  simp

@[simp] theorem assignNew_keeps (addr : BitVec 7) (s : State) : (assignNew addr s).ident = s.ident ∧ (assignNew addr
    s).sys = s.sys ∧ (assignNew addr s).rails = s.rails ∧ (assignNew addr s).seq = s.seq ∧ (assignNew addr s).log =
    s.log ∧ (assignNew addr s).cell = s.cell ∧ (assignNew addr s).flash = s.flash ∧ (assignNew addr s).shadow =
    s.shadow ∧ (assignNew addr s).light = s.light ∧ (assignNew addr s).neg = s.neg ∧ (assignNew addr s).nand =
    s.nand ∧ (assignNew addr s).tiers = s.tiers ∧ (assignNew addr s).ports = s.ports ∧ (assignNew addr s).sec =
    s.sec ∧ (assignNew addr s).pending = s.pending := by
  unfold assignNew
  simp

@[simp] theorem resetAddress_keeps (s : State) : (resetAddress s).ident = s.ident ∧ (resetAddress s).sys = s.sys ∧
    (resetAddress s).rails = s.rails ∧ (resetAddress s).seq = s.seq ∧ (resetAddress s).log = s.log ∧ (resetAddress
    s).cell = s.cell ∧ (resetAddress s).flash = s.flash ∧ (resetAddress s).shadow = s.shadow ∧ (resetAddress
    s).light = s.light ∧ (resetAddress s).neg = s.neg ∧ (resetAddress s).nand = s.nand ∧ (resetAddress s).tiers =
    s.tiers ∧ (resetAddress s).ports = s.ports ∧ (resetAddress s).sec = s.sec ∧ (resetAddress s).pending = s.pending
    := by
  unfold resetAddress
  simp

@[simp] theorem enableIbi_keeps (s : State) : (enableIbi s).ident = s.ident ∧ (enableIbi s).sys = s.sys ∧ (enableIbi
    s).rails = s.rails ∧ (enableIbi s).seq = s.seq ∧ (enableIbi s).log = s.log ∧ (enableIbi s).cell = s.cell ∧
    (enableIbi s).flash = s.flash ∧ (enableIbi s).shadow = s.shadow ∧ (enableIbi s).light = s.light ∧ (enableIbi
    s).neg = s.neg ∧ (enableIbi s).nand = s.nand ∧ (enableIbi s).tiers = s.tiers ∧ (enableIbi s).ports = s.ports ∧
    (enableIbi s).irq = s.irq ∧ (enableIbi s).sec = s.sec ∧ (enableIbi s).pending = s.pending := by
  unfold enableIbi
  try dsimp only
  (repeat' split) <;> simp_all

@[simp] theorem disableIbi_keeps (s : State) : (disableIbi s).ident = s.ident ∧ (disableIbi s).sys = s.sys ∧
    (disableIbi s).rails = s.rails ∧ (disableIbi s).seq = s.seq ∧ (disableIbi s).log = s.log ∧ (disableIbi s).cell =
    s.cell ∧ (disableIbi s).flash = s.flash ∧ (disableIbi s).shadow = s.shadow ∧ (disableIbi s).light = s.light ∧
    (disableIbi s).neg = s.neg ∧ (disableIbi s).nand = s.nand ∧ (disableIbi s).tiers = s.tiers ∧ (disableIbi
    s).ports = s.ports ∧ (disableIbi s).irq = s.irq ∧ (disableIbi s).sec = s.sec ∧ (disableIbi s).free = s.free ∧
    (disableIbi s).pending = s.pending := by
  unfold disableIbi
  simp

@[simp] theorem retryIbi_keeps (s : State) : (retryIbi s).ident = s.ident ∧ (retryIbi s).supply = s.supply ∧
    (retryIbi s).sys = s.sys ∧ (retryIbi s).rails = s.rails ∧ (retryIbi s).seq = s.seq ∧ (retryIbi s).log = s.log ∧
    (retryIbi s).cell = s.cell ∧ (retryIbi s).flash = s.flash ∧ (retryIbi s).shadow = s.shadow ∧ (retryIbi s).light
    = s.light ∧ (retryIbi s).neg = s.neg ∧ (retryIbi s).nand = s.nand ∧ (retryIbi s).tiers = s.tiers ∧ (retryIbi
    s).ports = s.ports ∧ (retryIbi s).irq = s.irq ∧ (retryIbi s).sec = s.sec ∧ (retryIbi s).pending = s.pending :=
    by
  unfold retryIbi
  simp

@[simp] theorem answerCcc_keeps (bs : List Byte) (s : State) : (answerCcc bs s).ident = s.ident ∧ (answerCcc bs
    s).sys = s.sys ∧ (answerCcc bs s).rails = s.rails ∧ (answerCcc bs s).seq = s.seq ∧ (answerCcc bs s).log = s.log
    ∧ (answerCcc bs s).cell = s.cell ∧ (answerCcc bs s).flash = s.flash ∧ (answerCcc bs s).shadow = s.shadow ∧
    (answerCcc bs s).light = s.light ∧ (answerCcc bs s).neg = s.neg ∧ (answerCcc bs s).nand = s.nand ∧ (answerCcc bs
    s).tiers = s.tiers ∧ (answerCcc bs s).ports = s.ports ∧ (answerCcc bs s).irq = s.irq ∧ (answerCcc bs s).sec =
    s.sec ∧ (answerCcc bs s).free = s.free ∧ (answerCcc bs s).pending = s.pending := by
  unfold answerCcc
  simp

@[simp] theorem onTunnel_keeps (p : PortId) (f : Tunnel → Tunnel) (s : State) : (onTunnel p f s).ident = s.ident ∧
    (onTunnel p f s).supply = s.supply ∧ (onTunnel p f s).sys = s.sys ∧ (onTunnel p f s).rails = s.rails ∧ (onTunnel
    p f s).seq = s.seq ∧ (onTunnel p f s).log = s.log ∧ (onTunnel p f s).cell = s.cell ∧ (onTunnel p f s).flash =
    s.flash ∧ (onTunnel p f s).shadow = s.shadow ∧ (onTunnel p f s).light = s.light ∧ (onTunnel p f s).neg = s.neg ∧
    (onTunnel p f s).nand = s.nand ∧ (onTunnel p f s).tiers = s.tiers ∧ (onTunnel p f s).irq = s.irq ∧ (onTunnel p f
    s).bus = s.bus ∧ (onTunnel p f s).sec = s.sec ∧ (onTunnel p f s).free = s.free ∧ (onTunnel p f s).pending =
    s.pending := by
  unfold onTunnel
  simp

@[simp] theorem tunnelFetch_keeps (p : PortId) (t : Tunnel) (s : State) : (tunnelFetch p t s).2.2.ident = s.ident ∧
    (tunnelFetch p t s).2.2.supply = s.supply ∧ (tunnelFetch p t s).2.2.sys = s.sys ∧ (tunnelFetch p t s).2.2.rails
    = s.rails ∧ (tunnelFetch p t s).2.2.seq = s.seq ∧ (tunnelFetch p t s).2.2.log = s.log ∧ (tunnelFetch p t
    s).2.2.cell = s.cell ∧ (tunnelFetch p t s).2.2.shadow = s.shadow ∧ (tunnelFetch p t s).2.2.light = s.light ∧
    (tunnelFetch p t s).2.2.neg = s.neg ∧ (tunnelFetch p t s).2.2.nand = s.nand ∧ (tunnelFetch p t s).2.2.tiers =
    s.tiers ∧ (tunnelFetch p t s).2.2.ports = s.ports ∧ (tunnelFetch p t s).2.2.pending = s.pending := by
  unfold tunnelFetch
  try dsimp only
  (repeat' split) <;> simp_all

@[simp] theorem tunnelRefused_keeps (p : PortId) (s : State) : (tunnelRefused p s).ident = s.ident ∧ (tunnelRefused
    p s).supply = s.supply ∧ (tunnelRefused p s).sys = s.sys ∧ (tunnelRefused p s).rails = s.rails ∧ (tunnelRefused
    p s).seq = s.seq ∧ (tunnelRefused p s).log = s.log ∧ (tunnelRefused p s).cell = s.cell ∧ (tunnelRefused p
    s).flash = s.flash ∧ (tunnelRefused p s).shadow = s.shadow ∧ (tunnelRefused p s).light = s.light ∧
    (tunnelRefused p s).neg = s.neg ∧ (tunnelRefused p s).nand = s.nand ∧ (tunnelRefused p s).tiers = s.tiers ∧
    (tunnelRefused p s).sec = s.sec ∧ (tunnelRefused p s).pending = s.pending := by
  unfold tunnelRefused
  simp

@[simp] theorem tunnelCommand_keeps (p : PortId) (cmd : Nat) (s : State) : (tunnelCommand p cmd s).ident = s.ident ∧
    (tunnelCommand p cmd s).pending = s.pending := by
  unfold tunnelCommand
  simp

@[simp] theorem tunnelEnds_keeps (p : PortId) (s : State) : (tunnelEnds p s).ident = s.ident ∧ (tunnelEnds p
    s).supply = s.supply ∧ (tunnelEnds p s).sys = s.sys ∧ (tunnelEnds p s).rails = s.rails ∧ (tunnelEnds p s).seq =
    s.seq ∧ (tunnelEnds p s).log = s.log ∧ (tunnelEnds p s).cell = s.cell ∧ (tunnelEnds p s).flash = s.flash ∧
    (tunnelEnds p s).shadow = s.shadow ∧ (tunnelEnds p s).light = s.light ∧ (tunnelEnds p s).neg = s.neg ∧
    (tunnelEnds p s).nand = s.nand ∧ (tunnelEnds p s).tiers = s.tiers ∧ (tunnelEnds p s).sec = s.sec ∧ (tunnelEnds p
    s).pending = s.pending := by
  unfold tunnelEnds
  simp

@[simp] theorem queueRegister_keeps (p : PortId) (off : Nat) (data : List Byte) (s : State) : (queueRegister p off
    data s).ident = s.ident ∧ (queueRegister p off data s).supply = s.supply ∧ (queueRegister p off data s).sys =
    s.sys ∧ (queueRegister p off data s).rails = s.rails ∧ (queueRegister p off data s).seq = s.seq ∧ (queueRegister
    p off data s).log = s.log ∧ (queueRegister p off data s).cell = s.cell ∧ (queueRegister p off data s).flash =
    s.flash ∧ (queueRegister p off data s).shadow = s.shadow ∧ (queueRegister p off data s).light = s.light ∧
    (queueRegister p off data s).neg = s.neg ∧ (queueRegister p off data s).nand = s.nand ∧ (queueRegister p off
    data s).tiers = s.tiers ∧ (queueRegister p off data s).irq = s.irq ∧ (queueRegister p off data s).bus = s.bus ∧
    (queueRegister p off data s).sec = s.sec ∧ (queueRegister p off data s).free = s.free ∧ (queueRegister p off
    data s).pending = s.pending := by
  unfold queueRegister
  simp

@[simp] theorem writeMsix_keeps (p : PortId) (off : Nat) (data : List Byte) (s : State) : (writeMsix p off data
    s).ident = s.ident ∧ (writeMsix p off data s).supply = s.supply ∧ (writeMsix p off data s).sys = s.sys ∧
    (writeMsix p off data s).rails = s.rails ∧ (writeMsix p off data s).seq = s.seq ∧ (writeMsix p off data s).log =
    s.log ∧ (writeMsix p off data s).cell = s.cell ∧ (writeMsix p off data s).flash = s.flash ∧ (writeMsix p off
    data s).shadow = s.shadow ∧ (writeMsix p off data s).light = s.light ∧ (writeMsix p off data s).neg = s.neg ∧
    (writeMsix p off data s).nand = s.nand ∧ (writeMsix p off data s).tiers = s.tiers ∧ (writeMsix p off data s).sec
    = s.sec ∧ (writeMsix p off data s).pending = s.pending := by
  unfold writeMsix
  simp

@[simp] theorem writeCoal_keeps (p : PortId) (v : U32) (s : State) : (writeCoal p v s).ident = s.ident ∧ (writeCoal
    p v s).supply = s.supply ∧ (writeCoal p v s).sys = s.sys ∧ (writeCoal p v s).rails = s.rails ∧ (writeCoal p v
    s).seq = s.seq ∧ (writeCoal p v s).log = s.log ∧ (writeCoal p v s).cell = s.cell ∧ (writeCoal p v s).flash =
    s.flash ∧ (writeCoal p v s).shadow = s.shadow ∧ (writeCoal p v s).light = s.light ∧ (writeCoal p v s).neg =
    s.neg ∧ (writeCoal p v s).nand = s.nand ∧ (writeCoal p v s).tiers = s.tiers ∧ (writeCoal p v s).ports = s.ports
    ∧ (writeCoal p v s).sec = s.sec ∧ (writeCoal p v s).pending = s.pending := by
  unfold writeCoal
  simp

@[simp] theorem tunnelRegister_keeps (p : PortId) (off : Nat) (data : List Byte) (s : State) : (tunnelRegister p off
    data s).ident = s.ident ∧ (tunnelRegister p off data s).supply = s.supply ∧ (tunnelRegister p off data s).sys =
    s.sys ∧ (tunnelRegister p off data s).rails = s.rails ∧ (tunnelRegister p off data s).seq = s.seq ∧
    (tunnelRegister p off data s).log = s.log ∧ (tunnelRegister p off data s).cell = s.cell ∧ (tunnelRegister p off
    data s).flash = s.flash ∧ (tunnelRegister p off data s).shadow = s.shadow ∧ (tunnelRegister p off data s).light
    = s.light ∧ (tunnelRegister p off data s).neg = s.neg ∧ (tunnelRegister p off data s).nand = s.nand ∧
    (tunnelRegister p off data s).tiers = s.tiers ∧ (tunnelRegister p off data s).irq = s.irq ∧ (tunnelRegister p
    off data s).bus = s.bus ∧ (tunnelRegister p off data s).sec = s.sec ∧ (tunnelRegister p off data s).free =
    s.free ∧ (tunnelRegister p off data s).pending = s.pending := by
  unfold tunnelRegister
  simp

@[simp] theorem bar0Write_keeps (p : PortId) (off : Nat) (data : List Byte) (s : State) : (bar0Write p off data
    s).ident = s.ident ∧ (bar0Write p off data s).pending = s.pending := by
  unfold bar0Write
  simp

@[simp] theorem registerWritten_keeps (t : RegTarget) (s : State) : (registerWritten t s).ident = s.ident ∧
    (registerWritten t s).pending = s.pending := by
  unfold registerWritten
  try dsimp only
  (repeat' split) <;> simp_all

@[simp] theorem engineClaim_keeps (p : PortId) (fast : Bool) (s : State) : (engineClaim p fast s).ident = s.ident ∧
    (engineClaim p fast s).supply = s.supply ∧ (engineClaim p fast s).sys = s.sys ∧ (engineClaim p fast s).rails =
    s.rails ∧ (engineClaim p fast s).seq = s.seq ∧ (engineClaim p fast s).log = s.log ∧ (engineClaim p fast s).cell
    = s.cell ∧ (engineClaim p fast s).flash = s.flash ∧ (engineClaim p fast s).shadow = s.shadow ∧ (engineClaim p
    fast s).light = s.light ∧ (engineClaim p fast s).neg = s.neg ∧ (engineClaim p fast s).nand = s.nand ∧
    (engineClaim p fast s).tiers = s.tiers ∧ (engineClaim p fast s).sec = s.sec ∧ (engineClaim p fast s).free =
    s.free ∧ (engineClaim p fast s).pending = s.pending := by
  unfold engineClaim
  simp

@[simp] theorem claimAt_keeps (t : TargetId) (fast : Bool) (s : State) : (claimAt t fast s).ident = s.ident ∧
    (claimAt t fast s).sys = s.sys ∧ (claimAt t fast s).rails = s.rails ∧ (claimAt t fast s).seq = s.seq ∧ (claimAt
    t fast s).log = s.log ∧ (claimAt t fast s).cell = s.cell ∧ (claimAt t fast s).flash = s.flash ∧ (claimAt t fast
    s).shadow = s.shadow ∧ (claimAt t fast s).light = s.light ∧ (claimAt t fast s).neg = s.neg ∧ (claimAt t fast
    s).nand = s.nand ∧ (claimAt t fast s).tiers = s.tiers ∧ (claimAt t fast s).pending = s.pending := by
  unfold claimAt
  try dsimp only
  (repeat' split) <;> simp_all

@[simp] theorem completeOn_keeps (t : TargetId) (source : U16) (s : State) : (completeOn t source s).ident = s.ident
    ∧ (completeOn t source s).pending = s.pending := by
  unfold completeOn
  try dsimp only
  (repeat' split) <;> simp_all

end Sys2Proof.Machine
end

