-- ==== Sys2Proof/Laws/KeepsRows.lean ====
section
/-! SUPPORT. What each operation of Machine/Supplies, Steps, RailEvents, LogCell, HostCommands, PortRows, IrqRows,
Clock leaves as it was: one lemma an operation, for `simp`. -/

set_option linter.unusedSimpArgs false
set_option linter.unusedVariables false
set_option linter.unusedTactic false
set_option linter.unreachableTactic false

namespace Sys2Proof.Machine

@[simp] theorem lapse_keeps (f : Supply → Supply) (s : State) : (lapse f s).ident = s.ident ∧ (lapse f s).sys =
    s.sys ∧ (lapse f s).rails = s.rails ∧ (lapse f s).seq = s.seq ∧ (lapse f s).log = s.log ∧ (lapse f s).cell =
    s.cell ∧ (lapse f s).flash = s.flash ∧ (lapse f s).shadow = s.shadow ∧ (lapse f s).light = s.light ∧ (lapse f
    s).neg = s.neg ∧ (lapse f s).nand = s.nand ∧ (lapse f s).tiers = s.tiers ∧ (lapse f s).ports = s.ports ∧ (lapse
    f s).irq = s.irq ∧ (lapse f s).bus = s.bus ∧ (lapse f s).sec = s.sec ∧ (lapse f s).free = s.free ∧ (lapse f
    s).pending = s.pending := by
  unfold lapse
  simp

@[simp] theorem vinFails_keeps (s : State) : (vinFails s).ident = s.ident ∧ (vinFails s).shadow = s.shadow ∧
    (vinFails s).pending = s.pending := by
  unfold vinFails
  simp

@[simp] theorem vinSags_keeps (s : State) : (vinSags s).ident = s.ident ∧ (vinSags s).shadow = s.shadow ∧ (vinSags
    s).pending = s.pending := by
  unfold vinSags
  simp

@[simp] theorem excursion_keeps (s : State) : (excursion s).ident = s.ident ∧ (excursion s).sys = s.sys ∧ (excursion
    s).rails = s.rails ∧ (excursion s).seq = s.seq ∧ (excursion s).log = s.log ∧ (excursion s).cell = s.cell ∧
    (excursion s).flash = s.flash ∧ (excursion s).shadow = s.shadow ∧ (excursion s).light = s.light ∧ (excursion
    s).neg = s.neg ∧ (excursion s).nand = s.nand ∧ (excursion s).tiers = s.tiers ∧ (excursion s).ports = s.ports ∧
    (excursion s).irq = s.irq ∧ (excursion s).bus = s.bus ∧ (excursion s).sec = s.sec ∧ (excursion s).free = s.free
    ∧ (excursion s).pending = s.pending := by
  unfold excursion
  simp

@[simp] theorem vinWarning_keeps (s : State) : (vinWarning s).ident = s.ident ∧ (vinWarning s).sys = s.sys ∧
    (vinWarning s).rails = s.rails ∧ (vinWarning s).seq = s.seq ∧ (vinWarning s).log = s.log ∧ (vinWarning s).cell =
    s.cell ∧ (vinWarning s).flash = s.flash ∧ (vinWarning s).shadow = s.shadow ∧ (vinWarning s).light = s.light ∧
    (vinWarning s).neg = s.neg ∧ (vinWarning s).nand = s.nand ∧ (vinWarning s).tiers = s.tiers ∧ (vinWarning
    s).ports = s.ports ∧ (vinWarning s).sec = s.sec ∧ (vinWarning s).pending = s.pending := by
  unfold vinWarning
  simp

@[simp] theorem vsbFails_keeps (s : State) : (vsbFails s).ident = s.ident ∧ (vsbFails s).shadow = s.shadow ∧
    (vsbFails s).pending = s.pending := by
  unfold vsbFails
  simp

@[simp] theorem insertedAgain_keeps (s : State) : (insertedAgain s).ident = s.ident ∧ (insertedAgain s).log = s.log
    ∧ (insertedAgain s).shadow = s.shadow ∧ (insertedAgain s).pending = s.pending := by
  unfold insertedAgain
  simp

@[simp] theorem vsbBack_keeps (s : State) : (vsbBack s).ident = s.ident ∧ (vsbBack s).shadow = s.shadow ∧ (vsbBack
    s).pending = s.pending := by
  unfold vsbBack
  simp

@[simp] theorem debounced_keeps (s : State) : (debounced s).ident = s.ident ∧ (debounced s).log = s.log ∧ (debounced
    s).shadow = s.shadow ∧ (debounced s).pending = s.pending := by
  unfold debounced
  simp

@[simp] theorem mrReset_keeps (s : State) : (mrReset s).ident = s.ident ∧ (mrReset s).log = s.log ∧ (mrReset
    s).shadow = s.shadow ∧ (mrReset s).pending = s.pending := by
  unfold mrReset
  simp

@[simp] theorem supplyLow_keeps (s : State) : (supplyLow s).ident = s.ident ∧ (supplyLow s).sys = s.sys ∧ (supplyLow
    s).rails = s.rails ∧ (supplyLow s).seq = s.seq ∧ (supplyLow s).cell = s.cell ∧ (supplyLow s).shadow = s.shadow ∧
    (supplyLow s).light = s.light ∧ (supplyLow s).neg = s.neg ∧ (supplyLow s).nand = s.nand ∧ (supplyLow s).tiers =
    s.tiers ∧ (supplyLow s).ports = s.ports ∧ (supplyLow s).pending = s.pending := by
  unfold supplyLow
  simp

@[simp] theorem supplyRecovers_keeps (s : State) : (supplyRecovers s).ident = s.ident ∧ (supplyRecovers s).sys =
    s.sys ∧ (supplyRecovers s).rails = s.rails ∧ (supplyRecovers s).seq = s.seq ∧ (supplyRecovers s).log = s.log ∧
    (supplyRecovers s).cell = s.cell ∧ (supplyRecovers s).shadow = s.shadow ∧ (supplyRecovers s).light = s.light ∧
    (supplyRecovers s).neg = s.neg ∧ (supplyRecovers s).nand = s.nand ∧ (supplyRecovers s).tiers = s.tiers ∧
    (supplyRecovers s).ports = s.ports ∧ (supplyRecovers s).pending = s.pending := by
  unfold supplyRecovers
  simp

@[simp] theorem crystalFails_keeps (s : State) : (crystalFails s).ident = s.ident ∧ (crystalFails s).rails = s.rails
    ∧ (crystalFails s).seq = s.seq ∧ (crystalFails s).log = s.log ∧ (crystalFails s).cell = s.cell ∧ (crystalFails
    s).flash = s.flash ∧ (crystalFails s).shadow = s.shadow ∧ (crystalFails s).light = s.light ∧ (crystalFails
    s).neg = s.neg ∧ (crystalFails s).nand = s.nand ∧ (crystalFails s).tiers = s.tiers ∧ (crystalFails s).ports =
    s.ports ∧ (crystalFails s).sec = s.sec ∧ (crystalFails s).pending = s.pending := by
  unfold crystalFails
  simp

@[simp] theorem crystalBack_keeps (s : State) : (crystalBack s).ident = s.ident ∧ (crystalBack s).rails = s.rails ∧
    (crystalBack s).seq = s.seq ∧ (crystalBack s).log = s.log ∧ (crystalBack s).cell = s.cell ∧ (crystalBack
    s).flash = s.flash ∧ (crystalBack s).shadow = s.shadow ∧ (crystalBack s).light = s.light ∧ (crystalBack s).neg =
    s.neg ∧ (crystalBack s).nand = s.nand ∧ (crystalBack s).tiers = s.tiers ∧ (crystalBack s).ports = s.ports ∧
    (crystalBack s).sec = s.sec ∧ (crystalBack s).pending = s.pending := by
  unfold crystalBack
  simp

@[simp] theorem clockReturns_keeps (s : State) : (clockReturns s).ident = s.ident ∧ (clockReturns s).sys = s.sys ∧
    (clockReturns s).rails = s.rails ∧ (clockReturns s).seq = s.seq ∧ (clockReturns s).log = s.log ∧ (clockReturns
    s).cell = s.cell ∧ (clockReturns s).flash = s.flash ∧ (clockReturns s).shadow = s.shadow ∧ (clockReturns
    s).light = s.light ∧ (clockReturns s).neg = s.neg ∧ (clockReturns s).nand = s.nand ∧ (clockReturns s).tiers =
    s.tiers ∧ (clockReturns s).ports = s.ports ∧ (clockReturns s).irq = s.irq ∧ (clockReturns s).bus = s.bus ∧
    (clockReturns s).sec = s.sec ∧ (clockReturns s).free = s.free ∧ (clockReturns s).pending = s.pending := by
  unfold clockReturns
  simp

@[simp] theorem conditionHolds_keeps (c : InsCond) (s : State) : (conditionHolds c s).ident = s.ident ∧
    (conditionHolds c s).shadow = s.shadow ∧ (conditionHolds c s).pending = s.pending := by
  unfold conditionHolds
  try dsimp only
  (repeat' split) <;> simp_all

@[simp] theorem conditionMet_keeps (mismatch : Bool) (s : State) : (conditionMet mismatch s).ident = s.ident ∧
    (conditionMet mismatch s).supply = s.supply ∧ (conditionMet mismatch s).sys = s.sys ∧ (conditionMet mismatch
    s).rails = s.rails ∧ (conditionMet mismatch s).log = s.log ∧ (conditionMet mismatch s).cell = s.cell ∧
    (conditionMet mismatch s).flash = s.flash ∧ (conditionMet mismatch s).shadow = s.shadow ∧ (conditionMet mismatch
    s).light = s.light ∧ (conditionMet mismatch s).neg = s.neg ∧ (conditionMet mismatch s).nand = s.nand ∧
    (conditionMet mismatch s).tiers = s.tiers ∧ (conditionMet mismatch s).ports = s.ports ∧ (conditionMet mismatch
    s).irq = s.irq ∧ (conditionMet mismatch s).bus = s.bus ∧ (conditionMet mismatch s).sec = s.sec ∧ (conditionMet
    mismatch s).free = s.free ∧ (conditionMet mismatch s).pending = s.pending := by
  unfold conditionMet
  try dsimp only
  (repeat' split) <;> simp_all

@[simp] theorem conditionMissed_keeps (mismatch : Bool) (s : State) : (conditionMissed mismatch s).ident = s.ident ∧
    (conditionMissed mismatch s).supply = s.supply ∧ (conditionMissed mismatch s).sys = s.sys ∧ (conditionMissed
    mismatch s).log = s.log ∧ (conditionMissed mismatch s).cell = s.cell ∧ (conditionMissed mismatch s).flash =
    s.flash ∧ (conditionMissed mismatch s).shadow = s.shadow ∧ (conditionMissed mismatch s).light = s.light ∧
    (conditionMissed mismatch s).neg = s.neg ∧ (conditionMissed mismatch s).nand = s.nand ∧ (conditionMissed
    mismatch s).tiers = s.tiers ∧ (conditionMissed mismatch s).ports = s.ports ∧ (conditionMissed mismatch s).sec =
    s.sec ∧ (conditionMissed mismatch s).pending = s.pending := by
  unfold conditionMissed
  try dsimp only
  (repeat' split) <;> simp_all

@[simp] theorem outputChanges_keeps (n : SlotId) (c : Comp) (f : Cmp → Cmp) (s : State) : (outputChanges n c f
    s).ident = s.ident ∧ (outputChanges n c f s).supply = s.supply ∧ (outputChanges n c f s).sys = s.sys ∧
    (outputChanges n c f s).log = s.log ∧ (outputChanges n c f s).cell = s.cell ∧ (outputChanges n c f s).flash =
    s.flash ∧ (outputChanges n c f s).shadow = s.shadow ∧ (outputChanges n c f s).light = s.light ∧ (outputChanges n
    c f s).neg = s.neg ∧ (outputChanges n c f s).nand = s.nand ∧ (outputChanges n c f s).tiers = s.tiers ∧
    (outputChanges n c f s).ports = s.ports ∧ (outputChanges n c f s).sec = s.sec ∧ (outputChanges n c f s).pending
    = s.pending := by
  unfold outputChanges
  simp

@[simp] theorem converted_keeps (c : Conversion) (loopTrim : U16) (s : State) : (converted c loopTrim s).ident =
    s.ident ∧ (converted c loopTrim s).sys = s.sys ∧ (converted c loopTrim s).log = s.log ∧ (converted c loopTrim
    s).flash = s.flash ∧ (converted c loopTrim s).shadow = s.shadow ∧ (converted c loopTrim s).light = s.light ∧
    (converted c loopTrim s).neg = s.neg ∧ (converted c loopTrim s).nand = s.nand ∧ (converted c loopTrim s).tiers =
    s.tiers ∧ (converted c loopTrim s).ports = s.ports ∧ (converted c loopTrim s).sec = s.sec ∧ (converted c
    loopTrim s).pending = s.pending := by
  unfold converted
  try dsimp only
  (repeat' split) <;> simp_all

@[simp] theorem faultFound_keeps (code : Byte) (s : State) : (faultFound code s).ident = s.ident ∧ (faultFound code
    s).supply = s.supply ∧ (faultFound code s).rails = s.rails ∧ (faultFound code s).seq = s.seq ∧ (faultFound code
    s).shadow = s.shadow ∧ (faultFound code s).light = s.light ∧ (faultFound code s).neg = s.neg ∧ (faultFound code
    s).nand = s.nand ∧ (faultFound code s).tiers = s.tiers ∧ (faultFound code s).ports = s.ports ∧ (faultFound code
    s).pending = s.pending := by
  unfold faultFound
  simp

@[simp] theorem estimated_keeps (vcellUv : U32) (s : State) : (estimated vcellUv s).ident = s.ident ∧ (estimated
    vcellUv s).supply = s.supply ∧ (estimated vcellUv s).rails = s.rails ∧ (estimated vcellUv s).seq = s.seq ∧
    (estimated vcellUv s).shadow = s.shadow ∧ (estimated vcellUv s).light = s.light ∧ (estimated vcellUv s).neg =
    s.neg ∧ (estimated vcellUv s).nand = s.nand ∧ (estimated vcellUv s).tiers = s.tiers ∧ (estimated vcellUv
    s).ports = s.ports ∧ (estimated vcellUv s).pending = s.pending := by
  unfold estimated
  simp

@[simp] theorem refreshBank_keeps (r : Fin 16) (x1 : Option (Fin 16)) (s : State) : (refreshBank r x1 s).ident =
    s.ident ∧ (refreshBank r x1 s).supply = s.supply ∧ (refreshBank r x1 s).sys = s.sys ∧ (refreshBank r x1 s).rails
    = s.rails ∧ (refreshBank r x1 s).seq = s.seq ∧ (refreshBank r x1 s).log = s.log ∧ (refreshBank r x1 s).cell =
    s.cell ∧ (refreshBank r x1 s).flash = s.flash ∧ (refreshBank r x1 s).shadow = s.shadow ∧ (refreshBank r x1
    s).neg = s.neg ∧ (refreshBank r x1 s).nand = s.nand ∧ (refreshBank r x1 s).tiers = s.tiers ∧ (refreshBank r x1
    s).ports = s.ports ∧ (refreshBank r x1 s).irq = s.irq ∧ (refreshBank r x1 s).bus = s.bus ∧ (refreshBank r x1
    s).sec = s.sec ∧ (refreshBank r x1 s).free = s.free ∧ (refreshBank r x1 s).pending = s.pending := by
  unfold refreshBank
  simp

@[simp] theorem relockEnds_keeps (k : Fin 8) (s : State) : (relockEnds k s).ident = s.ident ∧ (relockEnds k
    s).supply = s.supply ∧ (relockEnds k s).sys = s.sys ∧ (relockEnds k s).rails = s.rails ∧ (relockEnds k s).seq =
    s.seq ∧ (relockEnds k s).log = s.log ∧ (relockEnds k s).cell = s.cell ∧ (relockEnds k s).flash = s.flash ∧
    (relockEnds k s).shadow = s.shadow ∧ (relockEnds k s).neg = s.neg ∧ (relockEnds k s).nand = s.nand ∧ (relockEnds
    k s).tiers = s.tiers ∧ (relockEnds k s).ports = s.ports ∧ (relockEnds k s).sec = s.sec ∧ (relockEnds k
    s).pending = s.pending := by
  unfold relockEnds
  simp

@[simp] theorem veilStarts_keeps (side : SideId) (sub : SubId) (cause : Fin 6) (s : State) : (veilStarts side sub
    cause s).ident = s.ident ∧ (veilStarts side sub cause s).supply = s.supply ∧ (veilStarts side sub cause s).sys =
    s.sys ∧ (veilStarts side sub cause s).rails = s.rails ∧ (veilStarts side sub cause s).seq = s.seq ∧ (veilStarts
    side sub cause s).log = s.log ∧ (veilStarts side sub cause s).cell = s.cell ∧ (veilStarts side sub cause
    s).flash = s.flash ∧ (veilStarts side sub cause s).shadow = s.shadow ∧ (veilStarts side sub cause s).neg = s.neg
    ∧ (veilStarts side sub cause s).nand = s.nand ∧ (veilStarts side sub cause s).tiers = s.tiers ∧ (veilStarts side
    sub cause s).ports = s.ports ∧ (veilStarts side sub cause s).sec = s.sec ∧ (veilStarts side sub cause s).pending
    = s.pending := by
  unfold veilStarts
  simp

@[simp] theorem veilTooLong_keeps (side : SideId) (sub : SubId) (s : State) : (veilTooLong side sub s).ident =
    s.ident ∧ (veilTooLong side sub s).supply = s.supply ∧ (veilTooLong side sub s).rails = s.rails ∧ (veilTooLong
    side sub s).seq = s.seq ∧ (veilTooLong side sub s).log = s.log ∧ (veilTooLong side sub s).cell = s.cell ∧
    (veilTooLong side sub s).shadow = s.shadow ∧ (veilTooLong side sub s).light = s.light ∧ (veilTooLong side sub
    s).neg = s.neg ∧ (veilTooLong side sub s).nand = s.nand ∧ (veilTooLong side sub s).tiers = s.tiers ∧
    (veilTooLong side sub s).ports = s.ports ∧ (veilTooLong side sub s).pending = s.pending := by
  unfold veilTooLong
  simp

@[simp] theorem invalidates_keeps (path : Sys2Proof.Path) (stream : U16) (s : State) : (invalidates path stream
    s).ident = s.ident ∧ (invalidates path stream s).pending = s.pending := by
  unfold invalidates
  try dsimp only
  (repeat' split) <;> simp_all

@[simp] theorem coalescing_keeps (t : TargetId) (sub : Nat) (value : U16) (s : State) : (coalescing t sub value
    s).ident = s.ident ∧ (coalescing t sub value s).pending = s.pending := by
  unfold coalescing
  simp

@[simp] theorem copiesEnd_keeps (s : State) : (copiesEnd s).ident = s.ident ∧ (copiesEnd s).supply = s.supply ∧
    (copiesEnd s).sys = s.sys ∧ (copiesEnd s).rails = s.rails ∧ (copiesEnd s).seq = s.seq ∧ (copiesEnd s).log =
    s.log ∧ (copiesEnd s).cell = s.cell ∧ (copiesEnd s).flash = s.flash ∧ (copiesEnd s).shadow = s.shadow ∧
    (copiesEnd s).light = s.light ∧ (copiesEnd s).neg = s.neg ∧ (copiesEnd s).tiers = s.tiers ∧ (copiesEnd s).ports
    = s.ports ∧ (copiesEnd s).sec = s.sec ∧ (copiesEnd s).pending = s.pending := by
  unfold copiesEnd
  simp

@[simp] theorem tick_keeps (s : State) : (tick s).ident = s.ident ∧ (tick s).supply = s.supply ∧ (tick s).rails =
    s.rails ∧ (tick s).seq = s.seq ∧ (tick s).log = s.log ∧ (tick s).flash = s.flash ∧ (tick s).shadow = s.shadow ∧
    (tick s).light = s.light ∧ (tick s).neg = s.neg ∧ (tick s).tiers = s.tiers ∧ (tick s).ports = s.ports ∧ (tick
    s).sec = s.sec ∧ (tick s).pending = s.pending := by
  unfold tick
  simp

end Sys2Proof.Machine
end

