-- ==== Sys2Proof/Laws/Canon.lean ====
section
/-! SUPPORT. Finite maps of the state under a fold and a choice of operations: what each keeps, the fold keeps. -/

set_option linter.unusedSimpArgs false

namespace Sys2Proof.Machine

@[simp] theorem fold_pages_rising {α : Type} (g : State → α → State)
    (hg : ∀ s a, rising s.flash.pages = true → rising (g s a).flash.pages = true) (l : List α) (s : State)
    (h : rising s.flash.pages = true) : rising (l.foldl g s).flash.pages = true := by
  induction l generalizing s with
  | nil => exact h
  | cons a l ih => exact ih _ (hg _ _ h)

@[simp] theorem fold2_pages_rising {α β : Type} (g : β × State → α → β × State)
    (hg : ∀ p a, rising p.2.flash.pages = true → rising (g p a).2.flash.pages = true) (l : List α) (p : β × State)
    (h : rising p.2.flash.pages = true) : rising (l.foldl g p).2.flash.pages = true := by
  induction l generalizing p with
  | nil => exact h
  | cons a l ih => exact ih _ (hg _ _ h)

@[simp] theorem fold_tiles_rising {α : Type} (g : State → α → State)
    (hg : ∀ s a, rising s.tiers.tiles = true → rising (g s a).tiers.tiles = true) (l : List α) (s : State)
    (h : rising s.tiers.tiles = true) : rising (l.foldl g s).tiers.tiles = true := by
  induction l generalizing s with
  | nil => exact h
  | cons a l ih => exact ih _ (hg _ _ h)

@[simp] theorem fold2_tiles_rising {α β : Type} (g : β × State → α → β × State)
    (hg : ∀ p a, rising p.2.tiers.tiles = true → rising (g p a).2.tiers.tiles = true) (l : List α) (p : β × State)
    (h : rising p.2.tiers.tiles = true) : rising (l.foldl g p).2.tiers.tiles = true := by
  induction l generalizing p with
  | nil => exact h
  | cons a l ih => exact ih _ (hg _ _ h)

@[simp] theorem fold_shadow_rising {α : Type} (g : State → α → State)
    (hg : ∀ s a, rising s.shadow = true → rising (g s a).shadow = true) (l : List α) (s : State)
    (h : rising s.shadow = true) : rising (l.foldl g s).shadow = true := by
  induction l generalizing s with
  | nil => exact h
  | cons a l ih => exact ih _ (hg _ _ h)

@[simp] theorem fold2_shadow_rising {α β : Type} (g : β × State → α → β × State)
    (hg : ∀ p a, rising p.2.shadow = true → rising (g p a).2.shadow = true) (l : List α) (p : β × State)
    (h : rising p.2.shadow = true) : rising (l.foldl g p).2.shadow = true := by
  induction l generalizing p with
  | nil => exact h
  | cons a l ih => exact ih _ (hg _ _ h)

@[simp] theorem rising_nil {α : Type} : rising ([] : Assoc α) = true := rfl

@[simp] theorem rising_ite {α : Type} (c : Prop) [Decidable c] (a b : Assoc α) :
    rising (if c then a else b) = if c then rising a else rising b := apply_ite rising c a b

@[simp] theorem ite_pages (c : Prop) [Decidable c] (a b : Flash) :
    (if c then a else b).pages = if c then a.pages else b.pages := apply_ite Flash.pages c a b

@[simp] theorem ite_tiles (c : Prop) [Decidable c] (a b : Tiers) :
    (if c then a else b).tiles = if c then a.tiles else b.tiles := apply_ite Tiers.tiles c a b

end Sys2Proof.Machine
end

