-- ==== Sys2Proof/Laws/CanonPages.lean ====
section
/-! SUPPORT. Every operation keeps the keys of option flash's pages rising: one lemma an operation, for `simp`. -/

set_option linter.unusedSimpArgs false
set_option linter.unusedVariables false
set_option linter.unusedTactic false
set_option linter.unreachableTactic false
set_option linter.unnecessarySeqFocus false

namespace Sys2Proof.Machine

@[simp] theorem enter_pages_rising (st : DevState) (cause : Byte) (s : State) (hc : rising s.flash.pages = true) :
    rising (enter st cause s).flash.pages = true := by
  unfold enter
  simp (maxDischargeDepth := 16) [hc]

@[simp] theorem faultEntry_pages_rising (code : Byte) (cause : Byte) (s : State) (hc : rising s.flash.pages = true)
    : rising (faultEntry code cause s).flash.pages = true := by
  unfold faultEntry
  simp (maxDischargeDepth := 16) [hc]

@[simp] theorem countRead_pages_rising (errs : WordErrors) (addr : Nat) (len : Nat) (s : State) (hc : rising
    s.flash.pages = true) : rising (countRead errs addr len s).flash.pages = true := by
  unfold countRead
  simp (maxDischargeDepth := 16) [hc]

@[simp] theorem commitEnded_pages_rising (completed : Bool) (s : State) (hc : rising s.flash.pages = true) : rising
    (commitEnded completed s).flash.pages = true := by
  unfold commitEnded
  simp (maxDischargeDepth := 16) [hc]

@[simp] theorem queueJob_pages_rising (k : FlashKind) (ops : List FlashPrim) (s : State) (hc : rising s.flash.pages
    = true) : rising (queueJob k ops s).flash.pages = true := by
  unfold queueJob
  simp (maxDischargeDepth := 16) [hc]

@[simp] theorem dropJob_pages_rising (id : Nat) (s : State) (hc : rising s.flash.pages = true) : rising (dropJob id
    s).flash.pages = true := by
  unfold dropJob
  simp (maxDischargeDepth := 16) [hc]

@[simp] theorem refuseJob_pages_rising (j : FlashJob) (a : Abort) (s : State) (hc : rising s.flash.pages = true) :
    rising (refuseJob j a s).flash.pages = true := by
  unfold refuseJob
  try dsimp only
  (repeat' split) <;> simp_all (maxDischargeDepth := 16)

@[simp] theorem prepare_pages_rising (j : FlashJob) (s : State) (hc : rising s.flash.pages = true) : rising (prepare
    j s).2.flash.pages = true := by
  unfold prepare
  try dsimp only
  (repeat' split) <;> simp_all (maxDischargeDepth := 16)

@[simp] theorem putJob_pages_rising (j : FlashJob) (s : State) (hc : rising s.flash.pages = true) : rising (putJob j
    s).flash.pages = true := by
  unfold putJob
  simp (maxDischargeDepth := 16) [hc]

@[simp] theorem askSuspend_pages_rising (s : State) (hc : rising s.flash.pages = true) : rising (askSuspend
    s).flash.pages = true := by
  unfold askSuspend
  simp (maxDischargeDepth := 16) [hc]

@[simp] theorem startPrim_pages_rising (j : FlashJob) (op : FlashPrim) (s : State) (hc : rising s.flash.pages =
    true) : rising (startPrim j op s).2.flash.pages = true := by
  unfold startPrim
  try dsimp only
  (repeat' split) <;> simp_all (maxDischargeDepth := 16)

@[simp] theorem tryJob_pages_rising (j : FlashJob) (s : State) (hc : rising s.flash.pages = true) : rising (tryJob j
    s).2.flash.pages = true := by
  unfold tryJob
  try dsimp only
  (repeat' split) <;> simp_all (maxDischargeDepth := 16)

@[simp] theorem pump_pages_rising (x1 : Nat) (x2 : State) (hc : rising x2.flash.pages = true) : rising (pump x1
    x2).flash.pages = true := by
  induction x1 generalizing x2 with
  | zero => simpa [pump] using hc
  | succ n ih =>
    unfold pump
    try dsimp only
    (repeat' split) <;> simp_all (maxDischargeDepth := 16)

@[simp] theorem flashKick_pages_rising (s : State) (hc : rising s.flash.pages = true) : rising (flashKick
    s).flash.pages = true := by
  unfold flashKick
  simp (maxDischargeDepth := 16) [hc]

@[simp] theorem logPoint_pages_rising (cause : Byte) (s : State) (hc : rising s.flash.pages = true) : rising
    (logPoint cause s).flash.pages = true := by
  unfold logPoint
  simp (maxDischargeDepth := 16) [hc]

@[simp] theorem logDeferred_pages_rising (s : State) (hc : rising s.flash.pages = true) : rising (logDeferred
    s).flash.pages = true := by
  unfold logDeferred
  try dsimp only
  (repeat' split) <;> simp_all (maxDischargeDepth := 16)

@[simp] theorem requestCommit_pages_rising (s : State) (hc : rising s.flash.pages = true) : rising (requestCommit
    s).flash.pages = true := by
  unfold requestCommit
  simp (maxDischargeDepth := 16) [hc]

@[simp] theorem commitNow_pages_rising (s : State) (hc : rising s.flash.pages = true) : rising (commitNow
    s).flash.pages = true := by
  unfold commitNow
  simp (maxDischargeDepth := 16) [hc]

@[simp] theorem enterFault_pages_rising (code : Byte) (cause : Byte) (s : State) (hc : rising s.flash.pages = true)
    : rising (enterFault code cause s).flash.pages = true := by
  unfold enterFault
  simp (maxDischargeDepth := 16) [hc]

@[simp] theorem writeP_pages_rising (key : Nat) (v : Nat) (s : State) (hc : rising s.flash.pages = true) : rising
    (writeP key v s).flash.pages = true := by
  unfold writeP
  simp (maxDischargeDepth := 16) [hc]

@[simp] theorem abortProgram_pages_rising (s : State) (b : Fin 2) (hc : rising s.flash.pages = true) : rising
    (abortProgram s b).flash.pages = true := by
  unfold abortProgram
  try dsimp only
  (repeat' split) <;> simp_all (maxDischargeDepth := 16)

@[simp] theorem abortErase_pages_rising (s : State) (hc : rising s.flash.pages = true) : rising (abortErase
    s).flash.pages = true := by
  unfold abortErase
  try dsimp only
  (repeat' split) <;> simp_all (maxDischargeDepth := 16)

@[simp] theorem abortJob_pages_rising (s : State) (j : FlashJob) (hc : rising s.flash.pages = true) : rising
    (abortJob s j).flash.pages = true := by
  unfold abortJob
  try dsimp only
  (repeat' split) <;> simp_all (maxDischargeDepth := 16)

@[simp] theorem flashAbort_pages_rising (s : State) (hc : rising s.flash.pages = true) : rising (flashAbort
    s).flash.pages = true := by
  unfold flashAbort
  try dsimp only
  (repeat' split) <;> simp_all (maxDischargeDepth := 16)

@[simp] theorem opEnded_pages_rising (id : Nat) (s : State) (hc : rising s.flash.pages = true) : rising (opEnded id
    s).flash.pages = true := by
  unfold opEnded
  simp (maxDischargeDepth := 16) [hc]

@[simp] theorem readSuspends_pages_rising (sec : Nat) (s : State) (hc : rising s.flash.pages = true) : rising
    (readSuspends sec s).flash.pages = true := by
  unfold readSuspends
  try dsimp only
  (repeat' split) <;> simp_all (maxDischargeDepth := 16)

@[simp] theorem scanFlash_pages_rising (s : State) (hc : rising s.flash.pages = true) : rising (scanFlash
    s).flash.pages = true := by
  unfold scanFlash
  simp (maxDischargeDepth := 16) [hc]

@[simp] theorem tenPercent_pages_rising (s : State) (hc : rising s.flash.pages = true) : rising (tenPercent
    s).flash.pages = true := by
  unfold tenPercent
  simp (maxDischargeDepth := 16) [hc]

@[simp] theorem cellPeriod_pages_rising (s : State) (hc : rising s.flash.pages = true) : rising (cellPeriod
    s).flash.pages = true := by
  unfold cellPeriod
  simp (maxDischargeDepth := 16) [hc]

@[simp] theorem coulomb_pages_rising (delta : Int) (s : State) (hc : rising s.flash.pages = true) : rising (coulomb
    delta s).flash.pages = true := by
  unfold coulomb
  try dsimp only
  (repeat' split) <;> simp_all (maxDischargeDepth := 16)

@[simp] theorem cellFault_pages_rising (code : Byte) (s : State) (hc : rising s.flash.pages = true) : rising
    (cellFault code s).flash.pages = true := by
  unfold cellFault
  simp (maxDischargeDepth := 16) [hc]

@[simp] theorem switchClose_pages_rising (s : State) (hc : rising s.flash.pages = true) : rising (switchClose
    s).flash.pages = true := by
  unfold switchClose
  simp (maxDischargeDepth := 16) [hc]

@[simp] theorem switchOpen_pages_rising (s : State) (hc : rising s.flash.pages = true) : rising (switchOpen
    s).flash.pages = true := by
  unfold switchOpen
  simp (maxDischargeDepth := 16) [hc]

@[simp] theorem loadProgram_pages_rising (sub : Nat) (role : Nat) (s : State) (hc : rising s.flash.pages = true) :
    rising (loadProgram sub role s).flash.pages = true := by
  unfold loadProgram
  simp (maxDischargeDepth := 16) [hc]

@[simp] theorem startRole_pages_rising (role : Nat) (s : State) (hc : rising s.flash.pages = true) : rising
    (startRole role s).flash.pages = true := by
  unfold startRole
  try dsimp only
  (repeat' split) <;> simp_all (maxDischargeDepth := 16)

@[simp] theorem fillPowerFail_pages_rising (errs : WordErrors) (s : State) (hc : rising s.flash.pages = true) :
    rising (fillPowerFail errs s).flash.pages = true := by
  unfold fillPowerFail
  try dsimp only
  (repeat' split) <;> simp_all (maxDischargeDepth := 16)

@[simp] theorem loadEnded_pages_rising (errs : WordErrors) (s : State) (hc : rising s.flash.pages = true) : rising
    (loadEnded errs s).flash.pages = true := by
  unfold loadEnded
  try dsimp only
  (repeat' split) <;> simp_all (maxDischargeDepth := 16)

@[simp] theorem persistenceFault_pages_rising (code : Byte) (s : State) (hc : rising s.flash.pages = true) : rising
    (persistenceFault code s).flash.pages = true := by
  unfold persistenceFault
  simp (maxDischargeDepth := 16) [hc]

@[simp] theorem afterDead_pages_rising (s : State) (hc : rising s.flash.pages = true) : rising (afterDead
    s).flash.pages = true := by
  unfold afterDead
  try dsimp only
  (repeat' split) <;> simp_all (maxDischargeDepth := 16)

@[simp] theorem presentToken_pages_rising (token : List Byte) (s : State) (hc : rising s.flash.pages = true) :
    rising (presentToken token s).2.flash.pages = true := by
  unfold presentToken
  try dsimp only
  (repeat' split) <;> simp_all (maxDischargeDepth := 16)

@[simp] theorem rebind_pages_rising (s : State) (hc : rising s.flash.pages = true) : rising (rebind s).flash.pages =
    true := by
  unfold rebind
  simp (maxDischargeDepth := 16) [hc]

@[simp] theorem loadKeys_pages_rising (errs : WordErrors) (s : State) (hc : rising s.flash.pages = true) : rising
    (loadKeys errs s).flash.pages = true := by
  unfold loadKeys
  try dsimp only
  (repeat' split) <;> simp_all (maxDischargeDepth := 16)

@[simp] theorem countImage_pages_rising (errs : WordErrors) (b : Bool) (s : State) (hc : rising s.flash.pages =
    true) : rising (countImage errs b s).flash.pages = true := by
  unfold countImage
  simp (maxDischargeDepth := 16) [hc]

@[simp] theorem verifyUpdate_pages_rising (errs : WordErrors) (s : State) (hc : rising s.flash.pages = true) :
    rising (verifyUpdate errs s).2.flash.pages = true := by
  unfold verifyUpdate
  simp (maxDischargeDepth := 16) [hc]

@[simp] theorem activate_pages_rising (s : State) (hc : rising s.flash.pages = true) : rising (activate
    s).2.flash.pages = true := by
  unfold activate
  simp (maxDischargeDepth := 16) [hc]

@[simp] theorem sanitizeFrom_pages_rising (code : U32) (s : State) (hc : rising s.flash.pages = true) : rising
    (sanitizeFrom code s).2.flash.pages = true := by
  unfold sanitizeFrom
  simp (maxDischargeDepth := 16) [hc]

@[simp] theorem takeArray_pages_rising (q : FlashRead) (s : State) (hc : rising s.flash.pages = true) : rising
    (takeArray q s).2.flash.pages = true := by
  unfold takeArray
  simp (maxDischargeDepth := 16) [hc]

@[simp] theorem readArray_pages_rising (q : FlashRead) (s : State) (hc : rising s.flash.pages = true) : rising
    (readArray q s).2.flash.pages = true := by
  unfold readArray
  simp (maxDischargeDepth := 16) [hc]

@[simp] theorem serveWaiting_pages_rising (s : State) (hc : rising s.flash.pages = true) : rising (serveWaiting
    s).flash.pages = true := by
  unfold serveWaiting
  try dsimp only
  (repeat' split) <;> simp_all (maxDischargeDepth := 16)

@[simp] theorem readTimeout_pages_rising (s : State) (hc : rising s.flash.pages = true) : rising (readTimeout
    s).flash.pages = true := by
  unfold readTimeout
  try dsimp only
  (repeat' split) <;> simp_all (maxDischargeDepth := 16)

@[simp] theorem jobEnds_pages_rising (j : FlashJob) (errs : WordErrors) (s : State) (hc : rising s.flash.pages =
    true) : rising (jobEnds j errs s).flash.pages = true := by
  unfold jobEnds
  try dsimp only
  (repeat' split) <;> simp_all (maxDischargeDepth := 16)

@[simp] theorem afterOp_pages_rising (id : Nat) (errs : WordErrors) (s : State) (hc : rising s.flash.pages = true) :
    rising (afterOp id errs s).flash.pages = true := by
  unfold afterOp
  try dsimp only
  (repeat' split) <;> simp_all (maxDischargeDepth := 16)

@[simp] theorem pageEnds_pages_rising (b : Fin 2) (errs : WordErrors) (s : State) (hc : rising s.flash.pages = true)
    : rising (pageEnds b errs s).flash.pages = true := by
  unfold pageEnds
  try dsimp only
  (repeat' split) <;> simp_all (maxDischargeDepth := 16)

@[simp] theorem eraseDone_pages_rising (s : State) (hc : rising s.flash.pages = true) : rising (eraseDone
    s).flash.pages = true := by
  unfold eraseDone
  try dsimp only
  (repeat' split) <;> simp_all (maxDischargeDepth := 16)

@[simp] theorem eraseGoesOn_pages_rising (s : State) (hc : rising s.flash.pages = true) : rising (eraseGoesOn
    s).flash.pages = true := by
  unfold eraseGoesOn
  try dsimp only
  (repeat' split) <;> simp_all (maxDischargeDepth := 16)

@[simp] theorem holdoffOver_pages_rising (s : State) (hc : rising s.flash.pages = true) : rising (holdoffOver
    s).flash.pages = true := by
  unfold holdoffOver
  try dsimp only
  (repeat' split) <;> simp_all (maxDischargeDepth := 16)

@[simp] theorem queueTimeout_pages_rising (id : Option Nat) (s : State) (hc : rising s.flash.pages = true) : rising
    (queueTimeout id s).flash.pages = true := by
  unfold queueTimeout
  try dsimp only
  (repeat' split) <;> simp_all (maxDischargeDepth := 16)

@[simp] theorem commitAsked_pages_rising (s : State) (hc : rising s.flash.pages = true) : rising (commitAsked
    s).2.flash.pages = true := by
  unfold commitAsked
  simp (maxDischargeDepth := 16) [hc]

@[simp] theorem commitTimed_pages_rising (s : State) (hc : rising s.flash.pages = true) : rising (commitTimed
    s).flash.pages = true := by
  unfold commitTimed
  simp (maxDischargeDepth := 16) [hc]

@[simp] theorem blockInForce_pages_rising (s : State) (hc : rising s.flash.pages = true) : rising (blockInForce
    s).flash.pages = true := by
  unfold blockInForce
  simp (maxDischargeDepth := 16) [hc]

@[simp] theorem commitDone_pages_rising (s : State) (hc : rising s.flash.pages = true) : rising (commitDone
    s).flash.pages = true := by
  unfold commitDone
  try dsimp only
  (repeat' split) <;> simp_all (maxDischargeDepth := 16)

@[simp] theorem repairStarts_pages_rising (s : State) (hc : rising s.flash.pages = true) : rising (repairStarts
    s).flash.pages = true := by
  unfold repairStarts
  try dsimp only
  (repeat' split) <;> simp_all (maxDischargeDepth := 16)

@[simp] theorem logDone_pages_rising (s : State) (hc : rising s.flash.pages = true) : rising (logDone s).flash.pages
    = true := by
  unfold logDone
  try dsimp only
  (repeat' split) <;> simp_all (maxDischargeDepth := 16)

@[simp] theorem readRaw_pages_rising (off : Nat) (len : Nat) (errs : WordErrors) (s : State) (hc : rising
    s.flash.pages = true) : rising (readRaw off len errs s).2.flash.pages = true := by
  unfold readRaw
  simp (maxDischargeDepth := 16) [hc]

@[simp] theorem rawRefused_pages_rising (a : Abort) (s : State) (hc : rising s.flash.pages = true) : rising
    (rawRefused a s).2.flash.pages = true := by
  unfold rawRefused
  simp (maxDischargeDepth := 16) [hc]

@[simp] theorem rawJob_pages_rising (ops : List FlashPrim) (resp : List Byte) (s : State) (hc : rising s.flash.pages
    = true) : rising (rawJob ops resp s).flash.pages = true := by
  unfold rawJob
  simp (maxDischargeDepth := 16) [hc]

@[simp] theorem programRaw_pages_rising (data : List Byte) (resp : List Byte) (s : State) (hc : rising s.flash.pages
    = true) : rising (programRaw data resp s).2.flash.pages = true := by
  unfold programRaw
  simp (maxDischargeDepth := 16) [hc]

@[simp] theorem eraseRaw_pages_rising (sec : Byte) (resp : List Byte) (s : State) (hc : rising s.flash.pages = true)
    : rising (eraseRaw sec resp s).2.flash.pages = true := by
  unfold eraseRaw
  simp (maxDischargeDepth := 16) [hc]

@[simp] theorem segmentJob_pages_rising (kind : FlashKind) (ops : List FlashPrim) (s : State) (hc : rising
    s.flash.pages = true) : rising (segmentJob kind ops s).flash.pages = true := by
  unfold segmentJob
  simp (maxDischargeDepth := 16) [hc]

@[simp] theorem storeOpened_pages_rising (s : State) (hc : rising s.flash.pages = true) : rising (storeOpened
    s).flash.pages = true := by
  unfold storeOpened
  simp (maxDischargeDepth := 16) [hc]

@[simp] theorem storeSegment_pages_rising (g : OpenSeg) (data : List Byte) (last : Bool) (s : State) (hc : rising
    s.flash.pages = true) : rising (storeSegment g data last s).2.flash.pages = true := by
  unfold storeSegment
  simp (maxDischargeDepth := 16) [hc]

@[simp] theorem imageSegment_pages_rising (g : OpenSeg) (data : List Byte) (last : Bool) (s : State) (hc : rising
    s.flash.pages = true) : rising (imageSegment g data last s).2.flash.pages = true := by
  unfold imageSegment
  simp (maxDischargeDepth := 16) [hc]

@[simp] theorem volatileReset_pages_rising (s : State) (hc : rising s.flash.pages = true) : rising (volatileReset
    s).flash.pages = true := by
  unfold volatileReset
  simp (maxDischargeDepth := 16) [hc]

@[simp] theorem bootEntry_pages_rising (cause : Byte) (s : State) (hc : rising s.flash.pages = true) : rising
    (bootEntry cause s).flash.pages = true := by
  unfold bootEntry
  simp (maxDischargeDepth := 16) [hc]

@[simp] theorem bootFrom_pages_rising (cause : Byte) (s : State) (hc : rising s.flash.pages = true) : rising
    (bootFrom cause s).flash.pages = true := by
  unfold bootFrom
  simp (maxDischargeDepth := 16) [hc]

@[simp] theorem enterRun_pages_rising (cause : Byte) (s : State) (hc : rising s.flash.pages = true) : rising
    (enterRun cause s).flash.pages = true := by
  unfold enterRun
  simp (maxDischargeDepth := 16) [hc]

@[simp] theorem beginExpose_pages_rising (cause : Byte) (target : Byte) (powerFail : Bool) (s : State) (hc : rising
    s.flash.pages = true) : rising (beginExpose cause target powerFail s).flash.pages = true := by
  unfold beginExpose
  simp (maxDischargeDepth := 16) [hc]

@[simp] theorem enterDevelop_pages_rising (cause : Byte) (fromPartial : Bool) (s : State) (hc : rising s.flash.pages
    = true) : rising (enterDevelop cause fromPartial s).flash.pages = true := by
  unfold enterDevelop
  simp (maxDischargeDepth := 16) [hc]

@[simp] theorem wake_pages_rising (cause : Byte) (s : State) (hc : rising s.flash.pages = true) : rising (wake cause
    s).flash.pages = true := by
  unfold wake
  simp (maxDischargeDepth := 16) [hc]

@[simp] theorem finishHold_pages_rising (s : State) (hc : rising s.flash.pages = true) : rising (finishHold
    s).flash.pages = true := by
  unfold finishHold
  simp (maxDischargeDepth := 16) [hc]

@[simp] theorem finishDark_pages_rising (cause : Byte) (s : State) (hc : rising s.flash.pages = true) : rising
    (finishDark cause s).flash.pages = true := by
  unfold finishDark
  simp (maxDischargeDepth := 16) [hc]

@[simp] theorem leaveDisable_pages_rising (l : Leave) (s : State) (hc : rising s.flash.pages = true) : rising
    (leaveDisable l s).flash.pages = true := by
  unfold leaveDisable
  try dsimp only
  (repeat' split) <;> simp_all (maxDischargeDepth := 16)

@[simp] theorem leaveProgram_pages_rising (l : Leave) (s : State) (hc : rising s.flash.pages = true) : rising
    (leaveProgram l s).flash.pages = true := by
  unfold leaveProgram
  simp (maxDischargeDepth := 16) [hc]

@[simp] theorem beginLeave_pages_rising (l : Leave) (s : State) (hc : rising s.flash.pages = true) : rising
    (beginLeave l s).flash.pages = true := by
  unfold beginLeave
  simp (maxDischargeDepth := 16) [hc]

@[simp] theorem tierSaveEnds_pages_rising (s : State) (hc : rising s.flash.pages = true) : rising (tierSaveEnds
    s).flash.pages = true := by
  unfold tierSaveEnds
  try dsimp only
  (repeat' split) <;> simp_all (maxDischargeDepth := 16)

@[simp] theorem criticalDisabled_pages_rising (s : State) (hc : rising s.flash.pages = true) : rising
    (criticalDisabled s).flash.pages = true := by
  unfold criticalDisabled
  try dsimp only
  (repeat' split) <;> simp_all (maxDischargeDepth := 16)

@[simp] theorem bootTestFault_pages_rising (s : State) (hc : rising s.flash.pages = true) : rising (bootTestFault
    s).flash.pages = true := by
  unfold bootTestFault
  simp (maxDischargeDepth := 16) [hc]

@[simp] theorem afterProgram_pages_rising (before : State) (s : State) (hc : rising s.flash.pages = true) : rising
    (afterProgram before s).flash.pages = true := by
  unfold afterProgram
  try dsimp only
  (repeat' split) <;> simp_all (maxDischargeDepth := 16)

@[simp] theorem triggerCommon_pages_rising (s : State) (hc : rising s.flash.pages = true) : rising (triggerCommon
    s).flash.pages = true := by
  unfold triggerCommon
  simp (maxDischargeDepth := 16) [hc]

@[simp] theorem powerFailProgram_pages_rising (s : State) (hc : rising s.flash.pages = true) : rising
    (powerFailProgram s).flash.pages = true := by
  unfold powerFailProgram
  try dsimp only
  (repeat' split) <;> simp_all (maxDischargeDepth := 16)

@[simp] theorem resumeLeave_pages_rising (s : State) (hc : rising s.flash.pages = true) : rising (resumeLeave
    s).flash.pages = true := by
  unfold resumeLeave
  try dsimp only
  (repeat' split) <;> simp_all (maxDischargeDepth := 16)

@[simp] theorem powerFailExpose_pages_rising (cause : Byte) (s : State) (hc : rising s.flash.pages = true) : rising
    (powerFailExpose cause s).flash.pages = true := by
  unfold powerFailExpose
  try dsimp only
  (repeat' split) <;> simp_all (maxDischargeDepth := 16)

@[simp] theorem powerFailDark_pages_rising (cause : Byte) (s : State) (hc : rising s.flash.pages = true) : rising
    (powerFailDark cause s).flash.pages = true := by
  unfold powerFailDark
  try dsimp only
  (repeat' split) <;> simp_all (maxDischargeDepth := 16)

@[simp] theorem keptExposure_pages_rising (cause : Byte) (s : State) (hc : rising s.flash.pages = true) : rising
    (keptExposure cause s).flash.pages = true := by
  unfold keptExposure
  try dsimp only
  (repeat' split) <;> simp_all (maxDischargeDepth := 16)

@[simp] theorem powerFailPartial_pages_rising (cause : Byte) (s : State) (hc : rising s.flash.pages = true) : rising
    (powerFailPartial cause s).flash.pages = true := by
  unfold powerFailPartial
  simp (maxDischargeDepth := 16) [hc]

@[simp] theorem powerFail_pages_rising (cause : Byte) (s : State) (hc : rising s.flash.pages = true) : rising
    (powerFail cause s).flash.pages = true := by
  unfold powerFail
  try dsimp only
  (repeat' split) <;> simp_all (maxDischargeDepth := 16)

@[simp] theorem trainingEnds_pages_rising (pass : Bool) (s : State) (hc : rising s.flash.pages = true) : rising
    (trainingEnds pass s).flash.pages = true := by
  unfold trainingEnds
  try dsimp only
  (repeat' split) <;> simp_all (maxDischargeDepth := 16)

@[simp] theorem commitWritten_pages_rising (s : State) (hc : rising s.flash.pages = true) : rising (commitWritten
    s).flash.pages = true := by
  unfold commitWritten
  try dsimp only
  (repeat' split) <;> first | (simp_all (maxDischargeDepth := 16); done) | (have hk := commitGeneration_keeps _ _ _ (by assumption); simp_all)

@[simp] theorem returnEnds_pages_rising (side : Fin 2) (us : U32) (s : State) (hc : rising s.flash.pages = true) :
    rising (returnEnds side us s).flash.pages = true := by
  unfold returnEnds
  try dsimp only
  (repeat' split) <;> simp_all (maxDischargeDepth := 16)

@[simp] theorem mapsLoaded_pages_rising (s : State) (hc : rising s.flash.pages = true) : rising (mapsLoaded
    s).flash.pages = true := by
  unfold mapsLoaded
  try dsimp only
  (repeat' split) <;> simp_all (maxDischargeDepth := 16)

@[simp] theorem markWritten_pages_rising (s : State) (hc : rising s.flash.pages = true) : rising (markWritten
    s).flash.pages = true := by
  unfold markWritten
  try dsimp only
  (repeat' split) <;> simp_all (maxDischargeDepth := 16)

@[simp] theorem mainReset_pages_rising (source : Byte) (s : State) (hc : rising s.flash.pages = true) : rising
    (mainReset source s).flash.pages = true := by
  unfold mainReset
  try dsimp only
  (repeat' split) <;> simp_all (maxDischargeDepth := 16)

@[simp] theorem exposeRequest_pages_rising (target : Byte) (s : State) (hc : rising s.flash.pages = true) : rising
    (exposeRequest target s).2.flash.pages = true := by
  unfold exposeRequest
  simp (maxDischargeDepth := 16) [hc]

@[simp] theorem wakeRequest_pages_rising (s : State) (hc : rising s.flash.pages = true) : rising (wakeRequest
    s).2.flash.pages = true := by
  unfold wakeRequest
  simp (maxDischargeDepth := 16) [hc]

@[simp] theorem runRequest_pages_rising (s : State) (hc : rising s.flash.pages = true) : rising (runRequest
    s).2.flash.pages = true := by
  unfold runRequest
  simp (maxDischargeDepth := 16) [hc]

@[simp] theorem developRequest_pages_rising (s : State) (hc : rising s.flash.pages = true) : rising (developRequest
    s).2.flash.pages = true := by
  unfold developRequest
  simp (maxDischargeDepth := 16) [hc]

@[simp] theorem stateRequest_pages_rising (code : Nat) (s : State) (hc : rising s.flash.pages = true) : rising
    (stateRequest code s).2.flash.pages = true := by
  unfold stateRequest
  simp (maxDischargeDepth := 16) [hc]

@[simp] theorem aonLost_pages_rising (cause : Byte) (s : State) (hc : rising s.flash.pages = true) : rising (aonLost
    cause s).flash.pages = true := by
  unfold aonLost
  simp (maxDischargeDepth := 16) [hc]

@[simp] theorem depleted_pages_rising (s : State) (hc : rising s.flash.pages = true) : rising (depleted
    s).flash.pages = true := by
  unfold depleted
  simp (maxDischargeDepth := 16) [hc]

@[simp] theorem loadLog_pages_rising (errs : WordErrors) (s : State) (hc : rising s.flash.pages = true) : rising
    (loadLog errs s).flash.pages = true := by
  unfold loadLog
  try dsimp only
  (repeat' split) <;> simp_all (maxDischargeDepth := 16)

@[simp] theorem aonUp_pages_rising (straps : BitVec 2) (errs : WordErrors) (s : State) (hc : rising s.flash.pages =
    true) : rising (aonUp straps errs s).flash.pages = true := by
  unfold aonUp
  simp (maxDischargeDepth := 16) [hc]

@[simp] theorem storePersistent_pages_rising (i : Nat) (b : Nat) (v : Nat) (s : State) (hc : rising s.flash.pages =
    true) : rising (storePersistent i b v s).flash.pages = true := by
  unfold storePersistent
  simp (maxDischargeDepth := 16) [hc]

@[simp] theorem storeSources_pages_rising (es : List Nat) (s : State) (hc : rising s.flash.pages = true) : rising
    (storeSources es s).flash.pages = true := by
  unfold storeSources
  simp (maxDischargeDepth := 16) [hc]

@[simp] theorem runProgram_pages_rising (sub : Nat) (s : State) (hc : rising s.flash.pages = true) : rising
    (runProgram sub s).2.flash.pages = true := by
  unfold runProgram
  simp (maxDischargeDepth := 16) [hc]

@[simp] theorem clearCounts_pages_rising (s : State) (hc : rising s.flash.pages = true) : rising (clearCounts
    s).flash.pages = true := by
  unfold clearCounts
  simp (maxDischargeDepth := 16) [hc]

@[simp] theorem writeEffect_pages_rising (i : Nat) (b : Nat) (data : List Byte) (resp : List Byte) (s : State) (hc :
    rising s.flash.pages = true) : rising (writeEffect i b data resp s).2.flash.pages = true := by
  unfold writeEffect
  simp (maxDischargeDepth := 16) [hc]

@[simp] theorem objectWrite_pages_rising (path : Sys2Proof.Path) (i : Nat) (b : Nat) (data : List Byte) (resp : List
    Byte) (s : State) (hc : rising s.flash.pages = true) : rising (objectWrite path i b data resp s).2.flash.pages =
    true := by
  unfold objectWrite
  try dsimp only
  (repeat' split) <;> simp_all (maxDischargeDepth := 16)

@[simp] theorem odWrite_pages_rising (path : Sys2Proof.Path) (i : Nat) (b : Nat) (data : List Byte) (resp : List
    Byte) (s : State) (hc : rising s.flash.pages = true) : rising (odWrite path i b data resp s).2.flash.pages =
    true := by
  unfold odWrite
  simp (maxDischargeDepth := 16) [rawNoted, hc]

@[simp] theorem odSegRead_pages_rising (path : Sys2Proof.Path) (i : Nat) (b : Nat) (off : Nat) (len : Nat) (errs :
    WordErrors) (s : State) (hc : rising s.flash.pages = true) : rising (odSegRead path i b off len errs
    s).2.flash.pages = true := by
  unfold odSegRead
  simp (maxDischargeDepth := 16) [hc]

@[simp] theorem segDone_pages_rising (i : Nat) (bs : List Byte) (resp : List Byte) (s : State) (hc : rising
    s.flash.pages = true) : rising (segDone i bs resp s).2.flash.pages = true := by
  unfold segDone
  simp (maxDischargeDepth := 16) [hc]

@[simp] theorem segTake_pages_rising (path : Sys2Proof.Path) (g : OpenSeg) (last : Bool) (data : List Byte) (s :
    State) (hc : rising s.flash.pages = true) : rising (segTake path g last data s).2.flash.pages = true := by
  unfold segTake
  simp (maxDischargeDepth := 16) [hc]

@[simp] theorem segmentWrite_pages_rising (path : Sys2Proof.Path) (i : Nat) (b : Nat) (off : Nat) (last : Bool)
    (data : List Byte) (s : State) (hc : rising s.flash.pages = true) : rising (segmentWrite path i b off last data
    s).2.flash.pages = true := by
  unfold segmentWrite
  try dsimp only
  (repeat' split) <;> simp_all (maxDischargeDepth := 16)

@[simp] theorem odSegWrite_pages_rising (path : Sys2Proof.Path) (i : Nat) (b : Nat) (off : Nat) (last : Bool) (data
    : List Byte) (s : State) (hc : rising s.flash.pages = true) : rising (odSegWrite path i b off last data
    s).2.flash.pages = true := by
  unfold odSegWrite
  simp (maxDischargeDepth := 16) [rawNoted, hc]

@[simp] theorem serveSegRead_pages_rising (i : Nat) (b : Nat) (off : Nat) (len : Nat) (errs : WordErrors) (s :
    State) (hc : rising s.flash.pages = true) : rising (serveSegRead i b off len errs s).flash.pages = true := by
  unfold serveSegRead
  try dsimp only
  (repeat' split) <;> simp_all (maxDischargeDepth := 16)

@[simp] theorem serveSegWrite_pages_rising (i : Nat) (b : Nat) (off : Nat) (last : Bool) (data : List Byte) (s :
    State) (hc : rising s.flash.pages = true) : rising (serveSegWrite i b off last data s).flash.pages = true := by
  unfold serveSegWrite
  simp (maxDischargeDepth := 16) [hc]

@[simp] theorem serve_pages_rising (errs : WordErrors) (q : Request) (s : State) (hc : rising s.flash.pages = true)
    : rising (serve errs q s).flash.pages = true := by
  unfold serve
  try dsimp only
  (repeat' split) <;> simp_all (maxDischargeDepth := 16) [written]

@[simp] theorem takeFrame_pages_rising (x : Xfer) (frame : List Byte) (errs : WordErrors) (s : State) (hc : rising
    s.flash.pages = true) : rising (takeFrame x frame errs s).flash.pages = true := by
  unfold takeFrame
  try dsimp only
  (repeat' split) <;> simp_all (maxDischargeDepth := 16)

@[simp] theorem hostWrite_pages_rising (i : Nat) (b : Nat) (data : List Byte) (s : State) (hc : rising s.flash.pages
    = true) : rising (hostWrite i b data s).flash.pages = true := by
  unfold hostWrite
  simp (maxDischargeDepth := 16) [hostRequest, written, hc]

@[simp] theorem hostSegRead_pages_rising (i : Nat) (b : Nat) (off : Nat) (len : Nat) (errs : WordErrors) (s : State)
    (hc : rising s.flash.pages = true) : rising (hostSegRead i b off len errs s).flash.pages = true := by
  unfold hostSegRead
  simp (maxDischargeDepth := 16) [hostRequest, hc]

@[simp] theorem hostSegWrite_pages_rising (i : Nat) (b : Nat) (off : Nat) (last : Bool) (data : List Byte) (s :
    State) (hc : rising s.flash.pages = true) : rising (hostSegWrite i b off last data s).flash.pages = true := by
  unfold hostSegWrite
  simp (maxDischargeDepth := 16) [hostRequest, hc]

@[simp] theorem tunnelFetch_pages_rising (p : PortId) (t : Tunnel) (s : State) (hc : rising s.flash.pages = true) :
    rising (tunnelFetch p t s).2.2.flash.pages = true := by
  unfold tunnelFetch
  try dsimp only
  (repeat' split) <;> simp_all (maxDischargeDepth := 16)

@[simp] theorem tunnelCommand_pages_rising (p : PortId) (cmd : Nat) (s : State) (hc : rising s.flash.pages = true) :
    rising (tunnelCommand p cmd s).flash.pages = true := by
  unfold tunnelCommand
  simp (maxDischargeDepth := 16) [hc]

@[simp] theorem bar0Write_pages_rising (p : PortId) (off : Nat) (data : List Byte) (s : State) (hc : rising
    s.flash.pages = true) : rising (bar0Write p off data s).flash.pages = true := by
  unfold bar0Write
  simp (maxDischargeDepth := 16) [hc]

@[simp] theorem registerWritten_pages_rising (t : RegTarget) (s : State) (hc : rising s.flash.pages = true) : rising
    (registerWritten t s).flash.pages = true := by
  unfold registerWritten
  try dsimp only
  (repeat' split) <;> simp_all (maxDischargeDepth := 16)

@[simp] theorem completeOn_pages_rising (t : TargetId) (source : U16) (s : State) (hc : rising s.flash.pages = true)
    : rising (completeOn t source s).flash.pages = true := by
  unfold completeOn
  try dsimp only
  (repeat' split) <;> simp_all (maxDischargeDepth := 16)

@[simp] theorem loadOption_pages_rising (errs : WordErrors) (s : State) (hc : rising s.flash.pages = true) : rising
    (loadOption errs s).flash.pages = true := by
  unfold loadOption
  try dsimp only
  (repeat' split) <;> simp_all (maxDischargeDepth := 16)

@[simp] theorem startPowerUp_pages_rising (s : State) (hc : rising s.flash.pages = true) : rising (startPowerUp
    s).flash.pages = true := by
  unfold startPowerUp
  simp (maxDischargeDepth := 16) [hc]

@[simp] theorem runImage_pages_rising (errs : WordErrors) (b : Bool) (s : State) (hc : rising s.flash.pages = true)
    : rising (runImage errs b s).flash.pages = true := by
  unfold runImage
  simp (maxDischargeDepth := 16) [hc]

@[simp] theorem bootSteps_pages_rising (errs : WordErrors) (s : State) (hc : rising s.flash.pages = true) : rising
    (bootSteps errs s).flash.pages = true := by
  unfold bootSteps
  try dsimp only
  (repeat' split) <;> simp_all (maxDischargeDepth := 16)

@[simp] theorem pllLocks_pages_rising (errs : WordErrors) (s : State) (hc : rising s.flash.pages = true) : rising
    (pllLocks errs s).flash.pages = true := by
  unfold pllLocks
  try dsimp only
  (repeat' split) <;> simp_all (maxDischargeDepth := 16)

@[simp] theorem selfTestEnds_pages_rising (result : U16) (s : State) (hc : rising s.flash.pages = true) : rising
    (selfTestEnds result s).flash.pages = true := by
  unfold selfTestEnds
  simp (maxDischargeDepth := 16) [hc]

@[simp] theorem securityAtSetup_pages_rising (s : State) (hc : rising s.flash.pages = true) : rising
    (securityAtSetup s).flash.pages = true := by
  unfold securityAtSetup
  simp (maxDischargeDepth := 16) [hc]

@[simp] theorem bootCompletes_pages_rising (errs : WordErrors) (s : State) (hc : rising s.flash.pages = true) :
    rising (bootCompletes errs s).flash.pages = true := by
  unfold bootCompletes
  simp (maxDischargeDepth := 16) [hc]

@[simp] theorem vinFails_pages_rising (s : State) (hc : rising s.flash.pages = true) : rising (vinFails
    s).flash.pages = true := by
  unfold vinFails
  simp (maxDischargeDepth := 16) [hc]

@[simp] theorem vinSags_pages_rising (s : State) (hc : rising s.flash.pages = true) : rising (vinSags s).flash.pages
    = true := by
  unfold vinSags
  simp (maxDischargeDepth := 16) [hc]

@[simp] theorem vsbFails_pages_rising (s : State) (hc : rising s.flash.pages = true) : rising (vsbFails
    s).flash.pages = true := by
  unfold vsbFails
  simp (maxDischargeDepth := 16) [hc]

@[simp] theorem insertedAgain_pages_rising (s : State) (hc : rising s.flash.pages = true) : rising (insertedAgain
    s).flash.pages = true := by
  unfold insertedAgain
  simp (maxDischargeDepth := 16) [hc]

@[simp] theorem vsbBack_pages_rising (s : State) (hc : rising s.flash.pages = true) : rising (vsbBack s).flash.pages
    = true := by
  unfold vsbBack
  simp (maxDischargeDepth := 16) [hc]

@[simp] theorem debounced_pages_rising (s : State) (hc : rising s.flash.pages = true) : rising (debounced
    s).flash.pages = true := by
  unfold debounced
  simp (maxDischargeDepth := 16) [hc]

@[simp] theorem mrReset_pages_rising (s : State) (hc : rising s.flash.pages = true) : rising (mrReset s).flash.pages
    = true := by
  unfold mrReset
  simp (maxDischargeDepth := 16) [hc]

@[simp] theorem supplyLow_pages_rising (s : State) (hc : rising s.flash.pages = true) : rising (supplyLow
    s).flash.pages = true := by
  unfold supplyLow
  simp (maxDischargeDepth := 16) [hc]

@[simp] theorem supplyRecovers_pages_rising (s : State) (hc : rising s.flash.pages = true) : rising (supplyRecovers
    s).flash.pages = true := by
  unfold supplyRecovers
  simp (maxDischargeDepth := 16) [hc]

@[simp] theorem conditionHolds_pages_rising (c : InsCond) (s : State) (hc : rising s.flash.pages = true) : rising
    (conditionHolds c s).flash.pages = true := by
  unfold conditionHolds
  try dsimp only
  (repeat' split) <;> simp_all (maxDischargeDepth := 16)

@[simp] theorem faultFound_pages_rising (code : Byte) (s : State) (hc : rising s.flash.pages = true) : rising
    (faultFound code s).flash.pages = true := by
  unfold faultFound
  simp (maxDischargeDepth := 16) [hc]

@[simp] theorem estimated_pages_rising (vcellUv : U32) (s : State) (hc : rising s.flash.pages = true) : rising
    (estimated vcellUv s).flash.pages = true := by
  unfold estimated
  simp (maxDischargeDepth := 16) [hc]

@[simp] theorem veilTooLong_pages_rising (side : SideId) (sub : SubId) (s : State) (hc : rising s.flash.pages =
    true) : rising (veilTooLong side sub s).flash.pages = true := by
  unfold veilTooLong
  simp (maxDischargeDepth := 16) [hc]

@[simp] theorem invalidates_pages_rising (path : Sys2Proof.Path) (stream : U16) (s : State) (hc : rising
    s.flash.pages = true) : rising (invalidates path stream s).flash.pages = true := by
  unfold invalidates
  try dsimp only
  (repeat' split) <;> simp_all (maxDischargeDepth := 16)

@[simp] theorem coalescing_pages_rising (t : TargetId) (sub : Nat) (value : U16) (s : State) (hc : rising
    s.flash.pages = true) : rising (coalescing t sub value s).flash.pages = true := by
  unfold coalescing
  simp (maxDischargeDepth := 16) [hc]

end Sys2Proof.Machine
end

