-- ==== Sys2Proof/Laws/CanonShadow.lean ====
section
/-! SUPPORT. Every operation keeps the keys of the shadow registers rising: one lemma an operation, for `simp`. -/

set_option linter.unusedSimpArgs false
set_option linter.unusedVariables false
set_option linter.unusedTactic false
set_option linter.unreachableTactic false
set_option linter.unnecessarySeqFocus false

namespace Sys2Proof.Machine

@[simp] theorem pset_shadow_rising (k : Nat) (v : Nat) (s : State) (hc : rising s.shadow = true) : rising (pset k v
    s).shadow = true := by
  unfold pset
  simp (maxDischargeDepth := 16) [hc]

@[simp] theorem writeP_shadow_rising (key : Nat) (v : Nat) (s : State) (hc : rising s.shadow = true) : rising
    (writeP key v s).shadow = true := by
  unfold writeP
  simp (maxDischargeDepth := 16) [hc]

@[simp] theorem aonUp_shadow_rising (straps : BitVec 2) (errs : WordErrors) (s : State) (hc : rising s.shadow =
    true) : rising (aonUp straps errs s).shadow = true := by
  unfold aonUp
  simp (maxDischargeDepth := 16) [hc]

@[simp] theorem storePersistent_shadow_rising (i : Nat) (b : Nat) (v : Nat) (s : State) (hc : rising s.shadow =
    true) : rising (storePersistent i b v s).shadow = true := by
  unfold storePersistent
  simp (maxDischargeDepth := 16) [hc]

@[simp] theorem storeSources_shadow_rising (es : List Nat) (s : State) (hc : rising s.shadow = true) : rising
    (storeSources es s).shadow = true := by
  unfold storeSources
  try dsimp only
  (repeat' split) <;> simp_all (maxDischargeDepth := 16)

@[simp] theorem objectWrite_shadow_rising (path : Sys2Proof.Path) (i : Nat) (b : Nat) (data : List Byte) (resp :
    List Byte) (s : State) (hc : rising s.shadow = true) : rising (objectWrite path i b data resp s).2.shadow = true
    := by
  unfold objectWrite
  try dsimp only
  (repeat' split) <;> simp_all (maxDischargeDepth := 16)

@[simp] theorem odWrite_shadow_rising (path : Sys2Proof.Path) (i : Nat) (b : Nat) (data : List Byte) (resp : List
    Byte) (s : State) (hc : rising s.shadow = true) : rising (odWrite path i b data resp s).2.shadow = true := by
  unfold odWrite
  simp (maxDischargeDepth := 16) [rawNoted, hc]

@[simp] theorem segDone_shadow_rising (i : Nat) (bs : List Byte) (resp : List Byte) (s : State) (hc : rising
    s.shadow = true) : rising (segDone i bs resp s).2.shadow = true := by
  unfold segDone
  simp (maxDischargeDepth := 16) [hc]

@[simp] theorem segTake_shadow_rising (path : Sys2Proof.Path) (g : OpenSeg) (last : Bool) (data : List Byte) (s :
    State) (hc : rising s.shadow = true) : rising (segTake path g last data s).2.shadow = true := by
  unfold segTake
  simp (maxDischargeDepth := 16) [hc]

@[simp] theorem segmentWrite_shadow_rising (path : Sys2Proof.Path) (i : Nat) (b : Nat) (off : Nat) (last : Bool)
    (data : List Byte) (s : State) (hc : rising s.shadow = true) : rising (segmentWrite path i b off last data
    s).2.shadow = true := by
  unfold segmentWrite
  try dsimp only
  (repeat' split) <;> simp_all (maxDischargeDepth := 16)

@[simp] theorem odSegWrite_shadow_rising (path : Sys2Proof.Path) (i : Nat) (b : Nat) (off : Nat) (last : Bool) (data
    : List Byte) (s : State) (hc : rising s.shadow = true) : rising (odSegWrite path i b off last data s).2.shadow =
    true := by
  unfold odSegWrite
  simp (maxDischargeDepth := 16) [rawNoted, hc]

@[simp] theorem serveSegWrite_shadow_rising (i : Nat) (b : Nat) (off : Nat) (last : Bool) (data : List Byte) (s :
    State) (hc : rising s.shadow = true) : rising (serveSegWrite i b off last data s).shadow = true := by
  unfold serveSegWrite
  simp (maxDischargeDepth := 16) [hc]

@[simp] theorem serve_shadow_rising (errs : WordErrors) (q : Request) (s : State) (hc : rising s.shadow = true) :
    rising (serve errs q s).shadow = true := by
  unfold serve
  try dsimp only
  (repeat' split) <;> simp_all (maxDischargeDepth := 16) [written]

@[simp] theorem takeFrame_shadow_rising (x : Xfer) (frame : List Byte) (errs : WordErrors) (s : State) (hc : rising
    s.shadow = true) : rising (takeFrame x frame errs s).shadow = true := by
  unfold takeFrame
  try dsimp only
  (repeat' split) <;> simp_all (maxDischargeDepth := 16)

@[simp] theorem hostWrite_shadow_rising (i : Nat) (b : Nat) (data : List Byte) (s : State) (hc : rising s.shadow =
    true) : rising (hostWrite i b data s).shadow = true := by
  unfold hostWrite
  simp (maxDischargeDepth := 16) [hostRequest, written, hc]

@[simp] theorem hostSegWrite_shadow_rising (i : Nat) (b : Nat) (off : Nat) (last : Bool) (data : List Byte) (s :
    State) (hc : rising s.shadow = true) : rising (hostSegWrite i b off last data s).shadow = true := by
  unfold hostSegWrite
  simp (maxDischargeDepth := 16) [hostRequest, hc]

@[simp] theorem tunnelCommand_shadow_rising (p : PortId) (cmd : Nat) (s : State) (hc : rising s.shadow = true) :
    rising (tunnelCommand p cmd s).shadow = true := by
  unfold tunnelCommand
  simp (maxDischargeDepth := 16) [hc]

@[simp] theorem bar0Write_shadow_rising (p : PortId) (off : Nat) (data : List Byte) (s : State) (hc : rising
    s.shadow = true) : rising (bar0Write p off data s).shadow = true := by
  unfold bar0Write
  simp (maxDischargeDepth := 16) [hc]

@[simp] theorem registerWritten_shadow_rising (t : RegTarget) (s : State) (hc : rising s.shadow = true) : rising
    (registerWritten t s).shadow = true := by
  unfold registerWritten
  try dsimp only
  (repeat' split) <;> simp_all (maxDischargeDepth := 16)

@[simp] theorem completeOn_shadow_rising (t : TargetId) (source : U16) (s : State) (hc : rising s.shadow = true) :
    rising (completeOn t source s).shadow = true := by
  unfold completeOn
  try dsimp only
  (repeat' split) <;> simp_all (maxDischargeDepth := 16)

theorem takeValue_rising (s : State) (key : Nat) (v : List Byte) (m : Assoc Nat) (h : rising m = true) :
    rising (takeValue s key v m) = true := by
  unfold takeValue
  split
  · generalize List.range 192 = l
    induction l generalizing m with
    | nil => exact h
    | cons a l ih => refine ih _ ?_; dsimp only; split <;> simp [h]
  · dsimp only; split <;> simp [h]

theorem takeRecords_rising (s : State) (n : Nat) (bs : List Byte) (m : Assoc Nat) (k : Nat) (h : rising m = true) :
    rising (takeRecords s n bs m k).1 = true := by
  induction n generalizing bs m k with
  | zero => exact h
  | succ n ih =>
    unfold takeRecords
    dsimp only
    split
    · exact h
    · split <;> split <;> first | exact ih _ _ _ (takeValue_rising _ _ _ _ h) | exact ih _ _ _ h

theorem loadCopy_rising (s : State) (sec : Nat) (errs : WordErrors) (l : Loaded) (h : loadCopy s sec errs = some l) :
    rising l.shadow = true := by
  unfold loadCopy at h
  dsimp only at h
  split at h
  · exact absurd h (by simp)
  · split at h
    · exact absurd h (by simp)
    · rw [← Option.some.inj h]
      refine takeRecords_rising _ _ _ _ _ ?_
      split <;> rfl

@[simp] theorem loadOption_shadow_rising (errs : WordErrors) (s : State) (hc : rising s.shadow = true) : rising
    (loadOption errs s).shadow = true := by
  have hl : ∀ sec bad l, loadCopy s sec bad = some l → rising l.shadow = true := fun sec bad l => loadCopy_rising s sec bad l
  unfold loadOption
  dsimp only
  split <;> rename_i l _ <;> first | (rename_i h0; simp (maxDischargeDepth := 16) [hl _ _ _ h0]; done) | simp

@[simp] theorem bootSteps_shadow_rising (errs : WordErrors) (s : State) (hc : rising s.shadow = true) : rising
    (bootSteps errs s).shadow = true := by
  unfold bootSteps
  try dsimp only
  (repeat' split) <;> simp_all (maxDischargeDepth := 16)

@[simp] theorem pllLocks_shadow_rising (errs : WordErrors) (s : State) (hc : rising s.shadow = true) : rising
    (pllLocks errs s).shadow = true := by
  unfold pllLocks
  try dsimp only
  (repeat' split) <;> simp_all (maxDischargeDepth := 16)

@[simp] theorem invalidates_shadow_rising (path : Sys2Proof.Path) (stream : U16) (s : State) (hc : rising s.shadow =
    true) : rising (invalidates path stream s).shadow = true := by
  unfold invalidates
  try dsimp only
  (repeat' split) <;> simp_all (maxDischargeDepth := 16)

@[simp] theorem coalescing_shadow_rising (t : TargetId) (sub : Nat) (value : U16) (s : State) (hc : rising s.shadow
    = true) : rising (coalescing t sub value s).shadow = true := by
  unfold coalescing
  simp (maxDischargeDepth := 16) [hc]

end Sys2Proof.Machine
end

