-- ==== Sys2Proof/Laws/CanonTiles.lean ====
section
/-! SUPPORT. Every operation keeps the keys of the tiles rising: one lemma an operation, for `simp`. -/

set_option linter.unusedSimpArgs false
set_option linter.unusedVariables false
set_option linter.unusedTactic false
set_option linter.unreachableTactic false
set_option linter.unnecessarySeqFocus false

namespace Sys2Proof.Machine

@[simp] theorem fetchEntry_tiles_rising (stream : Nat) (s : State) (hc : rising s.tiers.tiles = true) : rising
    (fetchEntry stream s).2.tiers.tiles = true := by
  unfold fetchEntry
  try dsimp only
  (repeat' split) <;> simp_all (maxDischargeDepth := 16)

@[simp] theorem setTile_tiles_rising (k : Nat) (t : Tile) (s : State) (hc : rising s.tiers.tiles = true) : rising
    (setTile k t s).tiers.tiles = true := by
  unfold setTile
  simp (maxDischargeDepth := 16) [hc]

@[simp] theorem onTile_tiles_rising (k : Nat) (f : Tile → Tile) (s : State) (hc : rising s.tiers.tiles = true) :
    rising (onTile k f s).tiers.tiles = true := by
  unfold onTile
  simp (maxDischargeDepth := 16) [hc]

@[simp] theorem makeRoomD_tiles_rising (a : Nat) (need : Nat) (x1 : Nat) (x2 : State) (hc : rising x2.tiers.tiles =
    true) : rising (makeRoomD a need x1 x2).2.tiers.tiles = true := by
  induction x1 generalizing x2 with
  | zero => simpa [makeRoomD] using hc
  | succ n ih =>
    unfold makeRoomD
    try dsimp only
    (repeat' split) <;> simp (maxDischargeDepth := 16) [ih, hc]

@[simp] theorem reserveUsed_tiles_rising (a : Nat) (s : State) (hc : rising s.tiers.tiles = true) : rising
    (reserveUsed a s).tiers.tiles = true := by
  unfold reserveUsed
  simp (maxDischargeDepth := 16) [hc]

@[simp] theorem putD_tiles_rising (k : Nat) (bs : List Byte) (dirty : U16) (reserve : Bool) (s : State) (hc : rising
    s.tiers.tiles = true) : rising (putD k bs dirty reserve s).tiers.tiles = true := by
  unfold putD
  simp (maxDischargeDepth := 16) [hc]

@[simp] theorem placeD_tiles_rising (k : Nat) (bs : List Byte) (dirty : U16) (reserve : Bool) (s : State) (hc :
    rising s.tiers.tiles = true) : rising (placeD k bs dirty reserve s).2.tiers.tiles = true := by
  unfold placeD
  simp (maxDischargeDepth := 16) [hc]

@[simp] theorem writeDown_tiles_rising (k : Nat) (reserve : Bool) (s : State) (hc : rising s.tiers.tiles = true) :
    rising (writeDown k reserve s).2.tiers.tiles = true := by
  unfold writeDown
  try dsimp only
  (repeat' split) <;> simp_all (maxDischargeDepth := 16)

@[simp] theorem claimSlot_tiles_rising (a : Nat) (s : State) (hc : rising s.tiers.tiles = true) : rising (claimSlot
    a s).2.tiers.tiles = true := by
  unfold claimSlot
  try dsimp only
  (repeat' split) <;> simp_all (maxDischargeDepth := 16)

@[simp] theorem slotFor_tiles_rising (k : Nat) (a : Nat) (s : State) (hc : rising s.tiers.tiles = true) : rising
    (slotFor k a s).2.tiers.tiles = true := by
  unfold slotFor
  simp (maxDischargeDepth := 16) [hc]

@[simp] theorem noteWrite_tiles_rising (k : Nat) (order : Nat) (s : State) (hc : rising s.tiers.tiles = true) :
    rising (noteWrite k order s).tiers.tiles = true := by
  unfold noteWrite
  simp (maxDischargeDepth := 16) [hc]

@[simp] theorem programF_tiles_rising (k : Nat) (bs : List Byte) (save : Nat) (cls : Nat) (ended : Bool) (brings :
    Option Nat) (left : Option Nat) (s : State) (hc : rising s.tiers.tiles = true) : rising (programF k bs save cls
    ended brings left s).tiers.tiles = true := by
  unfold programF
  simp (maxDischargeDepth := 16) [hc]

@[simp] theorem toTierF_tiles_rising (k : Nat) (bs : List Byte) (save : Nat) (cls : Nat) (ended : Bool) (s : State)
    (hc : rising s.tiers.tiles = true) : rising (toTierF k bs save cls ended s).tiers.tiles = true := by
  unfold toTierF
  simp (maxDischargeDepth := 16) [hc]

@[simp] theorem programEnded_tiles_rising (k : Nat) (s : State) (hc : rising s.tiers.tiles = true) : rising
    (programEnded k s).tiers.tiles = true := by
  unfold programEnded
  simp (maxDischargeDepth := 16) [hc]

@[simp] theorem saveTile_tiles_rising (seq : Nat) (k : Nat) (s : State) (hc : rising s.tiers.tiles = true) : rising
    (saveTile seq k s).tiers.tiles = true := by
  unfold saveTile
  try dsimp only
  (repeat' split) <;> simp_all (maxDischargeDepth := 16)

@[simp] theorem placeAgain_tiles_rising (k : Nat) (s : State) (hc : rising s.tiers.tiles = true) : rising
    (placeAgain k s).tiers.tiles = true := by
  unfold placeAgain
  try dsimp only
  (repeat' split) <;> simp_all (maxDischargeDepth := 16)

@[simp] theorem placeWaiting_tiles_rising (s : State) (hc : rising s.tiers.tiles = true) : rising (placeWaiting
    s).tiers.tiles = true := by
  unfold placeWaiting
  try dsimp only
  (repeat' split) <;> simp_all (maxDischargeDepth := 16)

@[simp] theorem tierFEnds_tiles_rising (k : Nat) (s : State) (hc : rising s.tiers.tiles = true) : rising (tierFEnds
    k s).tiers.tiles = true := by
  unfold tierFEnds
  try dsimp only
  (repeat' split) <;> simp_all (maxDischargeDepth := 16)

@[simp] theorem writeBack_tiles_rising (k : Nat) (s : State) (hc : rising s.tiers.tiles = true) : rising (writeBack
    k s).tiers.tiles = true := by
  unfold writeBack
  try dsimp only
  (repeat' split) <;> simp_all (maxDischargeDepth := 16)

@[simp] theorem relocateTile_tiles_rising (k : Nat) (s : State) (hc : rising s.tiers.tiles = true) : rising
    (relocateTile k s).tiers.tiles = true := by
  unfold relocateTile
  try dsimp only
  (repeat' split) <;> simp_all (maxDischargeDepth := 16)

@[simp] theorem relocateStripe_tiles_rising (i : Nat) (s : State) (hc : rising s.tiers.tiles = true) : rising
    (relocateStripe i s).tiers.tiles = true := by
  unfold relocateStripe
  try dsimp only
  (repeat' split) <;> simp_all (maxDischargeDepth := 16)

@[simp] theorem unitLost_tiles_rising (k : Nat) (s : State) (hc : rising s.tiers.tiles = true) : rising (unitLost k
    s).tiers.tiles = true := by
  unfold unitLost
  try dsimp only
  (repeat' split) <;> simp_all (maxDischargeDepth := 16)

@[simp] theorem proofServed_tiles_rising (a : Nat) (s : State) (hc : rising s.tiers.tiles = true) : rising
    (proofServed a s).tiers.tiles = true := by
  unfold proofServed
  simp (maxDischargeDepth := 16) [hc]

@[simp] theorem takeD_tiles_rising (k : Nat) (e : List Byte) (s : State) (hc : rising s.tiers.tiles = true) : rising
    (takeD k e s).2.tiers.tiles = true := by
  unfold takeD
  try dsimp only
  (repeat' split) <;> simp_all (maxDischargeDepth := 16)

@[simp] theorem takeF_tiles_rising (k : Nat) (e : List Byte) (s : State) (hc : rising s.tiers.tiles = true) : rising
    (takeF k e s).2.tiers.tiles = true := by
  unfold takeF
  try dsimp only
  (repeat' split) <;> simp_all (maxDischargeDepth := 16)

@[simp] theorem readD_tiles_rising (k : Nat) (e : List Byte) (dirty : U16) (s : State) (hc : rising s.tiers.tiles =
    true) : rising (readD k e dirty s).2.tiers.tiles = true := by
  have ht := takeD_tiles_rising k e s hc
  unfold readD
  rcases h1 : takeD k e s with ⟨o, u⟩
  rw [h1] at ht
  dsimp only at ht
  cases o with
  | some bs => exact ht
  | none =>
    dsimp only
    split <;> simp (maxDischargeDepth := 16) [ht]

@[simp] theorem readTile_tiles_rising (k : Nat) (e : List Byte) (s : State) (hc : rising s.tiers.tiles = true) :
    rising (readTile k e s).2.tiers.tiles = true := by
  unfold readTile
  try dsimp only
  (repeat' split) <;> simp_all (maxDischargeDepth := 16)

@[simp] theorem recordMalformed_tiles_rising (a : Nat) (stream : Nat) (tile : Nat) (reason : Nat) (s : State) (hc :
    rising s.tiers.tiles = true) : rising (recordMalformed a stream tile reason s).tiers.tiles = true := by
  unfold recordMalformed
  simp (maxDischargeDepth := 16) [hc]

@[simp] theorem beforeWrite_tiles_rising (k : Nat) (e : List Byte) (s : State) (hc : rising s.tiers.tiles = true) :
    rising (beforeWrite k e s).2.tiers.tiles = true := by
  unfold beforeWrite
  simp (maxDischargeDepth := 16) [hc]

theorem storeD_tiles_rising (k : Nat) (enc : List Byte) (dirty : U16) (s : State) (t : State) (e : storeD k enc
    dirty s = some t) (hc : rising s.tiers.tiles = true) : rising t.tiers.tiles = true := by
  unfold storeD at e
  try dsimp only at e
  (repeat' split at e) <;> simp_all (maxDischargeDepth := 16)
  all_goals (subst e; simp_all (maxDischargeDepth := 16))

@[simp] theorem storeS_tiles_rising (k : Nat) (data : List Byte) (dirty : U16) (reserve : Bool) (s : State) (hc :
    rising s.tiers.tiles = true) : rising (storeS k data dirty reserve s).tiers.tiles = true := by
  unfold storeS
  simp (maxDischargeDepth := 16) [hc]

theorem storeTile_tiles_rising (k : Nat) (e : List Byte) (data : List Byte) (enc : List Byte) (mask : U16) (slot :
    Bool) (s : State) (t : State) (e : storeTile k e data enc mask slot s = some t) (hc : rising s.tiers.tiles =
    true) : rising t.tiers.tiles = true := by
  unfold storeTile at e
  simp only [Option.map_eq_some_iff] at e
  obtain ⟨u, hu, rfl⟩ := e
  have hk : rising u.tiers.tiles = true := by
    split at hu
    · exact storeD_tiles_rising _ _ _ _ _ hu (by simp (maxDischargeDepth := 16) [hc])
    · split at hu
      · obtain ⟨v, hv, rfl⟩ := Option.map_eq_some_iff.mp hu
        have hd := storeD_tiles_rising _ _ _ _ _ hv (by simp (maxDischargeDepth := 16) [hc])
        simp (maxDischargeDepth := 16) [hd]
      · split at hu
        · have hu := Option.some.inj hu
          subst hu
          simp (maxDischargeDepth := 16) [hc]
        · obtain ⟨v, hv, rfl⟩ := Option.map_eq_some_iff.mp hu
          have hd := storeD_tiles_rising _ _ _ _ _ hv (by simp (maxDischargeDepth := 16) [hc])
          simp (maxDischargeDepth := 16) [hd]
  split <;> simp (maxDischargeDepth := 16) [hk]

@[simp] theorem returnReserve_tiles_rising (k : Nat) (s : State) (hc : rising s.tiers.tiles = true) : rising
    (returnReserve k s).tiers.tiles = true := by
  unfold returnReserve; split <;> simp [hc]

@[simp] theorem addTileHeat_tiles_rising (k : Nat) (s : State) (hc : rising s.tiers.tiles = true) : rising
    (addTileHeat k s).tiers.tiles = true := by
  unfold addTileHeat
  simp (maxDischargeDepth := 16) [hc]

@[simp] theorem decayHeat_tiles_rising (s : State) (hc : rising s.tiers.tiles = true) : rising (decayHeat
    s).tiers.tiles = true := by
  unfold decayHeat
  simp (maxDischargeDepth := 16) [hc]

@[simp] theorem liftS_tiles_rising (k : Nat) (s : State) (hc : rising s.tiers.tiles = true) : rising (liftS k
    s).tiers.tiles = true := by
  have ht := takeD_tiles_rising k (entryNow s (keyStream k)) s hc
  unfold liftS
  dsimp only
  split
  · exact hc
  · split
    · rcases h1 : takeD k (entryNow s (keyStream k)) s with ⟨o, u⟩
      rw [h1] at ht
      dsimp only at ht
      cases o with
      | some bs => simp (maxDischargeDepth := 16) [ht]
      | none =>
        dsimp only
        split <;> simp (maxDischargeDepth := 16) [ht]
    · (repeat' split) <;> simp (maxDischargeDepth := 16) [hc]

@[simp] theorem liftD_tiles_rising (k : Nat) (s : State) (hc : rising s.tiers.tiles = true) : rising (liftD k
    s).tiers.tiles = true := by
  unfold liftD
  try dsimp only
  (repeat' split) <;> simp_all (maxDischargeDepth := 16)

@[simp] theorem placeAccount_tiles_rising (a : Nat) (s : State) (hc : rising s.tiers.tiles = true) : rising
    (placeAccount a s).tiers.tiles = true := by
  unfold placeAccount
  try dsimp only
  (repeat' split) <;> simp_all (maxDischargeDepth := 16)

@[simp] theorem tileEpoch_tiles_rising (s : State) (hc : rising s.tiers.tiles = true) : rising (tileEpoch
    s).tiers.tiles = true := by
  unfold tileEpoch
  try dsimp only
  (repeat' split) <;> simp_all (maxDischargeDepth := 16)

@[simp] theorem saveBegins_tiles_rising (s : State) (hc : rising s.tiers.tiles = true) : rising (saveBegins
    s).tiers.tiles = true := by
  unfold saveBegins
  simp (maxDischargeDepth := 16) [hc]

@[simp] theorem programsEnd_tiles_rising (s : State) (hc : rising s.tiers.tiles = true) : rising (programsEnd
    s).tiers.tiles = true := by
  unfold programsEnd
  try dsimp only
  refine fold_tiles_rising _ ?_ _ _ ?_
  · intro x a hx
    try dsimp only
    (repeat' split) <;> simp (maxDischargeDepth := 16) [hx]
  · simp [hc]

@[simp] theorem saveEnds_tiles_rising (s : State) (hc : rising s.tiers.tiles = true) : rising (saveEnds
    s).tiers.tiles = true := by
  unfold saveEnds
  try dsimp only
  (repeat' split) <;> simp_all (maxDischargeDepth := 16)

@[simp] theorem tiersLost_tiles_rising (s : State) (hc : rising s.tiers.tiles = true) : rising (tiersLost
    s).tiers.tiles = true := by
  unfold tiersLost
  simp (maxDischargeDepth := 16) [hc]

@[simp] theorem tierLoad_tiles_rising (s : State) (hc : rising s.tiers.tiles = true) : rising (tierLoad
    s).tiers.tiles = true := by
  unfold tierLoad
  try dsimp only
  (repeat' split) <;> simp_all (maxDischargeDepth := 16)

@[simp] theorem tiersReleased_tiles_rising (s : State) (hc : rising s.tiers.tiles = true) : rising (tiersReleased
    s).tiers.tiles = true := by
  unfold tiersReleased
  simp (maxDischargeDepth := 16) [hc]

@[simp] theorem sealNow_tiles_rising (stream : Nat) (s : State) (hc : rising s.tiers.tiles = true) : rising (sealNow
    stream s).tiers.tiles = true := by
  unfold sealNow
  simp (maxDischargeDepth := 16) [hc]

@[simp] theorem deleteNow_tiles_rising (stream : Nat) (s : State) (hc : rising s.tiers.tiles = true) : rising
    (deleteNow stream s).tiers.tiles = true := by
  unfold deleteNow
  simp (maxDischargeDepth := 16) [hc]

@[simp] theorem dropEntries_tiles_rising (keep : Nat → Bool) (s : State) (hc : rising s.tiers.tiles = true) : rising
    (dropEntries keep s).tiers.tiles = true := by
  unfold dropEntries
  simp (maxDischargeDepth := 16) [hc]

@[simp] theorem invalidateDone_tiles_rising (who : Option PortId) (stream : Nat) (s : State) (hc : rising
    s.tiers.tiles = true) : rising (invalidateDone who stream s).tiers.tiles = true := by
  unfold invalidateDone
  try dsimp only
  (repeat' split) <;> simp_all (maxDischargeDepth := 16)

@[simp] theorem moveAccount_tiles_rising (c : Fin 4) (s : State) (p : Fin 4) (hc : rising s.tiers.tiles = true) :
    rising (moveAccount c s p).tiers.tiles = true := by
  unfold moveAccount
  try dsimp only
  (repeat' split) <;> simp_all (maxDischargeDepth := 16)

@[simp] theorem coreFails_tiles_rising (c : Fin 4) (s : State) (hc : rising s.tiers.tiles = true) : rising
    (coreFails c s).tiers.tiles = true := by
  unfold coreFails
  try dsimp only
  (repeat' split) <;> simp_all (maxDischargeDepth := 16)

@[simp] theorem programAgain_tiles_rising (k : Nat) (s : State) (hc : rising s.tiers.tiles = true) : rising
    (programAgain k s).tiers.tiles = true := by
  unfold programAgain
  try dsimp only
  (repeat' split) <;> simp_all (maxDischargeDepth := 16)

@[simp] theorem programFails_tiles_rising (c : ChanId) (b : Nat) (s : State) (hc : rising s.tiers.tiles = true) :
    rising (programFails c b s).tiers.tiles = true := by
  unfold programFails
  try dsimp only
  (repeat' split) <;> simp_all (maxDischargeDepth := 16)

@[simp] theorem rebuilt_tiles_rising (h : Holds) (s : State) (hc : rising s.tiers.tiles = true) : rising (rebuilt h
    s).tiers.tiles = true := by
  unfold rebuilt
  try dsimp only
  (repeat' split) <;> simp_all (maxDischargeDepth := 16)

@[simp] theorem tilesLost_tiles_rising (i : Nat) (unit : Option Nat) (s : State) (hc : rising s.tiers.tiles = true)
    : rising (tilesLost i unit s).tiers.tiles = true := by
  unfold tilesLost
  try dsimp only
  (repeat' split) <;> simp_all (maxDischargeDepth := 16)

@[simp] theorem lostToReader_tiles_rising (h : Holds) (s : State) (hc : rising s.tiers.tiles = true) : rising
    (lostToReader h s).tiers.tiles = true := by
  unfold lostToReader
  try dsimp only
  (repeat' split) <;> simp_all (maxDischargeDepth := 16)

@[simp] theorem unitRead_tiles_rising (c : ChanId) (key : Nat) (r : UnitRead) (s : State) (hc : rising s.tiers.tiles
    = true) : rising (unitRead c key r s).tiers.tiles = true := by
  unfold unitRead
  simp (maxDischargeDepth := 16) [hc]

@[simp] theorem relocate_tiles_rising (c : ChanId) (h : Holds) (s : State) (hc : rising s.tiers.tiles = true) :
    rising (relocate c h s).tiers.tiles = true := by
  unfold relocate
  try dsimp only
  (repeat' split) <;> simp_all (maxDischargeDepth := 16)

@[simp] theorem unrecovered_tiles_rising (a : Nat) (h : Holds) (s : State) (hc : rising s.tiers.tiles = true) :
    rising (unrecovered a h s).tiers.tiles = true := by
  unfold unrecovered
  try dsimp only
  (repeat' split) <;> simp_all (maxDischargeDepth := 16)

@[simp] theorem patrolled_tiles_rising (a : Nat) (r : UnitRead) (s : State) (hc : rising s.tiers.tiles = true) :
    rising (patrolled a r s).tiers.tiles = true := by
  unfold patrolled
  try dsimp only
  (repeat' split) <;> simp_all (maxDischargeDepth := 16)

@[simp] theorem levelWear_tiles_rising (c : ChanId) (s : State) (hc : rising s.tiers.tiles = true) : rising
    (levelWear c s).tiers.tiles = true := by
  unfold levelWear
  try dsimp only
  (repeat' split) <;> simp_all (maxDischargeDepth := 16)

@[simp] theorem leaveDead_tiles_rising (s : State) (hc : rising s.tiers.tiles = true) : rising (leaveDead
    s).tiers.tiles = true := by
  unfold leaveDead
  try dsimp only
  (repeat' split) <;> simp_all (maxDischargeDepth := 16)

@[simp] theorem patrolStep_tiles_rising (c : ChanId) (r : UnitRead) (s : State) (hc : rising s.tiers.tiles = true) :
    rising (patrolStep c r s).tiers.tiles = true := by
  unfold patrolStep
  try dsimp only
  (repeat' split) <;> simp_all (maxDischargeDepth := 16)

@[simp] theorem blankBuilt_tiles_rising (s : State) (hc : rising s.tiers.tiles = true) : rising (blankBuilt
    s).tiers.tiles = true := by
  unfold blankBuilt
  simp (maxDischargeDepth := 16) [hc]

@[simp] theorem rebind_tiles_rising (s : State) (hc : rising s.tiers.tiles = true) : rising (rebind s).tiers.tiles =
    true := by
  unfold rebind
  simp (maxDischargeDepth := 16) [hc]

@[simp] theorem releaseBlocks_tiles_rising (s : State) (hc : rising s.tiers.tiles = true) : rising (releaseBlocks
    s).tiers.tiles = true := by
  unfold releaseBlocks
  simp (maxDischargeDepth := 16) [hc]

@[simp] theorem jobEnds_tiles_rising (j : FlashJob) (errs : WordErrors) (s : State) (hc : rising s.tiers.tiles =
    true) : rising (jobEnds j errs s).tiers.tiles = true := by
  unfold jobEnds
  try dsimp only
  (repeat' split) <;> simp_all (maxDischargeDepth := 16)

@[simp] theorem afterOp_tiles_rising (id : Nat) (errs : WordErrors) (s : State) (hc : rising s.tiers.tiles = true) :
    rising (afterOp id errs s).tiers.tiles = true := by
  unfold afterOp
  try dsimp only
  (repeat' split) <;> simp_all (maxDischargeDepth := 16)

@[simp] theorem pageEnds_tiles_rising (b : Fin 2) (errs : WordErrors) (s : State) (hc : rising s.tiers.tiles = true)
    : rising (pageEnds b errs s).tiers.tiles = true := by
  unfold pageEnds
  try dsimp only
  (repeat' split) <;> simp_all (maxDischargeDepth := 16)

@[simp] theorem eraseDone_tiles_rising (s : State) (hc : rising s.tiers.tiles = true) : rising (eraseDone
    s).tiers.tiles = true := by
  unfold eraseDone
  try dsimp only
  (repeat' split) <;> simp_all (maxDischargeDepth := 16)

@[simp] theorem admitted_tiles_rising (p : PortId) (r : Req) (e : List Byte) (s : State) (hc : rising s.tiers.tiles
    = true) : rising (admitted p r e s).tiers.tiles = true := by
  unfold admitted
  (repeat' split) <;> simp (maxDischargeDepth := 16) [hc]

@[simp] theorem acceptRequest_tiles_rising (p : PortId) (sq : Bool) (bs : List Byte) (s : State) (hc : rising
    s.tiers.tiles = true) : rising (acceptRequest p sq bs s).tiers.tiles = true := by
  unfold acceptRequest
  try dsimp only
  (repeat' split) <;> simp_all (maxDischargeDepth := 16)

@[simp] theorem descriptorArrives_tiles_rising (p : PortId) (bs : List Byte) (s : State) (hc : rising s.tiers.tiles
    = true) : rising (descriptorArrives p bs s).tiers.tiles = true := by
  unfold descriptorArrives
  try dsimp only
  (repeat' split) <;> simp_all (maxDischargeDepth := 16)

theorem readInto_tiles_rising (p : PortId) (r : Req) (k : Nat) (e : List Byte) (use : List Byte → State → State) (s
    : State) (hu : ∀ bs u, rising u.tiers.tiles = true → rising (use bs u).tiers.tiles = true) (hc : rising
    s.tiers.tiles = true) : rising (readInto p r k e use s).tiers.tiles = true := by
  unfold readInto
  dsimp only
  split
  · simp (maxDischargeDepth := 16) [hc]
  · have k1 := readTile_tiles_rising k e (queueRead k 3 (dueOf r) s) (by simp (maxDischargeDepth := 16) [hc])
    rcases h1 : readTile k e (queueRead k 3 (dueOf r) s) with ⟨f, u⟩
    rw [h1] at k1
    dsimp only at k1
    cases f with
    | waits => exact k1
    | gone => simp (maxDischargeDepth := 16) [k1]
    | data bs =>
      have k2 := slotFor_tiles_rising k (accountOf r.stream) u k1
      dsimp only
      rcases h2 : slotFor k (accountOf r.stream) u with ⟨o, v⟩
      rw [h2] at k2
      dsimp only at k2
      cases o with
      | none => exact k1
      | some b => exact hu _ _ (by simp (maxDischargeDepth := 16) [k2])

@[simp] theorem readProof_tiles_rising (p : PortId) (r : Req) (e : List Byte) (s : State) (hc : rising s.tiers.tiles
    = true) : rising (readProof p r e s).tiers.tiles = true := by
  unfold readProof
  dsimp only
  split
  · simp (maxDischargeDepth := 16) [hc]
  · exact readInto_tiles_rising _ _ _ _ _ _ (fun bs u hx => by simp (maxDischargeDepth := 16) [hx]) hc

@[simp] theorem readFull_tiles_rising (p : PortId) (r : Req) (e : List Byte) (s : State) (hc : rising s.tiers.tiles
    = true) : rising (readFull p r e s).tiers.tiles = true := by
  unfold readFull
  dsimp only
  split
  · split <;> simp (maxDischargeDepth := 16) [hc]
  · exact readInto_tiles_rising _ _ _ _ _ _ (fun bs u hx => by simp (maxDischargeDepth := 16) [hx]) hc

@[simp] theorem serveRead_tiles_rising (p : PortId) (tag : U16) (s : State) (hc : rising s.tiers.tiles = true) :
    rising (serveRead p tag s).tiers.tiles = true := by
  unfold serveRead
  try dsimp only
  (repeat' split) <;> simp_all (maxDischargeDepth := 16)

@[simp] theorem writeStore_tiles_rising (p : PortId) (r : Req) (e : List Byte) (data : List Byte) (enc : List Byte)
    (mask : U16) (s : State) (hc : rising s.tiers.tiles = true) : rising (writeStore p r e data enc mask
    s).tiers.tiles = true := by
  unfold writeStore
  dsimp only
  split
  · simp (maxDischargeDepth := 16) [hc]
  · have k1 := slotFor_tiles_rising (tileKey r.stream r.tile) (accountOf r.stream) s hc
    rcases h1 : slotFor (tileKey r.stream r.tile) (accountOf r.stream) s with ⟨o, v⟩
    rw [h1] at k1
    dsimp only at k1
    cases o with
    | none => exact hc
    | some b =>
      dsimp only
      split
      · have hk := storeTile_tiles_rising _ _ _ _ _ _ _ _ (by assumption) (by simp (maxDischargeDepth := 16) [k1])
        simp (maxDischargeDepth := 16) [hk]
      · exact hc

@[simp] theorem writeEncoded_tiles_rising (p : PortId) (r : Req) (e : List Byte) (bs : List Byte) (s : State) (hc :
    rising s.tiers.tiles = true) : rising (writeEncoded p r e bs s).tiers.tiles = true := by
  unfold writeEncoded
  simp (maxDischargeDepth := 16) [hc]

@[simp] theorem writePlain_tiles_rising (p : PortId) (r : Req) (e : List Byte) (bs : List Byte) (s : State) (hc :
    rising s.tiers.tiles = true) : rising (writePlain p r e bs s).tiers.tiles = true := by
  unfold writePlain
  dsimp only
  split
  · simp (maxDischargeDepth := 16) [hc]
  split
  · simp (maxDischargeDepth := 16) [hc]
  split
  · simp (maxDischargeDepth := 16) [hc]
  split
  · simp (maxDischargeDepth := 16) [hc]
  split
  · simp (maxDischargeDepth := 16) [hc]
  · have k1 := beforeWrite_tiles_rising (tileKey r.stream r.tile) e (queueRead (tileKey r.stream r.tile) 5 0 s) (by simp (maxDischargeDepth := 16) [hc])
    rcases h1 : beforeWrite (tileKey r.stream r.tile) e (queueRead (tileKey r.stream r.tile) 5 0 s) with ⟨f, u⟩
    rw [h1] at k1
    dsimp only at k1
    cases f <;> simp (maxDischargeDepth := 16) [k1]

@[simp] theorem serveWrite_tiles_rising (p : PortId) (tag : U16) (data : BufferRead) (s : State) (hc : rising
    s.tiers.tiles = true) : rising (serveWrite p tag data s).tiers.tiles = true := by
  unfold serveWrite
  try dsimp only
  (repeat' split) <;> simp_all (maxDischargeDepth := 16)

@[simp] theorem writeCompletion_tiles_rising (p : PortId) (r : Req) (d : Done) (s : State) (hc : rising
    s.tiers.tiles = true) : rising (writeCompletion p r d s).tiers.tiles = true := by
  unfold writeCompletion
  simp (maxDischargeDepth := 16) [hc]

@[simp] theorem complete_tiles_rising (p : PortId) (tag : U16) (s : State) (hc : rising s.tiers.tiles = true) :
    rising (complete p tag s).tiers.tiles = true := by
  unfold complete
  try dsimp only
  (repeat' split) <;> simp_all (maxDischargeDepth := 16)

@[simp] theorem resetPort_tiles_rising (p : PortId) (kind : ResetKind) (s : State) (hc : rising s.tiers.tiles = true)
    : rising (resetPort p kind s).tiers.tiles = true := by
  unfold resetPort
  dsimp only
  split
  · exact hc
  · split <;> split <;> simp only [resetTarget_keeps, raise_keeps] <;>
      exact fold_tiles_rising _ (fun u r h => returnReserve_tiles_rising _ u h) _ _ (by simp [hc])

@[simp] theorem portsDown_tiles_rising (s : State) (hc : rising s.tiers.tiles = true) : rising
    (portsDown s).tiers.tiles = true := by
  unfold portsDown
  exact fold_tiles_rising _ (fun u p h => resetPort_tiles_rising p _ u h) _ _ hc

@[simp] theorem pcieError_tiles_rising (p : PortId) (uncorrectable : Bool) (recoverable : Bool) (s : State) (hc :
    rising s.tiers.tiles = true) : rising (pcieError p uncorrectable recoverable s).tiers.tiles = true := by
  unfold pcieError
  simp (maxDischargeDepth := 16) [hc]

@[simp] theorem invalidationEnds_tiles_rising (path : Sys2Proof.Path) (s : State) (hc : rising s.tiers.tiles = true)
    : rising (invalidationEnds path s).tiers.tiles = true := by
  unfold invalidationEnds
  try dsimp only
  (repeat' split) <;> simp_all (maxDischargeDepth := 16)

@[simp] theorem invalidateFrom_tiles_rising (path : Sys2Proof.Path) (stream : U16) (s : State) (hc : rising
    s.tiers.tiles = true) : rising (invalidateFrom path stream s).tiers.tiles = true := by
  unfold invalidateFrom
  try dsimp only
  (repeat' split) <;> simp_all (maxDischargeDepth := 16)

@[simp] theorem bar2Store_tiles_rising (p : PortId) (off : Nat) (data : List Byte) (s : State) (hc : rising
    s.tiers.tiles = true) : rising (bar2Store p off data s).tiers.tiles = true := by
  unfold bar2Store
  simp (maxDischargeDepth := 16) [hc]

@[simp] theorem endCycle_tiles_rising (s : State) (m : PortId × U16) (hc : rising s.tiers.tiles = true) : rising
    (endCycle s m).tiers.tiles = true := by
  unfold endCycle
  try dsimp only
  (repeat' split) <;> simp_all (maxDischargeDepth := 16)

@[simp] theorem sweep_tiles_rising (s : State) (hc : rising s.tiers.tiles = true) : rising (sweep s).tiers.tiles =
    true := by
  unfold sweep
  try dsimp only
  (repeat' split) <;> simp_all (maxDischargeDepth := 16)

@[simp] theorem mainDown_tiles_rising (s : State) (hc : rising s.tiers.tiles = true) : rising (mainDown
    s).tiers.tiles = true := by
  unfold mainDown
  simp (maxDischargeDepth := 16) [hc]

@[simp] theorem volatileReset_tiles_rising (s : State) (hc : rising s.tiers.tiles = true) : rising (volatileReset
    s).tiers.tiles = true := by
  unfold volatileReset
  simp (maxDischargeDepth := 16) [hc]

@[simp] theorem bootFrom_tiles_rising (cause : Byte) (s : State) (hc : rising s.tiers.tiles = true) : rising
    (bootFrom cause s).tiers.tiles = true := by
  unfold bootFrom
  simp (maxDischargeDepth := 16) [hc]

@[simp] theorem wake_tiles_rising (cause : Byte) (s : State) (hc : rising s.tiers.tiles = true) : rising (wake cause
    s).tiers.tiles = true := by
  unfold wake
  simp (maxDischargeDepth := 16) [hc]

@[simp] theorem finishHold_tiles_rising (s : State) (hc : rising s.tiers.tiles = true) : rising (finishHold
    s).tiers.tiles = true := by
  unfold finishHold
  simp (maxDischargeDepth := 16) [hc]

@[simp] theorem finishDark_tiles_rising (cause : Byte) (s : State) (hc : rising s.tiers.tiles = true) : rising
    (finishDark cause s).tiers.tiles = true := by
  unfold finishDark
  simp (maxDischargeDepth := 16) [hc]

@[simp] theorem leaveDisable_tiles_rising (l : Leave) (s : State) (hc : rising s.tiers.tiles = true) : rising
    (leaveDisable l s).tiers.tiles = true := by
  unfold leaveDisable
  try dsimp only
  (repeat' split) <;> simp_all (maxDischargeDepth := 16)

@[simp] theorem leaveProgram_tiles_rising (l : Leave) (s : State) (hc : rising s.tiers.tiles = true) : rising
    (leaveProgram l s).tiers.tiles = true := by
  unfold leaveProgram
  simp (maxDischargeDepth := 16) [hc]

@[simp] theorem beginLeave_tiles_rising (l : Leave) (s : State) (hc : rising s.tiers.tiles = true) : rising
    (beginLeave l s).tiers.tiles = true := by
  unfold beginLeave
  simp (maxDischargeDepth := 16) [hc]

@[simp] theorem tierSaveEnds_tiles_rising (s : State) (hc : rising s.tiers.tiles = true) : rising (tierSaveEnds
    s).tiers.tiles = true := by
  unfold tierSaveEnds
  try dsimp only
  (repeat' split) <;> simp_all (maxDischargeDepth := 16)

@[simp] theorem criticalDisabled_tiles_rising (s : State) (hc : rising s.tiers.tiles = true) : rising
    (criticalDisabled s).tiers.tiles = true := by
  unfold criticalDisabled
  try dsimp only
  (repeat' split) <;> simp_all (maxDischargeDepth := 16)

@[simp] theorem afterProgram_tiles_rising (before : State) (s : State) (hc : rising s.tiers.tiles = true) : rising
    (afterProgram before s).tiers.tiles = true := by
  unfold afterProgram
  try dsimp only
  (repeat' split) <;> simp_all (maxDischargeDepth := 16)

@[simp] theorem resumeLeave_tiles_rising (s : State) (hc : rising s.tiers.tiles = true) : rising (resumeLeave
    s).tiers.tiles = true := by
  unfold resumeLeave
  try dsimp only
  (repeat' split) <;> simp_all (maxDischargeDepth := 16)

@[simp] theorem powerFailExpose_tiles_rising (cause : Byte) (s : State) (hc : rising s.tiers.tiles = true) : rising
    (powerFailExpose cause s).tiers.tiles = true := by
  unfold powerFailExpose
  try dsimp only
  (repeat' split) <;> simp_all (maxDischargeDepth := 16)

@[simp] theorem powerFailDark_tiles_rising (cause : Byte) (s : State) (hc : rising s.tiers.tiles = true) : rising
    (powerFailDark cause s).tiers.tiles = true := by
  unfold powerFailDark
  try dsimp only
  (repeat' split) <;> simp_all (maxDischargeDepth := 16)

@[simp] theorem powerFail_tiles_rising (cause : Byte) (s : State) (hc : rising s.tiers.tiles = true) : rising
    (powerFail cause s).tiers.tiles = true := by
  unfold powerFail
  try dsimp only
  (repeat' split) <;> simp_all (maxDischargeDepth := 16)

@[simp] theorem commitWritten_tiles_rising (s : State) (hc : rising s.tiers.tiles = true) : rising (commitWritten
    s).tiers.tiles = true := by
  unfold commitWritten
  try dsimp only
  (repeat' split) <;> first | (simp_all (maxDischargeDepth := 16); done) | (have hk := commitGeneration_keeps _ _ _ (by assumption); simp_all)

@[simp] theorem mainReset_tiles_rising (source : Byte) (s : State) (hc : rising s.tiers.tiles = true) : rising
    (mainReset source s).tiers.tiles = true := by
  unfold mainReset
  try dsimp only
  (repeat' split) <;> simp_all (maxDischargeDepth := 16)

@[simp] theorem wakeRequest_tiles_rising (s : State) (hc : rising s.tiers.tiles = true) : rising (wakeRequest
    s).2.tiers.tiles = true := by
  unfold wakeRequest
  simp (maxDischargeDepth := 16) [hc]

@[simp] theorem runRequest_tiles_rising (s : State) (hc : rising s.tiers.tiles = true) : rising (runRequest
    s).2.tiers.tiles = true := by
  unfold runRequest
  simp (maxDischargeDepth := 16) [hc]

@[simp] theorem stateRequest_tiles_rising (code : Nat) (s : State) (hc : rising s.tiers.tiles = true) : rising
    (stateRequest code s).2.tiers.tiles = true := by
  unfold stateRequest
  simp (maxDischargeDepth := 16) [hc]

@[simp] theorem aonLost_tiles_rising (cause : Byte) (s : State) (hc : rising s.tiers.tiles = true) : rising (aonLost
    cause s).tiers.tiles = true := by
  unfold aonLost
  simp (maxDischargeDepth := 16) [hc]

@[simp] theorem depleted_tiles_rising (s : State) (hc : rising s.tiers.tiles = true) : rising (depleted
    s).tiers.tiles = true := by
  unfold depleted
  simp (maxDischargeDepth := 16) [hc]

@[simp] theorem aonUp_tiles_rising (straps : BitVec 2) (errs : WordErrors) (s : State) (hc : rising s.tiers.tiles =
    true) : rising (aonUp straps errs s).tiers.tiles = true := by
  unfold aonUp
  simp (maxDischargeDepth := 16) [hc]

@[simp] theorem writeEffect_tiles_rising (i : Nat) (b : Nat) (data : List Byte) (resp : List Byte) (s : State) (hc :
    rising s.tiers.tiles = true) : rising (writeEffect i b data resp s).2.tiers.tiles = true := by
  unfold writeEffect
  simp (maxDischargeDepth := 16) [hc]

@[simp] theorem objectWrite_tiles_rising (path : Sys2Proof.Path) (i : Nat) (b : Nat) (data : List Byte) (resp : List
    Byte) (s : State) (hc : rising s.tiers.tiles = true) : rising (objectWrite path i b data resp s).2.tiers.tiles =
    true := by
  unfold objectWrite
  try dsimp only
  (repeat' split) <;> simp_all (maxDischargeDepth := 16)

@[simp] theorem odWrite_tiles_rising (path : Sys2Proof.Path) (i : Nat) (b : Nat) (data : List Byte) (resp : List
    Byte) (s : State) (hc : rising s.tiers.tiles = true) : rising (odWrite path i b data resp s).2.tiers.tiles =
    true := by
  unfold odWrite
  simp (maxDischargeDepth := 16) [rawNoted, hc]

@[simp] theorem serve_tiles_rising (errs : WordErrors) (q : Request) (s : State) (hc : rising s.tiers.tiles = true)
    : rising (serve errs q s).tiers.tiles = true := by
  unfold serve
  try dsimp only
  (repeat' split) <;> simp_all (maxDischargeDepth := 16) [written]

@[simp] theorem takeFrame_tiles_rising (x : Xfer) (frame : List Byte) (errs : WordErrors) (s : State) (hc : rising
    s.tiers.tiles = true) : rising (takeFrame x frame errs s).tiers.tiles = true := by
  unfold takeFrame
  try dsimp only
  (repeat' split) <;> simp_all (maxDischargeDepth := 16)

@[simp] theorem hostWrite_tiles_rising (i : Nat) (b : Nat) (data : List Byte) (s : State) (hc : rising s.tiers.tiles
    = true) : rising (hostWrite i b data s).tiers.tiles = true := by
  unfold hostWrite
  simp (maxDischargeDepth := 16) [hostRequest, written, hc]

@[simp] theorem tunnelCommand_tiles_rising (p : PortId) (cmd : Nat) (s : State) (hc : rising s.tiers.tiles = true) :
    rising (tunnelCommand p cmd s).tiers.tiles = true := by
  unfold tunnelCommand
  simp (maxDischargeDepth := 16) [hc]

@[simp] theorem bar0Write_tiles_rising (p : PortId) (off : Nat) (data : List Byte) (s : State) (hc : rising
    s.tiers.tiles = true) : rising (bar0Write p off data s).tiers.tiles = true := by
  unfold bar0Write
  simp (maxDischargeDepth := 16) [hc]

@[simp] theorem registerWritten_tiles_rising (t : RegTarget) (s : State) (hc : rising s.tiers.tiles = true) : rising
    (registerWritten t s).tiers.tiles = true := by
  unfold registerWritten
  try dsimp only
  (repeat' split) <;> simp_all (maxDischargeDepth := 16)

@[simp] theorem completeOn_tiles_rising (t : TargetId) (source : U16) (s : State) (hc : rising s.tiers.tiles = true)
    : rising (completeOn t source s).tiers.tiles = true := by
  unfold completeOn
  try dsimp only
  (repeat' split) <;> simp_all (maxDischargeDepth := 16)

@[simp] theorem securityAtSetup_tiles_rising (s : State) (hc : rising s.tiers.tiles = true) : rising
    (securityAtSetup s).tiers.tiles = true := by
  unfold securityAtSetup
  simp (maxDischargeDepth := 16) [hc]

@[simp] theorem bootCompletes_tiles_rising (errs : WordErrors) (s : State) (hc : rising s.tiers.tiles = true) :
    rising (bootCompletes errs s).tiers.tiles = true := by
  unfold bootCompletes
  simp (maxDischargeDepth := 16) [hc]

@[simp] theorem vinFails_tiles_rising (s : State) (hc : rising s.tiers.tiles = true) : rising (vinFails
    s).tiers.tiles = true := by
  unfold vinFails
  simp (maxDischargeDepth := 16) [hc]

@[simp] theorem vinSags_tiles_rising (s : State) (hc : rising s.tiers.tiles = true) : rising (vinSags s).tiers.tiles
    = true := by
  unfold vinSags
  simp (maxDischargeDepth := 16) [hc]

@[simp] theorem vsbFails_tiles_rising (s : State) (hc : rising s.tiers.tiles = true) : rising (vsbFails
    s).tiers.tiles = true := by
  unfold vsbFails
  simp (maxDischargeDepth := 16) [hc]

@[simp] theorem insertedAgain_tiles_rising (s : State) (hc : rising s.tiers.tiles = true) : rising (insertedAgain
    s).tiers.tiles = true := by
  unfold insertedAgain
  simp (maxDischargeDepth := 16) [hc]

@[simp] theorem vsbBack_tiles_rising (s : State) (hc : rising s.tiers.tiles = true) : rising (vsbBack s).tiers.tiles
    = true := by
  unfold vsbBack
  simp (maxDischargeDepth := 16) [hc]

@[simp] theorem debounced_tiles_rising (s : State) (hc : rising s.tiers.tiles = true) : rising (debounced
    s).tiers.tiles = true := by
  unfold debounced
  simp (maxDischargeDepth := 16) [hc]

@[simp] theorem mrReset_tiles_rising (s : State) (hc : rising s.tiers.tiles = true) : rising (mrReset s).tiers.tiles
    = true := by
  unfold mrReset
  simp (maxDischargeDepth := 16) [hc]

@[simp] theorem conditionHolds_tiles_rising (c : InsCond) (s : State) (hc : rising s.tiers.tiles = true) : rising
    (conditionHolds c s).tiers.tiles = true := by
  unfold conditionHolds
  try dsimp only
  (repeat' split) <;> simp_all (maxDischargeDepth := 16)

@[simp] theorem invalidates_tiles_rising (path : Sys2Proof.Path) (stream : U16) (s : State) (hc : rising
    s.tiers.tiles = true) : rising (invalidates path stream s).tiers.tiles = true := by
  unfold invalidates
  try dsimp only
  (repeat' split) <;> simp_all (maxDischargeDepth := 16)

@[simp] theorem coalescing_tiles_rising (t : TargetId) (sub : Nat) (value : U16) (s : State) (hc : rising
    s.tiers.tiles = true) : rising (coalescing t sub value s).tiers.tiles = true := by
  unfold coalescing
  simp (maxDischargeDepth := 16) [hc]

end Sys2Proof.Machine
end

