-- ==== Sys2Proof/Laws/Idle.lean ====
section
/-! SUPPORT. No operation but raw and segmented writes and reads of option flash makes the bus path wait (R452): one lemma an
operation, for `simp`. -/

set_option linter.unusedSimpArgs false
set_option linter.unusedVariables false
set_option linter.unusedTactic false
set_option linter.unreachableTactic false
set_option linter.unnecessarySeqFocus false

namespace Sys2Proof.Machine

@[simp] theorem fold_idle {α : Type} (g : State → α → State)
    (hg : ∀ s a, s.bus.busy = false → (g s a).bus.busy = false) (l : List α) (s : State)
    (h : s.bus.busy = false) : (l.foldl g s).bus.busy = false := by
  induction l generalizing s with
  | nil => exact h
  | cons a l ih => exact ih _ (hg _ _ h)

@[simp] theorem fold2_idle {α β : Type} (g : β × State → α → β × State)
    (hg : ∀ p a, p.2.bus.busy = false → (g p a).2.bus.busy = false) (l : List α) (p : β × State)
    (h : p.2.bus.busy = false) : (l.foldl g p).2.bus.busy = false := by
  induction l generalizing p with
  | nil => exact h
  | cons a l ih => exact ih _ (hg _ _ h)

@[simp] theorem ite_busy (c : Prop) [Decidable c] (a b : Bus) :
    (if c then a else b).busy = if c then a.busy else b.busy := apply_ite Bus.busy c a b

@[simp] theorem ibiAttempt_idle (s : State) (hc : s.bus.busy = false) : (ibiAttempt s).bus.busy = false := by
  unfold ibiAttempt
  simp (maxDischargeDepth := 16) [hc]

@[simp] theorem issue_idle (t : TargetId) (fast : Bool) (s : State) (hc : s.bus.busy = false) : (issue t fast
    s).bus.busy = false := by
  unfold issue
  try dsimp only
  (repeat' split) <;> simp_all (maxDischargeDepth := 16)

@[simp] theorem notifyNow_idle (t : TargetId) (fast : Bool) (s : State) (hc : s.bus.busy = false) : (notifyNow t
    fast s).bus.busy = false := by
  unfold notifyNow
  simp (maxDischargeDepth := 16) [hc]

@[simp] theorem testWindow_idle (t : TargetId) (expired : Bool) (s : State) (hc : s.bus.busy = false) : (testWindow
    t expired s).bus.busy = false := by
  unfold testWindow
  simp (maxDischargeDepth := 16) [hc]

@[simp] theorem becamePending_idle (fast : Bool) (t : TargetId) (s : State) (hc : s.bus.busy = false) :
    (becamePending fast t s).bus.busy = false := by
  unfold becamePending
  simp (maxDischargeDepth := 16) [hc]

@[simp] theorem raise_idle (k : Nat) (s : State) (hc : s.bus.busy = false) : (raise k s).bus.busy = false := by
  unfold raise
  try dsimp only
  (repeat' split) <;> simp_all (maxDischargeDepth := 16)

@[simp] theorem claim_idle (t : TargetId) (fast : Bool) (s : State) (hc : s.bus.busy = false) : (claim t fast
    s).2.bus.busy = false := by
  unfold claim
  try dsimp only
  (repeat' split) <;> simp_all (maxDischargeDepth := 16)

@[simp] theorem reenter_idle (n : SourceId) (s : State) (hc : s.bus.busy = false) : (reenter n s).bus.busy = false
    := by
  unfold reenter
  try dsimp only
  (repeat' split) <;> simp_all (maxDischargeDepth := 16)

@[simp] theorem spurious_idle (t : TargetId) (s : State) (hc : s.bus.busy = false) : (spurious t s).bus.busy = false
    := by
  unfold spurious
  try dsimp only
  (repeat' split) <;> simp_all (maxDischargeDepth := 16)

@[simp] theorem completeAt_idle (t : TargetId) (k : Nat) (s : State) (hc : s.bus.busy = false) : (completeAt t k
    s).bus.busy = false := by
  unfold completeAt
  try dsimp only
  (repeat' split) <;> simp_all (maxDischargeDepth := 16)

@[simp] theorem release_idle (t : TargetId) (s : State) (hc : s.bus.busy = false) : (release t s).bus.busy = false
    := by
  unfold release
  simp (maxDischargeDepth := 16) [hc]

@[simp] theorem setDisable_idle (t : TargetId) (on : Bool) (s : State) (hc : s.bus.busy = false) : (setDisable t on
    s).bus.busy = false := by
  unfold setDisable
  simp (maxDischargeDepth := 16) [hc]

@[simp] theorem resetTarget_idle (t : TargetId) (s : State) (hc : s.bus.busy = false) : (resetTarget t s).bus.busy =
    false := by
  unfold resetTarget
  try dsimp only
  (repeat' split) <;> simp_all (maxDischargeDepth := 16)

@[simp] theorem resetSources_idle (s : State) (hc : s.bus.busy = false) : (resetSources s).bus.busy = false := by
  unfold resetSources
  simp (maxDischargeDepth := 16) [hc]

@[simp] theorem closeWindows_idle (s : State) (hc : s.bus.busy = false) : (closeWindows s).bus.busy = false := by
  unfold closeWindows
  simp (maxDischargeDepth := 16) [hc]

@[simp] theorem reroute_idle (before : State) (s : State) (hc : s.bus.busy = false) : (reroute before s).bus.busy =
    false := by
  unfold reroute
  try dsimp only
  refine fold_idle _ ?_ _ _ ?_
  · intro x a hx
    try dsimp only
    (repeat' split) <;> simp (maxDischargeDepth := 16) [hx]
  · simp [hc]

@[simp] theorem setSeg_idle (p : Sys2Proof.Path) (g : Option OpenSeg) (s : State) (hc : s.bus.busy = false) :
    (setSeg p g s).bus.busy = false := by
  unfold setSeg
  try dsimp only
  (repeat' split) <;> simp_all (maxDischargeDepth := 16)

@[simp] theorem imageRejected_idle (s : State) (hc : s.bus.busy = false) : (imageRejected s).bus.busy = false := by
  unfold imageRejected
  simp (maxDischargeDepth := 16) [hc]

@[simp] theorem abandon_idle (p : Sys2Proof.Path) (s : State) (hc : s.bus.busy = false) : (abandon p s).bus.busy =
    false := by
  unfold abandon
  try dsimp only
  (repeat' split) <;> simp_all (maxDischargeDepth := 16)

@[simp] theorem abandonAll_idle (s : State) (hc : s.bus.busy = false) : (abandonAll s).bus.busy = false := by
  unfold abandonAll
  try dsimp only
  (repeat' split) <;> simp_all (maxDischargeDepth := 16)

@[simp] theorem enter_idle (st : DevState) (cause : Byte) (s : State) (hc : s.bus.busy = false) : (enter st cause
    s).bus.busy = false := by
  unfold enter
  simp (maxDischargeDepth := 16) [hc]

@[simp] theorem faultEntry_idle (code : Byte) (cause : Byte) (s : State) (hc : s.bus.busy = false) : (faultEntry
    code cause s).bus.busy = false := by
  unfold faultEntry
  simp (maxDischargeDepth := 16) [hc]

@[simp] theorem veilCheck_idle (k : Fin 8) (s : State) (hc : s.bus.busy = false) : (veilCheck k s).bus.busy = false
    := by
  unfold veilCheck
  simp (maxDischargeDepth := 16) [hc]

@[simp] theorem veilBegins_idle (k : Fin 8) (cause : Nat) (s : State) (hc : s.bus.busy = false) : (veilBegins k
    cause s).bus.busy = false := by
  unfold veilBegins
  simp (maxDischargeDepth := 16) [hc]

@[simp] theorem commandHeld_idle (s : State) (hc : s.bus.busy = false) : (commandHeld s).bus.busy = false := by
  unfold commandHeld
  simp (maxDischargeDepth := 16) [hc]

@[simp] theorem prechargeBanks_idle (r : Fin 16) (bank : Option Nat) (s : State) (hc : s.bus.busy = false) :
    (prechargeBanks r bank s).bus.busy = false := by
  unfold prechargeBanks
  simp (maxDischargeDepth := 16) [hc]

@[simp] theorem enterSelfRefresh_idle (r : Fin 16) (pd : Bool) (s : State) (hc : s.bus.busy = false) :
    (enterSelfRefresh r pd s).bus.busy = false := by
  unfold enterSelfRefresh
  simp (maxDischargeDepth := 16) [hc]

@[simp] theorem modeWrite_idle (r : Fin 16) (addr : Byte) (op : Byte) (e : MrEffect) (s : State) (hc : s.bus.busy =
    false) : (modeWrite r addr op e s).bus.busy = false := by
  unfold modeWrite
  try dsimp only
  (repeat' split) <;> simp_all (maxDischargeDepth := 16)

@[simp] theorem relocked_idle (k : Fin 8) (s : State) (hc : s.bus.busy = false) : (relocked k s).bus.busy = false :=
    by
  unfold relocked
  simp (maxDischargeDepth := 16) [hc]

@[simp] theorem resetSide_idle (side : Fin 2) (s : State) (hc : s.bus.busy = false) : (resetSide side s).bus.busy =
    false := by
  unfold resetSide
  try dsimp only
  (repeat' split) <;> simp_all (maxDischargeDepth := 16)

@[simp] theorem retire_idle (c : ChanId) (b : Nat) (s : State) (hc : s.bus.busy = false) : (retire c b s).bus.busy =
    false := by
  unfold retire
  simp (maxDischargeDepth := 16) [hc]

@[simp] theorem letGo_idle (c : ChanId) (b : Nat) (s : State) (hc : s.bus.busy = false) : (letGo c b s).bus.busy =
    false := by
  unfold letGo
  simp (maxDischargeDepth := 16) [hc]

@[simp] theorem freeBlocks_idle (c : ChanId) (test : Nat → NandBlock → Bool) (s : State) (hc : s.bus.busy = false) :
    (freeBlocks c test s).bus.busy = false := by
  unfold freeBlocks
  try dsimp only
  (repeat' split) <;> simp_all (maxDischargeDepth := 16)

@[simp] theorem freeBlocksAll_idle (test : ChanId → Nat → NandBlock → Bool) (s : State) (hc : s.bus.busy = false) :
    (freeBlocksAll test s).bus.busy = false := by
  unfold freeBlocksAll
  try dsimp only
  (repeat' split) <;> simp_all (maxDischargeDepth := 16)

@[simp] theorem updateLife_idle (s : State) (hc : s.bus.busy = false) : (updateLife s).bus.busy = false := by
  unfold updateLife
  try dsimp only
  (repeat' split) <;> simp_all (maxDischargeDepth := 16)

@[simp] theorem countRead_idle (errs : WordErrors) (addr : Nat) (len : Nat) (s : State) (hc : s.bus.busy = false) :
    (countRead errs addr len s).bus.busy = false := by
  unfold countRead
  simp (maxDischargeDepth := 16) [hc]

@[simp] theorem flashReply_idle (a : Abort) (s : State) (hc : s.bus.busy = false) : (flashReply a s).bus.busy =
    false := by
  unfold flashReply
  simp (maxDischargeDepth := 16) [hc]

@[simp] theorem commitEnded_idle (completed : Bool) (s : State) (hc : s.bus.busy = false) : (commitEnded completed
    s).bus.busy = false := by
  unfold commitEnded
  simp (maxDischargeDepth := 16) [hc]

@[simp] theorem refuseJob_idle (j : FlashJob) (a : Abort) (s : State) (hc : s.bus.busy = false) : (refuseJob j a
    s).bus.busy = false := by
  unfold refuseJob
  try dsimp only
  (repeat' split) <;> simp_all (maxDischargeDepth := 16)

@[simp] theorem startPrim_idle (j : FlashJob) (op : FlashPrim) (s : State) (hc : s.bus.busy = false) : (startPrim j
    op s).2.bus.busy = false := by
  unfold startPrim
  try dsimp only
  (repeat' split) <;> simp_all (maxDischargeDepth := 16)

@[simp] theorem tryJob_idle (j : FlashJob) (s : State) (hc : s.bus.busy = false) : (tryJob j s).2.bus.busy = false
    := by
  unfold tryJob
  try dsimp only
  (repeat' split) <;> simp_all (maxDischargeDepth := 16)

@[simp] theorem pump_idle (x1 : Nat) (x2 : State) (hc : x2.bus.busy = false) : (pump x1 x2).bus.busy = false := by
  induction x1 generalizing x2 with
  | zero => simpa [pump] using hc
  | succ n ih =>
    unfold pump
    try dsimp only
    (repeat' split) <;> simp_all (maxDischargeDepth := 16)

@[simp] theorem flashKick_idle (s : State) (hc : s.bus.busy = false) : (flashKick s).bus.busy = false := by
  unfold flashKick
  simp (maxDischargeDepth := 16) [hc]

@[simp] theorem logPoint_idle (cause : Byte) (s : State) (hc : s.bus.busy = false) : (logPoint cause s).bus.busy =
    false := by
  unfold logPoint
  simp (maxDischargeDepth := 16) [hc]

@[simp] theorem logDeferred_idle (s : State) (hc : s.bus.busy = false) : (logDeferred s).bus.busy = false := by
  unfold logDeferred
  try dsimp only
  (repeat' split) <;> simp_all (maxDischargeDepth := 16)

@[simp] theorem requestCommit_idle (s : State) (hc : s.bus.busy = false) : (requestCommit s).bus.busy = false := by
  unfold requestCommit
  simp (maxDischargeDepth := 16) [hc]

@[simp] theorem commitNow_idle (s : State) (hc : s.bus.busy = false) : (commitNow s).bus.busy = false := by
  unfold commitNow
  simp (maxDischargeDepth := 16) [hc]

@[simp] theorem enterFault_idle (code : Byte) (cause : Byte) (s : State) (hc : s.bus.busy = false) : (enterFault
    code cause s).bus.busy = false := by
  unfold enterFault
  simp (maxDischargeDepth := 16) [hc]

@[simp] theorem abortJob_idle (s : State) (j : FlashJob) (hc : s.bus.busy = false) : (abortJob s j).bus.busy = false
    := by
  unfold abortJob
  try dsimp only
  (repeat' split) <;> simp_all (maxDischargeDepth := 16)

@[simp] theorem flashAbort_idle (s : State) (hc : s.bus.busy = false) : (flashAbort s).bus.busy = false := by
  unfold flashAbort
  try dsimp only
  (repeat' split) <;> simp_all (maxDischargeDepth := 16)

@[simp] theorem tenPercent_idle (s : State) (hc : s.bus.busy = false) : (tenPercent s).bus.busy = false := by
  unfold tenPercent
  simp (maxDischargeDepth := 16) [hc]

@[simp] theorem cellPeriod_idle (s : State) (hc : s.bus.busy = false) : (cellPeriod s).bus.busy = false := by
  unfold cellPeriod
  simp (maxDischargeDepth := 16) [hc]

@[simp] theorem setPhase_idle (p : KeeperPhase) (s : State) (hc : s.bus.busy = false) : (setPhase p s).bus.busy =
    false := by
  unfold setPhase
  simp (maxDischargeDepth := 16) [hc]

@[simp] theorem coulomb_idle (delta : Int) (s : State) (hc : s.bus.busy = false) : (coulomb delta s).bus.busy =
    false := by
  unfold coulomb
  try dsimp only
  (repeat' split) <;> simp_all (maxDischargeDepth := 16)

@[simp] theorem guaranteeNow_idle (s : State) (hc : s.bus.busy = false) : (guaranteeNow s).bus.busy = false := by
  unfold guaranteeNow
  simp (maxDischargeDepth := 16) [hc]

@[simp] theorem cellFault_idle (code : Byte) (s : State) (hc : s.bus.busy = false) : (cellFault code s).bus.busy =
    false := by
  unfold cellFault
  simp (maxDischargeDepth := 16) [hc]

@[simp] theorem switchClose_idle (s : State) (hc : s.bus.busy = false) : (switchClose s).bus.busy = false := by
  unfold switchClose
  simp (maxDischargeDepth := 16) [hc]

@[simp] theorem switchOpen_idle (s : State) (hc : s.bus.busy = false) : (switchOpen s).bus.busy = false := by
  unfold switchOpen
  simp (maxDischargeDepth := 16) [hc]

@[simp] theorem setFlag_idle (n : SlotId) (fl : SlotFlag) (s : State) (hc : s.bus.busy = false) : (setFlag n fl
    s).bus.busy = false := by
  unfold setFlag
  simp (maxDischargeDepth := 16) [hc]

@[simp] theorem count_idle (n : SlotId) (c : RailCount) (s : State) (hc : s.bus.busy = false) : (count n c
    s).bus.busy = false := by
  unfold count
  try dsimp only
  (repeat' split) <;> simp_all (maxDischargeDepth := 16)

@[simp] theorem enableSlot_idle (n : SlotId) (s : State) (hc : s.bus.busy = false) : (enableSlot n s).bus.busy =
    false := by
  unfold enableSlot
  simp (maxDischargeDepth := 16) [hc]

@[simp] theorem tripUv_idle (n : SlotId) (s : State) (hc : s.bus.busy = false) : (tripUv n s).bus.busy = false := by
  unfold tripUv
  simp (maxDischargeDepth := 16) [hc]

@[simp] theorem tripOv_idle (n : SlotId) (s : State) (hc : s.bus.busy = false) : (tripOv n s).bus.busy = false := by
  unfold tripOv
  simp (maxDischargeDepth := 16) [hc]

@[simp] theorem evalTrips_idle (n : SlotId) (s : State) (hc : s.bus.busy = false) : (evalTrips n s).bus.busy = false
    := by
  unfold evalTrips
  simp (maxDischargeDepth := 16) [hc]

@[simp] theorem disagree_idle (n : SlotId) (s : State) (hc : s.bus.busy = false) : (disagree n s).bus.busy = false
    := by
  unfold disagree
  simp (maxDischargeDepth := 16) [hc]

@[simp] theorem shortLatch_idle (n : SlotId) (s : State) (hc : s.bus.busy = false) : (shortLatch n s).bus.busy =
    false := by
  unfold shortLatch
  try dsimp only
  (repeat' split) <;> simp_all (maxDischargeDepth := 16)

@[simp] theorem shortChanged_idle (n : SlotId) (c : Comp) (asserts : Bool) (s : State) (hc : s.bus.busy = false) :
    (shortChanged n c asserts s).bus.busy = false := by
  unfold shortChanged
  simp (maxDischargeDepth := 16) [hc]

@[simp] theorem blankingEnd_idle (n : SlotId) (s : State) (hc : s.bus.busy = false) : (blankingEnd n s).bus.busy =
    false := by
  unfold blankingEnd
  simp (maxDischargeDepth := 16) [hc]

@[simp] theorem windowEntered_idle (n : SlotId) (ticks : Nat) (s : State) (hc : s.bus.busy = false) : (windowEntered
    n ticks s).bus.busy = false := by
  unfold windowEntered
  simp (maxDischargeDepth := 16) [hc]

@[simp] theorem rampSlowFlag_idle (n : SlotId) (s : State) (hc : s.bus.busy = false) : (rampSlowFlag n s).bus.busy =
    false := by
  unfold rampSlowFlag
  simp (maxDischargeDepth := 16) [hc]

@[simp] theorem rampExpired_idle (n : SlotId) (s : State) (hc : s.bus.busy = false) : (rampExpired n s).bus.busy =
    false := by
  unfold rampExpired
  simp (maxDischargeDepth := 16) [hc]

@[simp] theorem auditOne_idle (n : SlotId) (c : Comp) (s : State) (hc : s.bus.busy = false) : (auditOne n c
    s).bus.busy = false := by
  unfold auditOne
  simp (maxDischargeDepth := 16) [hc]

@[simp] theorem auditSlot_idle (n : SlotId) (s : State) (hc : s.bus.busy = false) : (auditSlot n s).bus.busy = false
    := by
  unfold auditSlot
  simp (maxDischargeDepth := 16) [hc]

@[simp] theorem marginStep_idle (n : SlotId) (loop : U16) (s : State) (hc : s.bus.busy = false) : (marginStep n loop
    s).bus.busy = false := by
  unfold marginStep
  simp (maxDischargeDepth := 16) [hc]

@[simp] theorem slotConverted_idle (n : SlotId) (code : U16) (loop : U16) (s : State) (hc : s.bus.busy = false) :
    (slotConverted n code loop s).bus.busy = false := by
  unfold slotConverted
  simp (maxDischargeDepth := 16) [hc]

@[simp] theorem programEnds_idle (result : Byte) (s : State) (hc : s.bus.busy = false) : (programEnds result
    s).bus.busy = false := by
  unfold programEnds
  try dsimp only
  (repeat' split) <;> simp_all (maxDischargeDepth := 16)

@[simp] theorem fillPowerFail_idle (errs : WordErrors) (s : State) (hc : s.bus.busy = false) : (fillPowerFail errs
    s).bus.busy = false := by
  unfold fillPowerFail
  try dsimp only
  (repeat' split) <;> simp_all (maxDischargeDepth := 16)

@[simp] theorem preempt_idle (s : State) (hc : s.bus.busy = false) : (preempt s).bus.busy = false := by
  unfold preempt
  simp (maxDischargeDepth := 16) [hc]

@[simp] theorem safeExit_idle (result : Byte) (s : State) (hc : s.bus.busy = false) : (safeExit result s).bus.busy =
    false := by
  unfold safeExit
  try dsimp only
  (repeat' split) <;> simp_all (maxDischargeDepth := 16)

@[simp] theorem stepEnable_idle (w : StepWord) (s : State) (hc : s.bus.busy = false) : (stepEnable w s).bus.busy =
    false := by
  unfold stepEnable
  try dsimp only
  (repeat' split) <;> simp_all (maxDischargeDepth := 16)

@[simp] theorem timeoutFlag_idle (arg : Nat) (n : SlotId) (s : State) (hc : s.bus.busy = false) : (timeoutFlag arg n
    s).bus.busy = false := by
  unfold timeoutFlag
  try dsimp only
  (repeat' split) <;> simp_all (maxDischargeDepth := 16)

@[simp] theorem waitTimedOut_idle (arg : Nat) (mask : U16) (s : State) (hc : s.bus.busy = false) : (waitTimedOut arg
    mask s).bus.busy = false := by
  unfold waitTimedOut
  try dsimp only
  (repeat' split) <;> simp_all (maxDischargeDepth := 16)

@[simp] theorem waitExpired_idle (mismatch : Bool) (s : State) (hc : s.bus.busy = false) : (waitExpired mismatch
    s).bus.busy = false := by
  unfold waitExpired
  try dsimp only
  (repeat' split) <;> simp_all (maxDischargeDepth := 16)

@[simp] theorem stepJump_idle (w : StepWord) (s : State) (hc : s.bus.busy = false) : (stepJump w s).bus.busy = false
    := by
  unfold stepJump
  (repeat' split) <;> simp (maxDischargeDepth := 16) [hc]

@[simp] theorem stepSignal_idle (w : StepWord) (s : State) (hc : s.bus.busy = false) : (stepSignal w s).bus.busy =
    false := by
  unfold stepSignal
  simp (maxDischargeDepth := 16) [hc]

@[simp] theorem stepEnd_idle (w : StepWord) (s : State) (hc : s.bus.busy = false) : (stepEnd w s).bus.busy = false
    := by
  unfold stepEnd
  try dsimp only
  (repeat' split) <;> simp_all (maxDischargeDepth := 16)

@[simp] theorem loadEnded_idle (errs : WordErrors) (s : State) (hc : s.bus.busy = false) : (loadEnded errs
    s).bus.busy = false := by
  unfold loadEnded
  try dsimp only
  (repeat' split) <;> simp_all (maxDischargeDepth := 16)

@[simp] theorem runTooLong_idle (s : State) (hc : s.bus.busy = false) : (runTooLong s).bus.busy = false := by
  unfold runTooLong
  try dsimp only
  (repeat' split) <;> simp_all (maxDischargeDepth := 16)

@[simp] theorem updateFits_idle (s : State) (hc : s.bus.busy = false) : (updateFits s).bus.busy = false := by
  unfold updateFits
  simp (maxDischargeDepth := 16) [hc]

@[simp] theorem freeGens_idle (test : Nat → Bool) (s : State) (hc : s.bus.busy = false) : (freeGens test s).bus.busy
    = false := by
  unfold freeGens
  simp (maxDischargeDepth := 16) [hc]

@[simp] theorem anchorCopied_idle (c : ChanId) (s : State) (hc : s.bus.busy = false) : (anchorCopied c s).bus.busy =
    false := by
  unfold anchorCopied
  try dsimp only
  (repeat' split) <;> simp_all (maxDischargeDepth := 16)

@[simp] theorem anchorCopies_idle (s : State) (hc : s.bus.busy = false) : (anchorCopies s).bus.busy = false := by
  unfold anchorCopies
  try dsimp only
  (repeat' split) <;> simp_all (maxDischargeDepth := 16)

@[simp] theorem discardPending_idle (s : State) (hc : s.bus.busy = false) : (discardPending s).bus.busy = false :=
    by
  unfold discardPending
  try dsimp only
  (repeat' split) <;> simp_all (maxDischargeDepth := 16)

@[simp] theorem acceptStaleNow_idle (s : State) (hc : s.bus.busy = false) : (acceptStaleNow s).bus.busy = false :=
    by
  unfold acceptStaleNow
  try dsimp only
  (repeat' split) <;> simp_all (maxDischargeDepth := 16)

@[simp] theorem collectF_idle (s : State) (hc : s.bus.busy = false) : (collectF s).bus.busy = false := by
  unfold collectF
  simp (maxDischargeDepth := 16) [hc]

@[simp] theorem releaseF_idle (s : State) (hc : s.bus.busy = false) : (releaseF s).bus.busy = false := by
  unfold releaseF
  simp (maxDischargeDepth := 16) [hc]

@[simp] theorem fetchEntry_idle (stream : Nat) (s : State) (hc : s.bus.busy = false) : (fetchEntry stream
    s).2.bus.busy = false := by
  unfold fetchEntry
  try dsimp only
  (repeat' split) <;> simp_all (maxDischargeDepth := 16)

@[simp] theorem reserveUsed_idle (a : Nat) (s : State) (hc : s.bus.busy = false) : (reserveUsed a s).bus.busy =
    false := by
  unfold reserveUsed
  simp (maxDischargeDepth := 16) [hc]

@[simp] theorem placeD_idle (k : Nat) (bs : List Byte) (dirty : U16) (reserve : Bool) (s : State) (hc : s.bus.busy =
    false) : (placeD k bs dirty reserve s).2.bus.busy = false := by
  unfold placeD
  simp (maxDischargeDepth := 16) [hc]

@[simp] theorem writeDown_idle (k : Nat) (reserve : Bool) (s : State) (hc : s.bus.busy = false) : (writeDown k
    reserve s).2.bus.busy = false := by
  unfold writeDown
  try dsimp only
  (repeat' split) <;> simp_all (maxDischargeDepth := 16)

@[simp] theorem claimSlot_idle (a : Nat) (s : State) (hc : s.bus.busy = false) : (claimSlot a s).2.bus.busy = false
    := by
  unfold claimSlot
  try dsimp only
  (repeat' split) <;> simp_all (maxDischargeDepth := 16)

@[simp] theorem slotFor_idle (k : Nat) (a : Nat) (s : State) (hc : s.bus.busy = false) : (slotFor k a s).2.bus.busy
    = false := by
  unfold slotFor
  simp (maxDischargeDepth := 16) [hc]

@[simp] theorem programEnded_idle (k : Nat) (s : State) (hc : s.bus.busy = false) : (programEnded k s).bus.busy =
    false := by
  unfold programEnded
  simp (maxDischargeDepth := 16) [hc]

@[simp] theorem saveTile_idle (seq : Nat) (k : Nat) (s : State) (hc : s.bus.busy = false) : (saveTile seq k
    s).bus.busy = false := by
  unfold saveTile
  try dsimp only
  (repeat' split) <;> simp_all (maxDischargeDepth := 16)

@[simp] theorem tierFEnds_idle (k : Nat) (s : State) (hc : s.bus.busy = false) : (tierFEnds k s).bus.busy = false :=
    by
  unfold tierFEnds
  try dsimp only
  (repeat' split) <;> simp_all (maxDischargeDepth := 16)

@[simp] theorem unitLost_idle (k : Nat) (s : State) (hc : s.bus.busy = false) : (unitLost k s).bus.busy = false :=
    by
  unfold unitLost
  try dsimp only
  (repeat' split) <;> simp_all (maxDischargeDepth := 16)

@[simp] theorem proofServed_idle (a : Nat) (s : State) (hc : s.bus.busy = false) : (proofServed a s).bus.busy =
    false := by
  unfold proofServed
  simp (maxDischargeDepth := 16) [hc]

@[simp] theorem takeF_idle (k : Nat) (e : List Byte) (s : State) (hc : s.bus.busy = false) : (takeF k e
    s).2.bus.busy = false := by
  unfold takeF
  try dsimp only
  (repeat' split) <;> simp_all (maxDischargeDepth := 16)

@[simp] theorem readD_idle (k : Nat) (e : List Byte) (dirty : U16) (s : State) (hc : s.bus.busy = false) : (readD k
    e dirty s).2.bus.busy = false := by
  have ht : (takeD k e s).2.bus.busy = false := by simp [hc]
  unfold readD
  rcases h1 : takeD k e s with ⟨o, u⟩
  rw [h1] at ht
  dsimp only at ht
  cases o with
  | some bs => exact ht
  | none =>
    dsimp only
    split <;> simp (maxDischargeDepth := 16) [ht]

@[simp] theorem readTile_idle (k : Nat) (e : List Byte) (s : State) (hc : s.bus.busy = false) : (readTile k e
    s).2.bus.busy = false := by
  unfold readTile
  try dsimp only
  (repeat' split) <;> simp_all (maxDischargeDepth := 16)

@[simp] theorem beforeWrite_idle (k : Nat) (e : List Byte) (s : State) (hc : s.bus.busy = false) : (beforeWrite k e
    s).2.bus.busy = false := by
  unfold beforeWrite
  simp (maxDischargeDepth := 16) [hc]

theorem storeD_idle (k : Nat) (enc : List Byte) (dirty : U16) (s : State) (t : State) (e : storeD k enc dirty s =
    some t) (hc : s.bus.busy = false) : t.bus.busy = false := by
  unfold storeD at e
  try dsimp only at e
  (repeat' split at e) <;> simp_all (maxDischargeDepth := 16)
  all_goals (subst e; simp_all (maxDischargeDepth := 16))

theorem storeTile_idle (k : Nat) (e : List Byte) (data : List Byte) (enc : List Byte) (mask : U16) (slot : Bool) (s
    : State) (t : State) (e : storeTile k e data enc mask slot s = some t) (hc : s.bus.busy = false) : t.bus.busy =
    false := by
  unfold storeTile at e
  simp only [Option.map_eq_some_iff] at e
  obtain ⟨u, hu, rfl⟩ := e
  have hk : u.bus.busy = false := by
    split at hu
    · exact storeD_idle _ _ _ _ _ hu (by simp (maxDischargeDepth := 16) [hc])
    · split at hu
      · obtain ⟨v, hv, rfl⟩ := Option.map_eq_some_iff.mp hu
        have hd := storeD_idle _ _ _ _ _ hv (by simp (maxDischargeDepth := 16) [hc])
        simp (maxDischargeDepth := 16) [hd]
      · split at hu
        · have hu := Option.some.inj hu
          subst hu
          simp (maxDischargeDepth := 16) [hc]
        · obtain ⟨v, hv, rfl⟩ := Option.map_eq_some_iff.mp hu
          have hd := storeD_idle _ _ _ _ _ hv (by simp (maxDischargeDepth := 16) [hc])
          simp (maxDischargeDepth := 16) [hd]
  split <;> simp (maxDischargeDepth := 16) [hk]

@[simp] theorem liftS_idle (k : Nat) (s : State) (hc : s.bus.busy = false) : (liftS k s).bus.busy = false := by
  have ht : (takeD k (entryNow s (keyStream k)) s).2.bus.busy = false := by simp [hc]
  unfold liftS
  dsimp only
  split
  · exact hc
  · split
    · rcases h1 : takeD k (entryNow s (keyStream k)) s with ⟨o, u⟩
      rw [h1] at ht
      dsimp only at ht
      cases o with
      | some bs => simp (maxDischargeDepth := 16) [ht]
      | none =>
        dsimp only
        split <;> simp (maxDischargeDepth := 16) [ht]
    · (repeat' split) <;> simp (maxDischargeDepth := 16) [hc]

@[simp] theorem placeAccount_idle (a : Nat) (s : State) (hc : s.bus.busy = false) : (placeAccount a s).bus.busy =
    false := by
  unfold placeAccount
  try dsimp only
  (repeat' split) <;> simp_all (maxDischargeDepth := 16)

@[simp] theorem tileEpoch_idle (s : State) (hc : s.bus.busy = false) : (tileEpoch s).bus.busy = false := by
  unfold tileEpoch
  try dsimp only
  (repeat' split) <;> simp_all (maxDischargeDepth := 16)

@[simp] theorem programsEnd_idle (s : State) (hc : s.bus.busy = false) : (programsEnd s).bus.busy = false := by
  unfold programsEnd
  try dsimp only
  refine fold_idle _ ?_ _ _ ?_
  · intro x a hx
    try dsimp only
    (repeat' split) <;> simp (maxDischargeDepth := 16) [hx]
  · simp [hc]

@[simp] theorem saveEnds_idle (s : State) (hc : s.bus.busy = false) : (saveEnds s).bus.busy = false := by
  unfold saveEnds
  try dsimp only
  (repeat' split) <;> simp_all (maxDischargeDepth := 16)

@[simp] theorem tierLoad_idle (s : State) (hc : s.bus.busy = false) : (tierLoad s).bus.busy = false := by
  unfold tierLoad
  try dsimp only
  (repeat' split) <;> simp_all (maxDischargeDepth := 16)

@[simp] theorem tiersReleased_idle (s : State) (hc : s.bus.busy = false) : (tiersReleased s).bus.busy = false := by
  unfold tiersReleased
  simp (maxDischargeDepth := 16) [hc]

@[simp] theorem deleteNow_idle (stream : Nat) (s : State) (hc : s.bus.busy = false) : (deleteNow stream s).bus.busy
    = false := by
  unfold deleteNow
  simp (maxDischargeDepth := 16) [hc]

@[simp] theorem coreFails_idle (c : Fin 4) (s : State) (hc : s.bus.busy = false) : (coreFails c s).bus.busy = false
    := by
  unfold coreFails
  simp (maxDischargeDepth := 16) [hc]

@[simp] theorem takeVoluntary_idle (s : State) (hc : s.bus.busy = false) : (takeVoluntary s).bus.busy = false := by
  unfold takeVoluntary
  simp (maxDischargeDepth := 16) [hc]

@[simp] theorem takeForced_idle (cause : Byte) (s : State) (hc : s.bus.busy = false) : (takeForced cause s).bus.busy
    = false := by
  unfold takeForced
  simp (maxDischargeDepth := 16) [hc]

@[simp] theorem reclaim_idle (d : Nat) (x1 : List Gen) (x2 : State) (hc : x2.bus.busy = false) : (reclaim d x1
    x2).bus.busy = false := by
  induction x1 generalizing x2 with
  | nil => simpa [reclaim] using hc
  | cons a l ih =>
    unfold reclaim
    try dsimp only
    (repeat' split) <;> simp (maxDischargeDepth := 16) [ih, hc]

@[simp] theorem makeRoom_idle (d : Nat) (s : State) (hc : s.bus.busy = false) : (makeRoom d s).bus.busy = false :=
    by
  unfold makeRoom
  try dsimp only
  (repeat' split) <;> simp_all (maxDischargeDepth := 16)

@[simp] theorem beginGeneration_idle (s : State) (hc : s.bus.busy = false) : (beginGeneration s).bus.busy = false :=
    by
  unfold beginGeneration
  try dsimp only
  (repeat' split) <;> simp_all (maxDischargeDepth := 16)

@[simp] theorem afterTakeover_idle (s : State) (hc : s.bus.busy = false) : (afterTakeover s).bus.busy = false := by
  unfold afterTakeover
  try dsimp only
  (repeat' split) <;> simp_all (maxDischargeDepth := 16)

theorem commitGeneration_idle (e : Expo) (s : State) (t : State) (e : commitGeneration e s = some t) (hc :
    s.bus.busy = false) : t.bus.busy = false := by
  unfold commitGeneration at e
  split at e
  · cases e
  · simp only [Option.map_eq_some_iff] at e
    obtain ⟨u, hu, rfl⟩ := e
    have hk := writtenGeneration_keeps _ _ _ _ hu
    have hb : u.bus.busy = false := by simp [hk, hc]
    (repeat' split) <;> simp (maxDischargeDepth := 16) [hb]

@[simp] theorem exposureEnds_idle (result : Byte) (s : State) (hc : s.bus.busy = false) : (exposureEnds result
    s).bus.busy = false := by
  unfold exposureEnds
  try dsimp only
  (repeat' split) <;> simp_all (maxDischargeDepth := 16)

@[simp] theorem sideReturned_idle (side : Fin 2) (us : U32) (s : State) (hc : s.bus.busy = false) : (sideReturned
    side us s).bus.busy = false := by
  unfold sideReturned
  simp (maxDischargeDepth := 16) [hc]

@[simp] theorem dropCons_idle (s : State) (hc : s.bus.busy = false) : (dropCons s).bus.busy = false := by
  unfold dropCons
  try dsimp only
  (repeat' split) <;> simp_all (maxDischargeDepth := 16)

@[simp] theorem consCommitted_idle (s : State) (hc : s.bus.busy = false) : (consCommitted s).bus.busy = false := by
  unfold consCommitted
  split
  · exact hc
  split
  · exact hc
  split
  · split
    · simp (maxDischargeDepth := 16) [hc]
    · split
      · simp (maxDischargeDepth := 16) [hc]
      · rename_i hw
        have hk := writtenCons_keeps _ _ _ _ _ hw
        simp (maxDischargeDepth := 16) [hk, hc]
  · simp (maxDischargeDepth := 16) [hc]

@[simp] theorem developmentEnds_idle (d : Devel) (s : State) (hc : s.bus.busy = false) : (developmentEnds d
    s).bus.busy = false := by
  unfold developmentEnds
  try dsimp only
  (repeat' split) <;> simp_all (maxDischargeDepth := 16)

@[simp] theorem developmentFails_idle (s : State) (hc : s.bus.busy = false) : (developmentFails s).bus.busy = false
    := by
  unfold developmentFails
  try dsimp only
  (repeat' split) <;> simp_all (maxDischargeDepth := 16)

@[simp] theorem persistenceFault_idle (code : Byte) (s : State) (hc : s.bus.busy = false) : (persistenceFault code
    s).bus.busy = false := by
  unfold persistenceFault
  simp (maxDischargeDepth := 16) [hc]

@[simp] theorem eraseEnds_idle (c : ChanId) (b : Nat) (s : State) (hc : s.bus.busy = false) : (eraseEnds c b
    s).bus.busy = false := by
  unfold eraseEnds
  simp (maxDischargeDepth := 16) [hc]

@[simp] theorem eraseFails_idle (c : ChanId) (b : Nat) (s : State) (hc : s.bus.busy = false) : (eraseFails c b
    s).bus.busy = false := by
  unfold eraseFails
  simp (maxDischargeDepth := 16) [hc]

@[simp] theorem programFails_idle (c : ChanId) (b : Nat) (s : State) (hc : s.bus.busy = false) : (programFails c b
    s).bus.busy = false := by
  unfold programFails
  simp (maxDischargeDepth := 16) [hc]

@[simp] theorem tilesLost_idle (i : Nat) (unit : Option Nat) (s : State) (hc : s.bus.busy = false) : (tilesLost i
    unit s).bus.busy = false := by
  unfold tilesLost
  try dsimp only
  (repeat' split) <;> simp_all (maxDischargeDepth := 16)

@[simp] theorem lostToReader_idle (h : Holds) (s : State) (hc : s.bus.busy = false) : (lostToReader h s).bus.busy =
    false := by
  unfold lostToReader
  try dsimp only
  (repeat' split) <;> simp_all (maxDischargeDepth := 16)

@[simp] theorem unitRead_idle (c : ChanId) (key : Nat) (r : UnitRead) (s : State) (hc : s.bus.busy = false) :
    (unitRead c key r s).bus.busy = false := by
  unfold unitRead
  simp (maxDischargeDepth := 16) [hc]

@[simp] theorem lossRecord_idle (gen : Nat) (ls : List Loss) (s : State) (hc : s.bus.busy = false) : (lossRecord gen
    ls s).bus.busy = false := by
  unfold lossRecord
  simp (maxDischargeDepth := 16) [hc]

@[simp] theorem unrecovered_idle (a : Nat) (h : Holds) (s : State) (hc : s.bus.busy = false) : (unrecovered a h
    s).bus.busy = false := by
  unfold unrecovered
  try dsimp only
  (repeat' split) <;> simp_all (maxDischargeDepth := 16)

@[simp] theorem patrolled_idle (a : Nat) (r : UnitRead) (s : State) (hc : s.bus.busy = false) : (patrolled a r
    s).bus.busy = false := by
  unfold patrolled
  try dsimp only
  (repeat' split) <;> simp_all (maxDischargeDepth := 16)

@[simp] theorem patrolStep_idle (c : ChanId) (r : UnitRead) (s : State) (hc : s.bus.busy = false) : (patrolStep c r
    s).bus.busy = false := by
  unfold patrolStep
  try dsimp only
  (repeat' split) <;> simp_all (maxDischargeDepth := 16)

@[simp] theorem markDead_idle (c : ChanId) (cause : Byte) (s : State) (hc : s.bus.busy = false) : (markDead c cause
    s).bus.busy = false := by
  unfold markDead
  simp (maxDischargeDepth := 16) [hc]

@[simp] theorem declareDead_idle (c : ChanId) (cause : Byte) (s : State) (hc : s.bus.busy = false) : (declareDead c
    cause s).bus.busy = false := by
  unfold declareDead
  simp (maxDischargeDepth := 16) [hc]

@[simp] theorem afterDead_idle (s : State) (hc : s.bus.busy = false) : (afterDead s).bus.busy = false := by
  unfold afterDead
  try dsimp only
  (repeat' split) <;> simp_all (maxDischargeDepth := 16)

@[simp] theorem channelTested_idle (result : U16) (s : State) (c : ChanId) (hc : s.bus.busy = false) :
    (channelTested result s c).bus.busy = false := by
  unfold channelTested
  simp (maxDischargeDepth := 16) [hc]

@[simp] theorem channelsTested_idle (result : U16) (s : State) (hc : s.bus.busy = false) : (channelsTested result
    s).bus.busy = false := by
  unfold channelsTested
  try dsimp only
  (repeat' split) <;> simp_all (maxDischargeDepth := 16)

@[simp] theorem setRegions_idle (percent : Nat) (s : State) (hc : s.bus.busy = false) : (setRegions percent
    s).bus.busy = false := by
  unfold setRegions
  simp (maxDischargeDepth := 16) [hc]

@[simp] theorem blankBuilt_idle (s : State) (hc : s.bus.busy = false) : (blankBuilt s).bus.busy = false := by
  unfold blankBuilt
  simp (maxDischargeDepth := 16) [hc]

@[simp] theorem closeSession_idle (s : State) (hc : s.bus.busy = false) : (closeSession s).bus.busy = false := by
  unfold closeSession
  simp (maxDischargeDepth := 16) [hc]

@[simp] theorem authFails_idle (s : State) (hc : s.bus.busy = false) : (authFails s).2.bus.busy = false := by
  unfold authFails
  simp (maxDischargeDepth := 16) [hc]

@[simp] theorem readChallenge_idle (s : State) (hc : s.bus.busy = false) : (readChallenge s).2.2.bus.busy = false :=
    by
  unfold readChallenge
  try dsimp only
  (repeat' split) <;> simp_all (maxDischargeDepth := 16)

@[simp] theorem writeResponse_idle (mac : List Byte) (s : State) (hc : s.bus.busy = false) : (writeResponse mac
    s).2.bus.busy = false := by
  unfold writeResponse
  simp (maxDischargeDepth := 16) [hc]

@[simp] theorem setBinding_idle (b : Byte) (key : U32) (s : State) (hc : s.bus.busy = false) : (setBinding b key
    s).bus.busy = false := by
  unfold setBinding
  simp (maxDischargeDepth := 16) [hc]

@[simp] theorem bindingAtSetup_idle (s : State) (hc : s.bus.busy = false) : (bindingAtSetup s).bus.busy = false :=
    by
  unfold bindingAtSetup
  try dsimp only
  (repeat' split) <;> simp_all (maxDischargeDepth := 16)

@[simp] theorem presentToken_idle (token : List Byte) (s : State) (hc : s.bus.busy = false) : (presentToken token
    s).2.bus.busy = false := by
  unfold presentToken
  try dsimp only
  (repeat' split) <;> simp_all (maxDischargeDepth := 16)

@[simp] theorem rebind_idle (s : State) (hc : s.bus.busy = false) : (rebind s).bus.busy = false := by
  unfold rebind
  simp (maxDischargeDepth := 16) [hc]

@[simp] theorem loadKeys_idle (errs : WordErrors) (s : State) (hc : s.bus.busy = false) : (loadKeys errs s).bus.busy
    = false := by
  unfold loadKeys
  try dsimp only
  (repeat' split) <;> simp_all (maxDischargeDepth := 16)

@[simp] theorem countImage_idle (errs : WordErrors) (b : Bool) (s : State) (hc : s.bus.busy = false) : (countImage
    errs b s).bus.busy = false := by
  unfold countImage
  simp (maxDischargeDepth := 16) [hc]

@[simp] theorem setUpdate_idle (v : Byte) (s : State) (hc : s.bus.busy = false) : (setUpdate v s).bus.busy = false
    := by
  unfold setUpdate
  simp (maxDischargeDepth := 16) [hc]

@[simp] theorem verifyUpdate_idle (errs : WordErrors) (s : State) (hc : s.bus.busy = false) : (verifyUpdate errs
    s).2.bus.busy = false := by
  unfold verifyUpdate
  simp (maxDischargeDepth := 16) [hc]

@[simp] theorem activate_idle (s : State) (hc : s.bus.busy = false) : (activate s).2.bus.busy = false := by
  unfold activate
  simp (maxDischargeDepth := 16) [hc]

@[simp] theorem advanceRollback_idle (s : State) (hc : s.bus.busy = false) : (advanceRollback s).bus.busy = false :=
    by
  unfold advanceRollback
  simp (maxDischargeDepth := 16) [hc]

@[simp] theorem sanitizeFrom_idle (code : U32) (s : State) (hc : s.bus.busy = false) : (sanitizeFrom code
    s).2.bus.busy = false := by
  unfold sanitizeFrom
  simp (maxDischargeDepth := 16) [hc]

@[simp] theorem sanitized_idle (s : State) (hc : s.bus.busy = false) : (sanitized s).bus.busy = false := by
  unfold sanitized
  simp (maxDischargeDepth := 16) [hc]

@[simp] theorem releaseBlocks_idle (s : State) (hc : s.bus.busy = false) : (releaseBlocks s).bus.busy = false := by
  unfold releaseBlocks
  simp (maxDischargeDepth := 16) [hc]

@[simp] theorem takeArray_idle (q : FlashRead) (s : State) (hc : s.bus.busy = false) : (takeArray q s).2.bus.busy =
    false := by
  unfold takeArray
  simp (maxDischargeDepth := 16) [hc]

@[simp] theorem readArray_idle (q : FlashRead) (s : State) (hc : s.bus.busy = false) : (readArray q s).2.bus.busy =
    false := by
  unfold readArray
  simp (maxDischargeDepth := 16) [hc]

@[simp] theorem serveWaiting_idle (s : State) (hc : s.bus.busy = false) : (serveWaiting s).bus.busy = false := by
  unfold serveWaiting
  try dsimp only
  (repeat' split) <;> simp_all (maxDischargeDepth := 16)

@[simp] theorem readTimeout_idle (s : State) (hc : s.bus.busy = false) : (readTimeout s).bus.busy = false := by
  unfold readTimeout
  try dsimp only
  (repeat' split) <;> simp_all (maxDischargeDepth := 16)

@[simp] theorem jobEnds_idle (j : FlashJob) (errs : WordErrors) (s : State) (hc : s.bus.busy = false) : (jobEnds j
    errs s).bus.busy = false := by
  unfold jobEnds
  try dsimp only
  (repeat' split) <;> simp_all (maxDischargeDepth := 16)

@[simp] theorem afterOp_idle (id : Nat) (errs : WordErrors) (s : State) (hc : s.bus.busy = false) : (afterOp id errs
    s).bus.busy = false := by
  unfold afterOp
  try dsimp only
  (repeat' split) <;> simp_all (maxDischargeDepth := 16)

@[simp] theorem pageEnds_idle (b : Fin 2) (errs : WordErrors) (s : State) (hc : s.bus.busy = false) : (pageEnds b
    errs s).bus.busy = false := by
  unfold pageEnds
  try dsimp only
  (repeat' split) <;> simp_all (maxDischargeDepth := 16)

@[simp] theorem eraseDone_idle (s : State) (hc : s.bus.busy = false) : (eraseDone s).bus.busy = false := by
  unfold eraseDone
  try dsimp only
  (repeat' split) <;> simp_all (maxDischargeDepth := 16)

@[simp] theorem eraseGoesOn_idle (s : State) (hc : s.bus.busy = false) : (eraseGoesOn s).bus.busy = false := by
  unfold eraseGoesOn
  try dsimp only
  (repeat' split) <;> simp_all (maxDischargeDepth := 16)

@[simp] theorem holdoffOver_idle (s : State) (hc : s.bus.busy = false) : (holdoffOver s).bus.busy = false := by
  unfold holdoffOver
  try dsimp only
  (repeat' split) <;> simp_all (maxDischargeDepth := 16)

@[simp] theorem queueTimeout_idle (id : Option Nat) (s : State) (hc : s.bus.busy = false) : (queueTimeout id
    s).bus.busy = false := by
  unfold queueTimeout
  try dsimp only
  (repeat' split) <;> simp_all (maxDischargeDepth := 16)

@[simp] theorem commitAsked_idle (s : State) (hc : s.bus.busy = false) : (commitAsked s).2.bus.busy = false := by
  unfold commitAsked
  simp (maxDischargeDepth := 16) [hc]

@[simp] theorem commitTimed_idle (s : State) (hc : s.bus.busy = false) : (commitTimed s).bus.busy = false := by
  unfold commitTimed
  simp (maxDischargeDepth := 16) [hc]

@[simp] theorem commitDone_idle (s : State) (hc : s.bus.busy = false) : (commitDone s).bus.busy = false := by
  unfold commitDone
  try dsimp only
  (repeat' split) <;> simp_all (maxDischargeDepth := 16)

@[simp] theorem repairStarts_idle (s : State) (hc : s.bus.busy = false) : (repairStarts s).bus.busy = false := by
  unfold repairStarts
  try dsimp only
  (repeat' split) <;> simp_all (maxDischargeDepth := 16)

@[simp] theorem logDone_idle (s : State) (hc : s.bus.busy = false) : (logDone s).bus.busy = false := by
  unfold logDone
  try dsimp only
  (repeat' split) <;> simp_all (maxDischargeDepth := 16)

@[simp] theorem readRaw_idle (off : Nat) (len : Nat) (errs : WordErrors) (s : State) (hc : s.bus.busy = false) :
    (readRaw off len errs s).2.bus.busy = false := by
  unfold readRaw
  simp (maxDischargeDepth := 16) [hc]

@[simp] theorem haltPort_idle (p : PortId) (code : Byte) (s : State) (hc : s.bus.busy = false) : (haltPort p code
    s).bus.busy = false := by
  unfold haltPort
  simp (maxDischargeDepth := 16) [hc]

@[simp] theorem doorbell_idle (p : PortId) (q : Fin 3) (v : U16) (s : State) (hc : s.bus.busy = false) : (doorbell p
    q v s).bus.busy = false := by
  unfold doorbell
  simp (maxDischargeDepth := 16) [hc]

@[simp] theorem acceptRequest_idle (p : PortId) (sq : Bool) (bs : List Byte) (s : State) (hc : s.bus.busy = false) :
    (acceptRequest p sq bs s).bus.busy = false := by
  unfold acceptRequest
  try dsimp only
  (repeat' split) <;> simp_all (maxDischargeDepth := 16)

@[simp] theorem descriptorArrives_idle (p : PortId) (bs : List Byte) (s : State) (hc : s.bus.busy = false) :
    (descriptorArrives p bs s).bus.busy = false := by
  unfold descriptorArrives
  try dsimp only
  (repeat' split) <;> simp_all (maxDischargeDepth := 16)

@[simp] theorem descriptorLost_idle (p : PortId) (s : State) (hc : s.bus.busy = false) : (descriptorLost p
    s).bus.busy = false := by
  unfold descriptorLost
  try dsimp only
  (repeat' split) <;> simp_all (maxDischargeDepth := 16)

theorem readInto_idle (p : PortId) (r : Req) (k : Nat) (e : List Byte) (use : List Byte → State → State) (s : State)
    (hu : ∀ bs u, u.bus.busy = false → (use bs u).bus.busy = false) (hc : s.bus.busy = false) : (readInto p r k e
    use s).bus.busy = false := by
  unfold readInto
  dsimp only
  split
  · simp (maxDischargeDepth := 16) [hc]
  · have k1 := readTile_idle k e (queueRead k 3 (dueOf r) s) (by simp (maxDischargeDepth := 16) [hc])
    rcases h1 : readTile k e (queueRead k 3 (dueOf r) s) with ⟨f, u⟩
    rw [h1] at k1
    dsimp only at k1
    cases f with
    | waits => exact k1
    | gone => simp (maxDischargeDepth := 16) [k1]
    | data bs =>
      have k2 := slotFor_idle k (accountOf r.stream) u k1
      dsimp only
      rcases h2 : slotFor k (accountOf r.stream) u with ⟨o, v⟩
      rw [h2] at k2
      dsimp only at k2
      cases o with
      | none => exact k1
      | some b => exact hu _ _ (by simp (maxDischargeDepth := 16) [k2])

@[simp] theorem readProof_idle (p : PortId) (r : Req) (e : List Byte) (s : State) (hc : s.bus.busy = false) :
    (readProof p r e s).bus.busy = false := by
  unfold readProof
  dsimp only
  split
  · simp (maxDischargeDepth := 16) [hc]
  · exact readInto_idle _ _ _ _ _ _ (fun bs u hx => by simp (maxDischargeDepth := 16) [hx]) hc

@[simp] theorem readFull_idle (p : PortId) (r : Req) (e : List Byte) (s : State) (hc : s.bus.busy = false) :
    (readFull p r e s).bus.busy = false := by
  unfold readFull
  dsimp only
  split
  · split <;> simp (maxDischargeDepth := 16) [hc]
  · exact readInto_idle _ _ _ _ _ _ (fun bs u hx => by simp (maxDischargeDepth := 16) [hx]) hc

@[simp] theorem serveRead_idle (p : PortId) (tag : U16) (s : State) (hc : s.bus.busy = false) : (serveRead p tag
    s).bus.busy = false := by
  unfold serveRead
  try dsimp only
  (repeat' split) <;> simp_all (maxDischargeDepth := 16)

@[simp] theorem writeStore_idle (p : PortId) (r : Req) (e : List Byte) (data : List Byte) (enc : List Byte) (mask :
    U16) (s : State) (hc : s.bus.busy = false) : (writeStore p r e data enc mask s).bus.busy = false := by
  unfold writeStore
  dsimp only
  split
  · simp (maxDischargeDepth := 16) [hc]
  · have k1 := slotFor_idle (tileKey r.stream r.tile) (accountOf r.stream) s hc
    rcases h1 : slotFor (tileKey r.stream r.tile) (accountOf r.stream) s with ⟨o, v⟩
    rw [h1] at k1
    dsimp only at k1
    cases o with
    | none => exact hc
    | some b =>
      dsimp only
      split
      · have hk := storeTile_idle _ _ _ _ _ _ _ _ (by assumption) (by simp (maxDischargeDepth := 16) [k1])
        simp (maxDischargeDepth := 16) [hk]
      · exact hc

@[simp] theorem writeEncoded_idle (p : PortId) (r : Req) (e : List Byte) (bs : List Byte) (s : State) (hc :
    s.bus.busy = false) : (writeEncoded p r e bs s).bus.busy = false := by
  unfold writeEncoded
  simp (maxDischargeDepth := 16) [hc]

@[simp] theorem writePlain_idle (p : PortId) (r : Req) (e : List Byte) (bs : List Byte) (s : State) (hc : s.bus.busy
    = false) : (writePlain p r e bs s).bus.busy = false := by
  unfold writePlain
  dsimp only
  split
  · simp (maxDischargeDepth := 16) [hc]
  split
  · simp (maxDischargeDepth := 16) [hc]
  split
  · simp (maxDischargeDepth := 16) [hc]
  split
  · simp (maxDischargeDepth := 16) [hc]
  split
  · simp (maxDischargeDepth := 16) [hc]
  · have k1 := beforeWrite_idle (tileKey r.stream r.tile) e (queueRead (tileKey r.stream r.tile) 5 0 s) (by simp (maxDischargeDepth := 16) [hc])
    rcases h1 : beforeWrite (tileKey r.stream r.tile) e (queueRead (tileKey r.stream r.tile) 5 0 s) with ⟨f, u⟩
    rw [h1] at k1
    dsimp only at k1
    cases f <;> simp (maxDischargeDepth := 16) [k1]

@[simp] theorem serveWrite_idle (p : PortId) (tag : U16) (data : BufferRead) (s : State) (hc : s.bus.busy = false) :
    (serveWrite p tag data s).bus.busy = false := by
  unfold serveWrite
  try dsimp only
  (repeat' split) <;> simp_all (maxDischargeDepth := 16)

@[simp] theorem complete_idle (p : PortId) (tag : U16) (s : State) (hc : s.bus.busy = false) : (complete p tag
    s).bus.busy = false := by
  unfold complete
  try dsimp only
  (repeat' split) <;> simp_all (maxDischargeDepth := 16)

@[simp] theorem invalidateFrom_idle (path : Sys2Proof.Path) (stream : U16) (s : State) (hc : s.bus.busy = false) :
    (invalidateFrom path stream s).bus.busy = false := by
  unfold invalidateFrom
  try dsimp only
  (repeat' split) <;> simp_all (maxDischargeDepth := 16)

@[simp] theorem bar2Store_idle (p : PortId) (off : Nat) (data : List Byte) (s : State) (hc : s.bus.busy = false) :
    (bar2Store p off data s).bus.busy = false := by
  unfold bar2Store
  simp (maxDischargeDepth := 16) [hc]

@[simp] theorem bar2Fetch_idle (p : PortId) (off : Nat) (len : Nat) (s : State) (hc : s.bus.busy = false) :
    (bar2Fetch p off len s).bus.busy = false := by
  unfold bar2Fetch
  simp (maxDischargeDepth := 16) [hc]

@[simp] theorem linkComesUp_idle (p : PortId) (speed : Byte) (width : Byte) (s : State) (hc : s.bus.busy = false) :
    (linkComesUp p speed width s).bus.busy = false := by
  unfold linkComesUp
  simp (maxDischargeDepth := 16) [hc]

@[simp] theorem resetPort_idle (p : PortId) (kind : ResetKind) (s : State) (hc : s.bus.busy = false) : (resetPort p
    kind s).bus.busy = false := by
  unfold resetPort
  simp (maxDischargeDepth := 16) [hc]

@[simp] theorem portsDown_idle (s : State) (hc : s.bus.busy = false) : (portsDown s).bus.busy = false := by
  unfold portsDown
  try dsimp only
  (repeat' split) <;> simp_all (maxDischargeDepth := 16)

@[simp] theorem setMsix_idle (p : PortId) (m : MsixState) (s : State) (hc : s.bus.busy = false) : (setMsix p m
    s).bus.busy = false := by
  unfold setMsix
  simp (maxDischargeDepth := 16) [hc]

@[simp] theorem pcieError_idle (p : PortId) (uncorrectable : Bool) (recoverable : Bool) (s : State) (hc : s.bus.busy
    = false) : (pcieError p uncorrectable recoverable s).bus.busy = false := by
  unfold pcieError
  simp (maxDischargeDepth := 16) [hc]

@[simp] theorem endCycle_idle (s : State) (m : PortId × U16) (hc : s.bus.busy = false) : (endCycle s m).bus.busy =
    false := by
  unfold endCycle
  try dsimp only
  (repeat' split) <;> simp_all (maxDischargeDepth := 16)

@[simp] theorem sweep_idle (s : State) (hc : s.bus.busy = false) : (sweep s).bus.busy = false := by
  unfold sweep
  try dsimp only
  (repeat' split) <;> simp_all (maxDischargeDepth := 16)

@[simp] theorem mainUp_idle (boot : Bool) (s : State) (hc : s.bus.busy = false) : (mainUp boot s).bus.busy = false
    := by
  unfold mainUp
  simp (maxDischargeDepth := 16) [hc]

@[simp] theorem mainDown_idle (s : State) (hc : s.bus.busy = false) : (mainDown s).bus.busy = false := by
  unfold mainDown
  simp (maxDischargeDepth := 16) [hc]

@[simp] theorem volatileReset_idle (s : State) (hc : s.bus.busy = false) : (volatileReset s).bus.busy = false := by
  unfold volatileReset
  simp (maxDischargeDepth := 16) [hc]

@[simp] theorem bootEntry_idle (cause : Byte) (s : State) (hc : s.bus.busy = false) : (bootEntry cause s).bus.busy =
    false := by
  unfold bootEntry
  simp (maxDischargeDepth := 16) [hc]

@[simp] theorem bootFrom_idle (cause : Byte) (s : State) (hc : s.bus.busy = false) : (bootFrom cause s).bus.busy =
    false := by
  unfold bootFrom
  simp (maxDischargeDepth := 16) [hc]

@[simp] theorem enterRun_idle (cause : Byte) (s : State) (hc : s.bus.busy = false) : (enterRun cause s).bus.busy =
    false := by
  unfold enterRun
  simp (maxDischargeDepth := 16) [hc]

@[simp] theorem beginExpose_idle (cause : Byte) (target : Byte) (powerFail : Bool) (s : State) (hc : s.bus.busy =
    false) : (beginExpose cause target powerFail s).bus.busy = false := by
  unfold beginExpose
  simp (maxDischargeDepth := 16) [hc]

@[simp] theorem enterDevelop_idle (cause : Byte) (fromPartial : Bool) (s : State) (hc : s.bus.busy = false) :
    (enterDevelop cause fromPartial s).bus.busy = false := by
  unfold enterDevelop
  simp (maxDischargeDepth := 16) [hc]

@[simp] theorem wake_idle (cause : Byte) (s : State) (hc : s.bus.busy = false) : (wake cause s).bus.busy = false :=
    by
  unfold wake
  simp (maxDischargeDepth := 16) [hc]

@[simp] theorem finishHold_idle (s : State) (hc : s.bus.busy = false) : (finishHold s).bus.busy = false := by
  unfold finishHold
  simp (maxDischargeDepth := 16) [hc]

@[simp] theorem finishDark_idle (cause : Byte) (s : State) (hc : s.bus.busy = false) : (finishDark cause s).bus.busy
    = false := by
  unfold finishDark
  simp (maxDischargeDepth := 16) [hc]

@[simp] theorem leaveDisable_idle (l : Leave) (s : State) (hc : s.bus.busy = false) : (leaveDisable l s).bus.busy =
    false := by
  unfold leaveDisable
  try dsimp only
  (repeat' split) <;> simp_all (maxDischargeDepth := 16)

@[simp] theorem leaveProgram_idle (l : Leave) (s : State) (hc : s.bus.busy = false) : (leaveProgram l s).bus.busy =
    false := by
  unfold leaveProgram
  simp (maxDischargeDepth := 16) [hc]

@[simp] theorem beginLeave_idle (l : Leave) (s : State) (hc : s.bus.busy = false) : (beginLeave l s).bus.busy =
    false := by
  unfold beginLeave
  simp (maxDischargeDepth := 16) [hc]

@[simp] theorem tierSaveEnds_idle (s : State) (hc : s.bus.busy = false) : (tierSaveEnds s).bus.busy = false := by
  unfold tierSaveEnds
  try dsimp only
  (repeat' split) <;> simp_all (maxDischargeDepth := 16)

@[simp] theorem criticalDisabled_idle (s : State) (hc : s.bus.busy = false) : (criticalDisabled s).bus.busy = false
    := by
  unfold criticalDisabled
  try dsimp only
  (repeat' split) <;> simp_all (maxDischargeDepth := 16)

@[simp] theorem bootTestFault_idle (s : State) (hc : s.bus.busy = false) : (bootTestFault s).bus.busy = false := by
  unfold bootTestFault
  simp (maxDischargeDepth := 16) [hc]

@[simp] theorem afterProgram_idle (before : State) (s : State) (hc : s.bus.busy = false) : (afterProgram before
    s).bus.busy = false := by
  unfold afterProgram
  try dsimp only
  (repeat' split) <;> simp_all (maxDischargeDepth := 16)

@[simp] theorem triggerCommon_idle (s : State) (hc : s.bus.busy = false) : (triggerCommon s).bus.busy = false := by
  unfold triggerCommon
  simp (maxDischargeDepth := 16) [hc]

@[simp] theorem powerFailProgram_idle (s : State) (hc : s.bus.busy = false) : (powerFailProgram s).bus.busy = false
    := by
  unfold powerFailProgram
  try dsimp only
  (repeat' split) <;> simp_all (maxDischargeDepth := 16)

@[simp] theorem exposeKept_idle (cause : Byte) (s : State) (hc : s.bus.busy = false) : (exposeKept cause s).bus.busy
    = false := by
  unfold exposeKept
  simp (maxDischargeDepth := 16) [hc]

@[simp] theorem stopReturn_idle (cause : Byte) (s : State) (hc : s.bus.busy = false) : (stopReturn cause s).bus.busy
    = false := by
  unfold stopReturn
  simp (maxDischargeDepth := 16) [hc]

@[simp] theorem resumeLeave_idle (s : State) (hc : s.bus.busy = false) : (resumeLeave s).bus.busy = false := by
  unfold resumeLeave
  try dsimp only
  (repeat' split) <;> simp_all (maxDischargeDepth := 16)

@[simp] theorem powerFailExpose_idle (cause : Byte) (s : State) (hc : s.bus.busy = false) : (powerFailExpose cause
    s).bus.busy = false := by
  unfold powerFailExpose
  try dsimp only
  (repeat' split) <;> simp_all (maxDischargeDepth := 16)

@[simp] theorem powerFailDark_idle (cause : Byte) (s : State) (hc : s.bus.busy = false) : (powerFailDark cause
    s).bus.busy = false := by
  unfold powerFailDark
  try dsimp only
  (repeat' split) <;> simp_all (maxDischargeDepth := 16)

@[simp] theorem keptExposure_idle (cause : Byte) (s : State) (hc : s.bus.busy = false) : (keptExposure cause
    s).bus.busy = false := by
  unfold keptExposure
  try dsimp only
  (repeat' split) <;> simp_all (maxDischargeDepth := 16)

@[simp] theorem powerFailPartial_idle (cause : Byte) (s : State) (hc : s.bus.busy = false) : (powerFailPartial cause
    s).bus.busy = false := by
  unfold powerFailPartial
  simp (maxDischargeDepth := 16) [hc]

@[simp] theorem powerFail_idle (cause : Byte) (s : State) (hc : s.bus.busy = false) : (powerFail cause s).bus.busy =
    false := by
  unfold powerFail
  try dsimp only
  (repeat' split) <;> simp_all (maxDischargeDepth := 16)

@[simp] theorem quietEnds_idle (s : State) (hc : s.bus.busy = false) : (quietEnds s).bus.busy = false := by
  unfold quietEnds
  simp (maxDischargeDepth := 16) [hc]

@[simp] theorem fenceFalls_idle (s : State) (hc : s.bus.busy = false) : (fenceFalls s).bus.busy = false := by
  unfold fenceFalls
  try dsimp only
  (repeat' split) <;> simp_all (maxDischargeDepth := 16)

@[simp] theorem trainingEnds_idle (pass : Bool) (s : State) (hc : s.bus.busy = false) : (trainingEnds pass
    s).bus.busy = false := by
  unfold trainingEnds
  try dsimp only
  (repeat' split) <;> simp_all (maxDischargeDepth := 16)

@[simp] theorem commitWritten_idle (s : State) (hc : s.bus.busy = false) : (commitWritten s).bus.busy = false := by
  unfold commitWritten
  try dsimp only
  (repeat' split) <;> first | (simp_all (maxDischargeDepth := 16); done) | (have hk := commitGeneration_idle _ _ _ (by assumption) (by first | assumption | simp_all); simp_all)

@[simp] theorem returnEnds_idle (side : Fin 2) (us : U32) (s : State) (hc : s.bus.busy = false) : (returnEnds side
    us s).bus.busy = false := by
  unfold returnEnds
  try dsimp only
  (repeat' split) <;> simp_all (maxDischargeDepth := 16)

@[simp] theorem mapsLoaded_idle (s : State) (hc : s.bus.busy = false) : (mapsLoaded s).bus.busy = false := by
  unfold mapsLoaded
  try dsimp only
  (repeat' split) <;> simp_all (maxDischargeDepth := 16)

@[simp] theorem markWritten_idle (s : State) (hc : s.bus.busy = false) : (markWritten s).bus.busy = false := by
  unfold markWritten
  try dsimp only
  (repeat' split) <;> simp_all (maxDischargeDepth := 16)

@[simp] theorem mainReset_idle (source : Byte) (s : State) (hc : s.bus.busy = false) : (mainReset source s).bus.busy
    = false := by
  unfold mainReset
  try dsimp only
  (repeat' split) <;> simp_all (maxDischargeDepth := 16)

@[simp] theorem watchdog_idle (s : State) (hc : s.bus.busy = false) : (watchdog s).bus.busy = false := by
  unfold watchdog
  simp (maxDischargeDepth := 16) [hc]

@[simp] theorem exposeRequest_idle (target : Byte) (s : State) (hc : s.bus.busy = false) : (exposeRequest target
    s).2.bus.busy = false := by
  unfold exposeRequest
  simp (maxDischargeDepth := 16) [hc]

@[simp] theorem wakeRequest_idle (s : State) (hc : s.bus.busy = false) : (wakeRequest s).2.bus.busy = false := by
  unfold wakeRequest
  simp (maxDischargeDepth := 16) [hc]

@[simp] theorem runRequest_idle (s : State) (hc : s.bus.busy = false) : (runRequest s).2.bus.busy = false := by
  unfold runRequest
  simp (maxDischargeDepth := 16) [hc]

@[simp] theorem developRequest_idle (s : State) (hc : s.bus.busy = false) : (developRequest s).2.bus.busy = false :=
    by
  unfold developRequest
  simp (maxDischargeDepth := 16) [hc]

@[simp] theorem stateRequest_idle (code : Nat) (s : State) (hc : s.bus.busy = false) : (stateRequest code
    s).2.bus.busy = false := by
  unfold stateRequest
  simp (maxDischargeDepth := 16) [hc]

@[simp] theorem aonLost_idle (cause : Byte) (s : State) (hc : s.bus.busy = false) : (aonLost cause s).bus.busy =
    false := by
  unfold aonLost
  simp (maxDischargeDepth := 16) [hc]

@[simp] theorem depleted_idle (s : State) (hc : s.bus.busy = false) : (depleted s).bus.busy = false := by
  unfold depleted
  simp (maxDischargeDepth := 16) [hc]

@[simp] theorem loadLog_idle (errs : WordErrors) (s : State) (hc : s.bus.busy = false) : (loadLog errs s).bus.busy =
    false := by
  unfold loadLog
  try dsimp only
  (repeat' split) <;> simp_all (maxDischargeDepth := 16)

@[simp] theorem aonUp_idle (straps : BitVec 2) (errs : WordErrors) (s : State) (hc : s.bus.busy = false) : (aonUp
    straps errs s).bus.busy = false := by
  unfold aonUp
  simp (maxDischargeDepth := 16) [Bus.init]

@[simp] theorem oscillatorStarts_idle (s : State) (hc : s.bus.busy = false) : (oscillatorStarts s).bus.busy = false
    := by
  unfold oscillatorStarts
  simp (maxDischargeDepth := 16) [hc]

@[simp] theorem geometryChanged_idle (s : State) (hc : s.bus.busy = false) : (geometryChanged s).bus.busy = false :=
    by
  unfold geometryChanged
  simp (maxDischargeDepth := 16) [hc]

@[simp] theorem retest_idle (t : TargetId) (s : State) (hc : s.bus.busy = false) : (retest t s).bus.busy = false :=
    by
  unfold retest
  simp (maxDischargeDepth := 16) [hc]

@[simp] theorem storePersistent_idle (i : Nat) (b : Nat) (v : Nat) (s : State) (hc : s.bus.busy = false) :
    (storePersistent i b v s).bus.busy = false := by
  unfold storePersistent
  simp (maxDischargeDepth := 16) [hc]

@[simp] theorem storeSources_idle (es : List Nat) (s : State) (hc : s.bus.busy = false) : (storeSources es
    s).bus.busy = false := by
  unfold storeSources
  simp (maxDischargeDepth := 16) [hc]

@[simp] theorem clearCounts_idle (s : State) (hc : s.bus.busy = false) : (clearCounts s).bus.busy = false := by
  unfold clearCounts
  simp (maxDischargeDepth := 16) [hc]

@[simp] theorem acceptStale_idle (v : U32) (s : State) (hc : s.bus.busy = false) : (acceptStale v s).2.bus.busy =
    false := by
  unfold acceptStale
  simp (maxDischargeDepth := 16) [hc]

@[simp] theorem sessionClosed_idle (s : State) (hc : s.bus.busy = false) : (sessionClosed s).bus.busy = false := by
  unfold sessionClosed
  simp (maxDischargeDepth := 16) [hc]

@[simp] theorem odRead_idle (path : Sys2Proof.Path) (i : Nat) (b : Nat) (s : State) (hc : s.bus.busy = false) :
    (odRead path i b s).2.2.bus.busy = false := by
  unfold odRead
  try dsimp only
  (repeat' split) <;> simp_all (maxDischargeDepth := 16)

@[simp] theorem odSegRead_idle (path : Sys2Proof.Path) (i : Nat) (b : Nat) (off : Nat) (len : Nat) (errs :
    WordErrors) (s : State) (hc : s.bus.busy = false) : (odSegRead path i b off len errs s).2.bus.busy = false := by
  unfold odSegRead
  simp (maxDischargeDepth := 16) [hc]

@[simp] theorem odSegAbort_idle (path : Sys2Proof.Path) (i : Nat) (b : Nat) (s : State) (hc : s.bus.busy = false) :
    (odSegAbort path i b s).bus.busy = false := by
  unfold odSegAbort
  try dsimp only
  (repeat' split) <;> simp_all (maxDischargeDepth := 16)

@[simp] theorem nack_idle (s : State) (hc : s.bus.busy = false) : (nack s).bus.busy = false := by
  unfold nack
  simp (maxDischargeDepth := 16) [hc]

@[simp] theorem touch_idle (s : State) (hc : s.bus.busy = false) : (touch s).bus.busy = false := by
  unfold touch
  simp (maxDischargeDepth := 16) [hc]

@[simp] theorem met_idle (x : Xfer) (s : State) (hc : s.bus.busy = false) : (met x s).bus.busy = false := by
  unfold met
  simp (maxDischargeDepth := 16) [hc]

@[simp] theorem reply_idle (a : Abort) (data : List Byte) (s : State) (hc : s.bus.busy = false) : (reply a data
    s).bus.busy = false := by
  unfold reply
  simp (maxDischargeDepth := 16) [hc]

@[simp] theorem replySeg_idle (total : Nat) (data : List Byte) (s : State) (hc : s.bus.busy = false) : (replySeg
    total data s).bus.busy = false := by
  unfold replySeg
  simp (maxDischargeDepth := 16) [hc]

@[simp] theorem serveObject_idle (i : Nat) (b : Nat) (s : State) (hc : s.bus.busy = false) : (serveObject i b
    s).bus.busy = false := by
  unfold serveObject
  simp (maxDischargeDepth := 16) [hc]

@[simp] theorem discardPec_idle (s : State) (hc : s.bus.busy = false) : (discardPec s).bus.busy = false := by
  unfold discardPec
  simp (maxDischargeDepth := 16) [hc]

@[simp] theorem discardFrame_idle (s : State) (hc : s.bus.busy = false) : (discardFrame s).bus.busy = false := by
  unfold discardFrame
  simp (maxDischargeDepth := 16) [hc]

@[simp] theorem readResponse_idle (x : Xfer) (len : Nat) (s : State) (hc : s.bus.busy = false) : (readResponse x len
    s).bus.busy = false := by
  unfold readResponse
  simp (maxDischargeDepth := 16) [hc]

@[simp] theorem hostRead_idle (i : Nat) (b : Nat) (s : State) (hc : s.bus.busy = false) : (hostRead i b s).bus.busy
    = false := by
  unfold hostRead
  simp (maxDischargeDepth := 16) [hostRequest, hc]

@[simp] theorem setAddress_idle (a : Option (BitVec 7)) (s : State) (hc : s.bus.busy = false) : (setAddress a
    s).bus.busy = false := by
  unfold setAddress
  simp (maxDischargeDepth := 16) [hc]

@[simp] theorem assignByEntdaa_idle (addr : BitVec 7) (s : State) (hc : s.bus.busy = false) : (assignByEntdaa addr
    s).bus.busy = false := by
  unfold assignByEntdaa
  simp (maxDischargeDepth := 16) [hc]

@[simp] theorem assignByStatic_idle (static : BitVec 7) (addr : BitVec 7) (s : State) (hc : s.bus.busy = false) :
    (assignByStatic static addr s).bus.busy = false := by
  unfold assignByStatic
  simp (maxDischargeDepth := 16) [hc]

@[simp] theorem assignNew_idle (addr : BitVec 7) (s : State) (hc : s.bus.busy = false) : (assignNew addr s).bus.busy
    = false := by
  unfold assignNew
  simp (maxDischargeDepth := 16) [hc]

@[simp] theorem resetAddress_idle (s : State) (hc : s.bus.busy = false) : (resetAddress s).bus.busy = false := by
  unfold resetAddress
  simp (maxDischargeDepth := 16) [hc]

@[simp] theorem enableIbi_idle (s : State) (hc : s.bus.busy = false) : (enableIbi s).bus.busy = false := by
  unfold enableIbi
  simp (maxDischargeDepth := 16) [hc]

@[simp] theorem disableIbi_idle (s : State) (hc : s.bus.busy = false) : (disableIbi s).bus.busy = false := by
  unfold disableIbi
  simp (maxDischargeDepth := 16) [hc]

@[simp] theorem retryIbi_idle (s : State) (hc : s.bus.busy = false) : (retryIbi s).bus.busy = false := by
  unfold retryIbi
  simp (maxDischargeDepth := 16) [hc]

@[simp] theorem answerCcc_idle (bs : List Byte) (s : State) (hc : s.bus.busy = false) : (answerCcc bs s).bus.busy =
    false := by
  unfold answerCcc
  simp (maxDischargeDepth := 16) [hc]

@[simp] theorem tunnelFetch_idle (p : PortId) (t : Tunnel) (s : State) (hc : s.bus.busy = false) : (tunnelFetch p t
    s).2.2.bus.busy = false := by
  unfold tunnelFetch
  try dsimp only
  (repeat' split) <;> simp_all (maxDischargeDepth := 16)

@[simp] theorem tunnelRefused_idle (p : PortId) (s : State) (hc : s.bus.busy = false) : (tunnelRefused p s).bus.busy
    = false := by
  unfold tunnelRefused
  simp (maxDischargeDepth := 16) [hc]

@[simp] theorem tunnelEnds_idle (p : PortId) (s : State) (hc : s.bus.busy = false) : (tunnelEnds p s).bus.busy =
    false := by
  unfold tunnelEnds
  simp (maxDischargeDepth := 16) [hc]

@[simp] theorem writeMsix_idle (p : PortId) (off : Nat) (data : List Byte) (s : State) (hc : s.bus.busy = false) :
    (writeMsix p off data s).bus.busy = false := by
  unfold writeMsix
  simp (maxDischargeDepth := 16) [hc]

@[simp] theorem writeCoal_idle (p : PortId) (v : U32) (s : State) (hc : s.bus.busy = false) : (writeCoal p v
    s).bus.busy = false := by
  unfold writeCoal
  simp (maxDischargeDepth := 16) [hc]

@[simp] theorem engineClaim_idle (p : PortId) (fast : Bool) (s : State) (hc : s.bus.busy = false) : (engineClaim p
    fast s).bus.busy = false := by
  unfold engineClaim
  simp (maxDischargeDepth := 16) [hc]

@[simp] theorem claimAt_idle (t : TargetId) (fast : Bool) (s : State) (hc : s.bus.busy = false) : (claimAt t fast
    s).bus.busy = false := by
  unfold claimAt
  try dsimp only
  (repeat' split) <;> simp_all (maxDischargeDepth := 16)

@[simp] theorem loadOption_idle (errs : WordErrors) (s : State) (hc : s.bus.busy = false) : (loadOption errs
    s).bus.busy = false := by
  unfold loadOption
  try dsimp only
  (repeat' split) <;> simp_all (maxDischargeDepth := 16)

@[simp] theorem runImage_idle (errs : WordErrors) (b : Bool) (s : State) (hc : s.bus.busy = false) : (runImage errs
    b s).bus.busy = false := by
  unfold runImage
  simp (maxDischargeDepth := 16) [hc]

@[simp] theorem bootSteps_idle (errs : WordErrors) (s : State) (hc : s.bus.busy = false) : (bootSteps errs
    s).bus.busy = false := by
  unfold bootSteps
  try dsimp only
  (repeat' split) <;> simp_all (maxDischargeDepth := 16)

@[simp] theorem pllLocks_idle (errs : WordErrors) (s : State) (hc : s.bus.busy = false) : (pllLocks errs s).bus.busy
    = false := by
  unfold pllLocks
  try dsimp only
  (repeat' split) <;> simp_all (maxDischargeDepth := 16)

@[simp] theorem selfTestEnds_idle (result : U16) (s : State) (hc : s.bus.busy = false) : (selfTestEnds result
    s).bus.busy = false := by
  unfold selfTestEnds
  simp (maxDischargeDepth := 16) [hc]

@[simp] theorem securityAtSetup_idle (s : State) (hc : s.bus.busy = false) : (securityAtSetup s).bus.busy = false :=
    by
  unfold securityAtSetup
  simp (maxDischargeDepth := 16) [hc]

@[simp] theorem hotJoin_idle (s : State) (hc : s.bus.busy = false) : (hotJoin s).bus.busy = false := by
  unfold hotJoin
  simp (maxDischargeDepth := 16) [hc]

@[simp] theorem negativeAtSetup_idle (s : State) (hc : s.bus.busy = false) : (negativeAtSetup s).bus.busy = false :=
    by
  unfold negativeAtSetup
  simp (maxDischargeDepth := 16) [hc]

@[simp] theorem bootCompletes_idle (errs : WordErrors) (s : State) (hc : s.bus.busy = false) : (bootCompletes errs
    s).bus.busy = false := by
  unfold bootCompletes
  simp (maxDischargeDepth := 16) [hc]

@[simp] theorem vinFails_idle (s : State) (hc : s.bus.busy = false) : (vinFails s).bus.busy = false := by
  unfold vinFails
  simp (maxDischargeDepth := 16) [hc]

@[simp] theorem vinSags_idle (s : State) (hc : s.bus.busy = false) : (vinSags s).bus.busy = false := by
  unfold vinSags
  simp (maxDischargeDepth := 16) [hc]

@[simp] theorem vinWarning_idle (s : State) (hc : s.bus.busy = false) : (vinWarning s).bus.busy = false := by
  unfold vinWarning
  simp (maxDischargeDepth := 16) [hc]

@[simp] theorem vsbFails_idle (s : State) (hc : s.bus.busy = false) : (vsbFails s).bus.busy = false := by
  unfold vsbFails
  simp (maxDischargeDepth := 16) [hc]

@[simp] theorem insertedAgain_idle (s : State) (hc : s.bus.busy = false) : (insertedAgain s).bus.busy = false := by
  unfold insertedAgain
  simp (maxDischargeDepth := 16) [hc]

@[simp] theorem vsbBack_idle (s : State) (hc : s.bus.busy = false) : (vsbBack s).bus.busy = false := by
  unfold vsbBack
  simp (maxDischargeDepth := 16) [hc]

@[simp] theorem debounced_idle (s : State) (hc : s.bus.busy = false) : (debounced s).bus.busy = false := by
  unfold debounced
  simp (maxDischargeDepth := 16) [hc]

@[simp] theorem mrReset_idle (s : State) (hc : s.bus.busy = false) : (mrReset s).bus.busy = false := by
  unfold mrReset
  simp (maxDischargeDepth := 16) [hc]

@[simp] theorem supplyLow_idle (s : State) (hc : s.bus.busy = false) : (supplyLow s).bus.busy = false := by
  unfold supplyLow
  simp (maxDischargeDepth := 16) [hc]

@[simp] theorem supplyRecovers_idle (s : State) (hc : s.bus.busy = false) : (supplyRecovers s).bus.busy = false :=
    by
  unfold supplyRecovers
  simp (maxDischargeDepth := 16) [hc]

@[simp] theorem crystalFails_idle (s : State) (hc : s.bus.busy = false) : (crystalFails s).bus.busy = false := by
  unfold crystalFails
  simp (maxDischargeDepth := 16) [hc]

@[simp] theorem crystalBack_idle (s : State) (hc : s.bus.busy = false) : (crystalBack s).bus.busy = false := by
  unfold crystalBack
  simp (maxDischargeDepth := 16) [hc]

@[simp] theorem conditionHolds_idle (c : InsCond) (s : State) (hc : s.bus.busy = false) : (conditionHolds c
    s).bus.busy = false := by
  unfold conditionHolds
  try dsimp only
  (repeat' split) <;> simp_all (maxDischargeDepth := 16)

@[simp] theorem conditionMissed_idle (mismatch : Bool) (s : State) (hc : s.bus.busy = false) : (conditionMissed
    mismatch s).bus.busy = false := by
  unfold conditionMissed
  try dsimp only
  (repeat' split) <;> simp_all (maxDischargeDepth := 16)

@[simp] theorem outputChanges_idle (n : SlotId) (c : Comp) (f : Cmp → Cmp) (s : State) (hc : s.bus.busy = false) :
    (outputChanges n c f s).bus.busy = false := by
  unfold outputChanges
  simp (maxDischargeDepth := 16) [hc]

@[simp] theorem converted_idle (c : Conversion) (loopTrim : U16) (s : State) (hc : s.bus.busy = false) : (converted
    c loopTrim s).bus.busy = false := by
  unfold converted
  try dsimp only
  (repeat' split) <;> simp_all (maxDischargeDepth := 16)

@[simp] theorem faultFound_idle (code : Byte) (s : State) (hc : s.bus.busy = false) : (faultFound code s).bus.busy =
    false := by
  unfold faultFound
  simp (maxDischargeDepth := 16) [hc]

@[simp] theorem estimated_idle (vcellUv : U32) (s : State) (hc : s.bus.busy = false) : (estimated vcellUv
    s).bus.busy = false := by
  unfold estimated
  simp (maxDischargeDepth := 16) [hc]

@[simp] theorem relockEnds_idle (k : Fin 8) (s : State) (hc : s.bus.busy = false) : (relockEnds k s).bus.busy =
    false := by
  unfold relockEnds
  simp (maxDischargeDepth := 16) [hc]

@[simp] theorem veilStarts_idle (side : SideId) (sub : SubId) (cause : Fin 6) (s : State) (hc : s.bus.busy = false)
    : (veilStarts side sub cause s).bus.busy = false := by
  unfold veilStarts
  simp (maxDischargeDepth := 16) [hc]

@[simp] theorem veilTooLong_idle (side : SideId) (sub : SubId) (s : State) (hc : s.bus.busy = false) : (veilTooLong
    side sub s).bus.busy = false := by
  unfold veilTooLong
  simp (maxDischargeDepth := 16) [hc]

@[simp] theorem copiesEnd_idle (s : State) (hc : s.bus.busy = false) : (copiesEnd s).bus.busy = false := by
  unfold copiesEnd
  simp (maxDischargeDepth := 16) [hc]

@[simp] theorem tick_idle (s : State) (hc : s.bus.busy = false) : (tick s).bus.busy = false := by
  unfold tick
  simp (maxDischargeDepth := 16) [hc]

end Sys2Proof.Machine
end

