-- ==== Sys2Proof/Laws/Reads.lean ====
section
/-! SUPPORT. What the functions over configuration, geometry and energy read: two states that agree on it give the same
answer. -/

namespace Sys2Proof.Machine

/-- Two states with the same shadow registers and the same identity. -/
def sameSettings (s t : State) : Prop := t.shadow = s.shadow ∧ t.ident = s.ident

theorem small_reads {s t : State} (h : sameSettings s t) : small t = small s := by simp [small, h.2]

theorem pv_reads {s t : State} (h : sameSettings s t) (i b : Nat) : pv t i b = pv s i b := by
  simp only [pv, h.1, small_reads h]

theorem sideThere_reads {s t : State} (h : sameSettings s t) (k : Nat) : sideThere t k = sideThere s k := by
  simp only [sideThere, pv_reads h]

theorem rankThere_reads {s t : State} (h : sameSettings s t) (r : Fin 16) : rankThere t r = rankThere s r := by
  simp only [rankThere, sideThere_reads h, pv_reads h]

theorem ranksThere_reads {s t : State} (h : sameSettings s t) : ranksThere t = ranksThere s := by
  simp only [ranksThere, rankThere_reads h]

theorem frameCount_reads {s t : State} (h : sameSettings s t) : frameCount t = frameCount s := by
  simp only [frameCount, sideThere_reads h, pv_reads h]

theorem allFrames_reads {s t : State} (h : sameSettings s t) : allFrames t = allFrames s := by
  simp only [allFrames, framesOf, ranksThere_reads h, pv_reads h]

theorem segmentFrames_reads {s t : State} (h : sameSettings s t) (m : Byte) : segmentFrames t m = segmentFrames s m := by
  simp only [segmentFrames, ranksThere_reads h, pv_reads h]

theorem segmentOf_reads {s t : State} (h : sameSettings s t) : segmentOf t = segmentOf s := by
  funext f
  simp only [segmentOf, pv_reads h]

theorem keptMask_reads {s t : State} (h : sameSettings s t) (hl : t.light = s.light) : keptMask t = keptMask s := by
  have hh : segmentHeat t = segmentHeat s := by
    funext k
    simp only [segmentHeat, segmentOf_reads h, hl]
  simp only [keptMask, hh, pv_reads h]

theorem allParked_reads {s t : State} (h : sameSettings s t) (hl : t.light = s.light) : allParked t = allParked s := by
  have hk : rankState t = rankState s := by
    funext r
    simp only [rankState, hl]
  have hr : inSelfRefresh t = inSelfRefresh s := by
    funext r
    rw [inSelfRefresh, hk, inSelfRefresh]
  simp only [allParked, ranksThere_reads h, hr]

theorem framesToExpose_reads {s t : State} (h : sameSettings s t) (hl : t.light = s.light) (b : Bool) :
    framesToExpose t b = framesToExpose s b := by
  simp only [framesToExpose, dirtyFrames, segmentFrames_reads h, keptMask_reads h hl, allFrames_reads h, hl]

theorem eReq_reads {s t : State} (h : sameSettings s t) (ht : t.tiers = s.tiers) (n : Nat) : eReq t n = eReq s n := by
  simp only [eReq, dirtyBytes, frameCount_reads h, pv_reads h, ht]

theorem eAvail_reads {s t : State} (hc : t.cell = s.cell) : eAvail t = eAvail s := by simp only [eAvail, hc]

theorem deadChans_reads {s t : State} (h : t.nand = s.nand) : deadChans t = deadChans s := by
  simp [deadChans, chanDead, h]

theorem sameSettings_touch (s : State) : sameSettings s (touch s) := by simp [sameSettings]

end Sys2Proof.Machine
end

