-- ==== Sys2Proof/Laws/Requests.lean ====
section
/-! SUPPORT. A row that stands for a WRITE of the host: what it does when the device takes it, in terms of the checks
of R461 and of the effect of the write. -/

namespace Sys2Proof.Machine

/-- A write outside 0x4020 that passes its checks, to an object that is not persistent, has its effect. -/
theorem hostWrite_takes (i b : Nat) (data : List Byte) (s : State) (r : Row) (hb : busFree s = true)
    (h4 : i ≠ 0x4020)
    (hc : writeChecks (touch s) .bus i b data = .done) (hi : idleTrigger i b data = false) (hr : rowOf i b = some r)
    (hp : r.pers = false) : hostWrite i b data s = written (writeEffect i b data [0, 0, 0] (touch s)) := by
  simp only [busFree, Bool.and_eq_true, Bool.not_eq_true'] at hb
  simp [hostWrite, hostRequest, hb.1, hb.2, odWrite, rawNoted, objectWrite, h4, hc, hi, hr, hp]

/-- A write outside 0x4020 that passes its checks, to a persistent object whose guards hold, is stored. -/
theorem hostWrite_stores (i b : Nat) (data : List Byte) (s : State) (r : Row) (hb : busFree s = true)
    (h4 : i ≠ 0x4020)
    (hc : writeChecks (touch s) .bus i b data = .done) (hi : idleTrigger i b data = false) (hr : rowOf i b = some r)
    (hp : r.pers = true) (ho : persistentOk (touch s) i b (leNat data) = true) :
    hostWrite i b data s = written (.done, storePersistent i b (leNat data) (touch s)) := by
  simp only [busFree, Bool.and_eq_true, Bool.not_eq_true'] at hb
  simp [hostWrite, hostRequest, hb.1, hb.2, odWrite, rawNoted, objectWrite, h4, hc, hi, hr, hp, ho]

@[simp] theorem touch_busy (s : State) : (touch s).bus.busy = s.bus.busy := by simp [touch]

@[simp] theorem touch_bus (s : State) : (touch s).bus = { s.bus with ack := true } := by simp [touch]

@[simp] theorem busServes_touch (s : State) : busServes (touch s) = busServes s := by
  simp only [busServes, touch]
  split <;> simp_all

/-- A write outside 0x4020 that fails a check changes nothing but the bus and, in HOLD, the core's clock. -/
theorem hostWrite_refused (i b : Nat) (data : List Byte) (s : State) (hb : busFree s = true)
    (h4 : i ≠ 0x4020)
    (hc : writeChecks (touch s) .bus i b data ≠ .done) :
    hostWrite i b data s = reply (writeChecks (touch s) .bus i b data) [] (touch s) := by
  simp only [busFree, Bool.and_eq_true, Bool.not_eq_true'] at hb
  simp [hostWrite, hostRequest, hb.1, hb.2, odWrite, rawNoted, objectWrite, h4, hc, written]

/-- A request that the device cannot take is not acknowledged, and nothing else happens. -/
theorem hostRequest_nacked (f : State → State) (s : State) (hb : busFree s = false) : hostRequest f s = nack s := by
  simp only [busFree] at hb
  unfold hostRequest
  split
  · rfl
  · rename_i h; simp_all

@[simp] theorem written_bus_done (a : Abort) (s : State) (hb : s.bus.busy = false) :
    written (a, s) = reply a [] s := by simp [written, hb]

theorem touch_of_not_hold (s : State) (h : s.sys.st ≠ .hold) : touch s = onBus (fun b => { b with ack := true }) s := by
  simp [touch, h]

theorem answered_reply (a : Abort) (s : State) (h : s.bus.busy = false) : answered (reply a [] s) a := by
  simp [answered, reply, h, leBytes]

theorem inProgress_touch (s : State) : inProgress (touch s) = inProgress s := by simp [inProgress]

theorem requestState_touch (c : Nat) (s : State) : requestState c (touch s) = requestState c s := by
  simp [requestState]

theorem row1410 : rowOf 0x1410 1 = some (wo 0x1410 1 1 1 .u8 1 1 8) := by rfl

/-- A code of Table 2-4 written to 0x1410.01 passes the checks before the request's own. -/
theorem checks1410 (s : State) (c : Byte) (h1 : 1 ≤ c.toNat) (h8 : c.toNat ≤ 8) :
    writeChecks s .bus 0x1410 1 [c] = .done := by
  have e : existence (small s) 0x1410 1 = .done := by cases small s <;> rfl
  have h0 : c ≠ 0 := by rintro rfl; simp at h1
  simp [writeChecks, firstOf, e, pathCheck, claimOnly, classCheck, accOf, row1410, wo, stateCheck, servedCheck,
    bootServes, faultServes, mainHolds, writeState, idleTrigger, sessionCheck, protectionCheck, valueCheck, leNat, rangeOk]
  omega

/-- A state request that the device takes: the request on the state that has met the transfer. -/
theorem hostWrite_request (s : State) (c : Byte) (hb : busFree s = true) (h1 : 1 ≤ c.toNat) (h8 : c.toNat ≤ 8) :
    hostWrite 0x1410 1 [c] s = written (stateRequest c.toNat (touch s)) := by
  rw [hostWrite_takes 0x1410 1 [c] s _ hb (by decide) (checks1410 _ c h1 h8) (by simp [idleTrigger, row1410, wo]) row1410 rfl]
  simp [writeEffect, leNat]

end Sys2Proof.Machine
end

