-- ==== Sys2Proof/Machine/ConfigSpace.lean ====
section
/-! DEFINITION. What an engine reads of its port: the configuration space (R379, R380, R382; Table 12-1) and BAR0 (R383, R441;
Tables 12-2, 12-8 and 13-8). No row of the table reads them, but for the claims; an engine's requests do, and these are
their answers. -/

namespace Sys2Proof.Machine

/-- The items of Table 12-1. How each is laid out in configuration space is the PCI Express Base specification's. -/
inductive ConfigItem where
  | vendorId
  | deviceId
  | revisionId
  | subsystemVendorId
  | subsystemId
  | classCode
  | barSize (n : Fin 6)
  | expansionRom
  | maxPayloadBytes
  | functionLevelReset
  | relaxedOrdering
  | noSoftReset
  | pmeSupport
  | msixVectors
  | msixTable
  | msixPba
  | advancedErrorReporting
  | maxLinkSpeed
  | maxLinkWidth
  deriving DecidableEq, Repr

/-- The value of an item, in bytes, counts or 1 for present and 0 for absent. BAR0 and BAR2 are 64-bit and
non-prefetchable with 64 KiB each; no other BAR is implemented. -/
def configItem (s : State) : ConfigItem → Nat
  | .vendorId => pv s 0x7200 1
  | .deviceId => pv s 0x7200 2
  | .revisionId => identityValue s 2
  | .subsystemVendorId => pv s 0x7200 3
  | .subsystemId => pv s 0x7200 4
  | .classCode => 0x120000
  | .barSize n => if n.val = 0 || n.val = 2 then 0x10000 else 0
  | .expansionRom => 0
  | .maxPayloadBytes => 512
  | .functionLevelReset => 1
  | .relaxedOrdering => 1
  | .noSoftReset => 0
  | .pmeSupport => 0
  | .msixVectors => 2
  | .msixTable => 0x3000
  | .msixPba => 0x3800
  | .advancedErrorReporting => 1
  | .maxLinkSpeed => 4
  | .maxLinkWidth => 2

/-- The answer to a configuration request: none is Configuration Request Retry Status, until the tier state load of R345
has ended (R382). -/
def configRead (s : State) (x : ConfigItem) : Option Nat :=
  if s.tiers.ready then some (configItem s x) else none

/-! ## BAR0 -/

/-- PORT_STATUS. -/
def portStatus (s : State) (p : PortId) : Nat :=
  let t := s.ports[p]
  flag (portReady s) + 2 * flag (portReady s && t.enable && !t.halted) + 4 * flag t.halted
    + 256 * (stCode s.sys.st).toNat + 65536 * t.qerr.toNat

/-- TUN_STATUS, the MSI-X pending bits, and COAL as it is in force at the port's target. -/
def tunnelStatus (t : Tunnel) : Nat := flag t.busy + 2 * flag t.done + 4 * flag t.overrun
def msixPending (g : Target) : Nat := flag g.pbaN + 2 * flag g.pbaF
def coalRegister (s : State) (t : TargetId) : Nat := coalCount s t + 65536 * coalTime s t

/-- The source number that a claim would return, where one is PENDING; the read itself is the row NORMAL_CLAIM or
FAST_CLAIM. -/
def claimRegister (s : State) (t : TargetId) (fast : Bool) : Nat := ((bestOf s fast t).map (·.val)).getD 0xFFFF

/-- Four bytes of BAR0 at an aligned offset. A write-only register and an address that no table lists read 0. -/
def bar0Read (s : State) (p : PortId) (off : Nat) : List Byte :=
  let t := s.ports[p]
  let g := targetOfPort p
  let word := leBytes 4
  let base := fun (r : Ring) (k : Nat) => slice k 4 (leBytes 8 r.base.toNat)
  if off = 0x0 then word (identityValue s 1 * 65536 + identityValue s 2 * 256 + p.val)
  else if off = 0x4 then word (flag t.enable)
  else if off = 0x8 then word (portStatus s p)
  else if off = 0x10 || off = 0x14 then base t.sq0 (off - 0x10)
  else if off = 0x18 then word t.sq0.size.toNat
  else if off = 0x20 || off = 0x24 then base t.sq1 (off - 0x20)
  else if off = 0x28 then word t.sq1.size.toNat
  else if off = 0x30 || off = 0x34 then base t.cq (off - 0x30)
  else if off = 0x38 then word t.cq.size.toNat
  else if off = 0x3C then word t.arb.toNat
  else if off = 0x44 then word (flag t.inval.isSome)
  else if off = 0x48 then word t.active.length
  else if off = 0x2000 then word (flag (s.irq.tgt[g]).disable)
  else if off = 0x2004 then word (coalRegister s g)
  else if off = 0x2008 then word (claimRegister s g false)
  else if off = 0x200C then word (claimRegister s g true)
  else if 0x2020 ≤ off && off < 0x2038 then slice (off - 0x2020) 4 (bitmapBytes (pendingBit s g))
  else if 0x2040 ≤ off && off < 0x2058 then slice (off - 0x2040) 4 (bitmapBytes (activeBit s g))
  else if 0x3000 ≤ off && off < 0x3020 then slice (off - 0x3000) 4 (msixTable t)
  else if off = 0x3800 then word (msixPending (s.irq.tgt[g]))
  else if off = 0x4004 then word t.tunnel.addr.toNat
  else if off = 0x4008 then word t.tunnel.offset.toNat
  else if off = 0x400C then word t.tunnel.len.toNat
  else if off = 0x4010 then word (tunnelStatus t.tunnel)
  else if off = 0x4014 then word t.tunnel.abort.toNat
  else if 0x4400 ≤ off && off < 0x4800 then slice (off - 0x4400) 4 t.tunnel.data
  else word 0

end Sys2Proof.Machine
end

