-- ==== Sys2Proof/Tests/Slice0.lean ====
section
/-! SUPPORT. Tests of the model on numbers that the spec gives, a smoke test of each check of well-formedness, and, for
every statement with hypotheses, a concrete state and operands that meet them: one witness for each clause. -/

namespace Sys2Proof.Tests

open Sys2Proof Sys2Proof.Machine Sys2Proof.Claims

set_option Elab.async false

/-! ## Small states -/

/-- A module with its supplies, both dies and the bus on, in a device state. -/
def powered (st : DevState) : State :=
  let r := State.reset
  { r with
    sys := { r.sys with st := st, mainOn := true, aonTime := 777 },
    supply := { r.supply with xtal := true, pll := true, vsbOk := true, clock := .timebase },
    tiers := { r.tiers with ready := true },
    nand := { r.nand with blank := false },
    bus := { r.bus with enabled := true },
    light := { r.light with on := true } }

/-- The same with other shadow registers: object, subindex, value. -/
def withObjects (l : List (Nat × Nat × Nat)) (s : State) : State :=
  { s with shadow := l.foldl (fun m p => aput m (okey p.1 p.2.1) p.2.2) s.shadow }

/-- Every source enabled, in a state. -/
def withSources (l : List Nat) (s : State) : State :=
  { s with shadow := l.foldl (fun m n => aput m (srcKey n) (0x800 + srcDefault n)) s.shadow }

/-- A generation, and the commit record of one of which no unit is written. -/
def commitOf (n : Nat) : Commit := ⟨false, true, false, 0, 0, 0, 0, 0, 0, 0, 0, 0, 0, 0, n⟩
def gen (n : Nat) (base committed : Bool) : Gen :=
  ⟨n, if base then none else some (n - 1), base, false, false, false, false, 0, 1, 7, 0, 0, 0, 5, 0x0F,
    if committed then some (commitOf n) else none, false, false, false, []⟩
def withNeg (f : Neg → Neg) (s : State) : State := { s with neg := f s.neg }
def withLight (f : Light → Light) (s : State) : State := { s with light := f s.light }
def withSys (f : Sys → Sys) (s : State) : State := { s with sys := f s.sys }
def withSupply (f : Supply → Supply) (s : State) : State := { s with supply := f s.supply }
def withChain (s : State) : State := withNeg (fun n => { n with gens := [gen 3 false true, gen 2 true true] }) s
def parked (s : State) : State := withLight (fun l => { l with ranks := updAll l.ranks (fun _ m => { m with st := .sr }) }) s

/-! ## Numbers that the spec works out -/

/-- The WAIT of 1,000 ticks (chapter 4's worked case) and two steps of the POWER_UP program (chapter 19). -/
theorem test_step_words : encodeStep 0x200000000003E8 = 0x7520_0000_0000_03E8 ∧
    encodeStep 0x10000100000000 = 0x5C10_0001_0000_0000 ∧ encodeStep 0x80000000000000 = 0x3E80_0000_0000_0000 := by
  decide +kernel

/-- Table 4-1's fields of the WAIT, and the same after one bit was read wrong. -/
theorem test_step_fields : (decodeStep 0x7520_0000_0000_03E8).map (fun d => (stepFields d.1, d.2)) =
      some (⟨2, 0, 0, 1000⟩, false) ∧
    (decodeStep (0x7520_0000_0000_03E8 ^^^ 0x40)).map (fun d => (stepFields d.1, d.2)) = some (⟨2, 0, 0, 1000⟩, true) := by
  decide +kernel

/-- FIPS 197's AES-256 example (appendix C.3), its S-box at 0x53, and the base point of FIPS 186-4's P-384 on its curve. -/
theorem test_aes : aesEncrypt (roundKeys ((List.range 32).map fun i => BitVec.ofNat 8 i))
      ((List.range 16).map fun i => BitVec.ofNat 8 (17 * i)) =
    [0x8E, 0xA2, 0xB7, 0xCA, 0x51, 0x67, 0x45, 0xBF, 0xEA, 0xFC, 0x49, 0x90, 0x4B, 0x49, 0x60, 0x89] ∧
    subByte 0x53 = 0xED ∧ unsubByte 0xED = 0x53 := by
  decide +kernel
theorem test_curve : onCurve curveBase = true := by decide +kernel

/-- FIPS 180-4's example: SHA-384 of "abc" begins with 0xCB00753F. -/
theorem test_sha384 : (sha384 [0x61, 0x62, 0x63]).take 4 = [0xCB, 0x00, 0x75, 0x3F] := by decide +kernel

/-- Two bits read wrong are not corrected. -/
theorem test_step_two_bits : decodeStep (0x7520_0000_0000_03E8 ^^^ 0x41) = none := by decide +kernel

/-- The PECs of chapter 14's worked case: the frame at 0x58, BUSY and the answer at 0x59. -/
theorem test_pecs : pecOf 0x2C false [0x02, 0x10, 0x14, 0x01, 0x01, 0x00, 0x01] = 0x93 ∧
    pecOf 0x2C true [0xFF, 0, 0] = 0x71 ∧ pecOf 0x2C true [0, 0, 0] = 0x5A := by decide +kernel

/-- The frame and the group of chapter 7's worked case: side B, sub-channel 2, rank 1, bank 9, row 0x1A3F5. -/
theorem test_frame_number : frameOf (rankIx ⟨1, 2, 1⟩) 9 0x1A3F5 = 0x01B2_D1FA ∧
    groupOf (frameOf (rankIx ⟨1, 2, 1⟩) 9 0x1A3F5) = 0x1_B2D1 := by decide +kernel

/-- Chapter 8's worked case: GEN 321, the data slot 1,000,003, its parity channel, its channel and the commit pair. -/
theorem test_stripe_place : slotPlace 7 1000003 = (35714, 2, 3) ∧
    parityChannel (List.finRange 8) 321 35714 = 3 ∧ dataChannel (List.finRange 8) 321 35714 2 = 6 ∧
    commitPair State.reset 321 = (some 1, some 5) := by decide +kernel

/-- The frame of the RUN request is a WRITE of 1 to 0x1410.01 (Table 14-2). -/
theorem test_run_frame : wellFormed (.write ⟨0x2C, .i2c⟩ [0x02, 0x10, 0x14, 0x01, 0x01, 0x00, 0x01, 0x93]) = true := by
  decide +kernel

/-- The table of commands gives no row any bits. -/
theorem test_no_word_is_a_command : decodeTableWord 16 0x1234 = none := by decide +kernel

/-! ## Ill-formed commands, one for each check -/

/-- What the read of a unit found, with no codeword read. -/
def unread (mates : List ChanId) : UnitRead := ⟨famAll 8 [], mates⟩

theorem test_ill_formed_numbers : ([.runRequest 0, .runRequest 17, .rawRead 257 [], .rawProgram [], .rawErase 32,
    .programStoreWrite 0 false [], .firmwareImage 0 false (List.replicate 257 0), .hostWrite ⟨0, 0, 0⟩ 0 0 [1],
    .veilBegin 0 0 0, .channelDead 0 0, .geometryWrite 0 1, .geometryWrite 4 1, .descriptorFetch 0 [1],
    .coalescingSetting 0 2 1, .coalescingSetting 0 3 256, .sourceConfiguration [0],
    .bindingToken [1], .response [1]] : List Instr).all (fun c => !wellFormed c) = true := by decide +kernel

theorem test_ill_formed_pages : ([.nandProgramFailure 0 131072, .nandEraseFailure 0 131072, .nandEraseEnd 0 131072,
    .nandUnitReadEnd 0 536870912 (unread []), .nandUnitReadEnd 3 5 (unread [3]), .patrol 2 (unread [2]),
    .bar2Write 0 65536 [0, 0, 0, 0], .bar2Write 0 2 [0, 0, 0, 0], .bar2Write 0 0 [0], .bar2Read 0 65536 4, .bar2Read 0 2 4,
    .bar2Read 0 0 68] : List Instr).all (fun c => !wellFormed c) = true := by decide +kernel

theorem test_ill_formed_frames : ([.read ⟨0, .i2c⟩ [2, 0, 0, 0, 0], .read ⟨0, .i2c⟩ [1, 0, 0, 0],
    .write ⟨0, .i2c⟩ [2, 0, 0, 0, 2, 0, 7, 0], .write ⟨0, .i2c⟩ [2, 0, 0, 0, 0, 0, 0],
    .segRead ⟨0, .i2c⟩ [3, 0, 0, 0, 0, 0, 0, 0, 0, 0, 0] [], .segRead ⟨0, .i2c⟩ [3, 0] [], .segWrite ⟨0, .i2c⟩ [4, 0],
    .segWrite ⟨0, .i2c⟩ [4, 0, 0, 0, 0, 0, 0, 0, 0, 0, 0, 0], .segAbort ⟨0, .i2c⟩ [5],
    .registerWrite (.object 0 0 (List.replicate 257 0)), .registerWrite (.bar0 0 0 [1]),
    .registerWrite (.bar0 0 2 [0, 0, 0, 0])] : List Instr).all (fun c => !wellFormed c) = true := by decide +kernel

/-! ## Single steps -/

/-- The state after a command, where it answers one. -/
def after (c : Instr) (s : State) : Option State := match exec c s with
  | .next t => some t
  | _ => none

/-- The queue is first in, first out. -/
theorem test_queue_order : (match step { State.reset with pending := [.waitGraphSweep, .run] } with
    | .next t => t.pending
    | _ => []) = [.run] := by decide +kernel

/-- A module that has just got AON power and whose INS_DET, VSB and VIN come stays DARK until the debounce count ends. -/
theorem test_insertion_waits : (after (.insDetLow .insDet) { State.reset with supply := { State.reset.supply with
    vsbOk := true, vinOk := true, oscValid := true, xtal := true } }).map (fun t => (t.sys.st, t.supply.counting)) =
    some (.dark, true) := by decide +kernel
theorem test_debounce_ends : (after .insertionDebounceEnd { State.reset with supply := { State.reset.supply with
    counting := true } }).map (fun t => (t.sys.st, t.sys.cause)) = some (.boot, 1) := by decide +kernel

/-- Table 2-5: PFAIL_IN_N in RUN leads to EXPOSE with cause 0x04 and target Hold-Deep. -/
theorem test_pfail_in_run : (after .pfailInAsserted (powered .run)).map (fun t => (t.sys.st, t.sys.cause, t.sys.depth)) =
    some (.expose, 4, 1) := by decide +kernel

/-- A rank whose only open bank is precharged, or all of whose banks are, is IDLE (Table 7-5). -/
def oneRowOpen : State := let s := powered .run
  { s with light := { s.light with ranks := updAll s.light.ranks (fun _ m =>
      { m with st := .active, rows := [(3, 77)], settled := true }) } }
theorem test_precharge_all_is_idle : (after (.precharge ⟨0, 1, 0⟩ none) oneRowOpen).map
    (fun t => ((t.light.ranks[rankIx ⟨0, 1, 0⟩]).st, (t.light.ranks[rankIx ⟨0, 1, 0⟩]).rows)) = some (.idle, []) := by
  decide +kernel
theorem test_precharge_last_bank_is_idle : (after (.precharge ⟨0, 1, 0⟩ (some 3)) oneRowOpen).map
    (fun t => (t.light.ranks[rankIx ⟨0, 1, 0⟩]).st) = some .idle := by decide +kernel
/-- A host write makes its frame dirty: rank place 2, bank 3, row pair 38. -/
theorem test_host_write_is_dirty : (after (.hostWrite ⟨0, 1, 0⟩ 3 0 [1]) oneRowOpen).map (fun t => t.light.dirty) =
    some [(frameOf 2 3 77, frameOf 2 3 77 + 1)] := by decide +kernel

/-- A frame with a PEC that does not match answers PEC_ERROR (Table 14-3) and is counted. -/
theorem test_bad_pec : (after (.write ⟨0x2C, .i2c⟩ [0x02, 0x10, 0x14, 0x01, 0x01, 0x00, 0x01, 0x92]) (powered .setup)).map
    (fun t => (t.bus.resp, t.bus.pecErrors)) = some ([0x01, 0, 0], 1) := by decide +kernel
/-- Chapter 14's worked case: RUN from SETUP is answered with STATUS 0. -/
theorem test_run_request : (after (.write ⟨0x2C, .i2c⟩ [0x02, 0x10, 0x14, 0x01, 0x01, 0x00, 0x01, 0x93]) (powered .setup)).map
    (fun t => (t.bus.resp, t.sys.st)) = some ([0, 0, 0], .run) := by decide +kernel
/-- A challenge closes on the wrong response, which is AUTH_FAILED. -/
theorem test_wrong_response : (after (.response (List.replicate 32 0)) (powered .run)).map (fun t => t.sec.failures) =
    some 1 := by decide +kernel

/-! ## Witnesses: the block, state requests, triggers, boot

Each theorem meets together the hypotheses of a statement, and of each of its clauses, on a concrete state. -/

theorem witness_emptyQueue : (powered .run).pending = [] ∧ (powered .run).supply.aon = true ∧
    (withSupply (fun p => { p with aon := false }) (powered .run)).supply.aon = false := by decide +kernel
theorem witness_everyStepKeepsCanonical : canonical State.reset ∧ ∃ t, step State.reset = .next t :=
  ⟨(by unfold canonical; decide +kernel), _, rfl⟩
theorem witness_requestsOutsideTheirStates : busFree (powered .hold) = true ∧ (1, Instr.run) ∈ requestRows ∧
    inProgress (powered .expose) = true ∧ inProgress (powered .hold) = false ∧ requestState 1 (powered .hold) = false := by
  decide +kernel
theorem witness_requestedRun : let s := powered .setup; let p := withNeg (fun n => { n with status := 1 }) s
    busFree s = true ∧ s.sys.st = .setup ∧ inProgress s = false ∧ pendingStatus p.neg.status = true ∧
    pendingStatus s.neg.status = false ∧ s.cell.owed = false ∧ (deadChans s).length < 2 := by decide +kernel
theorem witness_requestedRunDiscard : let s := withChain (powered .setup)
    busFree s = true ∧ s.sys.st = .setup ∧ inProgress s = false ∧ s.cell.owed = false ∧ (deadChans s).length < 2 ∧
    newestC s = some (gen 3 false true) := by decide +kernel
theorem witness_requestedDevelop : let s := powered .setup; let p := parked s
    busFree s = true ∧ s.sys.st = .setup ∧ inProgress s = false ∧ allParked s = false ∧
    (allParked p = true ∧ p.sec.binding ≠ 1) ∧
    (let q := { p with sec := { p.sec with binding := 1 }, neg := { p.neg with status := 2 } };
      allParked q = true ∧ q.sec.binding = 1 ∧ q.neg.status = 2) ∧
    (let q := { p with sec := { p.sec with binding := 1 }, neg := { p.neg with status := 1 } };
      busFree q = true ∧ allParked q = true ∧ q.sec.binding = 1 ∧ q.neg.status = 1) := by decide +kernel
theorem witness_requestedExposure :
    let s := powered .run; let rich := { s with cell := { s.cell with qRem := 300000, vcellUv := 4000000 } }
    busFree s = true ∧ s.sys.st = .run ∧ inProgress s = false ∧ eReq rich (framesToExpose rich false) ≤ eAvail rich ∧
    eReq rich (framesToExpose rich true) ≤ eAvail rich ∧ pv (withObjects [(0x3040, 1, 1)] rich) 0x3040 1 = 1 ∧
    pv rich 0x3040 1 ≠ 1 ∧ eAvail s < eReq s (framesToExpose s false) := by decide +kernel
theorem witness_wakes : let s := powered .hold; let e := withSys (fun y => { y with depth := 2 }) (powered .expose)
    (s.sys.st = .hold ∧ s.sys.wakingPartial = false ∧ s.supply.aon = true ∧ busFree s = true) ∧
    (powered .run).sys.st ≠ .hold ∧ (busFree e = true ∧ e.sys.st = .expose ∧ e.sys.depth ≠ 0) ∧
    (busFree (powered .run) = true ∧ (powered .run).sys.st ≠ .hold ∧ (powered .run).sys.st ≠ .expose) := by decide +kernel
theorem witness_mainDieResets : let s := powered .setup
    (busFree s = true ∧ inProgress s = false ∧ s.sys.st = .setup) ∧
    (s.supply.aon = true ∧ s.sys.st ≠ .dark ∧ s.sys.st ≠ .hold) ∧ (powered .hold).sys.st = .hold := by decide +kernel
theorem witness_triggersInRun : (Instr.vsbLost, (0x06 : Byte)) ∈ triggerRows ∧ (powered .run).supply.aon = true ∧
    clockRuns (powered .run) = true ∧ (powered .run).sys.st = .run ∧ (powered .run).cell.connected = true ∧
    (powered .run).cell.faults.contains 5 = false := by decide +kernel
theorem witness_triggersElsewhere : (Instr.slowSag, (0x05 : Byte)) ∈ triggerRows ∧ (powered .develop).supply.aon = true ∧
    clockRuns (powered .develop) = true ∧ clockRuns (powered .dark) = true ∧ (powered .dark).sys.st = .dark ∧
    (powered .develop).sys.st = .develop ∧ (powered .develop).sys.leaving = none := by decide +kernel
def waiting : Expo := ⟨.park, 2, 3, false, false, true, false, 0, [], [], 0, 0, 0⟩
theorem witness_triggersWhileParking : let s := withNeg (fun n => { n with exp := some waiting }) (powered .expose)
    (Instr.fastCollapse, (0x05 : Byte)) ∈ triggerRows ∧ s.supply.aon = true ∧ clockRuns s = true ∧ s.sys.st = .expose ∧
    s.neg.exp = some waiting ∧ waiting.phase = .park ∧ waiting.powerFail = false := by decide +kernel
theorem witness_vinWarnings : (powered .run).supply.aon = true := by decide +kernel
theorem witness_insertionAndReturn :
    let s := withSupply (fun p => { p with counting := true }) (powered .dark)
    let h := withSupply (fun p => { p with triggered := true, insDetLow := true })
      (withSys (fun y => { y with depth := 1 }) (powered .hold))
    (s.supply.aon = true ∧ s.sys.st = .dark ∧ s.supply.counting = true) ∧ (powered .run).sys.st ≠ .dark ∧
    (powered .dark).supply.counting = false ∧ (powered .run).supply.triggered = false ∧
    (h.supply.triggered = true ∧ h.supply.insDetLow = true ∧ h.sys.st = .hold ∧ h.sys.depth = 1 ∧
      h.sys.wakingPartial = false) := by decide +kernel
theorem witness_aonSupply : (powered .run).supply.aon = true ∧
    (withSupply (fun p => { p with aon := false }) (powered .dark)).supply.aon = false := by decide +kernel
theorem witness_clocks : let s := withSupply (fun p => { p with clock := .xtal }) (powered .hold)
    s.supply.aon = true ∧ pllRuns s = true ∧ pllRuns State.reset = false ∧
    (withSys (fun y => { y with crystalLost := true }) s).sys.crystalLost = true ∧
    (s.sys.st = .hold ∧ s.supply.clock = .xtal) ∧ (powered .run).sys.st ≠ .hold := by decide +kernel
theorem witness_cellDepleted : let s := withSupply (fun p => { p with vsbOk := false }) (powered .expose)
    (s.supply.aon = true ∧ s.cell.connected = true ∧ s.supply.vsbOk = false) ∧ (powered .run).supply.vsbOk = true := by
  decide +kernel
theorem witness_pllLockInBoot : let s := withSys (fun y => { y with pllWait := true, mainOn := false }) (powered .boot)
    s.supply.aon = true ∧ s.supply.xtal = true ∧ s.sys.pllWait = true ∧ s.sys.st = .boot ∧
    (after (.pllLock [(0, true), (8192, true)]) s).map (·.sys.optCopy) = some 0xFF := by decide +kernel
theorem witness_selfTestEnds : let s := withSys (fun y => { y with powerUpDone := true }) (powered .boot)
    s.sys.st = .boot ∧ s.sys.mainOn = true ∧ s.sys.testDone = false ∧ s.sys.leaving = none ∧
    ((0x80 : U16).toNat % 256 ≠ 0 ∧ s.sys.powerUpDone = true) ∧ (0x100 : U16).toNat % 256 = 0 := by decide +kernel
theorem witness_bootCompletes : let s := withSys (fun y => { y with testDone := true, powerUpDone := true }) (powered .boot)
    (s.sys.st = .boot ∧ s.sys.testDone = true ∧ s.sys.testFailed = false ∧ s.sys.powerUpDone = true ∧ s.sys.leaving = none) ∧
    (powered .boot).sys.testDone = false := by decide +kernel
theorem witness_gotEvent : hears (withSources [19] (powered .run)) 19 = true := by decide +kernel

/-! ## Witnesses: the sequencer -/

/-- A program of role 6 with given step data runs; slots 0 to 3 are used, 0 and 2 are on, 3 is latched, 2 is critical. -/
def slots : List (Nat × Nat × Nat) :=
  [(0x2000, 1, 1100000), (0x2001, 1, 1100000), (0x2002, 1, 1100000), (0x2003, 1, 1100000), (0x2000, 2, 500), (0x2000, 3, 500),
    (0x2000, 7, 5), (0x2001, 0xA, 3), (0x2002, 0xB, 1), (0x2320, 1, 4)]
def onWith (f : RailSlot → RailSlot) (s : State) : State :=
  { s with rails := updAll s.rails (fun i r =>
      if i = 0 then f { r with en := true, st := .inWindow, reading := 1100000 }
      else if i = 2 then { r with en := true, st := .inWindow }
      else if i = 3 then { r with st := .latched } else r) }
def railed (f : RailSlot → RailSlot) (st : DevState) : State := onWith f (withObjects slots (powered st))
def runOf (ds : List Nat) : SeqRun := ⟨2, 6, false, ds.map encodeStep, 0, false, .none, false, false, false, false, 0⟩
def program (f : SeqRun → SeqRun) (ds : List Nat) (st : DevState) : State :=
  let s := railed id st
  { s with seq := { s.seq with run := some (f (runOf ds)) } }
def stepData (op arg mask value : Nat) : Nat := value + 2 ^ 32 * mask + 2 ^ 48 * arg + 2 ^ 52 * op
/-- A step is due in the program that holds only it. -/
def due (op arg mask value : Nat) (st : DevState) : Prop :=
  dueStep (program id [stepData op arg mask value] st) 0 (runOf [stepData op arg mask value]) ⟨op, arg, mask, value⟩ false

theorem witness_stepsDue : due 2 0 0 1000 .setup ∧ due 3 0 5 1000 .run ∧ due 7 0 0 0xFFFF .run ∧ due 5 0 0 0 .run ∧
    due 5 3 0 1 .run ∧ due 4 0 5 0 .run ∧ due 1 0 0xF 0 .setup ∧ due 1 1 0xF 0 .develop ∧ due 6 0 0xF 5 .develop ∧
    due 6 1 1 0 .run ∧ due 8 0 0 0 .run := by unfold due dueStep; decide +kernel
theorem witness_stepCorrected : dueStep (program id [stepData 2 0 0 1000] .setup) 1 (runOf [stepData 2 0 0 1000])
    ⟨2, 0, 0, 1000⟩ true := by unfold dueStep; decide +kernel
theorem witness_jump : (bits 9 0 (0 : Nat) < (runOf [stepData 5 0 0 0]).words.length ∧ (runOf []).c = false) ∧
    (runOf [stepData 5 0 0 1]).words.length ≤ bits 9 0 1 ∧ (runOf []).exited = false ∧
    dirSafe (entryAt (withObjects [(0x2210, 2, 2 ^ 48 + 6 * 2 ^ 40 + 5 * 2 ^ 20)] (powered .run)) 2) ≠ 0x3FF := by decide +kernel
theorem witness_enable : let s := program id [stepData 1 0 0xF 0] .setup
    (s.rails[(1 : SlotId)].st ≠ .latched ∧ s.rails[(1 : SlotId)].en = false) ∧ s.rails[(3 : SlotId)].st = .latched ∧
    (s.rails[(0 : SlotId)].st ≠ .latched ∧ s.rails[(0 : SlotId)].en = true) ∧ (0xF : U16).getLsbD 0 = true ∧
    (0xF : U16).getLsbD 4 = false := by decide +kernel
theorem witness_disable : let s := program id [stepData 1 1 0xF 0] .develop
    let k := { s with light := { s.light with ctrl := famAll 2 true }, neg := { s.neg with dev := some ⟨.maps, false, 0⟩ } }
    (s.rails[(0 : SlotId)].en = true ∧ (keepsSlots k && critical k 0) = false) ∧
    (k.rails[(2 : SlotId)].en = true ∧ (keepsSlots k && critical k 2) = true) ∧ s.rails[(1 : SlotId)].en = false := by
  decide +kernel
theorem witness_trim : let s := program id [stepData 6 0 0xF 5] .develop
    (slotUsed s 0 = true ∧ critical s 0 = false ∧ (4 : U16).toInt.natAbs ≤ pv s 0x2320 1) ∧
    pv s 0x2320 1 < (5 : U16).toInt.natAbs ∧ (slotUsed s 2 = true ∧ critical s 2 = true ∧ s.sys.st = .develop) ∧
    slotUsed s 9 = false := by decide +kernel
theorem witness_end : let s := program id [stepData 8 0 0 0] .run
    s.sys.leaving = none ∧ s.sys.st ≠ .boot ∧ s.sys.wakingPartial = false := by decide +kernel
theorem witness_badStep : let s := program id [] .run
    let x := program (fun r => { r with exited := true }) [] .run
    let e := withObjects [(0x2210, 2, 2 ^ 48 + 6 * 2 ^ 40)] s
    (s.seq.run = some (runOf []) ∧ fetchStep s 0 = .bad false ∧ s.sys.leaving = none ∧ s.sys.st ≠ .boot ∧
      s.sys.wakingPartial = false) ∧ (runOf []).exited = false ∧ dirSafe (entryAt e 2) ≠ 0x3FF ∧ dirSafe (entryAt s 2) = 0x3FF ∧
    fetchStep e 0 = .bad false ∧ fetchStep x 0 = .bad false := by decide +kernel
theorem witness_waitEvents : let s := program (fun r => { r with wait := .cond 0 0xB }) [0] .run
    s.seq.run = some { runOf [0] with wait := .cond 0 0xB } ∧
    (failsCondition s 0 1 = true ∧ (0xB : U16).getLsbD 1 = true ∧ failsCondition s 0 0 = false) ∧
    conditionFulfilled s 0 0xB = false ∧ conditionFulfilled s 0 1 = true ∧
    (program (fun r => { r with wait := .delay }) [0] .run).seq.run = some { runOf [0] with wait := .delay } := by decide +kernel
theorem witness_programLoad :
    let e := 100 * 2 ^ 64 + 2 ^ 48 + 6 * 2 ^ 40
    let s := withObjects [(0x2210, 2, e)] (program id [0] .run)
    let l := withObjects [(0x2210, 2, e)] (program (fun r => { r with loading := true }) [] .run)
    let g := withObjects [(0x2210, 2, (crc32c (List.replicate 8 0xFF)).toNat * 2 ^ 96 + 2 ^ 48 + 6 * 2 ^ 40 + 0x3FF * 2 ^ 20)] l
    (s.seq.run = some (runOf [0]) ∧ s.sys.leaving = none ∧ s.sys.st ≠ .boot ∧ s.sys.wakingPartial = false) ∧
    ((runOf [0]).loading = false ∧ (runOf [0]).exited = false ∧ dirMaxRun (entryAt s 2) ≠ 0 ∧
      dirSafe (entryAt s 2) ≠ 0x3FF) ∧
    (dirMaxRun (entryAt g 2) = 0 ∧ (runOf [0]).role ≠ 1) ∧
    (l.seq.run = some { runOf [] with loading := true } ∧ readWaits l (storeActive l) = false ∧ programOk l 2 [] = false) ∧
    (readWaits g (storeActive g) = false ∧ programOk g 2 [] = true) ∧
    readWaits { l with flash := { l.flash with erase := some ⟨24, 7, false, 0, true, false⟩ } } (storeActive l) = true := by
  decide +kernel
theorem witness_runRequest : let s := withObjects [(0x2210, 2, 2 ^ 48 + 6 * 2 ^ 40)] (powered .setup)
    takes s 0x2230 1 [2] ∧ s.seq.run = none ∧ dirRole (entryAt s 2) = 6 ∧ takes s 0x2230 1 [3] ∧
    dirRole (entryAt s 3) ≠ 6 ∧ busFree (program id [0] .boot) = true ∧ (program id [0] .boot).seq.run ≠ none := by
  unfold takes; decide +kernel
theorem witness_stepWordsCorrected : (0 : Nat) < 2 ^ 56 ∧ (2 ^ 56 - 1 : Nat) < 2 ^ 56 ∧ (62 : Nat) < 63 := by decide +kernel

/-! ## Witnesses: rails, counter log, backup cell -/

theorem witness_scans : let s := railed id .run; let w := railed (fun r => { r with margin := .walking, request := 5 }) .run
    pllRuns State.reset = false ∧ pllRuns s = true ∧ slotUsed s 0 = true ∧
    ((s.rails[(0 : SlotId)]).cmpA.suspect && (s.rails[(0 : SlotId)]).cmpB.suspect) = false ∧ loopRuns s 1 = false ∧
    (loopRuns w 0 = true ∧ (w.rails[(0 : SlotId)]).margin = .walking ∧
      (w.rails[(0 : SlotId)]).applied ≠ (w.rails[(0 : SlotId)]).request ∧ trimAtBound w 0 0 = false) ∧
    (trimAtBound w 0 8191 = true ∧ (w.rails[(0 : SlotId)]).margin ≠ .limit) ∧ (0 : SlotId) ≠ 1 := by decide +kernel
theorem witness_windowTrips : let s := railed id .run; let a := withObjects [(0x2000, 9, 1), (0x2000, 0xA, 2)] s
    (supervised s 0 = true ∧ (s.rails[(0 : SlotId)]).st = .inWindow ∧ (s.rails[(0 : SlotId)]).cmpA = Cmp.init ∧
      (s.rails[(0 : SlotId)]).cmpB = Cmp.init ∧ rail s 0 9 ≠ 1) ∧ (rail s 0 0xA).testBit 1 = false ∧
    (rail a 0 0xA).testBit 1 = true ∧ (rail a 0 0xA).testBit 0 = false ∧
    (rail s 0 0xA).testBit 0 = true ∧
    (supervised a 0 = true ∧ rail a 0 9 = 1) := by decide +kernel
theorem witness_shortLatch :
    let s := railed id .run; let b := railed (fun r => { r with blanked := true }) .run
    let n := railed (fun r => { r with blanked := true, cmpA := { r.cmpA with short := true } }) .run
    (supervised s 0 = true ∧ (s.rails[(0 : SlotId)]).blanked = false) ∧
    (supervised b 0 = true ∧ (b.rails[(0 : SlotId)]).blanked = true ∧
      ((b.rails[(0 : SlotId)]).cmpA.short || (b.rails[(0 : SlotId)]).cmpB.short) = false) ∧
    (supervised n 0 = true ∧ (n.rails[(0 : SlotId)]).blanked = true ∧
      ((n.rails[(0 : SlotId)]).cmpA.short || (n.rails[(0 : SlotId)]).cmpB.short) = true) := by decide +kernel
theorem witness_comparators :
    let s := railed id .run; let d := railed (fun r => { r with cmpA := { r.cmpA with uv := true, streak := 1 } }) .run
    let a := withObjects [(0x2000, 9, 1)] d
    let l := withObjects [(0x2000, 9, 1)]
      (railed (fun r => { r with reading := 500000, cmpA := { r.cmpA with uv := true } }) .run)
    (supervised d 0 = true ∧ (d.rails[(0 : SlotId)]).cmpA.uv ≠ (d.rails[(0 : SlotId)]).cmpB.uv ∧ rail d 0 9 ≠ 1) ∧
    (rail a 0 9 = 1 ∧ supervised l 0 = true ∧ (l.rails[(0 : SlotId)]).cmpA.uv ≠ (l.rails[(0 : SlotId)]).cmpB.uv ∧
      rail l 0 9 = 1 ∧ (l.rails[(0 : SlotId)]).cmpA.suspect = false ∧ (l.rails[(0 : SlotId)]).cmpB.suspect = false ∧
      (l.rails[(0 : SlotId)]).st = .inWindow ∧ aboveOv l 0 (l.rails[(0 : SlotId)]).reading.toNat = false ∧
      belowUv l 0 (l.rails[(0 : SlotId)]).reading.toNat = true) ∧
    ((s.rails[(0 : SlotId)]).cmpA.uv = (s.rails[(0 : SlotId)]).cmpB.uv ∧
      (s.rails[(0 : SlotId)]).cmpA.ov = (s.rails[(0 : SlotId)]).cmpB.ov) ∧
    (auditFails s 0 (s.rails[(0 : SlotId)]).cmpA = false ∧ auditFails s 0 (s.rails[(0 : SlotId)]).cmpB = false) ∧
    (supervised d 0 = true ∧ auditFails d 0 (d.rails[(0 : SlotId)]).cmpA = true ∧
      auditFails d 0 (d.rails[(0 : SlotId)]).cmpB = false ∧ (d.rails[(0 : SlotId)]).cmpA.streak ≠ 2) ∧
    supervised s 1 = false := by decide +kernel
theorem witness_ramp : let s := railed (fun r => { r with st := .ramping, awaiting := true }) .run
    let u := railed (fun r => { r with st := .uv, awaiting := true, rampOver := true }) .run
    let o := railed (fun r => { r with st := .ov, awaiting := true, cmpA := { r.cmpA with ov := true } }) .run
    let v := railed (fun r => { r with st := .ramping, awaiting := true, cmpB := { r.cmpB with uv := true } }) .run
    (supervised s 0 = true ∧ (s.rails[(0 : SlotId)]).awaiting = true ∧ combined s 0 true = false ∧
      combined s 0 false = false ∧ 499 < 100 * rail s 0 7 ∧ 100 * rail s 0 7 ≤ 500) ∧
    ((s.rails[(0 : SlotId)]).rampOver = false ∧ (rail s 0 0xA).testBit 1 = false ∧
      (rail (withObjects [(0x2000, 0xA, 2)] s) 0 0xA).testBit 1 = true) ∧
    (supervised o 0 = true ∧ (o.rails[(0 : SlotId)]).awaiting = true ∧ combined o 0 true = true ∧
      (o.rails[(0 : SlotId)]).rampOver = false ∧ (o.rails[(0 : SlotId)]).st ≠ .ramping) ∧
    combined v 0 false = true ∧ (u.rails[(0 : SlotId)]).rampOver = true ∧ supervised s 1 = false ∧
    (s.rails[(2 : SlotId)]).awaiting = false := by decide +kernel
theorem witness_outputReleases :
    let u := railed (fun r => { r with st := .uv, cmpA := { Cmp.init with uv := true } }) .run
    let o := railed (fun r => { r with st := .ov, cmpB := { Cmp.init with ov := true } }) .run
    (supervised u 0 = true ∧ (u.rails[(0 : SlotId)]).st = .uv ∧ (u.rails[(0 : SlotId)]).awaiting = false ∧
      (u.rails[(0 : SlotId)]).cmpA = { Cmp.init with uv := true } ∧ (u.rails[(0 : SlotId)]).cmpB = Cmp.init) ∧
    (supervised o 0 = true ∧ (o.rails[(0 : SlotId)]).st = .ov ∧ (o.rails[(0 : SlotId)]).awaiting = false ∧
      (o.rails[(0 : SlotId)]).cmpA = Cmp.init ∧ (o.rails[(0 : SlotId)]).cmpB = { Cmp.init with ov := true }) := by
  decide +kernel
theorem witness_latchClearAndMargin : let s := railed id .setup
    (takes s 0x2103 4 [1] ∧ (s.rails[(3 : SlotId)]).st = .latched) ∧
    (takes s 0x2100 4 [1] ∧ (s.rails[(0 : SlotId)]).st ≠ .latched) ∧
    (takes s 0x2300 1 (leBytes 2 5) ∧ pv s 0x2320 1 < (5 : U16).toInt.natAbs) ∧
    (takes s 0x2300 1 (leBytes 2 0xFFFC) ∧ (0xFFFC : U16).toInt.natAbs ≤ pv s 0x2320 1 ∧ slotUsed s 0 = true) := by
  unfold takes; decide +kernel
theorem witness_logPoints : let s := powered .setup; let r := powered .run
    let f := withSys (fun y => { y with mainOn := false }) (powered .fault)
    takes s 0x2410 1 [1] ∧ (busFree s = true ∧ s.sys.st = .setup) ∧
    (busFree r = true ∧ r.sys.st ≠ .setup ∧ bootFault r = false) ∧ (busFree f = true ∧ bootFault f = true) ∧
    r.sys.st = .run ∧ s.sys.st ≠ .run ∧ s.flash.jobs = [] ∧ s.supply.aonLow = true ∧
    { s.flash with jobs := [⟨3, .log 1, [], true⟩] }.jobs = [⟨3, .log 1, [], true⟩] := by unfold takes; decide +kernel
def celled (f : Cell → Cell) (st : DevState) : State := let s := powered st; { s with cell := f s.cell }
theorem witness_keeper :
    let s := celled (fun c => { c with estimated := true, phase := .cv }) .run
    let f := celled (fun c => { c with estimated := true, faults := [2] }) .run
    let k : KeeperSense := ⟨5000000, 4000000, 250, 9⟩
    (phaseAllowed s .full k = true ∧ s.cell.phase ≠ .full) ∧ phaseAllowed s .cc k = true ∧ phaseAllowed f .cc k = false ∧
    phaseAllowed s .cc { k with vinUv := 4499999 } = false ∧ phaseAllowed s .cc { k with vinUv := 4500000 } = true ∧
    phaseAllowed s .cc { k with dieTemp := 701 } = false ∧ phaseAllowed s .cc { k with dieTemp := 700 } = true ∧
    phaseAllowed s .suspended { k with dieTemp := 701 } = true ∧
    (s.supply.aon = true ∧ s.cell.connected = true ∧ clockRuns s = true ∧ s.cell.fromFull = none) ∧
    s.cell.estimated = true ∧ (powered .run).cell.estimated = false ∧
    clockRuns (withSupply (fun p => { p with pll := false, xtal := false }) s) = false ∧
    (2499999 : U32).toNat < 2500000 ∧ 2500000 ≤ (2500000 : U32).toNat := by decide +kernel
theorem witness_cellFaults : let s := celled (fun c => { c with phase := .precharge }) .run
    let c := celled (fun c => { c with phase := .cc, chargeUs := 36000000001 }) .run
    let r := celled (fun c => { c with rest := [(0, 1000)], qRem := 666 }) .run
    (Instr.cellAbsent, (1 : Byte), true) ∈ cellFaultRows s ∧ (Instr.cellAbsent, (1 : Byte), false) ∈ cellFaultRows c ∧
    (Instr.overvoltage, (2 : Byte), true) ∈ cellFaultRows s ∧
    (Instr.chargeTimeout, (3 : Byte), false) ∈ cellFaultRows s ∧ (Instr.chargeTimeout, (3 : Byte), true) ∈ cellFaultRows c ∧
    (Instr.selfDischarge, (4 : Byte), false) ∈ cellFaultRows s ∧ (Instr.selfDischarge, (4 : Byte), true) ∈ cellFaultRows r ∧
    (Instr.overCurrent, (5 : Byte), true) ∈ cellFaultRows s ∧ s.sys.st = .run ∧ (powered .hold).sys.st ≠ .run := by
  decide +kernel
theorem witness_switch : let s := celled id .run
    (s.supply.aon = true ∧ s.cell.connected = true ∧ s.cell.faults.contains 5 = false ∧ s.sys.st = .run) ∧
    (powered .setup).sys.st ≠ .run ∧ takes (celled id .setup) 0x2500 0x11 [1] := by unfold takes; decide +kernel

/-! ## Witnesses: option flash -/

def flashed (f : Flash → Flash) (st : DevState) : State := let s := powered st; { s with flash := f s.flash }
def lowAon (s : State) : State := withSupply (fun p => { p with aonLow := true }) s
theorem witness_pageProgram : (flashed (fun f => { f with prog := upd f.prog 1 (fun _ => some ⟨5, 255, [1], 7⟩) }) .run).flash.prog[
    (1 : Fin 2)] = some ⟨5, 255, [1], 7⟩ := by decide +kernel
theorem witness_erases :
    let s := flashed (fun f => { f with erase := some ⟨26, 7, false, 0, false, false⟩ }) .run
    let p := flashed (fun f => { f with erase := some ⟨5, 7, true, 3, true, true⟩ }) .run
    (s.flash.erase = some ⟨26, 7, false, 0, false, false⟩ ∧ ∀ j, jobOf s 7 = some j → j.kind ≠ .keys true) ∧
    (p.flash.erase = some ⟨5, 7, true, 3, true, true⟩ ∧ p.flash.prog[(0 : Fin 2)] = none ∧ p.flash.prog[(1 : Fin 2)] = none ∧
      p.flash.readWait = none) := by
  refine ⟨⟨by decide +kernel, fun j h => ?_⟩, by decide +kernel⟩
  have e : jobOf (flashed (fun f => { f with erase := some ⟨26, 7, false, 0, false, false⟩ }) .run) 7 = none := by decide +kernel
  rw [e] at h; exact absurd h (by simp)
theorem witness_flashQueueTimeout : let s := flashed (fun f => { f with jobs := [⟨4, .raw, [], false⟩, ⟨5, .raw, [], true⟩,
      ⟨6, .keys true, [], false⟩] }) .run;
    jobOf s 4 = some ⟨4, .raw, [], false⟩ ∧ jobOf s 5 = some ⟨5, .raw, [], true⟩ ∧
    jobOf s 6 = some ⟨6, .keys true, [], false⟩ := by decide +kernel
theorem witness_commits : let s := powered .setup; let d := flashed (fun f => { f with dirtySince := true }) .run
    let c := flashed (fun f => { f with jobs := [⟨5, .commit, [], true⟩], commitRuns := true }) .run
    (takes s 0x4030 1 [1] ∧ s.flash.commitRuns = false ∧ inSRF s = true ∧ ∀ j ∈ s.flash.jobs, j.kind ≠ .commit) ∧
    (takes c 0x4030 1 [1] ∧ c.flash.commitRuns = true) ∧ s.flash.dirtySince = false ∧
    (d.flash.dirtySince = true ∧ d.flash.commitRuns = false ∧ inSRF d = true ∧ ∀ j ∈ d.flash.jobs, j.kind ≠ .commit) ∧
    (c.flash.jobs = [⟨5, .commit, [], true⟩] ∧ c.flash.commitHeld = false) ∧ s.flash.jobs = [] := by
  unfold takes; decide +kernel
def oneCopy : State := withSys (fun y => { y with optCopy := 0 })
  (flashed (fun f => { f with pages := f.pages.filter fun p => p.1 ≠ 256 }) .run)
theorem witness_repair : let s := oneCopy
    (inSRF s = true ∧ bootFault s = false ∧ s.flash.jobs = [] ∧ repairDue s = some 1) ∧ inSRF (powered .hold) = false ∧
    repairDue (powered .run) = none := by decide +kernel
theorem witness_rawReads : let s := flashed (fun f => { f with rawAddr := 0x1F0000 }) .run
    let k := flashed (fun f => { f with rawAddr := 0x1A0000 }) .run
    (busFree s = true ∧ readChecks (touch s) .bus 0x4020 2 true = .done ∧ inSRF s = true ∧
      rawReadAllowed (rawSector s) = .done ∧ s.flash.erase = none ∧ (∀ b : Fin 2, s.flash.prog[b] = none) ∧
      (s.flash.sectors[sectorFin (rawSector s)]).unerased = none) ∧ rawReadAllowed (rawSector k) ≠ .done := by decide +kernel
theorem witness_rawWrites : let s := lowAon (flashed (fun f => { f with rawAddr := 0x0C0100 }) .run)
    let k := lowAon (flashed (fun f => { f with rawAddr := 0x1A0000 }) .run)
    (inSRF s = true ∧ s.supply.aonLow = true ∧ opens s 0x4020 2 ∧ 256 ≤ rawLeft s ∧ s.flash.rawAddr.toNat % 256 = 0 ∧
      rawWriteAllowed s (rawSector s) = .done) ∧ (opens k 0x4020 2 ∧ rawWriteAllowed k (rawSector k) ≠ .done) ∧
    (takes s 0x4020 3 [15] ∧ rawWriteAllowed s 15 = .done) ∧ (takes s 0x4020 3 [31] ∧ rawWriteAllowed s 31 ≠ .done) := by
  unfold opens takes; decide +kernel
theorem witness_segments : let s := lowAon (powered .setup)
    s.supply.aonLow = true ∧ opens s 0x2200 1 ∧ opens s 0xA030 1 := by unfold opens; decide +kernel

/-! ## Witnesses: Safelight -/

def rankA : RankId := ⟨0, 1, 0⟩
def idle (f : RankModel → RankModel) (st : DevState) : State :=
  withLight (fun l => { l with ranks := updAll l.ranks (fun _ m => f { m with st := .idle, rows := [(3, 77)] }) }) (powered st)
theorem witness_decodes : let s := idle id .run
    decodes s rankA (rowInside s 16384) ∧ decodes s rankA (rowInside s 0) ∧ decodes s rankA true ∧
    (s.light.subs[subIx 0 1]).veiled = false ∧ aget (s.light.ranks[rankIx rankA]).rows 4 = none ∧
    aget (s.light.ranks[rankIx rankA]).rows 3 = some 77 ∧ groupOf (frameOf (rankIx rankA) 3 77) ≠ 0 ∧
    (let r := idle (fun m => { m with st := .sr, rows := [] }) .run; decodes r rankA true ∧
      (r.light.ranks[rankIx rankA]).st = .sr) ∧
    (let r := idle (fun m => { m with st := .pd, rows := [] }) .run; decodes r rankA true ∧
      (r.light.ranks[rankIx rankA]).st ≠ .sr ∧ (r.light.ranks[rankIx rankA]).st ≠ .srpd) ∧
    (decodes (idle (fun m => { m with st := .srpd, rows := [] }) .run) rankA true) := by unfold decodes; decide +kernel
theorem witness_undecodedWrites :
    let o := withLight (fun l => { l with on := false }) (idle id .run)
    let v := withLight (fun l => { l with subs := updAll l.subs (fun _ x => { x with relock := true }) }) (idle id .run)
    (reaches o rankA true = true ∧ aget (o.light.ranks[rankIx rankA]).rows 3 = some 77 ∧ meets o rankA true = .off) ∧
    (reaches v rankA true = true ∧ aget (v.light.ranks[rankIx rankA]).rows 3 = some 77 ∧ meets v rankA true = .veil 4 ∧
      (v.light.subs[subIx 0 1]).veiled = false) ∧
    reaches (withSupply (fun p => { p with vinOk := false }) (withLight (fun l => { l with ctrl := famAll 2 true }) o)) rankA
      true = false := by decide +kernel
def relocking : State :=
  withLight (fun l => { l with subs := updAll l.subs (fun _ x => { x with relock := true }) }) (powered .run)
theorem witness_relock : let s := relocking
    let v := withLight (fun l => { l with
      subs := updAll l.subs (fun _ x => { x with veiled := true }),
      ranks := updAll l.ranks (fun _ m => { m with settled := true }) }) s
    ((s.light.subs[subIx 0 1]).relock = true ∧ (s.light.subs[subIx 0 1]).veiled = false) ∧
    ((v.light.subs[subIx 0 1]).relock = true ∧ (v.light.subs[subIx 0 1]).veiled = true ∧
      (v.light.subs[subIx 0 1]).training = false ∧
      ∀ k ∈ ranksOfSub v (subIx 0 1), (v.light.ranks[k]).settled = true) ∧
    ((powered .run).light.subs[subIx 0 1]).relock = false ∧ blind v = true ∧ decodes (idle id .run) rankA true ∧
    ((idle id .run).light.subs[subOfRank (rankIx rankA)]).veiled = false := by unfold decodes; decide +kernel
theorem witness_modeRegister : let s := powered .run; let m := s.light.ranks[rankIx rankA]
    violates s m 13 (.fspOp 2) = true ∧ violates s m 13 (.fspOp 1) = false := by decide +kernel
theorem witness_notDecoded : let s := withLight (fun l => { l with ctrl := famAll 2 true }) (powered .expose)
    let o := withLight (fun l => { l with on := false }) (powered .run)
    Instr.hostRead rankA ∈ rankCommands rankA ∧ (meets s rankA true = .held ∧ s.light.heldSeen = false) ∧
    (withLight (fun l => { l with heldSeen := true }) s).light.heldSeen = true ∧
    meets o rankA true = .off ∧ (meets (withLight (fun l => { l with on := false }) s) rankA true = .off ∧
      reaches (withLight (fun l => { l with on := false }) s) rankA true = false) := by decide +kernel
theorem witness_resetOfASide : let s := powered .run
    lightSees s 1 = true ∧ (∀ k : Fin 8, (s.light.subs[k]).veiled = false) ∧ (∀ r : Fin 16, (s.light.ranks[r]).st ≠ .unknown) ∧
    (rankThere s 8 = true ∧ sideOfRank 8 = 1) ∧ sideOfRank 0 ≠ 1 ∧ (Fin.ofNat 2 (5 / 2 ^ 24) ≠ 1 ∧ 5 < 2 ^ 25) := by
  decide +kernel
theorem witness_veils : let s := powered .run
    let v := withLight (fun l => { l with subs := updAll l.subs (fun _ x => { x with veiled := true }) }) s
    (lightSees s 0 = true ∧ (s.light.subs[subIx 0 3]).veiled = false ∧ (5 : Fin 6) ≠ 0) ∧
    (v.sys.st = .run ∧ (v.light.subs[subIx 0 3]).veiled = true) ∧ (powered .setup).sys.st ≠ .run := by decide +kernel
theorem witness_heatEpoch : let s := withLight (fun l => { l with heat := [(5, 3)] }) (powered .run)
    s.light.on = true ∧ s.sys.mainOn = true ∧ rising s.light.heat = true := by decide +kernel

/-! ## Witnesses: handover, Exposure, Development -/

def expo (p : ExpPhase) (target : Byte) : Expo := ⟨p, target, 3, false, false, false, false, 7, [], [], 0, 0, 0⟩
def exposing (p : ExpPhase) (target : Byte) (st : DevState) : State :=
  withNeg (fun n => { n with exp := some (expo p target) }) (withChain (powered st))
theorem witness_voluntaryTakeover :
    let s := withLight (fun l => { l with quiet := true }) (parked (exposing .park 1 .expose));
    (s.neg.exp = some (expo .park 1) ∧ s.neg.dev = none ∧ (expo .park 1).phase = .park ∧ (expo .park 1).target ≠ 2 ∧
      (expo .park 1).kept = false ∧ s.light.quiet = true ∧ allParked s = true ∧ nextGen s < 2 ^ 32 - 1) ∧
    ((powered .run).neg.exp = none ∧ (powered .run).neg.dev = none ∧ allParked (powered .run) = false) := by decide +kernel
theorem witness_forcedTakeover : let s := withLight (fun l => { l with fence := some 5 }) (exposing .fence 1 .expose)
    (s.sys.st = .expose ∧ s.neg.exp = some (expo .fence 1) ∧ s.neg.dev = none ∧ s.light.fence = some 5 ∧
      (expo .fence 1).target ≠ 2 ∧ (expo .fence 1).kept = false ∧ nextGen s < 2 ^ 32 - 1 ∧ blindSince s = none) ∧ (powered .run).light.fence = none := by decide +kernel
theorem witness_parkTimeout : (exposing .park 1 .expose).neg.exp = some (expo .park 1) ∧ (expo .park 1).phase = .park ∧
    (expo .fence 1).phase ≠ .park := by decide +kernel
theorem witness_slotTraining : let s := exposing .training 0 .expose
    let f := withLight (fun l => { l with trainFails := 1 }) s
    (s.neg.exp = some (expo .training 0) ∧ s.neg.dev = none ∧ (expo .training 0).phase = .training ∧ pllRuns s = true ∧ s.light.trainFails = 0) ∧
    f.light.trainFails = 1 ∧ (expo .writing 0).phase ≠ .training := by decide +kernel
/-- An Exposure about to write its commit record, in a module that counts no rank; with room for it, or with none. -/
def written : Gen := { gen 7 false false with parent := some 3 }
def writing (room : Bool) : State :=
  let s := withObjects [(0x9000, 2, 0)] (withNeg (fun n => { n with gens := written :: n.gens }) (exposing .writing 0 .expose))
  if room then { s with nand := { s.nand with chans := updAll s.nand.chans fun _ ch => { ch with
    anchor := [1, 2], blocks := [(1, ⟨3, false, false, 0, false, 0, 0⟩), (2, ⟨3, false, false, 0, false, 0, 0⟩),
      (8, ⟨1, false, false, 0, false, 0, 7⟩)] } } }
  else s
theorem witness_commitRecord :
    let s := writing true; let f := writing false; let e := expo .writing 0
    (s.neg.exp = some e ∧ e.phase = .writing ∧ pllRuns s = true ∧ s.nand.blank = false ∧ genOf s e.gen = some written ∧
      e.gen < 2 ^ 32 ∧ (writtenGeneration written e s).isSome = true ∧ e.target = 0 ∧ e.powerFail = false) ∧
    (f.neg.exp = some e ∧ pllRuns f = true ∧ f.nand.blank = false ∧ genOf f e.gen = some written ∧
      (writtenGeneration written e f).isNone = true) ∧
    (expo .park 0).phase ≠ .writing ∧ (withSupply (fun p => { p with pll := false }) s).supply.pll = false ∧
    State.reset.nand.blank = true := by decide +kernel
theorem witness_busReturn :
    let s := withLight (fun l => { l with ctrl := famAll 2 true, returning := upd l.returning 0 (fun _ => true) })
      (exposing .returning 0 .expose);
    let b := withLight (fun l => { l with returning := famAll 2 true }) s
    (s.light.returning[(0 : Fin 2)] && s.light.ctrl[(0 : Fin 2)]) = true ∧
    (s.light.returning[(1 : Fin 2)] && s.light.ctrl[(1 : Fin 2)]) = false ∧
    (s.neg.exp = some (expo .returning 0) ∧ (expo .returning 0).phase = .returning ∧
      (∀ k : Fin 2, k ≠ 0 → s.light.returning[k] = false) ∧ s.cell.owed = false ∧ (deadChans s).length < 2) ∧
    b.light.returning[(1 : Fin 2)] = true := by decide +kernel
theorem witness_tierSaveEnds : (withSys (fun y => { y with leaving := some (.dark 5, .save) }) (powered .setup)).sys.leaving =
    some (.dark 5, .save) ∧ (powered .run).sys.leaving = none := by decide +kernel
theorem witness_criticalDisable :
    let s := withSys (fun y => { y with leaving := some (.hold, .disable) }) (railed id .expose)
    let t := withObjects [(0x2000, 0xB, 1)] s
    (s.sys.leaving = some (.hold, .disable) ∧ highestCritical s = some 2 ∧
      (∀ m : SlotId, m ≠ 2 → (critical s m && (s.rails[m]).en) = false)) ∧
    (highestCritical t = some 2 ∧ critical t 0 = true ∧ (t.rails[(0 : SlotId)]).en = true) ∧
    (powered .run).sys.leaving = none := by decide +kernel
/-- A committed base without frames, whose extent list is page 0 of block 8; a consolidation of it. -/
def whole : Gen := { gen 3 true false with commit := some { commitOf 3 with extPages := 1, ext0 := 32768, ext1 := 32768 } }
def consHeader : Gen := { gen 4 true false with consolidation := true }
/-- Generations in a module that counts no rank; the Negative region of every channel is block 32767, off the anchor LUN. -/
def consoled (gs : List Gen) (readable : Bool) : State :=
  let s := withObjects [(0x9000, 2, 0)] (withNeg (fun n => { n with gens := gs }) (powered .run))
  { s with nand := { s.nand with chans := updAll s.nand.chans fun c ch => { ch with
    anchor := [1, 2], region := [32767], pages := if readable && c = 0 then [(32768, ⟨[], false⟩)] else [],
    blocks := [(1, ⟨3, false, false, 0, false, 0, 0⟩), (2, ⟨3, false, false, 0, false, 0, 0⟩),
      (8, ⟨1, false, false, 0, false, 1, 3⟩), (9, ⟨1, false, false, 0, false, 0, 4⟩),
      (32767, ⟨0, false, false, 0, false, 0, 0⟩)] } } }
def developing (p : DevPhase) : State := withNeg (fun n => { n with dev := some ⟨p, false, 0⟩ }) (withChain (powered .develop))
theorem witness_development :
    let m := consoled [whole] true; let r := developing .returned
    let d := withNeg (fun n => { n with dev := some ⟨.maps, false, 0⟩ }) m
    ((developing .maps).neg.dev = some ⟨.maps, false, 0⟩ ∧ pllRuns (developing .maps) = true ∧
      chainReadable (developing .maps) = false) ∧
    (d.neg.dev = some ⟨.maps, false, 0⟩ ∧ pllRuns d = true ∧ chainReadable d = true ∧ (deadChans d).length < 2) ∧
    ((developing .writing).neg.dev = some ⟨.writing, false, 0⟩ ∧ pllRuns (developing .writing) = true) ∧
    (⟨.writing, true, 0⟩ : Devel).partialWake = true ∧
    (r.neg.dev = some ⟨.returned, false, 0⟩ ∧ newestC r = some (gen 3 false true) ∧ r.cell.owed = false ∧
      (deadChans r).length < 2 ∧ nextGen r < 2 ^ 32 - 1) := by decide +kernel
theorem witness_acceptStale :
    let s := withNeg (fun n => { n with status := 2, gens := [gen 5 false false, gen 3 true true] }) (powered .setup)
    (takes s 0x3020 2 (leBytes 4 3) ∧ staleValue s = 3 ∧ newestH s = some (gen 5 false false)) ∧
    (takes s 0x3020 2 (leBytes 4 4) ∧ (4 : U32) ≠ staleValue s) := by unfold takes; decide +kernel
theorem lunOf_last : lunOf 32767 ≠ 0 := by
  have h : ∀ b : Fin 15, (Fin.ofNat 16 (0 + 32767 / 2 ^ b.val) : Fin 16) ≠ 0 := by decide +kernel
  simpa [lunOf] using h Config.blockBits
/-- A base of nothing fits one free pSLC block off the anchor LUN of each channel, whatever the fitted NAND. -/
theorem consFits_base (s : State) (h : ∀ c : ChanId, (s.nand.chans[c]).region = [32767])
    (f : ∀ c : ChanId, freeBlock s.nand.chans[c] c 32767 = true) (w : frameCount s = 0) (k : s.nand.width = 7)
    (l : (liveChans s).isEmpty = false) : consFits s 0 = true := by
  have p : pagesFor s.nand.width.toNat 0 0 (frameCount s / 256) ≤ pagesIn 1 := by
    have z : Config.pslcPages.val / (Config.pslcPages.val + 1) = 0 := Nat.div_eq_of_lt (Nat.lt_succ_self _)
    rw [w, k]; simp [pagesFor, stripesFor, pagesIn, ceilDiv, z]
  have q : ∀ c : ChanId, ((consBlocks s.nand.chans[c]).filter (freeBlock s.nand.chans[c] c)).length = 1 := fun c => by
    rw [consBlocks, h c]; simp [lunOf_last, -Fin.getElem_fin, f c]
  simp only [consFits, l, q, Bool.not_false, Bool.true_and, Nat.mul_one, List.all_eq_true]
  exact fun _ _ => decide_eq_true p
theorem witness_consolidationStarts : let s := consoled [whole] true
    (takes s 0x3010 8 [1] ∧ s.neg.consWanted = false ∧ newestC s = some whole ∧ s.neg.cons = none ∧ s.sys.st = .run ∧
      chainReadable s = true ∧ nextGen s < 2 ^ 32 - 1) ∧ consFits s (consData s whole).entries.length = true ∧
    newestC (powered .run) = none := by
  have e : (consData (consoled [whole] true) whole).entries.length = 0 := by decide +kernel
  have f : consFits (consoled [whole] true) 0 = true :=
    consFits_base _ (by decide +kernel) (by decide +kernel) (by decide +kernel) (by decide +kernel) (by decide +kernel)
  refine ⟨by unfold takes; decide +kernel, by rw [e]; exact f, by decide +kernel⟩
theorem witness_consolidationCommits :
    let s := withNeg (fun n => { n with cons := some 4 }) (consoled [consHeader, whole] true)
    let u := withNeg (fun n => { n with cons := some 4 }) (consoled [consHeader, whole] false)
    let f := { s with nand := { s.nand with chans := updAll s.nand.chans fun _ ch => { ch with blocks := [], region := [] } } }
    (s.neg.cons = some 4 ∧ pllRuns s = true ∧ (∀ c : ChanId, heldBack s.nand.chans[c] 6 = false) ∧
      genOf s 4 = some consHeader ∧ newestC s = some whole ∧ chainReadable s = true ∧ (4 : Nat) < 2 ^ 32 ∧ whole.gen < 2 ^ 32 ∧
      (writtenCons consHeader whole (consRecord s consHeader whole) s).isSome = true) ∧
    (u.neg.cons = some 4 ∧ pllRuns u = true ∧ (∀ c : ChanId, heldBack u.nand.chans[c] 6 = false) ∧ chainReadable u = false) ∧
    (f.neg.cons = some 4 ∧ pllRuns f = true ∧ (∀ c : ChanId, heldBack f.nand.chans[c] 6 = false) ∧
      genOf f 4 = some consHeader ∧ newestC f = some whole ∧
      (writtenCons consHeader whole (consRecord f consHeader whole) f).isNone = true) ∧
    (powered .run).neg.cons = none ∧ pllRuns State.reset = false := by decide +kernel
theorem witness_geometryAndSlot : let s := powered .setup; let w := withObjects [(0x9000, 3, 17)] s
    let o := withLight (fun l => { l with ranks := updAll l.ranks (fun _ m => { m with fspOp := 1 }) }) s
    (takes w 0x9000 1 [1] ∧ geometryOk w 1 1 = true ∧ (1 : Byte).toNat ≠ pv w 0x9000 1) ∧
    (takes s 0x9000 3 [17] ∧ geometryOk s 3 17 = true) ∧ (takes s 0x9000 1 [3] ∧ geometryOk s 1 3 = true ∧ (3 : Byte).toNat = pv s 0x9000 1) ∧
    (takes s 0x9030 1 [1] ∧ slotOperates s 1 = false) ∧ (takes o 0x9030 1 [1] ∧ slotOperates o 1 = true) := by
  unfold takes; decide +kernel

/-! ## Witnesses: NAND and tiers -/

def channelled (f : Channel → Channel) (s : State) : State := { s with nand := { s.nand with chans := upd s.nand.chans 3 f } }
def tiered (f : Tiers → Tiers) (s : State) : State := { s with tiers := f s.tiers }
def block (use : Fin 4) (next owner : Nat) : NandBlock := ⟨use, false, false, 5, false, next, owner⟩
theorem witness_nandBlocks :
    let s := channelled (fun x => { x with
      blocks := [(76, block 0 3 0), (77, block 1 3 2)], erases := [(2, ⟨78, false, 0, 15, false, false⟩)] }) (powered .run)
    works s 3 ∧ (77 : Nat) ∉ (s.nand.chans[(3 : ChanId)]).tables ∧ noProgramIn s 3 77 ∧
    (blockAt s.nand.chans[(3 : ChanId)] 3 77).use ≠ 0 ∧ (blockAt s.nand.chans[(3 : ChanId)] 3 76).use = 0 ∧
    eraseRuns s.nand.chans[(3 : ChanId)] 78 = true ∧ rising (s.nand.chans[(3 : ChanId)]).blocks = true ∧
    eraseRuns s.nand.chans[(3 : ChanId)] 77 = false := by
  refine ⟨by unfold works; decide +kernel, by decide +kernel, ?_, by decide +kernel⟩
  intro p hp; exact absurd (show p ∈ ([] : List (Nat × Tile)) from hp) List.not_mem_nil
theorem witness_nandSchedule :
    let e : NandErase := ⟨77, false, 0, 15, false, false⟩; let h : NandErase := ⟨77, false, 0, 15, true, true⟩
    let n : NandErase := ⟨77, false, 0, 15, true, false⟩; let w : NandErase := ⟨77, true, 8, 16, false, false⟩
    let a : NandOp := ⟨9, 3, 5, false, true, 0, false⟩; let b : NandOp := ⟨8, 5, 2, false, false, 0, false⟩
    let g : NandOp := ⟨10, 7, 3, false, false, 0, false⟩
    let s := channelled (fun x => { x with queue := [a, b, g], erases := [(2, e), (3, h), (4, n), (5, w), (6, { w with programs := 0 })] })
      (powered .run)
    works s 3 ∧
    ((s.nand.chans[(3 : ChanId)]).queue.find? (fun q => decide (q.id = 8)) = some b ∧ b.id ≠ opPatrol ∧ 5 ≤ b.cls ∧
      b.started = false ∧ aget (s.nand.chans[(3 : ChanId)]).erases 2 = some e ∧ e.suspended = false ∧ e.suspensions < 16 ∧
      e.holdoff = false) ∧
    ((s.nand.chans[(3 : ChanId)]).queue.find? (fun q => decide (q.id = 10)) = some g ∧
      aget (s.nand.chans[(3 : ChanId)]).erases 3 = some h ∧ h.holdoff = true ∧ h.wanted = true) ∧
    (aget (s.nand.chans[(3 : ChanId)]).erases 4 = some n ∧ n.holdoff = true ∧ n.wanted = false) ∧
    (aget (s.nand.chans[(3 : ChanId)]).erases 5 = some w ∧ w.suspended = true ∧ 8 ≤ w.programs ∧
      lunBusy s.nand.chans[(3 : ChanId)] 5 = false ∧ urgentWaits s.nand.chans[(3 : ChanId)] 5 = true) ∧
    (aget (s.nand.chans[(3 : ChanId)]).erases 6 = some { w with programs := 0 } ∧
      lunBusy s.nand.chans[(3 : ChanId)] 6 = false ∧ urgentWaits s.nand.chans[(3 : ChanId)] 6 = false) := by
  unfold works; decide +kernel
/-- Page 0 of block 8 of channel 3, an anchor block, is programmed. -/
def paged (st : DevState) : State :=
  channelled (fun x => { x with anchor := [8, 9], pages := [(32768, ⟨[], false⟩)] }) (powered st)
theorem witness_patrolQueued : (paged .run).sys.st = .run ∧ patrolNext (paged .run) 3 = some 32768 := by decide +kernel
theorem witness_channelsDie : let s := powered .run; let d := channelled (fun x => { x with state := 2 }) s
    let b := withSys (fun y => { y with selfTest := 0x800 }) s
    (works s 3 ∧ deadCause s 3 3 = true ∧ deadChans s = [] ∧ s.sys.st = .run) ∧ deadCause s 3 1 = false ∧ deadCause s 3 0 = false ∧
    (works b 3 ∧ deadCause b 3 1 = true) ∧ deadCause s 3 4 = false ∧
    deadCause (channelled (fun x => { x with region := [76], blocks := [(76, block 1 3 2)] }) s) 3 4 = true ∧
    (works d 5 ∧ deadCause d 5 2 = true ∧ (3 : ChanId) ≠ 5 ∧ chanDead d 3 = true ∧ d.sys.st = .run) ∧
    (busFree (powered .setup) = true ∧ (powered .setup).sys.st = .setup) := by unfold works; decide +kernel
def inFilm : Tile := { Tile.none with f := some ⟨[(0, 0)], 4096, 0, true, none⟩ }
/-- A tier F stripe with one unit, its page in block 9 of channel 3; its parity, if any, in block 9 of channel 4. -/
def striped (parity : Bool) (ended : Bool) : State :=
  let p : Assoc NandPage := [(36864, ⟨[1], false⟩)]
  let s := tiered (fun t => { t with tiles := [(tileKey 5 2, { Tile.none with f := some ⟨[(0, 0)], 4096, 0, ended, none⟩ })] })
    (channelled (fun x => { x with pages := p }) (powered .run))
  { s with nand := { s.nand with
    stripes := [(0, ⟨List.finRange 8, [addressOf 3 36864], if parity then some (addressOf 4 36864) else none⟩)],
    chans := upd s.nand.chans 4 (fun x => { x with pages := p }) } }
/-- A read whose codewords all decode with 5 bit errors, and one none of whose codewords decodes. -/
def read5 : UnitRead := ⟨famAll 8 [some 5], []⟩
theorem witness_unitReads : let s := striped false true; let r := striped true true; let a := addressOf 3 36864
    let f : CopyF := ⟨[(0, 0)], 4096, 0, true, none⟩
    works s 3 ∧ (36864 : Nat) < 2 ^ 29 ∧ aget (s.nand.chans[(3 : ChanId)]).pages 7 = none ∧
    (aget (s.nand.chans[(3 : ChanId)]).pages 36864).isSome = true ∧ (worstWord (pv s 0x5000 0xA) read5).isSome = true ∧
    worstWord (pv s 0x5000 0xA) (unread []) = none ∧
    (works r 3 ∧ (aget (r.nand.chans[(3 : ChanId)]).pages 36864).isSome = true ∧
      rebuildable (noteRead a (unread []) r) a = true) ∧ rebuildable (noteRead a (unread [4]) r) a = false ∧
    rebuildable (noteRead a (unread []) s) a = false ∧
    (holdsAt s a = .stripe 0 (some 0) ∧ tileAt s (tileKey 5 2) = { Tile.none with f := some f } ∧ (0, 0) ∈ f.units) :=
  ⟨(by unfold works; decide +kernel), by decide +kernel, by decide +kernel, by decide +kernel, by decide +kernel,
    by decide +kernel, (by unfold works; decide +kernel), by decide +kernel, by decide +kernel, rfl, by decide +kernel,
    by decide +kernel⟩
theorem witness_unitReadInDevelop : let s := paged .develop; let a := addressOf 3 32768
    works s 3 ∧ (aget (s.nand.chans[(3 : ChanId)]).pages 32768).isSome = true ∧ s.sys.st = .develop ∧
    rebuildable (noteRead a (unread []) s) a = false ∧ ∀ i j, holdsAt s a ≠ .stripe i j := by
  have h : holdsAt (paged .develop) (addressOf 3 32768) = .anchor := rfl
  exact ⟨(by unfold works; decide +kernel), by decide +kernel, by decide +kernel, by decide +kernel,
    fun i j => by rw [h]; exact Holds.noConfusion⟩
theorem witness_patrol : let s := paged .run; let r := striped true true; let a := addressOf 3 36864
    let b := { s with nand := { s.nand with reported := [(3, 32768)] } }
    (works s 3 ∧ s.sys.st = .run ∧ patrolNext s 3 = some 32768 ∧ (32768 : Nat) < 2 ^ 29 ∧
      patrolMay s.nand.chans[(3 : ChanId)] (lunOf (32768 / 2 ^ 12)) = true) ∧
    (powered .setup).sys.st ≠ .run ∧ patrolNext (powered .run) 3 = none ∧
    worstWord (pv s 0x5000 0xA) read5 = some 5 ∧ 5 ≤ pv s 0x5020 3 ∧ 60 ≤ pv s 0x5020 3 ∧ pv s 0x5020 3 < 61 ∧
    worstWord (pv s 0x5000 0xA) (unread []) = none ∧
    (works r 3 ∧ patrolNext r 3 = some 36864 ∧ patrolMay r.nand.chans[(3 : ChanId)] (lunOf (36864 / 2 ^ 12)) = true ∧
      rebuildable (noteRead a (unread []) (depart 3 opPatrol r)) a = true) ∧
    rebuildable (noteRead (addressOf 3 32768) (unread []) (depart 3 opPatrol s)) (addressOf 3 32768) = false ∧
    s.nand.reported.contains (3, 32768) = false ∧ b.nand.reported.contains (3, 32768) = true := by
  unfold works; decide +kernel
theorem witness_blankNand : let s := { powered .setup with nand := { (powered .setup).nand with blank := true } }
    buildsBlank s = true ∧ pllRuns s = true := by decide +kernel
def heldDirty : Tile := { Tile.none with f := some ⟨[(0, 0)], 4096, 0, false, none⟩, d := some ⟨[1, 2], [0], 3, false⟩ }
theorem witness_tierFPrograms : let k := tileKey 5 2
    let s := tiered (fun t => { t with tiles := [(k, heldDirty)] }) (powered .run)
    let u := tiered (fun t => { t with tiles := [(k, { heldDirty with since := some 4 })] }) (powered .run)
    let w := channelled (fun x => { x with queue := [⟨opProgram k, 5, 2, false, true, 0, false⟩] }) s
    let c := tiered (fun t => { t with tiles := [(k, { heldDirty with d := some ⟨[1, 2], [0], 0, false⟩ })] }) (powered .run)
    let v := tiered (fun t => { t with tiles := [(k, { heldDirty with d := some ⟨[1, 2], [0], 3, true⟩ })] }) (powered .run)
    s.sys.mainOn = true ∧ s.nand.blank = false ∧ pllRuns s = true ∧ s.tiers.saving = false ∧
    ((tileAt s k).f = some ⟨[(0, 0)], 4096, 0, false, none⟩ ∧ opStarted s (opProgram k) = true ∧ (tileAt s k).since = none) ∧
    (tileAt u k).since.isSome = true ∧ opStarted w (opProgram k) = false ∧
    ((tileAt s k).d = some ⟨[1, 2], [0], 3, false⟩ ∧ (3 : U16) ≠ 0 ∧ (inReserve (tileAt s k) && onTheWay (tileAt s k)) = false) ∧
    (tileAt c k).d = some ⟨[1, 2], [0], 0, false⟩ ∧ ((tileAt v k).d = some ⟨[1, 2], [0], 3, true⟩ ∧
      (inReserve (tileAt v k) && onTheWay (tileAt v k)) = true) := by
  decide +kernel

/-- A Stream Table entry of 16 tiles of 4 KiB in u8, its flags given, with its check bytes. -/
def entryOf0 (flags : Byte) : List Byte := [flags, 0, 4, 0] ++ leBytes 4 16 ++ leBytes 2 0xFFFF ++ List.replicate 52 0
def entryOf (flags : Byte) : List Byte := entryOf0 flags ++ leBytes 2 (crc16 (entryOf0 flags)).toNat
def cached (flags : Byte) (s : State) : State := tiered (fun t => { t with cache := [(0x400, entryOf flags)] }) s
def request (op : Byte) (e : Option (List Byte)) : Req :=
  ⟨7, op, 0, 0x400, 2, if op = 2 then 4096 else 64, 0, 0, 0, 9, false, 1, e, 0, false, false, true, none⟩
theorem witness_sealing : let s := cached 0x05 (powered .run)
    let q := tiered (fun t => { t with
      tiles := [(tileKey 0x400 2, { Tile.none with f := some ⟨[(0, 0)], 4096, 0, false, none⟩ })] }) s
    let w := { s with ports := upd s.ports 1 (fun x => { x with active := [request 2 (some (entryOf 1))] }) }
    let d := tiered (fun t => { t with deleting := [(0x400, 7)] }) s
    (s.sys.mainOn = true ∧ eValid (entryNow s 0x400) = true ∧ eSealed (entryNow s 0x400) = true ∧ streamQuiet s 0x400 = true ∧
      noWrites s 0x400 = true ∧ s.tiers.sealed.contains 0x400 = false) ∧ streamQuiet q 0x400 = false ∧ noWrites w 0x400 = false ∧
    ((deletedAt d 0x400).isSome = true ∧ ∀ p : PortId, (d.ports[p]).active = []) ∧ deletedAt s 0x400 = none := by decide +kernel
theorem witness_tileHeat : (powered .run).sys.mainOn = true ∧ (powered .run).tiers.ready = true ∧
    (powered .run).tiers.tiles = [] := by decide +kernel
theorem witness_curatorsFail : let s := powered .run
    s.sys.mainOn = true ∧ s.tiers.curators.getLsbD (3 : PortId).val = true ∧ s.tiers.coreOf[(0 : PortId)] ≠ 3 ∧
    s.tiers.curators.getLsbD (0 : Fin 4).val = true := by decide +kernel
theorem witness_tierStateLoads : let s := tiered (fun t => { t with ready := false, tiles := [(7, Tile.none)] }) (powered .run)
    s.sys.mainOn = true ∧ s.tiers.ready = false ∧ s.tiers.cut = none ∧ aget s.tiers.tiles 7 ≠ none := by decide +kernel

/-! ## Witnesses: tile ports -/

/-- Port 1 with its link up and three queues of 16, in a state of RUN, and what is active at it. -/
def ported (f : TilePort → TilePort) (s : State) : State := { s with ports := upd s.ports 1 (fun x =>
  f { x with link := 3, sq0 := ⟨0x1000, 16, 3, 5⟩, sq1 := ⟨0x2000, 16, 0, 0⟩, cq := ⟨0x3000, 16, 2, 2⟩ }) }
def serving (r : Req) (s : State) : State := ported (fun x => { x with enable := true, active := [r] }) s
theorem witness_doorbells : let s := ported id (powered .run)
    (Instr.cqHead 1 15, (4 : Byte), (16 : U16), { s.ports[(1 : PortId)] with cq := ⟨0x3000, 16, 15, 2⟩ }) ∈
      doorbells 1 15 s.ports[(1 : PortId)] ∧ (s.ports[(1 : PortId)]).link = 3 ∧ (15 : U16) < 16 ∧ (16 : U16) ≤ 16 ∧
    (s.ports[(1 : PortId)]).halted = false ∧ (s.ports[(0 : PortId)]).link ≠ 3 := by decide +kernel
theorem witness_portEnable : let x := (ported id (powered .run)).ports[(1 : PortId)]
    (x.link = 3 ∧ x.enable = false ∧ ringOk x.sq0 = true ∧ ringOk x.sq1 = true ∧ ringOk x.cq = true) ∧
    (ringOk ⟨0x1001, 16, 0, 0⟩ && ringOk x.sq1 && ringOk x.cq) = false ∧ ringOk ⟨0x1000, 8, 0, 0⟩ = false ∧
    ringOk ⟨0x1000, 4096, 0, 0⟩ = true ∧ ringOk ⟨0x1000, 8192, 0, 0⟩ = false ∧
    (let y := (serving (request 1 none) (powered .run)).ports[(1 : PortId)]; y.enable = true ∧ y.active ≠ []) ∧
    ({ x with enable := true }).active = [] := by decide +kernel
def descriptor (op : Byte) : List Byte := [op, 0] ++ leBytes 2 7 ++ leBytes 2 0x400 ++ leBytes 2 0 ++ leBytes 4 2 ++ leBytes 4 64 ++
  List.replicate 44 0
def clean : Tile := { Tile.none with s := some ⟨List.replicate 4096 7, 0, false⟩ }
def streamed (flags : Byte) (s : State) : State := tiered (fun t => { t with tiles := [(tileKey 0x400 2, clean)] }) (cached flags s)
theorem witness_descriptors : let s := streamed 1 (ported (fun x => { x with enable := true }) (powered .run))
    let r := reqFrom (descriptor 1) false ((s.ports[(1 : PortId)]).admissions + 1) s.sys.aonTime.toNat; let e := entryOf 1
    (fetching s 1 = true ∧ nextQueue s.ports[(1 : PortId)] = some false ∧ (s.ports[(1 : PortId)]).active.length < 64 ∧
      reqOf s 1 r.tag = none) ∧
    ((reqFrom (descriptor 5) false 1 777).op = 5 ∧ (reqFrom (descriptor 0) false 1 777).op = 0 ∧
      (reqFrom (descriptor 4) false 1 777).op = 4) ∧
    (r.op = 1 ∧ r.flags.getLsbD 0 = false ∧ streamThere s r.stream = true ∧ r.stream / 0x400 = (1 : PortId).val ∧
      s.tiers.torn.contains r.stream = false ∧ s.tiers.cache.find? (fun c => c.1 = r.stream) = some (r.stream, e) ∧
      eValid e = true ∧ entryFormed e = true ∧ eSealed e = false ∧ eDeadline e = 0 ∧ r.tile < eCount e ∧
      r.buffer.toNat % 4 = 0 ∧ r.len ≠ 0 ∧ r.off + r.len ≤ 1024 * eKib e ∧ noCore s = false ∧
      tileWritten (tileAt s (tileKey r.stream r.tile)) = true) ∧
    (s.ports[(1 : PortId)]).halted = false := by decide +kernel

/-- One request of tag 7, with port 1 up, its stream in the Stream Cache and its tile in the tray. -/
def asked (r : Req) (flags : Byte) : State := streamed flags (serving r (powered .run))
theorem witness_requestsServed :
    let r := request 1 (some (entryOf 1)); let w := request 2 (some (entryOf 9)); let b := fun s : State =>
      { s with nand := { s.nand with blank := true } }
    (reqOf (asked r 1) 1 7 = some r ∧ nothingHolds (asked r 1) 1 r ∧ r.op = 1 ∧ r.proof = false ∧
      (tileAt (asked r 1) (tileKey r.stream r.tile)).spoiled = false ∧
      (tileAt (asked r 1) (tileKey r.stream r.tile)).lost = false ∧ (tileAt (asked r 1) (tileKey r.stream r.tile)).s.isSome = true ∧
      opStarted (asked r 1) (opRead (tileKey r.stream r.tile)) = true) ∧
    (reqOf (b (asked w 9)) 1 7 = some w ∧ nothingHolds (b (asked w 9)) 1 w ∧ w.op = 2 ∧ eEncoded (entryOf 9) = false ∧
      eWriteback (entryOf 9) = true ∧ ePin (entryOf 9) ≠ 3 ∧ w.off = 0 ∧ w.len = 1024 * eKib (entryOf 9) ∧
      (b (asked w 9)).nand.blank = true ∧ (tileAt (b (asked w 9)) (tileKey w.stream w.tile)).s.isSome = true ∧
      inReserve (tileAt (b (asked w 9)) (tileKey w.stream w.tile)) = false ∧ savedAlready (b (asked w 9)) = false) ∧
    (let v := withSys (fun y => { y with leaving := some (.hold, .program) }) (asked w 9);
      reqOf v 1 7 = some w ∧ nothingHolds v 1 w ∧ savedAlready v = true) ∧
    (reqOf (asked (request 3 none) 1) 1 7 = some (request 3 none) ∧ nothingHolds (asked (request 3 none) 1) 1 (request 3 none) ∧
      flushed (asked (request 3 none) 1) 1 (request 3 none) = true ∧ nandFailed (asked (request 3 none) 1) = false) ∧
    (reqOf (asked (request 4 none) 1) 1 7 = some (request 4 none) ∧
      nothingHolds (asked (request 4 none) 1) 1 (request 4 none)) := by
  unfold nothingHolds; decide +kernel
def unflushed : State := tiered (fun t => { t with tiles := [(tileKey 0x400 2, { clean with since := some 0 })] })
  (asked (request 3 none) 1)
theorem witness_flushWaits : reqOf unflushed 1 7 = some (request 3 none) ∧ nothingHolds unflushed 1 (request 3 none) ∧
    flushed unflushed 1 (request 3 none) = false ∧ nandFailed unflushed = false := by
  unfold nothingHolds; decide +kernel

def ended : Req := { request 1 (some (entryOf 1)) with ended := some ⟨0, 64, 0, false⟩ }
def draining : Req := { request 2 (some (entryOf 1)) with ended := some ⟨0, 4096, 0, false⟩, tag := 8, order := 0 }
def reserved : Tile := { clean with s := some ⟨List.replicate 4096 7, 3, true⟩ }
def returned : Tile := { clean with s := some ⟨List.replicate 4096 7, 0, true⟩, f := some ⟨[(0, 0)], 4096, 0, true, none⟩ }
def activeAt (rs : List Req) (x : Tile) : State :=
  tiered (fun t => { t with tiles := [(tileKey 0x400 2, x)] })
    { asked ended 1 with ports := upd (asked ended 1).ports 1 (fun y => { y with active := rs }) }
theorem witness_completions : let s := asked ended 1
    let f := { s with ports := upd s.ports 1 (fun x => { x with cq := ⟨0x3000, 16, 0, 15⟩ }) }
    let d := activeAt [draining, { ended with stream := 0x401 }] reserved
    let n : Req := { request 4 none with ended := some ⟨0, 0, 0, false⟩ }
    ((s.ports[(1 : PortId)]).active.find? (mayComplete s) = some ended ∧ ended.ended = some ⟨0, 64, 0, false⟩ ∧
      (s.ports[(1 : PortId)]).link = 3 ∧ cqFree s.ports[(1 : PortId)] = true ∧ (8 : U16) ≠ ended.tag ∧
      deletedAt s ended.stream = none ∧ namesTile ended = true ∧ missed s ended ⟨0, 64, 0, false⟩ = false) ∧
    ((f.ports[(1 : PortId)]).active.find? (mayComplete f) = some ended ∧ (f.ports[(1 : PortId)]).link = 3 ∧
      cqFree f.ports[(1 : PortId)] = false) ∧
    ((d.ports[(1 : PortId)]).active.find? (mayComplete d) = some { ended with stream := 0x401 } ∧
      (d.ports[(1 : PortId)]).link = 3 ∧ drains d draining ⟨0, 4096, 0, false⟩ = true) ∧
    (((asked n 1).ports[(1 : PortId)]).active.find? (mayComplete (asked n 1)) = some n ∧ namesTile n = false) := by
  decide +kernel

/-- The reserve's copy goes back (R354) once no active request names the tile. -/
theorem test_reserve_goes_back :
    (tileAt (returnReserve (tileKey 0x400 2) (activeAt [] returned)) (tileKey 0x400 2)).s.isNone = true ∧
    (tileAt (returnReserve (tileKey 0x400 2) (activeAt [ended] returned)) (tileKey 0x400 2)).s.isSome = true := by
  decide +kernel

/-- Entries of 16 tiles of 64 KiB in u8 with a proof stream, and of that proof stream. -/
def entryMain : List Byte := [0x11, 0, 64, 0] ++ leBytes 4 8 ++ leBytes 2 0x401 ++ List.replicate 54 0
def entryProof0 : List Byte := [0x25, 0, 4, 0] ++ leBytes 4 8 ++ leBytes 2 0xFFFF ++ List.replicate 52 0
def entryProof : List Byte := entryProof0 ++ leBytes 2 (crc16 entryProof0).toNat
def hurried : Req := { request 1 (some entryMain) with deadline := 10 }
def proofs (r : Req) : State := tiered (fun t => { t with
  cache := [(0x400, entryMain), (0x401, entryProof)], tiles := [(tileKey 0x400 2, inFilm), (tileKey 0x401 2, clean)] })
  (serving r (powered .run))
theorem witness_proofSwitch :
    (reqOf (proofs hurried) 1 7 = some hurried ∧ hurried.entry = some entryMain ∧ hurried.op = 1 ∧ hurried.ended = none ∧
      hurried.sent = false ∧ hurried.proof = false ∧ hurried.deadline ≠ 0 ∧
      mayProve (proofs hurried) hurried.stream (hurried.flags.getLsbD 1) entryMain = true ∧
      proofBetter (proofs hurried) hurried.stream hurried.tile (min hurried.deadline (pv (proofs hurried) 0x6050 2)) entryMain =
        true) ∧
    (reqOf (proofs (request 1 (some entryMain))) 1 7 = some (request 1 (some entryMain)) ∧
      (request 1 (some entryMain)).deadline = 0) := by decide +kernel
theorem witness_invalidations : let s := ported id (powered .run)
    let i := ported (fun x => { x with inval := some 0x400 }) (tiered (fun t => { t with invalBus := some 0x400 }) (powered .run))
    (s.sys.mainOn = true ∧ busFree s = true ∧ s.sys.st = .run ∧ s.tiers.invalBus = none ∧ small s = false ∧
      (0xFFF : U16).toNat < 0x1000 ∧ 0x1000 ≤ (0x1000 : U16).toNat ∧ (0x1000 : U16) ≠ 0xFFFF) ∧
    ((s.ports[(1 : PortId)]).link = 3 ∧ (s.ports[(1 : PortId)]).inval = none ∧ (0x400 : U16).toNat / 0x400 = (1 : PortId).val ∧
      (0x7FF : U16).toNat / 0x400 = (1 : PortId).val ∧ (0x800 : U16) ≠ 0xFFFF ∧ (0x800 : U16).toNat / 0x400 ≠ (1 : PortId).val ∧
      (0x3FF : U16).toNat / 0x400 ≠ (1 : PortId).val) ∧
    (i.tiers.invalBus = some 0x400 ∧ (i.ports[(1 : PortId)]).inval = some 0x400 ∧ (0x400 : Nat) ≠ 0xFFFF) := by decide +kernel
theorem witness_bar2Access : let s := ported id (powered .run); let v := tiered (fun t => { t with saving := true }) s
    ((s.ports[(1 : PortId)]).link = 3 ∧ s.tiers.saving = false ∧ withinEntry 68 4 = true ∧ withinEntry 124 4 = true ∧
      withinEntry 126 4 = false) ∧ ((v.ports[(1 : PortId)]).link = 3 ∧ v.tiers.saving = true) := by decide +kernel
theorem witness_linksAndResets : let s := ported id (powered .run); let d := ported (fun x => { x with link := 1 }) (powered .run)
    (d.sys.mainOn = true ∧ portThere d 1 = true ∧ (d.ports[(1 : PortId)]).link = 1) ∧
    (s.sys.mainOn = true ∧ portThere s 1 = true ∧ (s.ports[(1 : PortId)]).link = 3) ∧
    (let a := activeAt [ended] returned; (a.sys.mainOn = true ∧ portThere a 1 = true ∧ (a.ports[(1 : PortId)]).link = 3 ∧
      (a.ports[(1 : PortId)]).active = [ended] ∧ namesTile ended = true)) := by decide +kernel
theorem witness_msiXAndErrors : let s := ported id (powered .run)
    (s.ports[(1 : PortId)]).link = 3 ∧ s.sys.mainOn = true ∧ portThere s 1 = true ∧
    (⟨false, false, true, false⟩ : MsixState).enable = false ∧ s.tiers.ready = true ∧
    (tiered (fun t => { t with ready := false }) s).tiers.ready = false := by decide +kernel
theorem witness_objectTunnel :
    let u : Tunnel := ⟨0x140001, 0, 4, false, false, false, 0, [9]⟩; let w : Tunnel := ⟨0x810201, 0, 1, false, false, false, 0, [1, 9]⟩
    let s := ported (fun x => { x with tunnel := w }) (powered .run)
    ((s.ports[(1 : PortId)]).tunnel = w ∧ (s.ports[(1 : PortId)]).link = 3 ∧ w.busy = false ∧ 0 < w.len.toNat ∧
      w.len.toNat ≤ 1024 ∧ s.sys.st = .run ∧ s.sys.mainOn = true ∧ (1 : Byte).toNat ≤ 1 ∧
      w.addr = BitVec.ofNat 32 (0x810101 + 0x100 * (1 : PortId).val) ∧ portThere s 1 = true ∧ w.len = 1 ∧
      w.data.head? = some 1) ∧
    (u.busy = false ∧ 0 < u.len.toNat ∧ u.len.toNat ≤ 1024 ∧ u.addr = 0x140001) ∧
    (({ u with len := 1025 }).busy = false ∧ 1024 < ({ u with len := 1025 }).len.toNat ∧ ({ u with len := 0 }).len = 0) ∧
    ({ u with busy := true }).busy = true := by decide +kernel

/-! ## Witnesses: interrupts, bus, security -/

/-- Sources with their entries of reset, of which some are in a state; the engine of port 1 is linked. -/
def sourced (l : List (Nat × Source)) : State :=
  let s := withSources (List.range 192) (ported id (powered .run))
  { s with irq := { s.irq with src := l.foldl (fun v p => upd v (Fin.ofNat 192 p.1) (fun _ => p.2)) s.irq.src } }
theorem witness_sourceEvents : hears (powered .boot) 30 = false ∧ hears (sourced [(89, ⟨.activePending, 2, false⟩)]) 89 = true := by
  decide +kernel
/-- An entry of 0x8200 of its own. -/
def entered (n v : Nat) (s : State) : State := { s with shadow := aput s.shadow (srcKey n) v }
def fastSources : State := withObjects [(0x8300, 1, 0x80020051), (0x8300, 2, 0x80000005)]
  (sourced [(81, ⟨.pending, 0, false⟩), (5, ⟨.pending, 0, false⟩)])
theorem witness_claimsAtTargets :
    let e := entered 81 0xA05 (sourced [(81, ⟨.pending, 0, false⟩)])
    let h := entered 5 0x805 (sourced [(5, ⟨.pending, 0, false⟩)])
    let d := entered 5 0xD05 (sourced [(5, ⟨.pending, 0, false⟩)])
    ((e.ports[(1 : PortId)]).link = 3 ∧ bestNormal e (targetOfPort 1) 81 ∧ pendingAt fastSources true (targetOfPort 1) = [81] ∧
      pendingAt h false (targetOfPort 1) = []) ∧
    (busFree h = true ∧ h.sys.st = .run ∧ h.sys.mainOn = true ∧ bestNormal h 0 5 ∧ pendingAt fastSources true 0 = [5]) ∧
    (d.sys.mainOn = true ∧ bestNormal d 5 5) := by unfold bestNormal; decide +kernel
theorem witness_completes : let s := sourced [(81, ⟨.active, 2, false⟩), (82, ⟨.activePending, 2, false⟩),
      (5, ⟨.active, 0, false⟩), (6, ⟨.active, 5, false⟩)]
    (s.ports[(1 : PortId)]).link = 3 ∧ s.sys.mainOn = true ∧ busFree s = true ∧ s.sys.st = .run ∧
    ((s.irq.src[(81 : SourceId)]).owner = targetOfPort 1 ∧ (s.irq.src[(81 : SourceId)]).st = .active) ∧
    ((s.irq.src[(82 : SourceId)]).owner = targetOfPort 1 ∧ (s.irq.src[(82 : SourceId)]).st = .activePending ∧
      (route s 82).isSome = true) ∧
    (s.irq.src[(83 : SourceId)]).st = .inactive ∧ (s.irq.src[(81 : SourceId)]).owner ≠ 0 ∧
    ((s.irq.src[(5 : SourceId)]).owner = 0 ∧ (s.irq.src[(5 : SourceId)]).st = .active) ∧
    ((s.irq.src[(6 : SourceId)]).owner = 5 ∧ (s.irq.src[(6 : SourceId)]).st = .active) ∧
    (191 : U16).toNat < 192 ∧ 192 ≤ (192 : U16).toNat := by decide +kernel
def windowed (msix : Bool) : State :=
  let s := entered 81 0xA05 (sourced [(81, ⟨.pending, 0, false⟩)])
  { s with ports := upd s.ports 1 (fun x => { x with msix := ⟨msix, false, false, false⟩ }),
           irq := { s.irq with tgt := upd s.irq.tgt 2 (fun g => { g with windowOpen := true, windowCount := 1 }) } }
theorem witness_deliverySettings :
    ((sourced []).irq.tgt[(2 : TargetId)]).windowOpen = false ∧
    held (windowed false) 2 = true ∧
    (((windowed true).irq.tgt[(2 : TargetId)]).windowOpen = true ∧ held (windowed true) 2 = false ∧
      ((windowed true).irq.tgt[(2 : TargetId)]).outN = false ∧ pendingAt (windowed true) false 2 ≠ []) ∧
    (busFree (sourced []) = true ∧ (sourced []).sys.st = .run ∧ small (sourced []) = false ∧
      optionProtected (sourced []) = false ∧ ((sourced []).ports[(1 : PortId)]).link = 3) ∧
    ((0x30000 : U32).toNat % 256 = 0 ∧ (0x30001 : U32).toNat % 256 ≠ 0 ∧ 1 ≤ (255 : U16).toNat ∧ (255 : U16).toNat ≤ 255) := by
  decide +kernel
theorem witness_sourceSettings : let s := powered .run; let t := withObjects [(0x8300, 5, 0x80020051)] s
    let es := List.replicate 192 (0x108 : U32)
    (busFree s = true ∧ s.sys.st = .run ∧ optionProtected s = false ∧ s.bus.seg = none ∧ es.length = 192 ∧
      sourcesOk s (es.map (·.toNat)) = true) ∧ sourcesOk s ((List.replicate 192 (0x608 : U32)).map (·.toNat)) = false ∧
    (assignInRange (0x80020052 : U32).toNat = true ∧ assignIgnored s (0x80020052 : U32).toNat = false ∧
      assignTaken s ((3 : Fin 16).val + 1) (0x80020052 : U32).toNat = false) ∧
    (busFree t = true ∧ t.sys.st = .run ∧ optionProtected t = false ∧ assignIgnored t (0x80020051 : U32).toNat = false ∧
      assignTaken t ((3 : Fin 16).val + 1) (0x80020051 : U32).toNat = true) := by decide +kernel
theorem witness_ibiRetries : let s := powered .run
    let b := { s with bus := { s.bus with ibi := .nacked, dynAddr := some 0x50, ibiOn := true } }
    s.bus.ibi = .idle ∧ b.bus.ibi = .nacked ∧ b.bus.dynAddr.isSome = true ∧ b.bus.ibiOn = true := by decide +kernel
def i2c (a : BitVec 7) : Xfer := ⟨a, .i2c⟩
def bussed (f : Bus → Bus) (s : State) : State := { s with bus := f s.bus }
theorem witness_framesDiscarded : let s := powered .run; let x := i2c s.bus.staticAddr
    (addressed s (i2c 1) false = false ∧ (bussed (fun b => { b with busy := true }) s).bus.busy = true) ∧
    (addressed s x false = true ∧ s.bus.busy = false) ∧ pecOf x.addr false [1, 0, 0x14, 1] ≠ 0 ∧
    parseFrame [9, 0, 0x14, 1] = none := by decide +kernel
theorem witness_requestFrames : let s := powered .run; let x := i2c s.bus.staticAddr; let g : OpenSeg := ⟨0x8200, 1, 4, [1, 2, 3, 4]⟩
    (addressed s x false = true ∧ s.bus.busy = false ∧ s.sys.st = .run ∧
      readChecks s .bus ((0 : Byte).toNat + 256 * (0x14 : Byte).toNat) (1 : Byte).toNat false = .done ∧
      readChecks s .bus ((0 : Byte).toNat + 256 * (0x81 : Byte).toNat) (1 : Byte).toNat false = .done ∧
      [(0 : Byte), 0x14, 1] ≠ [0x00, 0x81, 5] ∧ [(0 : Byte), 0x81, 1] ≠ [0x00, 0x81, 6] ∧
      [(0 : Byte), 0x14, 1] ≠ [0x20, 0xA0, 1]) ∧
    (writeChecks s .bus ((3 : Byte).toNat + 256 * (0x55 : Byte).toNat) (1 : Byte).toNat [5] = .objectAbsent ∧
      Abort.objectAbsent ≠ .done) ∧
    (s.sys.mainOn = true ∧ 1 ≤ (255 : Byte).toNat ∧ (24 : Byte).toNat ≤ 24) ∧
    (([1, 2, 3] : List Byte).length ≤ 255 ∧ optionProtected s = false ∧ s.bus.seg = none) ∧
    ((bussed (fun b => { b with seg := some g }) s).bus.seg = some g ∧ g.index = 0x8200 ∧ g.sub = 1) := by decide +kernel
theorem witness_responseReads : let s := powered .run; let g : OpenSeg := ⟨0x8200, 1, 4, [1, 2, 3, 4]⟩
    addressed s (i2c s.bus.staticAddr) true = true ∧ addressed s (i2c 1) true = false ∧
    (segOf (bussed (fun b => { b with seg := some g }) s) .bus = some g ∧ writesImage g = false) ∧
    segOf s (.tunnel 2) = none := by decide +kernel
theorem witness_registerWrites : let s := powered .setup; let q := ported id (powered .run)
    let e := ported (fun x => { x with enable := true }) (powered .run)
    (busFree s = true ∧ s.sys.st = .setup ∧ optionProtected s = false) ∧
    (50 ≤ (50 : U16).toNat ∧ (10000 : U16).toNat ≤ 10000 ∧ (49 : U16).toNat < 50 ∧ 10000 < (10001 : U16).toNat) ∧
    ((q.ports[(1 : PortId)]).link = 3 ∧ (q.ports[(1 : PortId)]).enable = false ∧ (0x101 : U32).toNat % 256 ≠ 0) ∧
    ((e.ports[(1 : PortId)]).link = 3 ∧ (e.ports[(1 : PortId)]).enable = true) := by decide +kernel
theorem witness_busCommands : let s := powered .run; let d := bussed (fun b => { b with dynAddr := some 5 }) s
    (busServes s = true ∧ s.sys.st ≠ .hold ∧ s.bus.dynAddr = none) ∧
    (busServes d = true ∧ d.sys.st ≠ .hold ∧ d.bus.dynAddr = some 5 ∧ d.bus.ibi = .idle) := by decide +kernel
def secured (f : Sec → Sec) (s : State) : State := { s with sec := f s.sec }
theorem witness_challenges : let s := powered .run; let l := secured (fun c => { c with locked := true }) s
    (busFree s = true ∧ s.sys.st = .run ∧ s.sec.locked = false ∧ s.sec.session ≠ 2) ∧
    (busFree l = true ∧ l.sys.st = .run ∧ l.sec.locked = true) ∧
    (secured (fun c => { c with session := 2 }) s).sec.session = 2 := by decide +kernel
theorem witness_responses :
    let c := List.replicate 32 (7 : Byte)
    let s := secured (fun x => { x with session := 1, challenge := some c, challengeAt := 700 }) (powered .run)
    (busFree s = true ∧ s.sys.st = .run ∧ s.sec.session = 1 ∧ s.sec.challenge = some c ∧
      s.sys.aonTime.toNat ≤ 10000000 + s.sec.challengeAt ∧
      (hmac s.sec.keys.session (c ++ leBytes 16 s.ident.serial.toNat)).length = 32) ∧
    (responseGood (powered .run) c = false ∧ c.length = 32 ∧ (powered .run).sec.locked = false) := by decide +kernel
theorem witness_sessionEnds : let s := powered .run
    (busFree s = true ∧ s.sys.st = .run ∧ s.sec.session ≠ 2) ∧
    (secured (fun c => { c with session := 2 }) s).sec.session = 2 := by decide +kernel
theorem witness_bindingTokens : let s := powered .setup
    (busFree s = true ∧ s.sys.st = .setup ∧ (List.replicate 32 (7 : Byte)).length = 32 ∧ s.sec.tokenWrites < 8 ∧
      s.sec.keys.verifier = none) ∧ 8 ≤ (secured (fun c => { c with tokenWrites := 8 }) s).sec.tokenWrites := by decide +kernel
/-- The recorded verifier is one that a token gives. -/
theorem witness_rightToken (token : List Byte) :
    let s := secured (fun c => { c with keys := ⟨5, some (verifierOf (powered .setup) 5 token), []⟩ }) (powered .setup)
    s.sec.keys.verifier = some (verifierOf s s.sec.keys.secret token) ∧ s.sec.keys.verifier ≠ none ∧ s.sec.tokenWrites < 8 := by
  intro s; exact ⟨rfl, by simp [s, secured], by show (0 : Nat) < 8; decide⟩
/-- A recorded verifier of another length is that of no token. -/
theorem witness_wrongToken :
    let s := secured (fun c => { c with keys := ⟨5, some [], []⟩ }) (powered .setup); let token := List.replicate 32 (7 : Byte)
    s.sec.keys.verifier = some [] ∧ [] ≠ verifierOf s s.sec.keys.secret token := by
  intro s token; refine ⟨rfl, fun h => ?_⟩; have := congrArg List.length h; revert this; decide +kernel
theorem witness_activateAndSanitize : let s := powered .run; let u := powered .setup
    let o := secured (fun c => { c with session := 2 }) s; let v := secured (fun c => { c with session := 2, update := 3 }) s
    let z := secured (fun c => { c with session := 2 }) u
    (busFree s = true ∧ s.sys.st = .run ∧ s.sec.session ≠ 2) ∧ (o.sec.session = 2 ∧ o.sec.update ≠ 3) ∧
    (v.sec.session = 2 ∧ v.sec.update = 3 ∧ busFree v = true) ∧
    ({ v with flash := { v.flash with commitRuns := true } }).flash.commitRuns = true ∧
    (busFree u = true ∧ u.sys.st = .setup ∧ u.sec.session ≠ 2) ∧
    (z.sec.session = 2 ∧ z.sec.sanitizeState ≠ 1 ∧ (5 : U32) ≠ 0x53414E49) ∧
    ({ z with supply := { z.supply with aonLow := true } }).supply.aonLow = true := by decide +kernel

/-! ## Configuration space (Table 12-1, R382) -/

theorem test_configRetryBeforeLoad : configRead State.reset .classCode = none := by decide +kernel

theorem test_configAfterLoad :
    let s := { State.reset with tiers := { State.reset.tiers with ready := true } }
    configRead s .deviceId = some 0x6480 ∧ configRead s .revisionId = some 0xB0 ∧
    configRead s (.barSize 2) = some 65536 ∧ configRead s (.barSize 1) = some 0 := by decide +kernel

end Sys2Proof.Tests
end

section
/-! PROOF. Power-fail triggers in RUN (chapter *Device States*): what the operations of a trigger do to the fields that the
trigger changes, on top of the lemmas that say what each operation leaves as it was. -/

namespace Sys2Proof.DeviceStates

open Sys2Proof Sys2Proof.Machine Sys2Proof.Claims

/-! ## The keeper's switch at a trigger (R159, R170) -/

/-- A depletion log point changes no more of the cell than the mark that it was made. -/
theorem tenPercent_cell (s : State) : (tenPercent s).cell = { s.cell with low10 := (tenPercent s).cell.low10 } := by
  unfold tenPercent
  split <;> simp

/-- The start or the end of a period of running from the cell leaves the switch, the connection and the faults. -/
@[simp] theorem cellPeriod_cell (s : State) : (cellPeriod s).cell.switchOn = s.cell.switchOn ∧
    (cellPeriod s).cell.connected = s.cell.connected ∧ (cellPeriod s).cell.faults = s.cell.faults := by
  unfold cellPeriod
  split
  · rw [tenPercent_cell]; simp
  · simp

theorem switchClose_closes (s : State) (ha : s.supply.aon = true) (hc : s.cell.connected = true)
    (hf : s.cell.faults.contains 5 = false) : (switchClose s).cell.switchOn = true := by
  rw [switchClose, ha, hc, hf]; simp

/-- A connected cell without fault 5 has its switch closed by every trigger. -/
theorem triggerCommon_closes_switch (s : State) (ha : s.supply.aon = true) (hc : s.cell.connected = true)
    (hf : s.cell.faults.contains 5 = false) : (triggerCommon s).cell.switchOn = true :=
  switchClose_closes _ (by simpa using ha) (by simpa using hc) (by simpa using hf)

/-! ## A consolidation that is abandoned -/

theorem updateFits_neg (s : State) : (updateFits s).neg = { s.neg with baseFits := fitsBase s } := by
  by_cases h : fitsBase s = s.neg.baseFits <;> simp [updateFits, h]

/-- Freeing the blocks of generations can change whether a base fits, and nothing else of the Negative's record. -/
theorem freeGens_neg (test : Nat → Bool) (s : State) :
    (freeGens test s).neg = { s.neg with baseFits := (freeGens test s).neg.baseFits } := by
  simp [freeGens, updateFits_neg]

@[simp] theorem dropCons_cons (s : State) : (dropCons s).neg.cons = none := by
  unfold dropCons
  split
  next => rw [freeGens_neg]; simp
  next h => exact h

@[simp] theorem dropCons_exp (s : State) : (dropCons s).neg.exp = s.neg.exp := by
  unfold dropCons
  split
  next => rw [freeGens_neg]; simp
  next => rfl

/-! ## EXPOSE entry (R44) -/

@[simp] theorem enter_sys (st : DevState) (cause : Byte) (s : State) : (enter st cause s).sys =
    { s.sys with st := st, prev := s.sys.st, cause := cause, transitions := s.sys.transitions + 1,
                 faultCause := if st = .fault then s.sys.faultCause else 0,
                 depth := if st = .expose ∨ st = .hold then s.sys.depth else 0 } := by
  simp [enter]

@[simp] theorem beginExpose_sys (cause target : Byte) (pf : Bool) (s : State) : (beginExpose cause target pf s).sys =
    { s.sys with st := .expose, prev := s.sys.st, cause := cause, transitions := s.sys.transitions + 1,
                 faultCause := 0, depth := target } := by
  simp [beginExpose]

@[simp] theorem beginExpose_light (cause target : Byte) (pf : Bool) (s : State) : (beginExpose cause target pf s).light =
    { s.light with fence := if pf then some cause else none } := by
  simp [beginExpose]

@[simp] theorem beginExpose_exp (cause target : Byte) (pf : Bool) (s : State) : (beginExpose cause target pf s).neg.exp =
    some (newExpo s (if pf then .fence else .park) cause target pf false) := by
  simp [beginExpose, newExpo]

@[simp] theorem beginExpose_cons (cause target : Byte) (pf : Bool) (s : State) :
    (beginExpose cause target pf s).neg.cons = none := by
  simp [beginExpose]

/-! ## A trigger in RUN -/

/-- The pins as a trigger finds them: its condition has lapsed, and that it was a trigger is not yet noted. -/
def lapsedPins (cause : Byte) (s : State) : State :=
  { s with supply := { pinsAfter cause s.supply with triggered := s.supply.triggered } }

/-- Every power-fail trigger is the common response on the pins that it leaves, the two that a clock times included. -/
theorem exec_trigger (s : State) (p : Instr × Byte) (hp : p ∈ triggerRows) (hc : clockRuns s = true) :
    exec p.1 s = .next (powerFail p.2 (lapsedPins p.2 s)) := by
  simp only [triggerRows, List.mem_cons, List.not_mem_nil, or_false] at hp
  rcases hp with rfl | rfl | rfl | rfl | rfl | rfl
  case inr.inl => simp only [exec, execFastCollapse, vinFails, hc, if_true]; rfl
  case inr.inr.inl => simp only [exec, execSlowSag, vinSags, hc, if_true]; rfl
  all_goals rfl

/-- What a trigger in RUN leads to: the Exposure is begun with no energy check, then POWER_FAIL. -/
def exposedByTrigger (cause : Byte) (s : State) : State :=
  powerFailProgram (preemptAll (beginExpose cause 1 true
    (onSupply (fun p => { p with triggered := true, counting := false }) (triggerCommon s))))

theorem powerFail_of_run (cause : Byte) (s : State) (ha : s.supply.aon = true) (hr : s.sys.st = .run) :
    powerFail cause s = exposedByTrigger cause s := by
  simp [powerFail, exposedByTrigger, ha, hr]

@[simp] theorem pinsAfter_aon (cause : Byte) (p : Supply) : (pinsAfter cause p).aon = p.aon := by
  simp only [pinsAfter]
  split_ifs <;> rfl

/-- With the trigger noted the pins are those of `pinsAfter`. -/
theorem pinsAfter_noted (cause : Byte) (p : Supply) :
    { pinsAfter cause p with triggered := true, counting := false } = pinsAfter cause p := by
  simp only [pinsAfter]
  split_ifs <;> rfl

/-- A state that kept the identity, the shadow registers, the tiers and the commands waiting differs in the other units only. -/
theorem eq_outside_kept {s t : State} (hi : t.ident = s.ident) (hs : t.shadow = s.shadow) (ht : t.tiers = s.tiers)
    (hp : t.pending = s.pending) :
    t = { s with supply := t.supply, sys := t.sys, rails := t.rails, seq := t.seq, log := t.log, cell := t.cell,
                 flash := t.flash, light := t.light, neg := t.neg, nand := t.nand, ports := t.ports, irq := t.irq,
                 bus := t.bus, sec := t.sec, free := t.free } := by
  rw [← hi, ← hs, ← ht, ← hp]

theorem exposedByTrigger_sys (cause : Byte) (s : State) : (exposedByTrigger cause s).sys =
    { s.sys with st := .expose, prev := s.sys.st, cause := cause, transitions := s.sys.transitions + 1,
                 faultCause := 0, depth := 1 } := by
  simp [exposedByTrigger]

theorem exposedByTrigger_exp (cause : Byte) (s : State) : (exposedByTrigger cause s).neg.exp =
    some (newExpo (triggerCommon s) .fence cause 1 true false) := by
  simp [exposedByTrigger, newExpo]

theorem exposedByTrigger_cons (cause : Byte) (s : State) : (exposedByTrigger cause s).neg.cons = none := by
  simp [exposedByTrigger]

theorem exposedByTrigger_light (cause : Byte) (s : State) :
    (exposedByTrigger cause s).light = { s.light with fence := some cause } := by
  simp [exposedByTrigger]

theorem exposedByTrigger_supply (cause : Byte) (s : State) :
    (exposedByTrigger cause s).supply = { s.supply with triggered := true, counting := false } := by
  simp [exposedByTrigger]

theorem exposedByTrigger_cell (cause : Byte) (s : State) : (exposedByTrigger cause s).cell = (triggerCommon s).cell := by
  simp [exposedByTrigger]

theorem exposedByTrigger_keeps (cause : Byte) (s : State) : (exposedByTrigger cause s).ident = s.ident ∧
    (exposedByTrigger cause s).shadow = s.shadow ∧ (exposedByTrigger cause s).tiers = s.tiers ∧
    (exposedByTrigger cause s).pending = s.pending := by
  simp [exposedByTrigger]

/-- Settles O12: every trigger is `powerFail` on the pins it leaves, which in RUN begins the Exposure unchecked (R44). -/
theorem triggersInRun : Obligations.TriggersInRun := by
  intro s p hp ha hclk hrun
  let u := lapsedPins p.2 s
  have hau : u.supply.aon = true := (pinsAfter_aon p.2 s.supply).trans ha
  obtain ⟨hident, hshadow, htiers, hpending⟩ := exposedByTrigger_keeps p.2 u
  refine ⟨exposedByTrigger p.2 u, ?_, ?_, ?_, ?_, ?_, ?_, ⟨_, exposedByTrigger_exp p.2 u, rfl, rfl, rfl, rfl⟩,
    exposedByTrigger_cons p.2 u, exposedByTrigger_light p.2 u, ?_, fun hconn hfault => ?_,
    eq_outside_kept hident hshadow htiers hpending⟩
  · rw [exec_trigger s p hp hclk, powerFail_of_run p.2 u hau hrun]
  · rw [exposedByTrigger_sys]
  · rw [exposedByTrigger_sys]; exact hrun
  · rw [exposedByTrigger_sys]
  · rw [exposedByTrigger_sys]
  · rw [exposedByTrigger_sys]; rfl
  · exact (exposedByTrigger_supply p.2 u).trans (pinsAfter_noted p.2 s.supply)
  · rw [exposedByTrigger_cell]
    exact triggerCommon_closes_switch u hau hconn hfault

end Sys2Proof.DeviceStates
end

section
/-! PROOF. An event of a tile port's source (chapter *Interrupt Distributor*, R416): what it does to its source, and that it
changes nothing outside the distributor, the bus and the free values. -/

namespace Sys2Proof.TilePorts

open Sys2Proof Sys2Proof.Machine Sys2Proof.Claims

/-! ## Notifications leave the states of the sources -/

theorem ite_src (c : Prop) [Decidable c] (a b : State) :
    (if c then a else b).irq.src = if c then a.irq.src else b.irq.src := apply_ite (fun x : State => x.irq.src) c a b

@[simp] theorem onTgt_src (t : TargetId) (f : Target → Target) (s : State) : (onTgt t f s).irq.src = s.irq.src := rfl

@[simp] theorem lines_src (s : State) : (lines s).irq.src = s.irq.src := by
  unfold lines
  simp only [ite_src, onTgt_src, ite_self]

@[simp] theorem issue_src (t : TargetId) (fast : Bool) (s : State) : (issue t fast s).irq.src = s.irq.src := by
  unfold issue
  dsimp only
  split <;> simp only [ite_src, onTgt_src, ibiAttempt_keeps, ite_self]

@[simp] theorem notifyNow_src (t : TargetId) (fast : Bool) (s : State) : (notifyNow t fast s).irq.src = s.irq.src := by
  unfold notifyNow
  simp only [ite_src, issue_src, ite_self]

@[simp] theorem testWindow_src (t : TargetId) (expired : Bool) (s : State) :
    (testWindow t expired s).irq.src = s.irq.src := by
  unfold testWindow
  simp only [ite_src, issue_src, ite_self]

@[simp] theorem becamePending_src (fast : Bool) (t : TargetId) (s : State) :
    (becamePending fast t s).irq.src = s.irq.src := by
  unfold becamePending
  simp only [ite_src, notifyNow_src, testWindow_src, onTgt_src, ite_self]

/-! ## An event -/

/-- An event that is heard moves its source as Table 13-2 says. -/
theorem raise_gotEvent (k : Nat) (hk : k < 192) (s : State) : gotEvent s (raise k s) (Fin.ofNat 192 k) := by
  intro hheard
  have hn : Fin.ofNat 192 k = ⟨k, hk⟩ := Fin.ext (Nat.mod_eq_of_lt hk)
  rw [hn] at hheard ⊢
  simp only [hears, Bool.and_eq_true, Bool.or_eq_true, Option.isSome_iff_exists] at hheard
  obtain ⟨⟨haon, hdie⟩, ⟨fast, t⟩, hroute⟩ := hheard
  have hpowered : (!s.supply.aon || (!s.sys.mainOn && !aonSource k)) = false := by
    rcases hdie with h | h <;> simp [haon, h]
  generalize hu : raise k s = u
  cases hst : (s.irq.src[(⟨k, hk⟩ : SourceId)]).st <;>
    simp only [raise, hk, dif_pos, hroute, hpowered, Bool.false_eq_true, if_false, hst] at hu <;> subst hu
  case inactive => rw [lines_src, becamePending_src, onSrc_src, upd_same]; rfl
  case active => rw [lines_src, onSrc_src, upd_same]; rfl
  case pending => exact hst
  case activePending => exact hst

/-- An event changes the distributor, the bus and the free values. -/
theorem raise_frame (k : Nat) (s : State) :
    raise k s = { s with irq := (raise k s).irq, bus := (raise k s).bus, free := (raise k s).free } := by
  obtain ⟨h1, h2, h3, h4, h5, h6, h7, h8, h9, h10, h11, h12, h13, h14, h15, h16⟩ := raise_keeps k s
  rw [← h1, ← h2, ← h3, ← h4, ← h5, ← h6, ← h7, ← h8, ← h9, ← h10, ← h11, ← h12, ← h13, ← h14, ← h15, ← h16]

/-- Whether an event is heard does not depend on the ports. -/
theorem hears_onPort (p : PortId) (f : TilePort → TilePort) (s : State) (n : SourceId) :
    hears (onPort p f s) n = hears s n := rfl

/-- An event behind a change of a port. -/
theorem raise_onPort (k : Nat) (hk : k < 192) (p : PortId) (f : TilePort → TilePort) (s : State) :
    (raise k (onPort p f s)).ports = upd s.ports p f ∧
    gotEvent s (raise k (onPort p f s)) (Fin.ofNat 192 k) ∧
    raise k (onPort p f s) = { s with
      ports := (raise k (onPort p f s)).ports, irq := (raise k (onPort p f s)).irq,
      bus := (raise k (onPort p f s)).bus, free := (raise k (onPort p f s)).free } := by
  have hports : (raise k (onPort p f s)).ports = upd s.ports p f := by simp
  refine ⟨hports, fun h => raise_gotEvent k hk (onPort p f s) ((hears_onPort p f s _).trans h), ?_⟩
  rw [hports]
  exact raise_frame k (onPort p f s)

end Sys2Proof.TilePorts
end

section
/-! PROOF. Doorbells, halts and ENABLE of a tile port (R384, R385, R389, R393). -/

namespace Sys2Proof.TilePorts

open Sys2Proof Sys2Proof.Machine Sys2Proof.Claims

/-! ## One port changed -/

theorem onlyPort_onPort {s : State} {p : PortId} {f : TilePort → TilePort} {x : TilePort} (h : f s.ports[p] = x) :
    onlyPort s (onPort p f s) p x := by
  subst h
  rfl

/-- A halt of a port that is not halted: its source is 113 + 4p (R393). -/
theorem haltPort_halts (p : PortId) (code : Byte) (s : State) (h : (s.ports[p]).halted = false) :
    (haltPort p code s).ports = upd s.ports p (fun x => { x with
      halted := true, qerr := code, lastQerr := code, halts := satInc x.halts }) ∧
    gotEvent s (haltPort p code s) (Fin.ofNat 192 (113 + 4 * p.val)) ∧
    haltPort p code s = { s with
      ports := (haltPort p code s).ports, irq := (haltPort p code s).irq, bus := (haltPort p code s).bus,
      free := (haltPort p code s).free } := by
  have hraise : haltPort p code s = raise (113 + 4 * p.val) (onPort p (fun x => { x with
      halted := true, qerr := code, lastQerr := code, halts := satInc x.halts }) s) := by
    simp only [haltPort, h, Bool.false_eq_true, if_false]
  rw [hraise]
  exact raise_onPort (113 + 4 * p.val) (by omega) p _ s

/-! ## Doorbells -/

/-- The command of each of a port's three doorbells, the ring it speaks of, and the port once its value is taken. -/
def doorbellInstr (p : PortId) (v : U16) : Fin 3 → Instr
  | 0 => .sq0Tail p v
  | 1 => .sq1Tail p v
  | 2 => .cqHead p v
def doorbellRing (x : TilePort) : Fin 3 → Ring
  | 0 => x.sq0
  | 1 => x.sq1
  | 2 => x.cq
def rung (v : U16) (x : TilePort) : Fin 3 → TilePort
  | 0 => { x with sq0 := { x.sq0 with tail := v } }
  | 1 => { x with sq1 := { x.sq1 with tail := v } }
  | 2 => { x with cq := { x.cq with head := v } }

theorem doorbells_eq (p : PortId) (v : U16) (x : TilePort) : doorbells p v x = (List.finRange 3).map fun q =>
    (doorbellInstr p v q, BitVec.ofNat 8 (q.val + 2), (doorbellRing x q).size, rung v x q) := rfl

theorem exec_doorbellInstr (p : PortId) (v : U16) (q : Fin 3) (s : State) :
    exec (doorbellInstr p v q) s = .next (doorbell p q v s) := by
  match q with
  | 0 => rfl
  | 1 => rfl
  | 2 => rfl

/-- A doorbell in the words of its ring. -/
theorem doorbell_eq (p : PortId) (q : Fin 3) (v : U16) (s : State) : doorbell p q v s =
    if (s.ports[p]).link ≠ 3 then s
    else if (doorbellRing s.ports[p] q).size ≤ v then haltPort p (BitVec.ofNat 8 (q.val + 2)) s
    else onPort p (fun x => rung v x q) s := by
  match q with
  | 0 => rfl
  | 1 => rfl
  | 2 => rfl

theorem doorbell_linkDown (p : PortId) (q : Fin 3) (v : U16) (s : State) (h : (s.ports[p]).link ≠ 3) :
    doorbell p q v s = s := by
  rw [doorbell_eq, if_pos h]

theorem doorbell_taken (p : PortId) (q : Fin 3) (v : U16) (s : State) (hl : (s.ports[p]).link = 3)
    (hv : v < (doorbellRing s.ports[p] q).size) : doorbell p q v s = onPort p (fun x => rung v x q) s := by
  rw [doorbell_eq, if_neg (not_not_intro hl), if_neg (BitVec.not_le.mpr hv)]

theorem doorbell_outOfRange (p : PortId) (q : Fin 3) (v : U16) (s : State) (hl : (s.ports[p]).link = 3)
    (hv : (doorbellRing s.ports[p] q).size ≤ v) :
    doorbell p q v s = haltPort p (BitVec.ofNat 8 (q.val + 2)) s := by
  rw [doorbell_eq, if_neg (not_not_intro hl), if_pos hv]

theorem doorbellsAnswered : Claims.Doorbells := by
  intro s p v d hd
  rw [doorbells_eq, List.mem_map] at hd
  obtain ⟨q, -, rfl⟩ := hd
  simp only [exec_doorbellInstr]
  refine ⟨fun hl => ?_, fun hl hv => ⟨_, rfl, ?_⟩, fun hl hv hh => ⟨_, rfl, ?_⟩⟩
  · rw [doorbell_linkDown p q v s hl]
  · rw [doorbell_taken p q v s hl hv]
    exact onlyPort_onPort rfl
  · rw [doorbell_outOfRange p q v s hl hv]
    exact haltPort_halts p _ s hh

/-! ## ENABLE -/

theorem enablePort_enabled (p : PortId) (s : State) (he : (s.ports[p]).enable = true) : enablePort p s = s := by
  simp only [enablePort, he, Bool.or_true, if_true]

/-- ENABLE written 1 on a disabled port turns on whether its three queues pass R384's checks. -/
theorem enablePort_disabled (p : PortId) (s : State) (hl : (s.ports[p]).link = 3) (he : (s.ports[p]).enable = false) :
    enablePort p s =
      if ringOk (s.ports[p]).sq0 && ringOk (s.ports[p]).sq1 && ringOk (s.ports[p]).cq then
        onPort p (fun t => { t with
          enable := true, halted := false, qerr := 0, phase := true, burst := 0,
          sq0 := { t.sq0 with head := 0, tail := 0 },
          sq1 := { t.sq1 with head := 0, tail := 0 },
          cq := { t.cq with head := 0, tail := 0 } }) s
      else onPort p (fun t => { t with qerr := 1, lastQerr := 1 }) s := by
  simp only [enablePort, hl, he, ne_eq, not_true_eq_false, decide_false, Bool.or_false, Bool.false_eq_true, if_false]

/-- ENABLE written 0 on an enabled port waits for the active requests (R385). -/
theorem disablePort_enabled (p : PortId) (s : State) (hl : (s.ports[p]).link = 3) (he : (s.ports[p]).enable = true) :
    disablePort p s =
      if (s.ports[p]).active.isEmpty then onPort p (fun t => { t with enable := false, closing := false }) s
      else onPort p (fun t => { t with closing := true }) s := by
  simp only [disablePort, hl, he, ne_eq, not_true_eq_false, decide_false, Bool.not_true, Bool.or_false, Bool.false_eq_true,
    if_false]

/-- A port that closes fetches nothing. -/
theorem fetching_closing (p : PortId) (s : State) (h : (s.ports[p]).closing = true) : fetching s p = false := by
  simp only [fetching, h, Bool.not_true, Bool.and_false, Bool.false_and]

/-- The queue registers do not change while ENABLE is 1 (R384), whatever the form of the access. -/
theorem bar0Write_queueRegister_enabled (p : PortId) (off : Nat) (data : List Byte) (s : State)
    (ho : off ∈ [0x10, 0x14, 0x18, 0x20, 0x24, 0x28, 0x30, 0x34, 0x38]) (he : (s.ports[p]).enable = true) :
    bar0Write p off data s = s := by
  have h4 : off ≠ 0x4 := by rintro rfl; simp at ho
  have hq : queueRegister p off data s = s := by simp only [queueRegister, he, if_true]
  simp only [bar0Write, h4, if_false, List.contains_iff_mem.mpr ho, if_true, hq, ite_self]

theorem portEnableAndDisable : Claims.PortEnableAndDisable := by
  rintro s p x rfl hl
  refine ⟨fun he h0 h1 hc => ⟨_, rfl, ?_⟩, fun he hbad => ⟨_, rfl, ?_⟩, fun he => ⟨?_, fun off data ho => ?_⟩,
    fun he hidle => ⟨_, rfl, ?_⟩, fun he hbusy => ⟨_, rfl, ?_⟩⟩
  · rw [enablePort_disabled p s hl he, h0, h1, hc]
    exact onlyPort_onPort rfl
  · rw [enablePort_disabled p s hl he, hbad]
    exact onlyPort_onPort rfl
  · exact congrArg _ (enablePort_enabled p s he)
  · exact congrArg _ (bar0Write_queueRegister_enabled p off.toNat data s ho he)
  · rw [disablePort_enabled p s hl he, if_pos (List.isEmpty_iff.mpr hidle)]
    exact onlyPort_onPort rfl
  · rw [disablePort_enabled p s hl he, if_neg (mt List.isEmpty_iff.mp hbusy)]
    exact ⟨onlyPort_onPort rfl, fetching_closing p _ (by rw [onPort_ports, upd_same])⟩

/-- Settles O44: each write runs into one branch of `doorbell`, `enablePort`, `disablePort` or `queueRegister`. -/
theorem doorbellsAndEnable : Obligations.DoorbellsAndEnable := ⟨doorbellsAnswered, portEnableAndDisable⟩

end Sys2Proof.TilePorts
end

section
/-! PROOF. Admission (R391, R392, R395, R398): a descriptor that is refused, a NOP, a READ of plain bytes, and a descriptor
read that fails. -/

namespace Sys2Proof.TilePorts

open Sys2Proof Sys2Proof.Machine Sys2Proof.Claims

/-! ## One port changed twice -/

theorem upd_upd {α : Type} {n : Nat} (v : Fam n α) (i : Fin n) (f g : α → α) :
    upd (upd v i f) i g = upd v i (fun x => g (f x)) := by
  simp only [upd, Fin.getElem_fin, Vector.getElem_set_self, Vector.set_set]

theorem onPort_onPort (p : PortId) (f g : TilePort → TilePort) (s : State) :
    onPort p g (onPort p f s) = onPort p (fun x => g (f x)) s := by
  simp only [onPort, upd_upd]

/-! ## The entry is taken from its queue -/

/-- The state once the descriptor has been taken from the queue `sq` (R391). -/
def fetchedBy (p : PortId) (sq : Bool) (s : State) : State := onPort p (fun x => fetchedFrom x sq) s

theorem fetchedBy_eq (p : PortId) (sq : Bool) (s : State) : fetchedBy p sq s = onPort p (fun t => { t with
    sq0 := if sq then t.sq0 else { t.sq0 with head := ringNext t.sq0 t.sq0.head },
    sq1 := if sq then { t.sq1 with head := ringNext t.sq1 t.sq1.head } else t.sq1,
    burst := if sq then 0 else t.burst + 1,
    admissions := t.admissions + 1 }) s := rfl

theorem fetchedBy_port (p : PortId) (sq : Bool) (s : State) :
    (fetchedBy p sq s).ports[p] = fetchedFrom s.ports[p] sq := upd_same s.ports p _

/-- Taking the entry leaves the active requests. -/
theorem reqOf_fetchedBy (p : PortId) (sq : Bool) (s : State) (tag : U16) :
    reqOf (fetchedBy p sq s) p tag = reqOf s p tag := by
  unfold reqOf
  rw [fetchedBy_port]
  rfl

/-- A port that fetches and has a free slot takes the descriptor. -/
theorem descriptorArrives_accepts {p : PortId} {sq : Bool} {s : State} (bs : List Byte) (hf : fetching s p = true)
    (hq : nextQueue s.ports[p] = some sq) (hroom : (s.ports[p]).active.length < 64) :
    descriptorArrives p bs s = acceptRequest p sq bs s := by
  simp only [descriptorArrives, hq, hf, hroom, decide_true, Bool.and_self, if_true]

/-- A descriptor read that fails halts the port with QERR 5 (R392). -/
theorem descriptorLost_halts {p : PortId} {sq : Bool} {s : State} (hf : fetching s p = true)
    (hq : nextQueue s.ports[p] = some sq) (hroom : (s.ports[p]).active.length < 64) :
    descriptorLost p s = haltPort p 5 s := by
  simp only [descriptorLost, hq, hf, hroom, decide_true, Bool.and_self, if_true]

/-! ## The branches of admission -/

section
variable {p : PortId} {sq : Bool} {bs : List Byte} {s : State} {r : Req}
  (hr : r = reqFrom bs sq ((s.ports[p]).admissions + 1) s.sys.aonTime.toNat)
include hr

/-- The request is spelled by the descriptor under the admission number that the port has reached. -/
theorem reqFrom_fetchedBy :
    reqFrom bs sq ((fetchedBy p sq s).ports[p]).admissions (fetchedBy p sq s).sys.aonTime.toNat = r := by
  rw [fetchedBy_port]
  exact hr.symm

/-- A request that fails one of checks 1 to 4 but the tag's ends at once. -/
theorem acceptRequest_refused {st : Status} (hc : checkFirst (fetchedBy p sq s) p r = some st) (ht : st ≠ .tagInUse) :
    acceptRequest p sq bs s = endReq p r st 0 0 false (fetchedBy p sq s) := by
  have hheld : { r with heldTag := true } = r := by rw [hr]; rfl
  simp only [acceptRequest, ← fetchedBy_eq, reqFrom_fetchedBy hr, hc, ne_eq, ht, not_false_eq_true, decide_true, hheld]

/-- A NOP is admitted behind the requests that are active. -/
theorem acceptRequest_nop (hc : checkFirst (fetchedBy p sq s) p r = none) (hop : r.op = 4) :
    acceptRequest p sq bs s = onPort p (fun x => { x with active := x.active ++ [r] }) (fetchedBy p sq s) := by
  simp only [acceptRequest, ← fetchedBy_eq, reqFrom_fetchedBy hr, hc, hop, if_true]

/-- A request whose entry is in use and passes every check is admitted with it, where its stream is not to be sealed now. -/
theorem acceptRequest_admits {e : List Byte} {u : State} (hc : checkFirst (fetchedBy p sq s) p r = none) (hop : r.op ≠ 4)
    (hf : fetchEntry r.stream (fetchedBy p sq s) = (some e, u)) (he : checkEntry (some e) = none)
    (hs : sealNow r.stream u = u) (hl : checkLast u r e = none) : acceptRequest p sq bs s = admitted p r e u := by
  simp only [acceptRequest, ← fetchedBy_eq, reqFrom_fetchedBy hr, hc, hop, if_false, hf, he, Option.getD_some, hs, hl]

end

/-! ## The checks -/

/-- An opcode outside 1 to 4 fails check 1. -/
theorem checkFirst_badOpcode (s : State) (p : PortId) (r : Req) (h : r.op = 0 ∨ 4 < r.op.toNat) :
    checkFirst s p r = some .opcodeInvalid := by
  have hop : r.op.toNat < 1 ∨ 4 < r.op.toNat := h.imp_left fun h0 => by rw [h0]; decide
  simp only [checkFirst, Bool.or_eq_true, decide_eq_true_iff, hop, if_true]

/-- A NOP with a free tag passes checks 1 to 4. -/
theorem checkFirst_nop {s : State} {p : PortId} {r : Req} (hop : r.op = 4) (htag : reqOf s p r.tag = none) :
    checkFirst s p r = none := by
  simp [checkFirst, hop, htag]

/-- So does a READ of a stream of the port's own account. -/
theorem checkFirst_read {s : State} {p : PortId} {r : Req} (hop : r.op = 1) (htag : reqOf s p r.tag = none)
    (hthere : streamThere s r.stream = true) (hown : r.stream / 0x400 = p.val) : checkFirst s p r = none := by
  simp [checkFirst, hop, htag, hthere, hown]

theorem checkEntry_formed {e : List Byte} (hv : eValid e = true) (hf : entryFormed e = true) :
    checkEntry (some e) = none := by
  simp [checkEntry, hv, hf]

theorem checkLast_read {s : State} {r : Req} {e : List Byte} (hop : r.op = 1) (ht : r.tile < eCount e)
    (hb : r.buffer.toNat % 4 = 0) (hl : r.len ≠ 0) (hw : r.off + r.len ≤ 1024 * eKib e) : checkLast s r e = none := by
  simp [checkLast, hop, ht, hb, hl, hw, Nat.not_le.mpr, Nat.not_lt.mpr]

/-! ## The entry found -/

/-- A stream's entry moved to the front of the Stream Cache (R328). -/
def promoted (stream : Nat) (e : List Byte) (s : State) : State :=
  onTiers (fun t => { t with cache := (stream, e) :: t.cache.filter fun q => q.1 ≠ stream }) s

theorem fetchEntry_cached {s : State} {stream : Nat} {e : List Byte} (hn : s.tiers.torn.contains stream = false)
    (hc : s.tiers.cache.find? (fun c => c.1 = stream) = some (stream, e)) :
    fetchEntry stream s = (some e, promoted stream e s) := by
  simp only [fetchEntry, hn, hc, Bool.false_eq_true, if_false]
  rfl

theorem entryNow_promoted (stream : Nat) (e : List Byte) (s : State) : entryNow (promoted stream e s) stream = e := by
  simp [entryNow, promoted]

theorem sealNow_unsealed {s : State} {stream : Nat} (h : eSealed (entryNow s stream) = false) : sealNow stream s = s := by
  simp [sealNow, h]

/-! ## Tiles -/

theorem tileAt_of_tiles {s t : State} (h : t.tiers.tiles = s.tiers.tiles) (k : Nat) : tileAt t k = tileAt s k := by
  unfold tileAt
  rw [h]

/-- A tile set reads as set, listed or not. -/
theorem tileAt_setTile_same (k : Nat) (x : Tile) (s : State) : tileAt (setTile k x s) k = x := by
  unfold tileAt setTile
  rw [onTiers_tiers]
  dsimp only
  split
  · next h => rw [aget_adel_same, h]; rfl
  · next => rw [aget_aput_same]; rfl

theorem tileAt_setTile_other (k j : Nat) (x : Tile) (s : State) (h : j ≠ k) : tileAt (setTile k x s) j = tileAt s j := by
  unfold tileAt setTile
  rw [onTiers_tiers]
  dsimp only
  split
  · next => rw [aget_adel_other _ _ _ h]
  · next => rw [aget_aput_other _ _ _ _ h]

/-! ## A NAND read queued -/

/-- Only the queues of the channels have changed. -/
def chansOnly (s t : State) : Prop := t.nand = { s.nand with chans := t.nand.chans }

theorem chansOnly_refl (s : State) : chansOnly s s := rfl

theorem chansOnly_trans {s t u : State} (h : chansOnly s t) (k : chansOnly t u) : chansOnly s u := by
  unfold chansOnly at *
  rw [k, h]

theorem arrive_chansOnly (c : ChanId) (o : NandOp) (s : State) : chansOnly s (arrive c o s) := by
  unfold arrive
  split <;> rfl

theorem foldl_chansOnly {α : Type} (g : State → α → State) (h : ∀ s a, chansOnly s (g s a)) (l : List α) (s : State) :
    chansOnly s (l.foldl g s) := by
  induction l generalizing s with
  | nil => exact chansOnly_refl s
  | cons a l ih => exact chansOnly_trans (h s a) (ih (g s a))

theorem queueRead_chansOnly (k cls due : Nat) (s : State) : chansOnly s (queueRead k cls due s) := by
  unfold queueRead
  split
  · exact foldl_chansOnly _ (fun s (q : ChanId × Fin 16) => arrive_chansOnly q.1 _ s) _ s
  · exact chansOnly_refl s

/-- A queued read changes nothing but the queues of the channels. -/
theorem queueRead_frame (k cls due : Nat) (s : State) :
    queueRead k cls due s = { s with nand := { s.nand with chans := (queueRead k cls due s).nand.chans } } := by
  have hnand := queueRead_chansOnly k cls due s
  obtain ⟨h1, h2, h3, h4, h5, h6, h7, h8, h9, h10, h11, h12, h13, h14, h15, h16, h17, h18⟩ := queueRead_keeps k cls due s
  unfold chansOnly at hnand
  rw [← hnand, ← h1, ← h2, ← h3, ← h4, ← h5, ← h6, ← h7, ← h8, ← h9, ← h10, ← h11, ← h12, ← h13, ← h14, ← h15, ← h16,
    ← h17, ← h18]

/-! ## A READ of plain bytes admitted -/

/-- A port with one request more. -/
def withRequest (r : Req) (x : TilePort) : TilePort := { x with active := x.active ++ [r] }

/-- A READ as it is admitted with the entry it found, where no deadline is in force. -/
def plainRead (r : Req) (e : List Byte) : Req := { r with deadline := 0, entry := some e }

/-- A READ without a deadline of its own, of a stream without one, is not turned to its proof tile (R347). -/
theorem admitted_read {p : PortId} {r : Req} {e : List Byte} {s : State} (hop : r.op = 1)
    (hflag : r.flags.getLsbD 0 = false) (hdead : eDeadline e = 0) (hproof : r.proof = false) (hcore : noCore s = false) :
    admitted p r e s = onPort p (withRequest (plainRead r e))
      (queueRead (tileKey r.stream r.tile) 3 0 (addTileHeat (tileKey r.stream r.tile) s)) := by
  have hnames : namesTile r = true := by simp [namesTile, hop]
  have hasked : { r with deadline := 0, proof := false, entry := some e } = plainRead r e := by
    rw [← hproof]
    rfl
  have hsource : sourceKey (plainRead r e) = tileKey r.stream r.tile := by simp [sourceKey, plainRead, hproof]
  have hdue : dueOf (plainRead r e) = 0 := rfl
  have hcores : noCore (onPort p (withRequest (plainRead r e))
      (queueRead (tileKey r.stream r.tile) 3 0 (addTileHeat (tileKey r.stream r.tile) s))) = false := by
    rw [queueRead_frame]
    exact hcore
  unfold withRequest at hcores ⊢
  simp only [admitted, hnames, if_true, hflag, Bool.false_eq_true, if_false, hdead, ne_eq, not_true_eq_false, decide_false,
    Bool.and_false, Bool.false_and, hasked, if_pos hop, hsource, hdue, hcores]

/-- The state in which an admitted READ of plain bytes leaves the module. -/
def readAdmitted (p : PortId) (sq : Bool) (r : Req) (e : List Byte) (s : State) : State :=
  onPort p (withRequest (plainRead r e))
    (queueRead (tileKey r.stream r.tile) 3 0 (addTileHeat (tileKey r.stream r.tile)
      (promoted r.stream e (fetchedBy p sq s))))

theorem readAdmitted_ports (p : PortId) (sq : Bool) (r : Req) (e : List Byte) (s : State) :
    (readAdmitted p sq r e s).ports = upd s.ports p (fun _ => { fetchedFrom s.ports[p] sq with
      active := (s.ports[p]).active ++ [{ r with deadline := 0, entry := some e }] }) := by
  unfold readAdmitted
  rw [queueRead_frame]
  exact upd_upd s.ports p (fun x => fetchedFrom x sq) (withRequest (plainRead r e))

theorem readAdmitted_tiles (p : PortId) (sq : Bool) (r : Req) (e : List Byte) (s : State) :
    (readAdmitted p sq r e s).tiers.tiles = (addTileHeat (tileKey r.stream r.tile) s).tiers.tiles := by
  unfold readAdmitted
  rw [queueRead_frame]
  rfl

theorem readAdmitted_frame (p : PortId) (sq : Bool) (r : Req) (e : List Byte) (s : State) :
    readAdmitted p sq r e s = { s with
      ports := (readAdmitted p sq r e s).ports,
      tiers := { s.tiers with
        tiles := (readAdmitted p sq r e s).tiers.tiles, cache := (readAdmitted p sq r e s).tiers.cache },
      nand := { s.nand with chans := (readAdmitted p sq r e s).nand.chans } } := by
  unfold readAdmitted
  rw [queueRead_frame]
  rfl

/-- Settles O45: the request is the one that `acceptRequest` spells, and each clause follows the branch that the checks
choose. -/
theorem descriptors : Obligations.Descriptors := by
  intro s p sq bs r hfetch hqueue hroom hr htag
  have hfree : reqOf (fetchedBy p sq s) p r.tag = none := (reqOf_fetchedBy p sq s r.tag).trans htag
  have hexec : exec (.descriptorFetch p bs) s = .next (acceptRequest p sq bs s) :=
    congrArg _ (descriptorArrives_accepts bs hfetch hqueue hroom)
  refine ⟨fun hop => ⟨_, hexec, ?_⟩, fun hop => ⟨_, hexec, ?_⟩, ?_, fun hhalted => ⟨_, rfl, ?_⟩⟩
  · rw [acceptRequest_refused hr (checkFirst_badOpcode _ p r hop) (by decide), endReq, fetchedBy, onPort_onPort]
    exact onlyPort_onPort rfl
  · rw [acceptRequest_nop hr (checkFirst_nop hop hfree) hop, fetchedBy, onPort_onPort]
    exact onlyPort_onPort rfl
  · intro e hop hflag hthere hown htorn hcached hvalid hformed hsealed hdead htile hbuf hlen hwindow hcore _
    have hfound := fetchEntry_cached (s := fetchedBy p sq s) htorn hcached
    have hseal := sealNow_unsealed (s := promoted r.stream e (fetchedBy p sq s)) (stream := r.stream)
      (by rw [entryNow_promoted]; exact hsealed)
    have hadmits : acceptRequest p sq bs s = readAdmitted p sq r e s :=
      (acceptRequest_admits hr (checkFirst_read hop hfree hthere hown) (by rw [hop]; decide) hfound
        (checkEntry_formed hvalid hformed) hseal (checkLast_read hop htile hbuf hlen hwindow)).trans
        (admitted_read hop hflag hdead (by rw [hr]; rfl) hcore)
    have htiles := tileAt_of_tiles (readAdmitted_tiles p sq r e s)
    refine ⟨readAdmitted p sq r e s, hexec.trans (congrArg _ hadmits), readAdmitted_ports p sq r e s, ?_, fun k hk => ?_,
      readAdmitted_frame p sq r e s⟩
    · rw [htiles, addTileHeat, onTile, tileAt_setTile_same]
    · rw [htiles, addTileHeat, onTile, tileAt_setTile_other _ _ _ _ hk]
  · rw [descriptorLost_halts hfetch hqueue hroom]
    exact haltPort_halts p 5 s hhalted

end Sys2Proof.TilePorts
end

section
/-! PROOF. The Stream Table from outside: invalidations (R331, R386) and BAR2 (R387, R388, R496). -/

namespace Sys2Proof.TilePorts

open Sys2Proof Sys2Proof.Machine Sys2Proof.Claims

/-! ## An event that changes no port -/

theorem raise_gotEvent_frame (k : Nat) (hk : k < 192) (s : State) :
    gotEvent s (raise k s) (Fin.ofNat 192 k) ∧
    raise k s = { s with irq := (raise k s).irq, bus := (raise k s).bus, free := (raise k s).free } :=
  ⟨raise_gotEvent k hk s, raise_frame k s⟩

/-! ## The checks of a write of 0x6030.01 -/

theorem leNat_leBytes_two (v : U16) : leNat (leBytes 2 v.toNat) = v.toNat := by
  have := v.isLt
  simp only [leBytes, leNat, BitVec.toNat_ofNat]
  omega

theorem row6030 : rowOf 0x6030 1 = some ⟨0x6030, 1, 1, 1, .u16, 2, .wo, false, true, 0, 0, 65535⟩ := by rfl

theorem idleTrigger6030 (data : List Byte) : idleTrigger 0x6030 1 data = false := by
  simp [idleTrigger, row6030]

/-- The streams of the part and 0xFFFF are the values that 0x6030.01 takes. -/
theorem rangeOk6030 (b : Bool) (stream : U16) :
    rangeOk b ⟨0x6030, 1, 1, 1, .u16, 2, .wo, false, true, 0, 0, 65535⟩ (stream.toNat : Int) =
      decide (stream.toNat < (if b then 0x800 else 0x1000) ∨ stream = 0xFFFF) := by
  have hlt := stream.isLt
  have hall : stream = 0xFFFF ↔ stream.toNat = 0xFFFF := by rw [← BitVec.toNat_inj]; rfl
  rw [Bool.eq_iff_iff, decide_eq_true_iff, hall]
  cases b <;> simp [rangeOk] <;> omega

/-- In RUN every check but the range passes. -/
theorem writeChecks6030 (s : State) (stream : U16) (hrun : s.sys.st = .run) (hmain : s.sys.mainOn = true) :
    writeChecks s .bus 0x6030 1 (leBytes 2 stream.toNat) =
      if stream.toNat < (if small s then 0x800 else 0x1000) ∨ stream = 0xFFFF then .done else .valueRange := by
  have hthere : existence (small s) 0x6030 1 = .done := by cases small s <;> rfl
  have hserved : servedCheck s true 0x6030 1 = .done := by simp [servedCheck, hrun, hmain, bootFault]
  have hstate : stateCheck s 0x6030 1 (leBytes 2 stream.toNat) = .done := by
    simp [stateCheck, hserved, accOf, row6030, writeState]
  have hsession : sessionCheck s 0x6030 1 (leBytes 2 stream.toNat) = .done := by simp [sessionCheck, accOf, row6030]
  have hprotection : protectionCheck s 0x6030 1 (leBytes 2 stream.toNat) = .done := by simp [protectionCheck, row6030]
  have hvalue : valueCheck s 0x6030 1 (leBytes 2 stream.toNat) =
      if stream.toNat < (if small s then 0x800 else 0x1000) ∨ stream = 0xFFFF then .done else .valueRange := by
    have hlength : (leBytes 2 stream.toNat).length = 2 := rfl
    simp [valueCheck, row6030, idleTrigger6030, leNat_leBytes_two, rangeOk6030, hlength]
  have hpath : pathCheck .bus true 0x6030 1 = .done := rfl
  have hclass : classCheck true (accOf 0x6030 1) = .done := by simp [classCheck, accOf, row6030]
  simp only [writeChecks, firstOf, hthere, hpath, hclass, hstate, hsession, hprotection, hvalue, if_true]
  split <;> simp_all

/-! ## Invalidations -/

/-- An invalidation by the host where none is under way. -/
theorem invalidateFrom_bus (stream : U16) (s : State) (hmain : s.sys.mainOn = true) (hnone : s.tiers.invalBus = none) :
    invalidateFrom .bus stream s = onTiers (fun t => { t with invalBus := some stream.toNat }) s := by
  simp only [invalidateFrom, invalidationEnds, hmain, hnone, if_true]

/-- An invalidation by a port where none is under way. -/
theorem invalidateFrom_port (p : PortId) (stream : U16) (s : State) (hl : (s.ports[p]).link = 3)
    (hnone : (s.ports[p]).inval = none) : invalidateFrom (.tunnel p) stream s =
      if stream ≠ 0xFFFF ∧ stream.toNat / 0x400 ≠ p.val then raise (115 + 4 * p.val) s
      else onPort p (fun x => { x with inval := some stream.toNat }) s := by
  simp only [invalidateFrom, invalidationEnds, hl, hnone]
  simp

theorem touch_not_busy {s : State} (hfree : busFree s = true) : (touch s).bus.busy = false := by
  simp only [busFree, Bool.and_eq_true, Bool.not_eq_true'] at hfree
  rw [touch_busy]
  exact hfree.2

/-- The host's invalidation that R331 allows is under way, and the host is answered. -/
theorem invalidate_bus_starts (s : State) (stream : U16) (hmain : s.sys.mainOn = true) (hfree : busFree s = true)
    (hrun : s.sys.st = .run) (hnone : s.tiers.invalBus = none)
    (hin : stream.toNat < (if small s then 0x800 else 0x1000) ∨ stream = 0xFFFF) :
    exec (.invalidate .bus stream) s = .next (reply .done [] (onTiers (fun t => { t with invalBus := some stream.toNat })
      (touch s))) := by
  have htouch := touch_of_not_hold s (by simp [hrun])
  have hchecks : writeChecks (touch s) .bus 0x6030 1 (leBytes 2 stream.toNat) = .done := by
    rw [writeChecks6030 _ stream (by rw [htouch]; exact hrun) (by rw [htouch]; exact hmain),
      small_reads (sameSettings_touch s), if_pos hin]
  have heffect : writeEffect 0x6030 1 (leBytes 2 stream.toNat) [0, 0, 0] (touch s) =
      (.done, invalidateFrom .bus stream (touch s)) := by
    simp [writeEffect, leNat_leBytes_two]
  have hwrite := hostWrite_takes 0x6030 1 (leBytes 2 stream.toNat) s _ hfree (by decide) hchecks (idleTrigger6030 _)
    row6030 rfl
  rw [heffect, invalidateFrom_bus stream _ (by rw [htouch]; exact hmain) (by rw [htouch]; exact hnone),
    written_bus_done _ (onTiers _ (touch s)) (touch_not_busy hfree)] at hwrite
  exact congrArg _ hwrite

/-- Any other stream is refused. -/
theorem invalidate_bus_refused (s : State) (stream : U16) (hmain : s.sys.mainOn = true) (hfree : busFree s = true)
    (hrun : s.sys.st = .run) (hout : ¬(stream.toNat < (if small s then 0x800 else 0x1000) ∨ stream = 0xFFFF)) :
    exec (.invalidate .bus stream) s = .next (reply .valueRange [] (touch s)) := by
  have htouch := touch_of_not_hold s (by simp [hrun])
  have hchecks : writeChecks (touch s) .bus 0x6030 1 (leBytes 2 stream.toNat) = .valueRange := by
    rw [writeChecks6030 _ stream (by rw [htouch]; exact hrun) (by rw [htouch]; exact hmain),
      small_reads (sameSettings_touch s), if_neg hout]
  have hwrite := hostWrite_refused 0x6030 1 (leBytes 2 stream.toNat) s hfree (by decide) (by rw [hchecks]; decide)
  rw [hchecks] at hwrite
  exact congrArg _ hwrite

/-- The end of an invalidation of one stream, whoever asked for it. -/
theorem invalidateDone_one (who : Option PortId) (st : Nat) (s : State) (h : st ≠ 0xFFFF) :
    invalidateDone who st s = onTiers (fun t => { t with
      cache := t.cache.filter (fun c => c.1 ≠ st), torn := t.torn.filter (fun x => x ≠ st) }) s := by
  cases who <;> simp [invalidateDone, dropEntries, h]

theorem invalidations : Claims.Invalidations := by
  intro s stream hmain
  refine ⟨fun hfree hrun hnone hin => ⟨_, invalidate_bus_starts s stream hmain hfree hrun hnone hin, ?_, ?_⟩,
    fun hfree hrun hout hall => ⟨_, invalidate_bus_refused s stream hmain hfree hrun ?_, ?_, ?_⟩,
    fun p hl hnone => ⟨fun hown => ⟨_, rfl, ?_⟩, fun hall hother => ⟨_, rfl, ?_⟩⟩,
    fun st hst hone => ⟨_, rfl, ?_⟩, fun p st hst hone => ⟨_, rfl, ?_⟩⟩
  · exact answered_reply .done _ (touch_not_busy hfree)
  · rw [touch_of_not_hold s (by simp [hrun])]
    rfl
  · exact not_or.mpr ⟨Nat.not_lt.mpr hout, hall⟩
  · exact answered_reply .valueRange _ (touch_not_busy hfree)
  · rw [touch_of_not_hold s (by simp [hrun])]
    rfl
  · rw [invalidates, invalidateFrom_port p stream s hl hnone,
      if_neg fun h => hown.elim h.1 h.2]
    exact onlyPort_onPort rfl
  · rw [invalidates, invalidateFrom_port p stream s hl hnone, if_pos ⟨hall, hother⟩]
    exact raise_gotEvent_frame (115 + 4 * p.val) (by omega) s
  · simp only [invalidationEnds, hst, invalidateDone_one none st s hone]
    rfl
  · simp only [invalidationEnds, hst, invalidateDone_one (some p) st s hone]
    rfl

/-! ## BAR2 (R387, R388) -/

/-- A write that the port takes, inside one entry: that entry's bytes, its reserved fields kept. -/
theorem bar2Store_within (p : PortId) (off : Nat) (data : List Byte) (s : State) (hl : (s.ports[p]).link = 3)
    (hsave : s.tiers.saving = false) (hin : withinEntry off data.length = true) :
    bar2Store p off data s = onTiers (fun t => { t with
      table := aput t.table (p.val * 0x400 + off / 64)
        (entryKept (mergeAt (off % 64) data (tableEntry s (p.val * 0x400 + off / 64)))) }) s := by
  simp only [bar2Store, hl, hsave, hin, ne_eq, not_true_eq_false, if_false, Bool.not_true, Bool.false_eq_true]

theorem bar2Store_saving (p : PortId) (off : Nat) (data : List Byte) (s : State) (hl : (s.ports[p]).link = 3)
    (hsave : s.tiers.saving = true) : bar2Store p off data s =
      raise (115 + 4 * p.val) (onPort p (fun x => { x with dropped := satInc x.dropped }) s) := by
  simp only [bar2Store, hl, hsave, ne_eq, not_true_eq_false, if_false, if_true]

theorem bar2Store_across (p : PortId) (off : Nat) (data : List Byte) (s : State) (hl : (s.ports[p]).link = 3)
    (hsave : s.tiers.saving = false) (hout : withinEntry off data.length = false) :
    bar2Store p off data s = raise (115 + 4 * p.val) s := by
  simp only [bar2Store, hl, hsave, hout, ne_eq, not_true_eq_false, if_false, Bool.not_false, Bool.false_eq_true, if_true]

theorem bar2Fetch_within (p : PortId) (off len : Nat) (s : State) (hl : (s.ports[p]).link = 3)
    (hin : withinEntry off len = true) : bar2Fetch p off len s = onPort p (fun x => { x with
      out := if s.sec.binding = 1 then slice (off % 64) len (tableEntry s (p.val * 0x400 + off / 64))
        else List.replicate len 0,
      unsupported := false }) s := by
  simp only [bar2Fetch, hl, hin, ne_eq, not_true_eq_false, if_false, Bool.not_true, Bool.false_eq_true]

theorem bar2Fetch_across (p : PortId) (off len : Nat) (s : State) (hl : (s.ports[p]).link = 3)
    (hout : withinEntry off len = false) : bar2Fetch p off len s =
      raise (115 + 4 * p.val) (onPort p (fun x => { x with out := [], unsupported := true }) s) := by
  simp only [bar2Fetch, hl, hout, ne_eq, not_true_eq_false, if_false, Bool.not_false, if_true]

/-- What the Stream Table holds after one entry was put into it. -/
theorem tableEntry_put (s : State) (k st : Nat) (e : List Byte) :
    tableEntry (onTiers (fun t => { t with table := aput t.table k e }) s) st = if st = k then e else tableEntry s st := by
  unfold tableEntry
  rw [onTiers_tiers]
  split
  · next h => rw [h, aget_aput_same]; rfl
  · next h => rw [aget_aput_other _ _ _ _ h]

theorem bar2Access : Claims.Bar2Access := by
  intro s p off hl
  refine ⟨fun data => ⟨fun hsave hin => ⟨_, rfl, ?_, fun st hst => ?_, ?_⟩, fun hsave => ⟨_, rfl, ?_⟩,
    fun hsave hout => ⟨_, rfl, ?_⟩⟩, fun len hin => ⟨_, rfl, ?_⟩, fun len hout => ⟨_, rfl, ?_⟩⟩
  · rw [bar2Store_within p off data s hl hsave hin, tableEntry_put, if_pos rfl]
  · rw [bar2Store_within p off data s hl hsave hin, tableEntry_put, if_neg hst]
  · rw [bar2Store_within p off data s hl hsave hin]
    rfl
  · rw [bar2Store_saving p off data s hl hsave]
    exact raise_onPort (115 + 4 * p.val) (by omega) p _ s
  · rw [bar2Store_across p off data s hl hsave hout]
    exact raise_gotEvent_frame (115 + 4 * p.val) (by omega) s
  · rw [bar2Fetch_within p off len s hl hin]
    exact onlyPort_onPort rfl
  · rw [bar2Fetch_across p off len s hl hout]
    exact raise_onPort (115 + 4 * p.val) (by omega) p _ s

/-- Settles O49: the host's write passes every check but the range, and each access runs into one branch of
`invalidateFrom`, `invalidateDone`, `bar2Store` or `bar2Fetch`. -/
theorem streamTableAccess : Obligations.StreamTableAccess := ⟨invalidations, bar2Access⟩

end Sys2Proof.TilePorts
end

section
/-! PROOF. Frames that reach no object and the response (chapter *Object Dictionary and Transport*, R450 to R452), and a
path whose open transfer is lost (R459). -/

namespace Sys2Proof.BusFrames

open Sys2Proof Sys2Proof.Machine Sys2Proof.Claims Sys2Proof.TilePorts

/-! ## An event of a source touches only the in-band interrupt's part of the bus (R430, R465) -/

/-- The bus with everything that an in-band interrupt writes taken out. -/
def besideIbi (s : State) : Bus := { s.bus with ibi := .idle, ibiData := 0, ibiWon := 0, ibiNacked := 0, out := [] }

theorem besideIbi_ite (c : Prop) [Decidable c] (a b : State) :
    besideIbi (if c then a else b) = if c then besideIbi a else besideIbi b := apply_ite besideIbi c a b

@[simp] theorem ibiAttempt_besideIbi (s : State) : besideIbi (ibiAttempt s) = besideIbi s := by
  unfold ibiAttempt
  dsimp only
  split_ifs <;> rfl

@[simp] theorem onTgt_besideIbi (t : TargetId) (f : Target → Target) (s : State) :
    besideIbi (onTgt t f s) = besideIbi s := rfl

@[simp] theorem onSrc_besideIbi (n : SourceId) (f : Source → Source) (s : State) :
    besideIbi (onSrc n f s) = besideIbi s := rfl

@[simp] theorem lines_besideIbi (s : State) : besideIbi (lines s) = besideIbi s := by simp [besideIbi]

@[simp] theorem issue_besideIbi (t : TargetId) (fast : Bool) (s : State) :
    besideIbi (issue t fast s) = besideIbi s := by
  unfold issue
  dsimp only
  split
  · simp only [besideIbi_ite, onTgt_besideIbi, ite_self]
  · rw [besideIbi_ite, ibiAttempt_besideIbi]
    exact ite_self _

@[simp] theorem notifyNow_besideIbi (t : TargetId) (fast : Bool) (s : State) :
    besideIbi (notifyNow t fast s) = besideIbi s := by
  unfold notifyNow
  simp only [besideIbi_ite, issue_besideIbi, ite_self]

@[simp] theorem testWindow_besideIbi (t : TargetId) (expired : Bool) (s : State) :
    besideIbi (testWindow t expired s) = besideIbi s := by
  unfold testWindow
  simp only [besideIbi_ite, issue_besideIbi, ite_self]

@[simp] theorem becamePending_besideIbi (fast : Bool) (t : TargetId) (s : State) :
    besideIbi (becamePending fast t s) = besideIbi s := by
  unfold becamePending
  simp only [besideIbi_ite, notifyNow_besideIbi, testWindow_besideIbi, onTgt_besideIbi, ite_self]

theorem raise_besideIbi (k : Nat) (s : State) : besideIbi (raise k s) = besideIbi s := by
  unfold raise
  dsimp only
  split
  case isFalse => rfl
  case isTrue =>
    split
    case h_1 => rfl
    case h_2 fast t _ =>
      split
      case isTrue => rfl
      case isFalse =>
        split
        case h_1 => simp
        case h_2 => simp
        case h_3 => rfl
        case h_4 => rfl

/-- What an event leaves of the bus: the answer to the transfer, the counters of R451 and R459, the open transfers. -/
@[simp] theorem raise_bus_keeps (k : Nat) (s : State) : (raise k s).bus.ack = s.bus.ack ∧
    (raise k s).bus.pecErrors = s.bus.pecErrors ∧ (raise k s).bus.frameErrors = s.bus.frameErrors ∧
    (raise k s).bus.abandonedSegs = s.bus.abandonedSegs ∧ (raise k s).bus.seg = s.bus.seg ∧
    (raise k s).bus.tunSeg = s.bus.tunSeg := by
  have h := raise_besideIbi k s
  exact ⟨(congrArg Bus.ack h :), (congrArg Bus.pecErrors h :), (congrArg Bus.frameErrors h :),
    (congrArg Bus.abandonedSegs h :), (congrArg Bus.seg h :), (congrArg Bus.tunSeg h :)⟩

/-! ## A transfer met -/

@[simp] theorem met_bus (x : Xfer) (s : State) :
    (met x s).bus = { s.bus with ack := true, mode := modeOf x.framing } := by
  simp [met]

/-- A transfer met changes the bus and, in HOLD, the core's clock. -/
theorem met_frame (x : Xfer) (s : State) : met x s = { s with bus := (met x s).bus, supply := (met x s).supply } := by
  unfold met touch
  split <;> rfl

/-- Whether an event is heard depends neither on the bus nor on the clock that the core runs from. -/
theorem hears_met (x : Xfer) (f : Bus → Bus) (s : State) (n : SourceId) :
    hears (onBus f (met x s)) n = hears s n := by
  unfold met touch
  split <;> rfl

/-! ## Frames (R450 to R452) -/

/-- The five rows of request frames are one operation. -/
theorem exec_frameRows {x : Xfer} {f : List Byte} {errs : WordErrors} {c : Instr} (hc : c ∈ frameRows x f errs)
    (s : State) : ∃ e, exec c s = .next (takeFrame x f e s) := by
  simp only [frameRows, List.mem_cons, List.not_mem_nil, or_false] at hc
  rcases hc with rfl | rfl | rfl | rfl | rfl <;> exact ⟨_, rfl⟩

theorem takeFrame_nacks (x : Xfer) (f : List Byte) (errs : WordErrors) (s : State)
    (h : addressed s x false = false ∨ s.bus.busy = true) : takeFrame x f errs s = nack s := by
  rcases h with h | h <;> simp [takeFrame, h]

theorem takeFrame_badPec {x : Xfer} {bs : List Byte} {pec : Byte} (errs : WordErrors) {s : State}
    (ha : addressed s x false = true) (hb : s.bus.busy = false) (hpec : pecOf x.addr false bs ≠ pec) :
    takeFrame x (bs ++ [pec]) errs s = discardPec (met x s) := by
  simp [takeFrame, ha, hb, hpec]

theorem takeFrame_noRequest {x : Xfer} {bs : List Byte} {pec : Byte} (errs : WordErrors) {s : State}
    (ha : addressed s x false = true) (hb : s.bus.busy = false) (hpec : pecOf x.addr false bs = pec)
    (hform : parseFrame bs = none) : takeFrame x (bs ++ [pec]) errs s = discardFrame (met x s) := by
  simp [takeFrame, ha, hb, hpec, hform]

/-- A frame discarded for its PEC has its answer and its counter, and leaves the other counter. -/
theorem discardPec_bus (s : State) : (discardPec s).bus.ack = s.bus.ack ∧ (discardPec s).bus.resp = [0x01, 0, 0] ∧
    (discardPec s).bus.pecErrors = satInc s.bus.pecErrors ∧ (discardPec s).bus.frameErrors = s.bus.frameErrors := by
  simp [discardPec, reply, onBus, abortCode, leBytes]

/-- A frame of no form of Table 14-2 likewise. -/
theorem discardFrame_bus (s : State) : (discardFrame s).bus.ack = s.bus.ack ∧
    (discardFrame s).bus.resp = [0x02, 0, 0] ∧ (discardFrame s).bus.frameErrors = satInc s.bus.frameErrors ∧
    (discardFrame s).bus.pecErrors = s.bus.pecErrors := by
  simp [discardFrame, reply, onBus, abortCode, leBytes]

/-- An event with a response behind a transfer met: only the bus, the distributor, the free values and, in HOLD, the
clock change. -/
theorem reply_raise_met (x : Xfer) (a : Abort) (k : Nat) (hk : k < 192) (f : Bus → Bus) {s t : State}
    (ht : t = reply a [] (raise k (onBus f (met x s)))) : gotEvent s t (Fin.ofNat 192 k) ∧
    t = { s with bus := t.bus, irq := t.irq, supply := t.supply, free := t.free } := by
  subst ht
  constructor
  · intro hheard
    have hirq : (onBus f (met x s)).irq = s.irq := by simp
    rw [← hirq]
    exact raise_gotEvent k hk (onBus f (met x s)) ((hears_met x f s _).trans hheard)
  · rw [raise_frame, met_frame]
    rfl

theorem framesDiscarded : Claims.FramesDiscarded := by
  intro s x bs pec errs c hc
  obtain ⟨e, hexec⟩ := exec_frameRows hc s
  refine ⟨fun hnack => ⟨nack s, ?_, rfl, rfl⟩, fun ha hb => ⟨fun hpec => ⟨discardPec (met x s), ?_, ?_⟩,
    fun hpec hform => ⟨discardFrame (met x s), ?_, ?_⟩⟩⟩
  · rw [hexec, takeFrame_nacks x _ e s hnack]
  · rw [hexec, takeFrame_badPec e ha hb hpec]
  · obtain ⟨hack, hresp, hpecs, hframes⟩ := discardPec_bus (met x s)
    obtain ⟨hevent, hkept⟩ := reply_raise_met x .pecError 152 (by decide) _ rfl
    rw [met_bus] at hack hpecs hframes
    exact ⟨hack, hresp, hpecs, hframes, hevent, hkept⟩
  · rw [hexec, takeFrame_noRequest e ha hb hpec hform]
  · obtain ⟨hack, hresp, hframes, hpecs⟩ := discardFrame_bus (met x s)
    obtain ⟨hevent, hkept⟩ := reply_raise_met x .frameError 153 (by decide) _ rfl
    rw [met_bus] at hack hframes hpecs
    exact ⟨hack, hresp, hframes, hpecs, hevent, hkept⟩

/-! ## The response (R452) -/

theorem readResponse_nacks (x : Xfer) (len : Nat) (s : State) (h : addressed s x true = false) :
    readResponse x len s = nack s := by
  simp [readResponse, h]

theorem readResponse_answers {x : Xfer} (len : Nat) {s : State} (h : addressed s x true = true) {r : List Byte}
    (hr : r = if s.bus.busy then [0xFF, 0, 0] else s.bus.resp) : readResponse x len s = onBus (fun b => { b with
      out := (r ++ [pecOf x.addr true r] ++ List.replicate len 0xFF).take len }) (met x s) := by
  subst hr
  simp [readResponse, h]

/-! ## 1 s without a segment (R459) -/

theorem abandon_none {path : Sys2Proof.Path} {s : State} (h : segOf s path = none) : abandon path s = s := by
  simp [abandon, h]

/-- A transfer that rewrites no image: it is closed and counted, and nothing else comes before the event. -/
theorem abandon_open {path : Sys2Proof.Path} {g : OpenSeg} {s : State} (h : segOf s path = some g)
    (himage : writesImage g = false) : abandon path s = raise 156 (setSeg path none
      (onBus (fun b => { b with abandonedSegs := satInc b.abandonedSegs }) s)) := by
  simp [abandon, h, himage, onBus]

@[simp] theorem segOf_raise (k : Nat) (path : Sys2Proof.Path) (s : State) : segOf (raise k s) path = segOf s path := by
  cases path <;> simp [segOf]

@[simp] theorem segOf_setSeg (path : Sys2Proof.Path) (g : Option OpenSeg) (s : State) :
    segOf (setSeg path g s) path = g := by
  cases path with
  | bus => rfl
  | tunnel p => exact upd_same s.bus.tunSeg p fun _ => g

@[simp] theorem setSeg_abandonedSegs (path : Sys2Proof.Path) (g : Option OpenSeg) (s : State) :
    (setSeg path g s).bus.abandonedSegs = s.bus.abandonedSegs := by
  cases path <;> rfl

/-- A transfer closed changes the bus only, so an event after it is heard as before it. -/
theorem setSeg_onBus_frame (path : Sys2Proof.Path) (g : Option OpenSeg) (f : Bus → Bus) (s : State) :
    setSeg path g (onBus f s) = { s with bus := (setSeg path g (onBus f s)).bus } := by
  cases path <;> rfl

/-- An event behind a change of the bus. -/
theorem raise_of_bus (k : Nat) (hk : k < 192) {s u : State} (hu : u = { s with bus := u.bus }) :
    gotEvent s (raise k u) (Fin.ofNat 192 k) ∧
    raise k u = { s with bus := (raise k u).bus, irq := (raise k u).irq, free := (raise k u).free } := by
  refine ⟨?_, ?_⟩
  · have hevent := raise_gotEvent k hk u
    rw [hu] at hevent ⊢
    exact hevent
  · rw [hu]
    exact raise_frame k _

theorem responseReads : Claims.ResponseReads := by
  intro s
  refine ⟨fun x len ha => ⟨readResponse x len s, rfl, ?_⟩, fun x len ha => ⟨readResponse x len s, rfl, ?_⟩,
    fun path g hopen himage => ⟨abandon path s, rfl, ?_⟩, fun path hnone => ?_⟩
  · refine ⟨fun r hr => by rw [readResponse_answers len ha hr]; rfl, ?_⟩
    rw [readResponse_answers len ha rfl]
    refine ⟨by simp, by simp, ?_⟩
    rw [met_frame]
    rfl
  · rw [readResponse_nacks x len s ha]
    rfl
  · obtain ⟨hevent, hframe⟩ := raise_of_bus 156 (by decide) (setSeg_onBus_frame path none
      (fun b => { b with abandonedSegs := satInc b.abandonedSegs }) s)
    rw [abandon_open hopen himage]
    exact ⟨by simp, by simp, hevent, hframe⟩
  · exact congrArg _ (abandon_none hnone)

/-- Settles O54: every frame row is `takeFrame`, which stops before any object in each of the three refusals, and an
event leaves the counters, the answer and the open transfers as it finds them. -/
theorem framesAndResponses : Obligations.FramesAndResponses := ⟨framesDiscarded, responseReads⟩

end Sys2Proof.BusFrames
end

section
/-! PROOF. Families of like things: a member after a change of every member. -/

namespace Sys2Proof.Families

open Sys2Proof Sys2Proof.Machine

theorem foldl_upd_get {α : Type} {n : Nat} (f : Fin n → α → α) (l : List (Fin n)) (hl : l.Nodup) (v : Fam n α)
    (j : Fin n) : (l.foldl (fun w i => upd w i (f i)) v)[j] = if j ∈ l then f j v[j] else v[j] := by
  induction l generalizing v with
  | nil => rfl
  | cons i l ih =>
    obtain ⟨hi, hl⟩ := List.nodup_cons.mp hl
    rw [List.foldl_cons, ih hl]
    by_cases hj : j = i
    · subst hj
      simp only [hi, if_false, upd_same, List.mem_cons, true_or, if_true]
    · have hne : i ≠ j := fun h => hj h.symm
      simp only [upd_other v i j (f i) hne, List.mem_cons, hj, false_or]

/-- Every member of a family changed at its own place. -/
theorem updAll_get {α : Type} {n : Nat} (v : Fam n α) (f : Fin n → α → α) (j : Fin n) :
    (updAll v f)[j] = f j v[j] := by
  rw [updAll, foldl_upd_get f _ (List.nodup_finRange n), if_pos (List.mem_finRange j)]

end Sys2Proof.Families
end

section
/-! PROOF. One step of the block, and the state after reset (assumptions 2 and 20). -/

namespace Sys2Proof.WholeBlock

open Sys2Proof Sys2Proof.Machine Sys2Proof.Claims

/-- Settles O1, by the definition of a step. -/
theorem stepRunsTheFrontCommand : Obligations.StepRunsTheFrontCommand := fun _ _ _ => rfl

/-! ## One microsecond -/

theorem step_of_empty {s : State} (h : s.pending = []) : step s = .next (tick s) := by
  simp only [step, h]

/-- A copy of a full anchor block under way is all that the end of such copies acts on. -/
theorem copiesEnd_idle_channels {s : State} (h : ∀ c : ChanId, (s.nand.chans[c]).copying = false) : copiesEnd s = s := by
  unfold copiesEnd
  split
  · have hnone : ((liveChans s).filter fun c => (s.nand.chans[c]).copying && !heldBack s.nand.chans[c] 2) = [] :=
      List.filter_eq_nil_iff.mpr fun c _ => by rw [h c]; simp
    rw [anchorCopies, hnone]
    rfl
  · rfl

theorem residencyAfter_get (y : Sys) (k : Fin 8) :
    (residencyAfter y)[k] = y.residency[k] + if k = stFin y.st then 1 else 0 := by
  by_cases hk : k = stFin y.st
  · subst hk
    simp [residencyAfter]
  · have hval : (stFin y.st).val ≠ k.val := fun h => hk (Fin.ext h.symm)
    simp [residencyAfter, hk, hval]

/-- Settles O2: a microsecond is counted by a die with power, and all else that can happen in it is the end of a copy of an
anchor block. -/
theorem emptyQueueLetsAMicrosecondPass : Obligations.EmptyQueueLetsAMicrosecondPass := by
  intro s hempty
  refine ⟨fun haon => ?_, fun haon => ⟨tick s, step_of_empty hempty, ?_⟩⟩
  · rw [step_of_empty hempty, tick, haon]
    rfl
  · have hsys : (tick s).sys = { s.sys with
        aonTime := s.sys.aonTime + 1, runUs := runTimeAfter s.sys, residency := residencyAfter s.sys } := by
      simp [tick, haon]
    have hcell : (tick s).cell = { s.cell with chargeUs := chargeTimeAfter s.cell } := by
      simp [tick, haon]
    refine ⟨?_, ?_, fun k => ?_, ?_, ?_, fun hidle => ?_, ?_⟩
    · rw [hsys]
    · rw [hsys]
      simp only [runTimeAfter]
      split <;> rfl
    · rw [hsys]
      exact residencyAfter_get s.sys k
    · rw [hsys]
    · rw [hcell]
      simp only [chargeTimeAfter, Bool.or_eq_true, decide_eq_true_eq]
      split <;> rfl
    · rw [hsys, hcell, tick, haon]
      exact copiesEnd_idle_channels hidle
    · apply State.ext <;> simp

/-- Settles O3: each field of the reset state is written out. -/
theorem resetState : Obligations.ResetState := by
  refine ⟨rfl, rfl, rfl, rfl, rfl, fun n => ?_, rfl, fun n => ?_, rfl, rfl, rfl⟩
  · simp [State.reset, RailSlot.init]
  · simp [State.reset, Irq.init]

/-- Settles O4. -/
theorem resetIsCanonical : Obligations.ResetIsCanonical := by
  refine ⟨?_, rfl, rfl⟩
  simp [State.reset, Flash.init, Flash.factoryPages, rising]

end Sys2Proof.WholeBlock
end

section
/-! PROOF. What every command keeps: it ends in a next state, leaves the queue and what the module was made with, and
keeps the canonical form of the maps (R478; chapters *Option Flash*, *Object Dictionary Transport*, *Tiers*). -/

namespace Sys2Proof.WholeBlock

open Sys2Proof Sys2Proof.Machine Sys2Proof.Claims

/-! ## What a command may not touch -/

/-- What every command keeps: the queue, what the module was made with, and the canonical form of the maps. -/
def sound (s t : State) : Prop :=
  t.pending = s.pending ∧ madeWith t = madeWith s ∧ (canonical s → canonical t)

theorem sound_refl (s : State) : sound s s := ⟨rfl, rfl, id⟩

theorem sound_trans {s t u : State} (hst : sound s t) (htu : sound t u) : sound s u :=
  ⟨htu.1.trans hst.1, htu.2.1.trans hst.2.1, htu.2.2 ∘ hst.2.2⟩

/-- Soundness unit by unit. -/
theorem sound_of_units {s t : State} (hpending : t.pending = s.pending) (hmade : madeWith t = madeWith s)
    (hpages : rising s.flash.pages = true → rising t.flash.pages = true)
    (hshadow : rising s.shadow = true → rising t.shadow = true)
    (htiles : rising s.tiers.tiles = true → rising t.tiers.tiles = true) : sound s t :=
  ⟨hpending, hmade, fun ⟨h1, h2, h3⟩ => ⟨hpages h1, hshadow h2, htiles h3⟩⟩

/-! ## The commands with more than one outcome -/

/-- A row of the sequencer: nothing is due, the word is bad, another step is due, or its step runs. -/
theorem stepAs_sound (op : Nat) (flips : U64) (f : StepWord → State → State) (s : State)
    (hf : ∀ w u, sound u (f w u)) : sound s (stepAs op flips f s) := by
  have hnote : ∀ c, sound s (noteCorrected c s) := fun c => by
    apply sound_of_units <;> intros <;> simp [madeWith, *]
  have hexit : ∀ u, sound u (safeExit 3 u) := fun u => by
    apply sound_of_units <;> intros <;> simp (maxDischargeDepth := 16) [madeWith, *]
  unfold stepAs
  split
  next => exact sound_refl s
  next c _ => exact sound_trans (hnote c) (hexit _)
  next w c _ =>
    split
    · exact sound_trans (hnote c) (hf w _)
    · exact sound_refl s

theorem afterProgram_sound (before s : State) : sound s (afterProgram before s) := by
  apply sound_of_units <;> intros <;> simp (maxDischargeDepth := 16) [madeWith, *]

/-- A host command: Safelight is off, the side is held, a veil begins, or the command is decoded. -/
theorem hostCommand_sound (r : RankId) (rowOk : Bool) (array f : State → State) (s : State)
    (harray : ∀ u, sound u (array u)) (hf : sound s (f s)) : sound s (hostCommand r rowOk array f s) := by
  have hveil : ∀ k c, sound s (veilBegins k c s) := fun k c => by
    apply sound_of_units <;> intros <;> simp [madeWith, *]
  have hcheck : ∀ k u, sound u (veilCheck k u) := fun k u => by
    apply sound_of_units <;> intros <;> simp [madeWith, *]
  unfold hostCommand
  split
  next =>
    split
    · exact harray s
    · exact sound_refl s
  next => apply sound_of_units <;> intros <;> simp [madeWith, *]
  next c _ =>
    have hreach : sound s (if reaches s r rowOk then array (veilBegins (subIx r.side r.sub) c s)
        else veilBegins (subIx r.side r.sub) c s) := by
      split
      · exact sound_trans (hveil _ c) (harray _)
      · exact hveil _ c
    dsimp only
    split
    · exact hreach
    · exact sound_trans hreach (hcheck _ _)
  next => exact hf

/-- Of the identity only the version that runs and the rollback counter ever move. -/
theorem madeWith_of_ident {s t : State} (h : t.ident = s.ident) : madeWith t = madeWith s := by
  simp only [madeWith, h]

theorem runImage_madeWith (errs : WordErrors) (b : Bool) (s : State) : madeWith (runImage errs b s) = madeWith s := by
  simp [madeWith, runImage]

theorem bootSteps_madeWith (errs : WordErrors) (s : State) : madeWith (bootSteps errs s) = madeWith s := by
  simp only [bootSteps]
  split
  · exact madeWith_of_ident (by simp [hostSide])
  · split
    · exact madeWith_of_ident (by simp [hostSide])
    next b _ =>
      calc madeWith (mainUp true (runImage errs b _))
          = madeWith (runImage errs b _) := madeWith_of_ident (by simp)
        _ = madeWith (loadKeys errs (startPowerUp (clampQ (loadOption errs s)))) := runImage_madeWith errs b _
        _ = madeWith s := madeWith_of_ident (by simp)

theorem pllLocks_madeWith (errs : WordErrors) (s : State) : madeWith (pllLocks errs s) = madeWith s := by
  unfold pllLocks
  split
  · rfl
  · split
    next => exact (bootSteps_madeWith errs _).trans (madeWith_of_ident (by simp))
    all_goals exact madeWith_of_ident (by simp)

theorem advanceRollback_madeWith (s : State) : madeWith (advanceRollback s) = madeWith s := by
  simp only [advanceRollback]
  split_ifs
  · rfl
  · simp [madeWith]
  · simp [madeWith]

theorem securityAtSetup_madeWith (s : State) : madeWith (securityAtSetup s) = madeWith s := by
  have hbinding : madeWith (bindingAtSetup (releaseBlocks s)) = madeWith s := madeWith_of_ident (by simp)
  have hrollback := (advanceRollback_madeWith (bindingAtSetup (releaseBlocks s))).trans hbinding
  simp only [securityAtSetup]
  split_ifs
  · exact (madeWith_of_ident (by simp)).trans hrollback
  · exact hrollback

theorem bootCompletes_madeWith (errs : WordErrors) (s : State) : madeWith (bootCompletes errs s) = madeWith s := by
  have hafter : ∀ u, madeWith (commitNow (logPoint 1 (logDeferred (hotJoin (fillPowerFail errs (negativeAtSetup u)))))) =
      madeWith u := fun u => madeWith_of_ident (by simp)
  simp only [bootCompletes]
  split
  · rfl
  · exact (hafter _).trans ((securityAtSetup_madeWith _).trans (madeWith_of_ident (by simp)))

theorem exec_sound (c : Instr) (s : State) : ∃ t, exec c s = .next t ∧ sound s t := by
  cases c <;> refine ⟨_, rfl, ?_⟩
  case enable | wait | waitFor | check | jump | trim | signal | endProgram =>
    refine sound_trans (stepAs_sound _ _ _ _ fun w u => ?_) (afterProgram_sound _ _)
    apply sound_of_units <;> intros <;> simp (maxDischargeDepth := 16) [madeWith, *]
  case activate | hostWrite | hostRead | precharge | refresh | selfRefreshEntry | selfRefreshExit | powerDownEntry |
      powerDownExit | modeRegisterWrite | multiPurposeCommand =>
    apply hostCommand_sound <;> intros <;> apply sound_of_units <;> intros <;> simp (maxDischargeDepth := 16) [madeWith, *]
  case pllLock =>
    apply sound_of_units <;> intros <;> simp (maxDischargeDepth := 16) [pllLocks_madeWith, *]
  case bootComplete =>
    apply sound_of_units <;> intros <;> simp (maxDischargeDepth := 16) [bootCompletes_madeWith, *]
  all_goals apply sound_of_units <;> intros <;> simp (maxDischargeDepth := 16) [madeWith, *]

/-- Settles O6. -/
theorem everyCommandEnds : Obligations.EveryCommandEnds := by
  intro c s
  obtain ⟨t, hexec, hpending, hmade, -⟩ := exec_sound c s
  exact ⟨t, hexec, hpending, hmade⟩

/-- A microsecond of idle time keeps the canonical form. -/
theorem tick_canonical (s : State) (h : canonical s) : canonical (tick s) := by
  obtain ⟨hpages, hshadow, htiles⟩ := h
  refine ⟨?_, ?_, ?_⟩ <;> simp [hpages, hshadow, htiles]

/-- Settles O5: the command at the front of the queue is sound, and idle time touches none of the three maps. -/
theorem everyStepKeepsCanonical : Obligations.EveryStepKeepsCanonical := by
  intro s t hcanon hstep
  unfold step at hstep
  split at hstep
  next c rest hpending =>
    obtain ⟨u, hexec, -, -, hkeeps⟩ := exec_sound c (s.withPending rest)
    cases hexec.symm.trans hstep
    exact hkeeps hcanon
  next =>
    cases hstep
    exact tick_canonical s hcanon

end Sys2Proof.WholeBlock
end

section
/-! PROOF. State requests of the host (R39, R40, Table 2-4): what a request does once its code has passed the checks of a
write, and the requests that are refused. -/

namespace Sys2Proof.DeviceStates

open Sys2Proof Sys2Proof.Machine Sys2Proof.Claims

/-! ## A request taken from the bus -/

theorem busFree_busy {s : State} (h : busFree s = true) : s.bus.busy = false := by
  simp only [busFree, Bool.and_eq_true, Bool.not_eq_true'] at h
  exact h.2

theorem touch_not_busy {s : State} (h : busFree s = true) : (touch s).bus.busy = false := by
  rw [touch_busy]
  exact busFree_busy h

/-- The answer to a write that leaves the bus path free. -/
theorem answered_written {a : Abort} {u : State} (h : u.bus.busy = false) : answered (written (a, u)) a := by
  rw [written_bus_done a u h]
  exact answered_reply a u h

theorem written_eq_reply {a : Abort} {u : State} (h : u.bus.busy = false) : written (a, u) = reply a [] u :=
  written_bus_done a u h

theorem reply_neg (a : Abort) (data : List Byte) (s : State) : (reply a data s).neg = s.neg := rfl

theorem reply_touch_frame (a : Abort) (s : State) :
    reply a [] (touch s) = { s with bus := (reply a [] (touch s)).bus, supply := (reply a [] (touch s)).supply } := by
  apply State.ext <;> simp

theorem touch_frame_outside_hold {s : State} (h : s.sys.st ≠ .hold) : touch s = { s with bus := (touch s).bus } := by
  rw [touch_of_not_hold s h]
  rfl

theorem reply_touch_outside_hold (a : Abort) {s : State} (h : s.sys.st ≠ .hold) :
    reply a [] (touch s) = { s with bus := (reply a [] (touch s)).bus } := by
  rw [touch_of_not_hold s h]
  rfl

/-- A request of Table 2-4, as its row runs it. -/
theorem exec_requestRow {s : State} {p : Nat × Instr} (hp : p ∈ requestRows) (hb : busFree s = true) :
    exec p.2 s = .next (written (stateRequest p.1 (touch s))) := by
  simp only [requestRows, List.mem_cons, List.not_mem_nil, or_false] at hp
  rcases hp with rfl | rfl | rfl | rfl | rfl | rfl | rfl
  all_goals exact congrArg _ (hostWrite_request s _ hb (by decide) (by decide))

theorem requestRow_not_wake {p : Nat × Instr} (hp : p ∈ requestRows) : p.1 ≠ 7 := by
  simp only [requestRows, List.mem_cons, List.not_mem_nil, or_false] at hp
  rcases hp with rfl | rfl | rfl | rfl | rfl | rfl | rfl
  all_goals decide

/-! ## Requests that are refused -/

theorem stateRequest_busy {code : Nat} {s : State} (hw : code ≠ 7) (hi : inProgress s = true) :
    stateRequest code s = (.stateBusy, s) := by
  simp only [stateRequest, hw, if_false, hi, if_true]

theorem stateRequest_elsewhere {code : Nat} {s : State} (hw : code ≠ 7) (hi : inProgress s = false)
    (hr : requestState code s = false) : stateRequest code s = (.deviceState, s) := by
  simp only [stateRequest, hw, if_false, hi, hr, Bool.false_eq_true, Bool.not_false, if_true]

/-- A request that is refused before any effect leaves its answer. -/
theorem requestRow_refused {s : State} {p : Nat × Instr} {a : Abort} (hp : p ∈ requestRows) (hb : busFree s = true)
    (hr : stateRequest p.1 (touch s) = (a, touch s)) :
    ∃ t, exec p.2 s = .next t ∧ answered t a ∧ t = { s with bus := t.bus, supply := t.supply } := by
  have hidle := touch_not_busy hb
  refine ⟨reply a [] (touch s), ?_, answered_reply a _ hidle, reply_touch_frame a s⟩
  rw [exec_requestRow hp hb, hr, written_eq_reply hidle]

/-- Settles O7: the two checks before a request's own are made on a state that has only met the transfer. -/
theorem requestsOutsideTheirStates : Obligations.RequestsOutsideTheirStates := by
  intro s p hb hp
  have hw := requestRow_not_wake hp
  refine ⟨fun hi => ?_, fun hi hr => ?_⟩
  · exact requestRow_refused hp hb (stateRequest_busy hw ((inProgress_touch s).trans hi))
  · exact requestRow_refused hp hb (stateRequest_elsewhere hw ((inProgress_touch s).trans hi)
      ((requestState_touch p.1 s).trans hr))

/-! ## Exposures by request (R172, R173) -/

theorem stateRequest_expose {s : State} (hi : inProgress s = false) (hrun : s.sys.st = .run) :
    stateRequest 4 s = exposeRequest 1 s ∧ stateRequest 5 s = exposeRequest 2 s ∧ stateRequest 6 s = exposeRequest 0 s := by
  simp [stateRequest, hi, requestState, hrun]

/-- The state that the energy check leaves: what it found is recorded (R173). -/
def energyChecked (frames : Nat) (s : State) : State :=
  onCell (fun c => { c with eAvail := mjDown (eAvail s), eReq := mjUp (eReq s frames) }) s

theorem energyCheck_eq (frames : Nat) (s : State) :
    energyCheck frames s = (decide (eReq s frames ≤ eAvail s), energyChecked frames s) := rfl

section
variable {s : State} {target : Byte}

theorem exposeRequest_low (h : eAvail s < eReq s (framesToExpose s (decide (target = 2)))) :
    exposeRequest target s = (.energyLow, energyChecked (framesToExpose s (decide (target = 2))) s) := by
  have hlow := decide_eq_false (Nat.not_le.mpr h)
  simp only [exposeRequest, energyCheck_eq, hlow, Bool.not_false, if_true]

theorem exposeRequest_disabled (h : eReq s (framesToExpose s true) ≤ eAvail s) (hp : pv s 0x3040 1 ≠ 1) :
    exposeRequest 2 s = (.deviceState, energyChecked (framesToExpose s true) s) := by
  simp [exposeRequest, energyCheck_eq, h, hp]

theorem exposeRequest_begins (h : eReq s (framesToExpose s (decide (target = 2))) ≤ eAvail s)
    (hp : target = 2 → pv s 0x3040 1 = 1) : exposeRequest target s =
      (.done, beginExpose 0x03 target false (energyChecked (framesToExpose s (decide (target = 2))) s)) := by
  have henough := decide_eq_true h
  have henabled : (decide (target = 2) && decide (pv s 0x3040 1 ≠ 1)) = false := by
    by_cases ht : target = 2
    · simp [hp ht]
    · rw [decide_eq_false ht, Bool.false_and]
  simp only [exposeRequest, energyCheck_eq, henough, henabled, Bool.not_true, Bool.false_eq_true, if_false]

end

/-- The energy check sees the same state before and after the transfer. -/
theorem energy_touch (s : State) : eAvail (touch s) = eAvail s ∧ (∀ n, eReq (touch s) n = eReq s n) ∧
    (∀ b, framesToExpose (touch s) b = framesToExpose s b) ∧ pv (touch s) 0x3040 1 = pv s 0x3040 1 :=
  ⟨eAvail_reads (by simp), eReq_reads (sameSettings_touch s) (by simp),
    framesToExpose_reads (sameSettings_touch s) (by simp), pv_reads (sameSettings_touch s) _ _⟩

/-- An Exposure that the check lets begin. -/
theorem exposes_beginExpose {s : State} {target : Byte} (frames : Nat) (hb : busFree s = true) (hrun : s.sys.st = .run) :
    exposes s (written (.done, beginExpose 0x03 target false (energyChecked frames (touch s)))) target := by
  have hidle : (beginExpose 0x03 target false (energyChecked frames (touch s))).bus.busy = false :=
    beginExpose_idle _ _ _ _ (touch_not_busy hb)
  have hst : s.sys.st ≠ .hold := by rw [hrun]; decide
  refine ⟨answered_written hidle, ?_⟩
  rw [written_eq_reply hidle, touch_of_not_hold s hst]
  refine ⟨by simp, by simp [energyChecked, hrun], by simp, by simp, by simp [energyChecked],
    ⟨newExpo (energyChecked frames (touch s)) .park 0x03 target false false, ?_, rfl, rfl, rfl⟩, by simp,
    by simp [energyChecked], ?_⟩
  · rw [← touch_of_not_hold s hst]
    rw [reply_neg, beginExpose_exp]
    rfl
  · apply State.ext <;> simp [energyChecked]

/-- A request that ends after the energy check has recorded what it found. -/
theorem checked_written {s : State} (a : Abort) (frames : Nat) (hb : busFree s = true) (hrun : s.sys.st = .run) :
    let t := written (a, energyChecked frames (touch s))
    answered t a ∧ t = { s with bus := t.bus, cell := t.cell } ∧ t.cell.eAvail = mjDown (eAvail s) ∧
      t.cell.eReq = mjUp (eReq s frames) := by
  have hidle : (energyChecked frames (touch s)).bus.busy = false := touch_not_busy hb
  have hst : s.sys.st ≠ .hold := by rw [hrun]; decide
  obtain ⟨havail, hreq, -, -⟩ := energy_touch s
  refine ⟨answered_written hidle, ?_⟩
  rw [written_eq_reply hidle]
  refine ⟨?_, ?_, ?_⟩
  · rw [touch_of_not_hold s hst]
    rfl
  · simp [energyChecked, havail]
  · simp [energyChecked, hreq]

/-- Settles O9: the request runs the energy check, and the rest follows its outcome. -/
theorem requestedExposure : Obligations.RequestedExposure := by
  intro s hb hrun hi
  obtain ⟨havail, hreq, hframes, hpartial⟩ := energy_touch s
  obtain ⟨hdeep, hpart, hcheck⟩ :=
    stateRequest_expose ((inProgress_touch s).trans hi) (by rw [(touch_keeps s).2.1, hrun])
  have hexec4 : exec .holdDeep s = .next (written (stateRequest 4 (touch s))) :=
    exec_requestRow (p := (4, .holdDeep)) (by decide) hb
  have hexec5 : exec .holdPartial s = .next (written (stateRequest 5 (touch s))) :=
    exec_requestRow (p := (5, .holdPartial)) (by decide) hb
  have hexec6 : exec .checkpoint s = .next (written (stateRequest 6 (touch s))) :=
    exec_requestRow (p := (6, .checkpoint)) (by decide) hb
  rw [hdeep] at hexec4
  rw [hpart] at hexec5
  rw [hcheck] at hexec6
  refine ⟨fun henough => ⟨⟨_, hexec4, ?_⟩, _, hexec6, ?_⟩, fun henough hon => ⟨_, hexec5, ?_⟩,
    fun henough hoff => ⟨_, hexec5, ?_⟩, fun hlow => ⟨⟨_, hexec4, ?_⟩, _, hexec6, ?_⟩, fun hlow => ⟨_, hexec5, ?_⟩⟩
  · rw [exposeRequest_begins (by rwa [hframes, hreq, havail]) (fun h => absurd h (by decide))]
    exact exposes_beginExpose _ hb hrun
  · rw [exposeRequest_begins (by rwa [hframes, hreq, havail]) (fun h => absurd h (by decide))]
    exact exposes_beginExpose _ hb hrun
  · rw [exposeRequest_begins (by rwa [hframes, hreq, havail]) (fun _ => hpartial.trans hon)]
    exact exposes_beginExpose _ hb hrun
  · rw [exposeRequest_disabled (by rwa [hframes, hreq, havail]) (by rwa [hpartial])]
    obtain ⟨hans, hframe, -, -⟩ := checked_written .deviceState (framesToExpose (touch s) true) hb hrun
    exact ⟨hans, hframe⟩
  · rw [exposeRequest_low (by rwa [hframes, hreq, havail]), hframes]
    exact checked_written .energyLow _ hb hrun
  · rw [exposeRequest_low (by rwa [hframes, hreq, havail]), hframes]
    exact checked_written .energyLow _ hb hrun
  · rw [exposeRequest_low (by rwa [hframes, hreq, havail]), hframes]
    exact checked_written .energyLow _ hb hrun

end Sys2Proof.DeviceStates
end

section
/-! PROOF. BOOT entry and wakes (R53, R61 to R64, R88): the record of a BOOT entry, and what WAKE and a wake tap lead to. -/

namespace Sys2Proof.DeviceStates

open Sys2Proof Sys2Proof.Machine Sys2Proof.Claims

/-! ## BOOT entry -/

/-- The record of states and boots after a BOOT entry. -/
@[simp] theorem bootEntry_sys (cause : Byte) (s : State) : (bootEntry cause s).sys =
    { s.sys with st := .boot, prev := s.sys.st, cause := cause, transitions := s.sys.transitions + 1, faultCause := 0,
                 depth := 0, bootEntries := satInc s.sys.bootEntries, bootAt := s.sys.aonTime.toNat, pllWait := true,
                 testDone := false, testFailed := false, powerUpDone := false, leaving := none,
                 wakingPartial := false } := by
  simp [bootEntry]

@[simp] theorem bootEntry_neg (cause : Byte) (s : State) :
    (bootEntry cause s).neg = { s.neg with exp := none, dev := none } := by
  simp [bootEntry]

@[simp] theorem bootEntry_supply (cause : Byte) (s : State) : (bootEntry cause s).supply =
    { s.supply with pll := false, clock := .aon, counting := false, triggered := false } := by
  simp [bootEntry, pllOff]

theorem volatileReset_chans (s : State) : (volatileReset s).nand.chans = s.nand.chans := rfl

theorem bootFrom_sys (cause : Byte) (s : State) : (bootFrom cause s).sys =
    { s.sys with st := .boot, prev := s.sys.st, cause := cause, transitions := s.sys.transitions + 1, faultCause := 0,
                 depth := 0, bootEntries := satInc s.sys.bootEntries, bootAt := s.sys.aonTime.toNat, pllWait := true,
                 testDone := false, testFailed := false, powerUpDone := false, leaving := none,
                 wakingPartial := false } := by
  simp [bootFrom]

theorem bootFrom_pll (cause : Byte) (s : State) : (bootFrom cause s).supply.pll = false := by
  simp [bootFrom]

theorem bootFrom_chans (cause : Byte) (s : State) : (bootFrom cause s).nand.chans = s.nand.chans := by
  simp [bootFrom, volatileReset_chans]

/-! ## Wakes -/

theorem wake_elsewhere (cause : Byte) {s : State} (h : s.sys.st ≠ .hold) : wake cause s = s := by
  simp [wake, h]

/-- From Hold-Partial with the crystal running the wake waits for the PLL. -/
theorem wake_partial (cause : Byte) {s : State} (h : s.sys.st = .hold) (hw : s.sys.wakingPartial = false)
    (hd : s.sys.depth = 2) (hx : s.supply.xtal = true) : wake cause s =
      onSys (fun y => { y with wakingPartial := true, pllWait := true, cause := cause })
        (onSupply (fun p => { p with triggered := false }) s) := by
  simp [wake, h, hw, hd, hx]

/-- From Hold-Deep, or with the crystal lost, the wake leads to BOOT. -/
theorem wake_boot (cause : Byte) {s : State} (h : s.sys.st = .hold) (hw : s.sys.wakingPartial = false)
    (hd : ¬ (s.sys.depth = 2 ∧ s.supply.xtal = true)) : wake cause s = bootFrom cause s := by
  have hboot : (decide (s.sys.depth = 2) && s.supply.xtal) = false := by
    rw [Bool.and_eq_false_iff, decide_eq_false_iff_not, ← Bool.not_eq_true]
    exact not_and_or.mp hd
  simp only [wake, h, hw, hboot, ne_eq, not_true_eq_false, decide_false, Bool.or_self, Bool.false_eq_true, if_false]

theorem wakes_wake (cause : Byte) {s : State} (h : s.sys.st = .hold) (hw : s.sys.wakingPartial = false) :
    wakes s (wake cause s) cause := by
  refine ⟨?_, fun hd hx => ?_, fun hd => ?_, ?_⟩
  · by_cases hp : s.sys.depth = 2 ∧ s.supply.xtal = true
    · rw [wake_partial cause h hw hp.1 hp.2]
      rfl
    · rw [wake_boot cause h hw hp, bootFrom_sys]
  · rw [wake_partial cause h hw hd hx]
    exact ⟨h, rfl, rfl, rfl, rfl, rfl⟩
  · have hdeep : ¬ (s.sys.depth = 2 ∧ s.supply.xtal = true) := by
      rw [hd]
      rintro ⟨h12, -⟩
      exact absurd h12 (by decide)
    rw [wake_boot cause h hw hdeep]
    refine ⟨?_, ?_, ?_, ?_, bootFrom_pll cause s, bootFrom_chans cause s⟩ <;> rw [bootFrom_sys]
    exact h
  · exact ⟨by simp, by simp, by simp⟩

/-- A wake is the same to the rest of the block whether the bus brought it or not. -/
theorem wakes_of_frame {s u v w : State} {cause : Byte} (hin : u = { s with bus := u.bus, supply := u.supply })
    (hxtal : u.supply.xtal = s.supply.xtal) (hout : w = { v with bus := w.bus }) (h : wakes u v cause) :
    wakes s w cause := by
  rw [hout]
  rw [hin] at h
  obtain ⟨hcause, hpart, hdeep, hkept⟩ := h
  exact ⟨hcause, fun hd hx => hpart hd (hxtal.trans hx), hdeep, hkept⟩

theorem touch_frame (s : State) : touch s = { s with bus := (touch s).bus, supply := (touch s).supply } := by
  apply State.ext <;> simp

theorem touch_xtal (s : State) : (touch s).supply.xtal = s.supply.xtal := by
  unfold touch
  split <;> rfl

theorem exec_wake {s : State} (hb : busFree s = true) : exec .wake s = .next (written (wakeRequest (touch s))) :=
  congrArg _ (hostWrite_request s 7 hb (by decide) (by decide))

/-- Settles O10: the tap and the request run the same wake, and outside HOLD only an Exposure to HOLD takes it. -/
theorem wakesByState : Obligations.Wakes := by
  intro s
  refine ⟨fun hst hw haon => ⟨⟨_, rfl, ?_⟩, fun hb => ⟨_, exec_wake hb, ?_⟩⟩, fun hst => ?_, fun hb hst hd =>
    ⟨_, exec_wake hb, ?_⟩, fun hb hst hst' => ⟨_, exec_wake hb, ?_⟩⟩
  · rw [haon]
    exact wakes_wake 0x08 hst hw
  · have htouched : (touch s).sys.st = .hold := by simpa using hst
    have hidle : (wake 0x03 (touch s)).bus.busy = false := wake_idle _ _ (touch_not_busy hb)
    rw [wakeRequest, if_pos htouched]
    refine ⟨answered_written hidle, ?_⟩
    rw [written_eq_reply hidle]
    exact wakes_of_frame (touch_frame s) (touch_xtal s) rfl (wakes_wake 0x03 htouched (by simpa using hw))
  · simp only [exec, execWakeTap, wake_elsewhere _ hst, ite_self]
  · have hidle := touch_not_busy hb
    have hnot : s.sys.st ≠ .hold := by rw [hst]; decide
    have hlatch : wakeRequest (touch s) = (.done, onNeg (fun n => { n with
        exp := n.exp.map fun e => { e with wakeLatched := true } }) (touch s)) := by
      simpa [wakeRequest, hst] using hd
    rw [hlatch]
    refine ⟨answered_written hidle, ?_⟩
    rw [written_eq_reply (by exact hidle), touch_of_not_hold s hnot]
    exact ⟨rfl, rfl⟩
  · have hidle := touch_not_busy hb
    have hrefused : wakeRequest (touch s) = (.deviceState, touch s) := by
      simp [wakeRequest, hst, hst']
    rw [hrefused]
    refine ⟨answered_written hidle, ?_⟩
    rw [written_eq_reply hidle]
    exact reply_touch_outside_hold _ hst

end Sys2Proof.DeviceStates
end

section
/-! PROOF. The dynamic address under the operations of a main-die reset: each of them reaches the bus only through the events
that it makes and the transfers that it drops (R440, R445). -/

namespace Sys2Proof.DeviceStates

open Sys2Proof Sys2Proof.Machine Sys2Proof.Claims Sys2Proof.BusFrames Sys2Proof.Families
  Sys2Proof.TilePorts

@[simp] theorem raise_dynAddr (k : Nat) (s : State) : (raise k s).bus.dynAddr = s.bus.dynAddr :=
  (congrArg Bus.dynAddr (raise_besideIbi k s) :)

@[simp] theorem notifyNow_dynAddr (t : TargetId) (fast : Bool) (s : State) :
    (notifyNow t fast s).bus.dynAddr = s.bus.dynAddr :=
  (congrArg Bus.dynAddr (notifyNow_besideIbi t fast s) :)

@[simp] theorem fold_dynAddr {α : Type} (g : State → α → State) (h : ∀ s a, (g s a).bus.dynAddr = s.bus.dynAddr)
    (l : List α) (s : State) : (l.foldl g s).bus.dynAddr = s.bus.dynAddr := by
  induction l generalizing s with
  | nil => rfl
  | cons a l ih => exact (ih _).trans (h s a)

@[simp] theorem ite_dynAddr (c : Prop) [Decidable c] (a b : Bus) :
    (if c then a else b).dynAddr = if c then a.dynAddr else b.dynAddr := apply_ite Bus.dynAddr c a b

@[simp] theorem retire_dynAddr (c : ChanId) (b : Nat) (s : State) : (retire c b s).bus.dynAddr = s.bus.dynAddr := by
  unfold retire
  simp

@[simp] theorem letGo_dynAddr (c : ChanId) (b : Nat) (s : State) : (letGo c b s).bus.dynAddr = s.bus.dynAddr := by
  unfold letGo
  simp

@[simp] theorem freeBlocks_dynAddr (c : ChanId) (test : Nat → NandBlock → Bool) (s : State) :
    (freeBlocks c test s).bus.dynAddr = s.bus.dynAddr := by
  unfold freeBlocks
  simp

@[simp] theorem freeBlocksAll_dynAddr (test : ChanId → Nat → NandBlock → Bool) (s : State) :
    (freeBlocksAll test s).bus.dynAddr = s.bus.dynAddr := by
  unfold freeBlocksAll
  simp

@[simp] theorem collectF_dynAddr (s : State) : (collectF s).bus.dynAddr = s.bus.dynAddr := by
  unfold collectF
  simp

@[simp] theorem updateFits_dynAddr (s : State) : (updateFits s).bus.dynAddr = s.bus.dynAddr := by
  unfold updateFits
  simp

@[simp] theorem freeGens_dynAddr (test : Nat → Bool) (s : State) : (freeGens test s).bus.dynAddr = s.bus.dynAddr := by
  unfold freeGens
  simp

@[simp] theorem dropCons_dynAddr (s : State) : (dropCons s).bus.dynAddr = s.bus.dynAddr := by
  unfold dropCons
  split <;> simp

@[simp] theorem programEnds_dynAddr (result : Byte) (s : State) :
    (programEnds result s).bus.dynAddr = s.bus.dynAddr := by
  unfold programEnds
  split <;> simp

@[simp] theorem preempt_dynAddr (s : State) : (preempt s).bus.dynAddr = s.bus.dynAddr := by
  unfold preempt
  simp

@[simp] theorem exposureEnds_dynAddr (result : Byte) (s : State) :
    (exposureEnds result s).bus.dynAddr = s.bus.dynAddr := by
  unfold exposureEnds
  split <;> simp

@[simp] theorem programEnded_dynAddr (k : Nat) (s : State) : (programEnded k s).bus.dynAddr = s.bus.dynAddr := by
  unfold programEnded
  simp

@[simp] theorem programsEnd_dynAddr (s : State) : (programsEnd s).bus.dynAddr = s.bus.dynAddr := by
  unfold programsEnd
  refine fold_dynAddr _ (fun u k => ?_) _ _
  split
  · split <;> simp
  · rfl

@[simp] theorem saveTile_dynAddr (seq : Nat) (k : Nat) (s : State) :
    (saveTile seq k s).bus.dynAddr = s.bus.dynAddr := by
  unfold saveTile
  split
  · dsimp only
    split
    · split <;> simp
    · simp
  · rfl

@[simp] theorem saveEnds_dynAddr (s : State) : (saveEnds s).bus.dynAddr = s.bus.dynAddr := by
  unfold saveEnds
  simp

@[simp] theorem imageRejected_dynAddr (s : State) : (imageRejected s).bus.dynAddr = s.bus.dynAddr := by
  unfold imageRejected
  simp

@[simp] theorem setSeg_dynAddr (p : Sys2Proof.Path) (g : Option OpenSeg) (s : State) :
    (setSeg p g s).bus.dynAddr = s.bus.dynAddr := by
  unfold setSeg
  split <;> simp

@[simp] theorem abandon_dynAddr (p : Sys2Proof.Path) (s : State) : (abandon p s).bus.dynAddr = s.bus.dynAddr := by
  unfold abandon
  split <;> simp

@[simp] theorem abandonAll_dynAddr (s : State) : (abandonAll s).bus.dynAddr = s.bus.dynAddr := by
  unfold abandonAll
  simp

@[simp] theorem release_dynAddr (t : TargetId) (s : State) : (release t s).bus.dynAddr = s.bus.dynAddr := by
  unfold release
  simp

@[simp] theorem enter_dynAddr (st : DevState) (cause : Byte) (s : State) :
    (enter st cause s).bus.dynAddr = s.bus.dynAddr := by
  unfold enter
  simp

@[simp] theorem closeSession_dynAddr (s : State) : (closeSession s).bus.dynAddr = s.bus.dynAddr := by
  unfold closeSession
  simp

@[simp] theorem bootEntry_dynAddr (cause : Byte) (s : State) : (bootEntry cause s).bus.dynAddr = s.bus.dynAddr := by
  unfold bootEntry
  simp

@[simp] theorem reenter_dynAddr (n : SourceId) (s : State) : (reenter n s).bus.dynAddr = s.bus.dynAddr := by
  unfold reenter
  dsimp only
  split <;> simp

@[simp] theorem resetTarget_dynAddr (t : TargetId) (s : State) : (resetTarget t s).bus.dynAddr = s.bus.dynAddr := by
  unfold resetTarget
  simp

@[simp] theorem resetPort_dynAddr (p : PortId) (kind : ResetKind) (s : State) :
    (resetPort p kind s).bus.dynAddr = s.bus.dynAddr := by
  unfold resetPort
  simp

@[simp] theorem portsDown_dynAddr (s : State) : (portsDown s).bus.dynAddr = s.bus.dynAddr := by
  unfold portsDown
  simp

@[simp] theorem closeWindows_dynAddr (s : State) : (closeWindows s).bus.dynAddr = s.bus.dynAddr := by
  unfold closeWindows
  simp

@[simp] theorem mainDown_dynAddr (s : State) : (mainDown s).bus.dynAddr = s.bus.dynAddr := by
  unfold mainDown
  simp

@[simp] theorem resetSources_dynAddr (s : State) : (resetSources s).bus.dynAddr = s.bus.dynAddr := by
  unfold resetSources
  simp

@[simp] theorem volatileReset_dynAddr (s : State) : (volatileReset s).bus.dynAddr = s.bus.dynAddr := by
  unfold volatileReset
  simp

/-! ## What a main-die reset does in turn (R83 to R86, R440) -/

/-- The program that runs is stopped. -/
def programStopped (s : State) : State := match s.seq.run with | some _ => preempt s | none => s

/-- The block when a reset takes the power of the main die: V objects at their defaults, no program, no Exposure, the tiers
saved. -/
def resetReady (source : Byte) (s : State) : State :=
  let s := onSys (fun y => { y with resetSource := source, leaving := none })
    (exposureEnds 2 (programStopped (volatileReset s)))
  if maySave s && !s.nand.blank then saveEnds (if s.tiers.saving then s else saveBegins s) else s

theorem mainReset_eq (source : Byte) (s : State) :
    mainReset source s = bootEntry 0x09 (resetSources (mainDown (resetReady source s))) := rfl

theorem preempt_run (s : State) : (preempt s).seq.run = none := by
  simp only [preempt, programEnds]
  split
  next h => exact h
  next => simp [setResult]; split <;> rfl

theorem programStopped_run (s : State) : (programStopped s).seq.run = none := by
  unfold programStopped
  split
  next => exact preempt_run s
  next h => exact h

@[simp] theorem programStopped_keeps (s : State) : (programStopped s).ident = s.ident ∧
    (programStopped s).sys = s.sys ∧ (programStopped s).rails = s.rails ∧ (programStopped s).log = s.log ∧
    (programStopped s).shadow = s.shadow ∧ (programStopped s).light = s.light ∧
    (programStopped s).bus.dynAddr = s.bus.dynAddr := by
  unfold programStopped
  split <;> simp

theorem volatileReset_dram (s : State) : (volatileReset s).light.dram = s.light.dram := rfl

theorem resetReady_keeps (source : Byte) (s : State) : (resetReady source s).ident = s.ident ∧
    (resetReady source s).sys = { s.sys with resetSource := source, leaving := none } ∧
    (resetReady source s).rails = (volatileReset s).rails ∧
    (resetReady source s).log = s.log ∧ (resetReady source s).shadow = s.shadow ∧
    (resetReady source s).light.dram = s.light.dram ∧ (resetReady source s).bus.dynAddr = s.bus.dynAddr ∧
    (resetReady source s).seq.run = none := by
  unfold resetReady
  dsimp only
  split
  · split <;> simp [programStopped_run, volatileReset_dram]
  · simp [programStopped_run, volatileReset_dram]

theorem mainDown_sys (s : State) : (mainDown s).sys = { s.sys with mainOn := false } := by
  unfold mainDown
  split
  next h => simp at h; rw [← h]
  next => simp

theorem mainDown_dram (s : State) : (mainDown s).light.dram = s.light.dram := by
  unfold mainDown
  split
  next => rfl
  next => simp

theorem volatileReset_slot (n : SlotId) (s : State) : ((volatileReset s).rails[n]).en = (s.rails[n]).en ∧
    ((volatileReset s).rails[n]).st = (s.rails[n]).st ∧ ((volatileReset s).rails[n]).counts = (s.rails[n]).counts := by
  simp only [volatileReset, railsVolatile, suspectsEnd, updAll_get, marginZero, and_self]

/-! ## The sources after a reset (R440) -/

/-- An event leaves the sources as they are, or changes its own. -/
theorem raise_src_cases (k : Nat) (hk : k < 192) (s : State) :
    (raise k s).irq.src = s.irq.src ∨ ∃ f, (raise k s).irq.src = upd s.irq.src ⟨k, hk⟩ f := by
  generalize hu : raise k s = u
  cases hroute : route s k with
  | none =>
    simp only [raise, hk, dif_pos, hroute] at hu
    exact .inl (hu ▸ rfl)
  | some r =>
    by_cases hoff : (!s.supply.aon || (!s.sys.mainOn && !aonSource k)) = true
    · simp only [raise, hk, dif_pos, hroute, hoff, if_true] at hu
      exact .inl (hu ▸ rfl)
    · cases hst : (s.irq.src[(⟨k, hk⟩ : SourceId)]).st <;>
        simp only [raise, hk, dif_pos, hroute, hoff, if_false, hst, Bool.false_eq_true] at hu <;> subst hu
      case inactive => exact .inr ⟨_, by rw [lines_src, becamePending_src, onSrc_src]⟩
      case active => exact .inr ⟨_, by rw [lines_src, onSrc_src]⟩
      case pending => exact .inl rfl
      case activePending => exact .inl rfl

/-- An event moves its own source only. -/
theorem raise_src_other (k : Nat) (s : State) (n : SourceId) (h : n.val ≠ k) :
    (raise k s).irq.src[n] = s.irq.src[n] := by
  by_cases hk : k < 192
  · have hne : (⟨k, hk⟩ : SourceId) ≠ n := fun he => h (congrArg Fin.val he).symm
    rcases raise_src_cases k hk s with hsame | ⟨f, hown⟩
    · rw [hsame]
    · rw [hown, upd_other _ _ _ _ hne]
  · simp only [raise, hk, dif_neg, not_false_eq_true]

@[simp] theorem release_src (t : TargetId) (s : State) : (release t s).irq.src = s.irq.src := by
  simp [release]

theorem resetSources_src (s : State) (n : SourceId) : ((resetSources s).irq.src[n]).st = .inactive := by
  simp [resetSources]

theorem closeSession_src (s : State) (n : SourceId) (h : n.val ≠ 145) :
    (closeSession s).irq.src[n] = s.irq.src[n] := by
  unfold closeSession
  dsimp only
  split
  · exact raise_src_other 145 _ n h
  · rfl

theorem setSeg_src (p : Sys2Proof.Path) (g : Option OpenSeg) (s : State) : (setSeg p g s).irq.src = s.irq.src := by
  cases p <;> rfl

theorem imageRejected_src (s : State) (n : SourceId) (h : n.val ≠ 148) :
    (imageRejected s).irq.src[n] = s.irq.src[n] := by
  unfold imageRejected
  split
  · rfl
  · exact raise_src_other 148 _ n h

theorem imageRejected_if_src (b : Bool) (s : State) (n : SourceId) (h : n.val ≠ 148) :
    (if b then imageRejected s else s).irq.src[n] = s.irq.src[n] := by
  cases b with
  | false => rfl
  | true => exact imageRejected_src s n h

theorem abandon_src (p : Sys2Proof.Path) (s : State) (n : SourceId) (h : n.val ≠ 148) (h' : n.val ≠ 156) :
    (abandon p s).irq.src[n] = s.irq.src[n] := by
  unfold abandon
  split
  case h_1 => rfl
  case h_2 =>
    refine (raise_src_other 156 _ n h').trans ((imageRejected_if_src _ _ n h).trans ?_)
    rw [setSeg_src]

theorem abandonAll_src (s : State) (n : SourceId) (h : n.val ≠ 148) (h' : n.val ≠ 156) :
    (abandonAll s).irq.src[n] = s.irq.src[n] := by
  have hfold : ∀ (l : List Sys2Proof.Path) (u : State),
      (l.foldl (fun (s : State) p => abandon p s) u).irq.src[n] = u.irq.src[n] := by
    intro l
    induction l with
    | nil => exact fun _ => rfl
    | cons p l ih => exact fun u => (ih _).trans (abandon_src p u n h h')
  exact (hfold _ _).trans (abandon_src .bus s n h h')

/-- The record of a state that is entered, before the transfers of the old one are dropped. -/
def entered (st : DevState) (cause : Byte) (s : State) : State :=
  { s with
    sys := { s.sys with st := st, prev := s.sys.st, cause := cause, transitions := s.sys.transitions + 1,
                        faultCause := if st = .fault then s.sys.faultCause else 0,
                        depth := if st = .expose || st = .hold then s.sys.depth else 0 },
    flash := { s.flash with held := false } }

theorem enter_eq (st : DevState) (cause : Byte) (s : State) : enter st cause s =
    if held s 0 && !held (raise 32 (abandonAll (entered st cause s))) 0 then
      release 0 (raise 32 (abandonAll (entered st cause s)))
    else lines (raise 32 (abandonAll (entered st cause s))) := rfl

theorem enter_src_eq (st : DevState) (cause : Byte) (s : State) :
    (enter st cause s).irq.src = (raise 32 (abandonAll (entered st cause s))).irq.src := by
  rw [enter_eq]
  simp only [ite_src, release_src, lines_src, ite_self]

theorem enter_src (st : DevState) (cause : Byte) (s : State) (n : SourceId) (h : n.val ∉ [32, 148, 156]) :
    (enter st cause s).irq.src[n] = s.irq.src[n] := by
  simp only [List.mem_cons, List.not_mem_nil, or_false, not_or] at h
  obtain ⟨h32, h148, h156⟩ := h
  rw [enter_src_eq, raise_src_other 32 _ n h32, abandonAll_src _ n h148 h156]
  rfl

/-- The sources that a BOOT entry itself can raise: the entry's own, and those of a session and of transfers that it ends. -/
theorem bootEntry_src (cause : Byte) (s : State) (n : SourceId) (h : n.val ∉ [32, 145, 148, 156]) :
    (bootEntry cause s).irq.src[n] = s.irq.src[n] := by
  simp only [List.mem_cons, List.not_mem_nil, or_false, not_or] at h
  obtain ⟨h32, h145, h148, h156⟩ := h
  unfold bootEntry
  dsimp only
  rw [enter_src _ _ _ n (by simp [h32, h148, h156])]
  exact closeSession_src s n h145

/-! ## RESET and MR_n -/

theorem resets_mainReset (source : Byte) (s : State) : resets s (mainReset source s) source := by
  obtain ⟨hident, hsys, hrails, hlog, hshadow, hdram, haddr, hrun⟩ := resetReady_keeps source s
  rw [mainReset_eq]
  have hrecord : (bootEntry 0x09 (resetSources (mainDown (resetReady source s)))).sys =
      { s.sys with resetSource := source, mainOn := false, st := .boot, prev := s.sys.st, cause := 0x09,
                   transitions := s.sys.transitions + 1, faultCause := 0, depth := 0,
                   bootEntries := satInc s.sys.bootEntries, bootAt := s.sys.aonTime.toNat, pllWait := true,
                   testDone := false, testFailed := false, powerUpDone := false, leaving := none,
                   wakingPartial := false } := by
    rw [bootEntry_sys, (resetSources_keeps _).2.2.1, mainDown_sys, hsys]
  refine ⟨?_, ?_, ?_, ?_, ?_, ?_, ?_, ?_, ?_, ?_, fun n => ?_, fun n hn => ?_, ?_, ?_, ?_, ?_, ?_, ?_⟩
  · rw [hrecord]
  · rw [hrecord]
  · rw [hrecord]
  · rw [hrecord]
  · rw [hrecord]
  · rw [hrecord]
  · rw [hrecord]
  · simpa using hrun
  · rw [bootEntry_neg]
  · rw [bootEntry_neg]
  · have hslots : (bootEntry 0x09 (resetSources (mainDown (resetReady source s)))).rails = (volatileReset s).rails := by
      simpa using hrails
    rw [hslots]
    exact volatileReset_slot n s
  · rw [bootEntry_src 0x09 _ n hn]
    exact resetSources_src _ n
  · rw [hrecord]
  · simpa [mainDown_dram] using hdram
  · simpa using hshadow
  · simpa using hlog
  · simpa using hident
  · simpa using haddr

theorem stateRequest_reset {s : State} (hi : inProgress s = false) (hst : s.sys.st = .setup ∨ s.sys.st = .fault) :
    stateRequest 8 s = (.done, mainReset 3 s) := by
  have hstates : requestState 8 s = true := by
    rcases hst with h | h <;> simp [requestState, h]
  simp [stateRequest, hi, hstates]

/-- A reset of the state that has met the transfer is one of the state before it. -/
theorem resets_of_touch {s t : State} {source : Byte} (h : resets (touch s) t source) : resets s t source := by
  simpa [resets] using h

theorem resets_reply {s t : State} {source : Byte} (a : Abort) (h : resets s t source) :
    resets s (reply a [] t) source := h

/-- Settles O11: RESET and MR_n run the same main-die reset, each with its own reset source. -/
theorem mainDieResets : Obligations.MainDieResets := by
  intro s
  refine ⟨fun hb hi hst => ?_, fun haon hdark hhold => ?_, fun hst => ?_⟩
  · have hidle : (mainReset 3 (touch s)).bus.busy = false := mainReset_idle _ _ (touch_not_busy hb)
    have hreq : stateRequest 8 (touch s) = (.done, mainReset 3 (touch s)) :=
      stateRequest_reset ((inProgress_touch s).trans hi) (by simpa using hst)
    refine ⟨written (.done, mainReset 3 (touch s)), ?_, answered_written hidle, ?_⟩
    · rw [exec_requestRow (p := (8, .reset)) (by decide) hb, hreq]
    · rw [written_eq_reply hidle]
      exact resets_reply .done (resets_of_touch (resets_mainReset 3 (touch s)))
  · refine ⟨mainReset 2 s, ?_, resets_mainReset 2 s⟩
    simp [exec, execMrNReset, mrReset, haon, hdark, hhold]
  · rcases hst with h | h <;> simp [exec, execMrNReset, mrReset, h]

end Sys2Proof.DeviceStates
end

section
/-! PROOF. Power-fail triggers outside RUN (R45, R46) and the VIN events that are no trigger (R113, R114). -/

namespace Sys2Proof.DeviceStates

open Sys2Proof Sys2Proof.Machine Sys2Proof.Claims Sys2Proof.TilePorts

/-! ## On the way to DARK -/

@[simp] theorem dropCons_gens (s : State) : (dropCons s).neg.gens = s.neg.gens := by
  unfold dropCons
  split
  next => rw [freeGens_neg]; simp
  next => rfl

@[simp] theorem mainDown_generations (s : State) :
    (mainDown s).neg.exp = s.neg.exp ∧ (mainDown s).neg.gens = s.neg.gens := by
  unfold mainDown
  split
  next => exact ⟨rfl, rfl⟩
  next => simp

/-- A block on its way to DARK with a cause, or there, its Exposure and its generations as in `s`. -/
def leavesToDark (cause : Byte) (s t : State) : Prop :=
  t.neg.exp = s.neg.exp ∧ t.neg.gens = s.neg.gens ∧ t.sys.cause = cause ∧
    (t.sys.st = .dark ∨ ∃ ph, t.sys.leaving = some (.dark cause, ph))

theorem finishDark_leaves (cause : Byte) (s : State) : leavesToDark cause s (finishDark cause s) := by
  simp [leavesToDark, finishDark, debounce, pllOff]

theorem leaveProgram_leaves (cause : Byte) {s : State} (hc : s.sys.cause = cause) :
    leavesToDark cause s (leaveProgram (.dark cause) s) := by
  have hwaits : ∀ u : State, u.neg = s.neg → u.sys.cause = cause → u.sys.leaving = some (.dark cause, .program) →
      leavesToDark cause s u := fun u hn hcu hl => ⟨by rw [hn], by rw [hn], hcu, .inr ⟨_, hl⟩⟩
  have hends : ∀ u : State, u.neg = s.neg → leavesToDark cause s (leaveDisable (.dark cause) u) := fun u hn => by
    have h := finishDark_leaves cause u
    unfold leavesToDark at h
    rw [hn] at h
    exact h
  unfold leaveProgram
  dsimp only
  split
  · exact hwaits _ rfl hc rfl
  · split
    · exact hends _ rfl
    · split
      · exact hends _ (by simp)
      · exact hwaits _ (by simp) (by simpa using hc) (by simp)

theorem beginLeave_leaves (cause : Byte) {s : State} (hc : s.sys.cause = cause) :
    leavesToDark cause s (beginLeave (.dark cause) s) := by
  unfold beginLeave
  split
  · exact ⟨rfl, rfl, hc, .inr ⟨_, rfl⟩⟩
  · exact leaveProgram_leaves cause hc

theorem powerFailDark_leaves (cause : Byte) {s : State} (hl : s.sys.leaving = none) :
    leavesToDark cause s (powerFailDark cause s) := by
  have hstart : ∀ u : State, u.neg = { s.neg with dev := none } → u.sys.cause = cause →
      leavesToDark cause s (beginLeave (.dark cause) u) := fun u hn hc => by
    obtain ⟨hexp, hgens, hcause, hway⟩ := beginLeave_leaves cause hc
    exact ⟨by rw [hexp, hn], by rw [hgens, hn], hcause, hway⟩
  unfold powerFailDark
  rw [hl]
  dsimp only
  split
  · split
    · exact hstart _ (by simp) (by simp)
    · exact hstart _ (by simp) (by simp)
  · exact hstart _ (by simp) (by simp)

/-! ## A trigger by the state it meets -/

/-- The block once a trigger has done what every trigger does, and is noted. -/
def triggerNoted (s : State) : State :=
  onSupply (fun p => { p with triggered := true, counting := false }) (triggerCommon s)

@[simp] theorem triggerNoted_keeps (s : State) : (triggerNoted s).ident = s.ident ∧ (triggerNoted s).sys = s.sys ∧
    (triggerNoted s).rails = s.rails ∧ (triggerNoted s).seq = s.seq ∧ (triggerNoted s).shadow = s.shadow ∧
    (triggerNoted s).light = s.light ∧ (triggerNoted s).neg = s.neg ∧ (triggerNoted s).tiers = s.tiers ∧
    (triggerNoted s).supply = { s.supply with triggered := true, counting := false } := by
  simp [triggerNoted]

/-- The units that the pins do not belong to are as before a trigger's condition lapsed. -/
theorem lapsedPins_frame (cause : Byte) (s : State) : lapsedPins cause s = { s with supply := (lapsedPins cause s).supply } :=
  rfl

theorem triggersElsewhere : Claims.TriggersElsewhere := by
  intro s p hp ha hclk
  have hau : (lapsedPins p.2 s).supply.aon = true := (pinsAfter_aon p.2 s.supply).trans ha
  have hexec := exec_trigger s p hp hclk
  refine ⟨fun hdark => ⟨triggerNoted (lapsedPins p.2 s), ?_, ?_⟩, fun hst hleave =>
    ⟨powerFailDark p.2 (triggerNoted (lapsedPins p.2 s)), ?_, ?_⟩⟩
  · have hst : (triggerNoted (lapsedPins p.2 s)).sys.st = .dark := by simpa [lapsedPins] using hdark
    rw [hexec, powerFail, hau]
    simp only [Bool.not_true, Bool.false_eq_true, if_false]
    rw [← triggerNoted, hst]
  · simp only [triggerNoted_keeps]
    exact ⟨pinsAfter_noted p.2 s.supply, rfl, rfl, rfl, rfl, rfl, rfl, rfl⟩
  · have hst' : (triggerNoted (lapsedPins p.2 s)).sys.st = s.sys.st := by simp [lapsedPins]
    rw [hexec, powerFail, hau]
    simp only [Bool.not_true, Bool.false_eq_true, if_false]
    rw [← triggerNoted, hst']
    rcases hst with h | h | h | h <;> rw [h]
  · obtain ⟨hexp, hgens, hcause, hway⟩ :=
      powerFailDark_leaves p.2 (s := triggerNoted (lapsedPins p.2 s)) (by simpa [lapsedPins] using hleave)
    simp only [triggerNoted_keeps] at hexp hgens
    refine ⟨hexp, fun g hg => ?_, hcause, hway, by simp [lapsedPins], by simp [lapsedPins]⟩
    rw [hgens]
    exact hg

/-! ## A trigger while the host has yet to park (R46) -/

theorem triggersWhileParking : Claims.TriggersWhileParking := by
  intro s p e hp ha hclk hst hexp hphase hpf
  have hau : (lapsedPins p.2 s).supply.aon = true := (pinsAfter_aon p.2 s.supply).trans ha
  refine ⟨powerFailExpose p.2 (triggerNoted (lapsedPins p.2 s)), ?_, ?_⟩
  · have hst' : (triggerNoted (lapsedPins p.2 s)).sys.st = .expose := by simpa [lapsedPins] using hst
    rw [exec_trigger s p hp hclk, powerFail, hau]
    simp only [Bool.not_true, Bool.false_eq_true, if_false]
    rw [← triggerNoted, hst']
  · have hexp' : (triggerNoted (lapsedPins p.2 s)).neg.exp = some e := by simpa [lapsedPins] using hexp
    simp only [powerFailExpose, hexp', hpf, hphase]
    simp [lapsedPins]

/-! ## VIN events that are no trigger -/

theorem vinWarnings : Claims.VinWarnings := by
  intro s ha
  refine ⟨by simp [exec, execVinExcursionRecovered, excursion, ha, onSupply], ?_⟩
  refine ⟨raise 19 (lapse (fun p => { p with vinOk := false }) s), by simp [exec, execVinBelowVPfw, vinWarning, ha], ?_, ?_⟩
  · exact raise_gotEvent 19 (by decide) (lapse (fun p => { p with vinOk := false }) s)
  · exact raise_frame 19 _

/-- Settles O13: `powerFail` in each state but RUN and HOLD, and the two VIN events. -/
theorem triggersOutsideRun : Obligations.TriggersOutsideRun :=
  ⟨triggersElsewhere, triggersWhileParking, vinWarnings⟩

end Sys2Proof.DeviceStates
end

section
/-! PROOF. The insertion line: the conditions under which the module leaves DARK, the debounce count, and the return of VSB
(R64 to R67, R77). -/

namespace Sys2Proof.DeviceStates

open Sys2Proof Sys2Proof.Machine Sys2Proof.Claims

/-! ## A condition comes to hold -/

/-- A condition of R65 is noted at the pins. -/
def pinNoted : InsCond → Supply → Supply
  | .insDet, p => { p with insDetLow := true }
  | .vsb, p => { p with vsbOk := true }
  | .pfail, p => { p with pfailLow := true }
  | .vin, p => { p with vinOk := true }

def pinHolds : InsCond → Supply → Bool
  | .insDet, p => p.insDetLow
  | .vsb, p => p.vsbOk
  | .pfail, p => p.pfailLow
  | .vin, p => p.vinOk

/-- The block once the condition is noted, the period of running from the cell has followed VSB, and the debounce count has
been judged. -/
def conditionNoted (c : InsCond) (s : State) : State :=
  debounce (match c with
    | .vsb => cellPeriod (onSupply (pinNoted .vsb) s)
    | c => onSupply (pinNoted c) s)

theorem conditionHolds_eq (c : InsCond) (s : State) : conditionHolds c s =
    match c with
    | .insDet | .vsb => insertedAgain (conditionNoted c s)
    | _ => conditionNoted c s := by
  cases c <;> rfl

@[simp] theorem debounce_supply (s : State) : (debounce s).supply =
    { s.supply with counting := decide (s.sys.st = .dark) && s.supply.aon && insertionHolds s } := rfl

@[simp] theorem conditionNoted_keeps (c : InsCond) (s : State) : (conditionNoted c s).ident = s.ident ∧
    (conditionNoted c s).sys = s.sys ∧ (conditionNoted c s).rails = s.rails ∧ (conditionNoted c s).seq = s.seq ∧
    (conditionNoted c s).shadow = s.shadow ∧ (conditionNoted c s).light = s.light ∧ (conditionNoted c s).neg = s.neg ∧
    (conditionNoted c s).nand = s.nand ∧ (conditionNoted c s).tiers = s.tiers ∧ (conditionNoted c s).ports = s.ports ∧
    (conditionNoted c s).pending = s.pending := by
  cases c <;> simp [conditionNoted]

theorem conditionNoted_supply (c : InsCond) (s : State) : (conditionNoted c s).supply =
    { pinNoted c s.supply with counting := decide (s.sys.st = .dark) && s.supply.aon && (pinNoted c s.supply).insDetLow &&
      (pinNoted c s.supply).vsbOk && (pinNoted c s.supply).pfailLow && (pinNoted c s.supply).vinOk &&
      s.supply.oscValid && s.supply.xtal } := by
  cases c <;> simp [conditionNoted, pinNoted, insertionHolds, Bool.and_assoc]

theorem conditionNoted_frame {c : InsCond} (hc : c ≠ .vsb) (s : State) :
    conditionNoted c s = { s with supply := (conditionNoted c s).supply } := by
  cases c
  case vsb => exact absurd rfl hc
  all_goals rfl

/-! ## Reinsertion -/

/-- Outside HOLD no wake follows. -/
theorem insertedAgain_elsewhere {s : State} (h : s.sys.st ≠ .hold) : insertedAgain s = s := by
  rw [insertedAgain, wake_elsewhere 0x01 h, ite_self]

theorem insertedAgain_wakes {s : State} (ha : s.supply.aon = true) (hv : s.supply.vsbOk = true)
    (hi : s.supply.insDetLow = true) (ht : s.supply.triggered = true) : insertedAgain s = wake 0x01 s := by
  simp [insertedAgain, ha, hv, hi, ht]

/-- Waking or not, the pins that R65 names are as they were. -/
theorem insertedAgain_pin (c : InsCond) (s : State) : pinHolds c (insertedAgain s).supply = pinHolds c s.supply := by
  have hboot : pinHolds c (bootFrom 0x01 s).supply = pinHolds c s.supply := by
    cases c <;> simp [bootFrom, pinHolds, volatileReset]
  have hwake : pinHolds c (wake 0x01 s).supply = pinHolds c s.supply := by
    unfold wake
    split
    · rfl
    · split
      · cases c <;> rfl
      · exact hboot
  unfold insertedAgain
  split
  · exact hwake
  · rfl

theorem conditionHolds_elsewhere (c : InsCond) {s : State} (h : s.sys.st ≠ .hold) :
    conditionHolds c s = conditionNoted c s := by
  rw [conditionHolds_eq]
  have hst : (conditionNoted c s).sys.st ≠ .hold := by simpa using h
  cases c
  case insDet => exact insertedAgain_elsewhere hst
  case vsb => exact insertedAgain_elsewhere hst
  all_goals rfl

theorem pinHolds_conditionHolds (c : InsCond) (s : State) : pinHolds c (conditionHolds c s).supply = true := by
  have hnoted : pinHolds c (conditionNoted c s).supply = true := by
    rw [conditionNoted_supply]
    cases c <;> rfl
  rw [conditionHolds_eq]
  cases c
  case insDet => exact (insertedAgain_pin .insDet _).trans hnoted
  case vsb => exact (insertedAgain_pin .vsb _).trans hnoted
  all_goals exact hnoted

/-- A deep wake enters BOOT. -/
theorem wake_deep (cause : Byte) {s : State} (h : s.sys.st = .hold) (hd : s.sys.depth = 1)
    (hw : s.sys.wakingPartial = false) : (wake cause s).sys.st = .boot ∧ (wake cause s).sys.cause = cause := by
  obtain ⟨hcause, -, hdeep, -⟩ := wakes_wake cause h hw
  obtain ⟨hboot, -⟩ := hdeep hd
  exact ⟨hboot, hcause⟩

/-- VSB and INS_DET both back after a trigger wake a module in Hold-Deep. -/
theorem conditionHolds_wakes {c : InsCond} {s : State} (h : s.sys.st = .hold) (hd : s.sys.depth = 1)
    (hw : s.sys.wakingPartial = false) (ha : s.supply.aon = true) (ht : s.supply.triggered = true)
    (hc : c = .insDet ∧ s.supply.vsbOk = true ∨ c = .vsb ∧ s.supply.insDetLow = true) :
    (conditionHolds c s).sys.st = .boot ∧ (conditionHolds c s).sys.cause = 0x01 := by
  have hwake : conditionHolds c s = wake 0x01 (conditionNoted c s) := by
    rw [conditionHolds_eq]
    have hpins := conditionNoted_supply c s
    rcases hc with ⟨rfl, hpin⟩ | ⟨rfl, hpin⟩
    · exact insertedAgain_wakes (hpins ▸ ha) (hpins ▸ hpin) (hpins ▸ rfl) (hpins ▸ ht)
    · exact insertedAgain_wakes (hpins ▸ ha) (hpins ▸ rfl) (hpins ▸ hpin) (hpins ▸ ht)
  rw [hwake]
  exact wake_deep 0x01 (by simpa using h) (by simpa using hd) (by simpa using hw)

theorem insertionConditions : Claims.InsertionConditions := by
  intro s c
  refine ⟨conditionHolds c s, rfl, ?_, fun hst => ?_, fun hst hc => ?_, fun hst => ?_, fun hst hd hw ha ht hc => ?_⟩
  · have hpin := pinHolds_conditionHolds c s
    cases c <;> exact hpin
  · rw [conditionHolds_elsewhere c hst, conditionNoted_supply]
  · rw [conditionHolds_elsewhere c hst]
    exact conditionNoted_frame hc s
  · rw [conditionHolds_elsewhere c hst]
    apply State.ext <;> simp
  · exact conditionHolds_wakes hst hd hw ha ht hc

/-! ## The debounce count and the return of VSB -/

theorem insertionAndReturn : Claims.InsertionAndReturn := by
  intro s ha
  refine ⟨fun hst hcount => ⟨bootFrom 0x01 s, ?_, ?_⟩, fun h => ?_, conditionHolds .vsb s, rfl, ?_, fun ht => ?_,
    fun ht hi hst hd hw => conditionHolds_wakes hst hd hw ha ht (.inr ⟨rfl, hi⟩)⟩
  · simp [exec, execInsertionDebounceEnd, debounced, hst, ha, hcount]
  · simp [bootFrom_sys, hst]
  · rcases h with h | h <;> simp [exec, execInsertionDebounceEnd, debounced, h]
  · exact pinHolds_conditionHolds .vsb s
  · have hnone : conditionHolds .vsb s = conditionNoted .vsb s := by
      have htrig : (conditionNoted .vsb s).supply.triggered = false := by
        rw [conditionNoted_supply]
        exact ht
      rw [conditionHolds_eq]
      simp [insertedAgain, htrig]
    rw [hnone]
    simp

/-- Settles O14: each condition is noted and judged by `debounce`, and VSB and INS_DET may then wake the module. -/
theorem insertionLine : Obligations.InsertionLine := ⟨insertionConditions, insertionAndReturn⟩

end Sys2Proof.DeviceStates
end

section
/-! PROOF. The AON supply: power-on, its loss, and the band in which option flash does not operate (R83, R138, R205, R206). -/

namespace Sys2Proof.DeviceStates

open Sys2Proof Sys2Proof.Machine Sys2Proof.Claims Sys2Proof.Families Sys2Proof.BusFrames

/-! ## Power-on -/

/-- What an operation keeps, a fold of it keeps. -/
theorem foldl_keeps {α β : Type} (view : State → β) (g : State → α → State) (h : ∀ s a, view (g s a) = view s)
    (l : List α) (s : State) : view (l.foldl g s) = view s := by
  induction l generalizing s with
  | nil => rfl
  | cons a l ih => exact (ih _).trans (h s a)

theorem countRead_pages (errs : WordErrors) (addr len : Nat) (s : State) :
    (countRead errs addr len s).flash.pages = s.flash.pages := by
  simp only [countRead]
  split_ifs <;> simp

theorem countRead_besideIbi (errs : WordErrors) (addr len : Nat) (s : State) :
    besideIbi (countRead errs addr len s) = besideIbi s := by
  simp only [countRead]
  split_ifs
  · exact raise_besideIbi 164 _
  · exact raise_besideIbi 164 _
  · rfl
  · rfl

/-- The parts of the bus that no in-band interrupt writes, taken out. -/
theorem addresses_of_besideIbi {s t : State} (h : besideIbi t = besideIbi s) : t.bus.staticAddr = s.bus.staticAddr ∧
    t.bus.dynAddr = s.bus.dynAddr ∧ t.bus.resp = s.bus.resp :=
  ⟨(congrArg Bus.staticAddr h :), (congrArg Bus.dynAddr h :), (congrArg Bus.resp h :)⟩

theorem scanFlash_pages (s : State) : (scanFlash s).flash.pages = s.flash.pages := by
  simp only [scanFlash, onFlash]

/-- The block once the records of the counter log have been read, each read counted. -/
def logRead (errs : WordErrors) (s : State) : State :=
  (logRecords s).foldl (fun (s : State) r => countRead errs (r.2.1 * 65536 + r.2.2 * 256) 768 s) s

theorem logRead_keeps (errs : WordErrors) (s : State) : (logRead errs s).flash.pages = s.flash.pages ∧
    besideIbi (logRead errs s) = besideIbi s ∧ (logRead errs s).rails = s.rails ∧ (logRead errs s).sys = s.sys :=
  ⟨foldl_keeps (fun s => s.flash.pages) _ (fun _ _ => countRead_pages errs _ _ _) _ s,
    foldl_keeps besideIbi _ (fun _ _ => countRead_besideIbi errs _ _ _) _ s,
    foldl_keeps State.rails _ (fun _ _ => by simp) _ s, foldl_keeps State.sys _ (fun _ _ => by simp) _ s⟩

/-- A record word of the counter log at an offset of Table 5-3. -/
def logWord (r : Nat × Nat × Nat) (s : State) (off : Nat) : Nat :=
  leNat (flashBytes s (r.2.1 * 65536 + r.2.2 * 256 + off) 4)

/-- What the record in force brings back: the counters of every slot, then charge figures and the cause of the last DARK
(R163). -/
def countsRestored (r : Nat × Nat × Nat) (s : State) : State :=
  { s with rails := updAll s.rails (fun n x => { x with
      counts := Vector.ofFn fun k => BitVec.ofNat 32 (logWord r s (0x20 + 40 * n.val + 4 * k.val)) }) }
def logRestored (r : Nat × Nat × Nat) (s : State) : State :=
  onSys (fun y => { y with
      prevDark := if fieldAt 8 1 (flashBytes (countsRestored r s) (r.2.1 * 65536 + r.2.2 * 256) 16) = 6 then 0x0D else 0 })
    (onCell (fun c => { c with
      measured := decide (logWord r s 0x2A0 ≠ 0), qFull := if logWord r s 0x2A0 = 0 then 300000 else logWord r s 0x2A0,
      cycles := BitVec.ofNat 32 (logWord r s 0x2A4), faultCount := BitVec.ofNat 32 (logWord r s 0x2AC) })
      (countsRestored r s))

theorem logRestored_keeps (r : Nat × Nat × Nat) (s : State) : (logRestored r s).flash = s.flash ∧
    (logRestored r s).bus = s.bus ∧ (∃ d, (logRestored r s).sys = { s.sys with prevDark := d }) ∧
    ∀ n : SlotId, ((logRestored r s).rails[n]).en = (s.rails[n]).en := by
  simp only [logRestored, countsRestored, onSys, onCell, updAll_get, true_and, implies_true, and_true]
  exact ⟨_, rfl⟩

theorem loadLog_eq (errs : WordErrors) (s : State) : loadLog errs s =
    match newestBelow ((logRecords s).filter fun r => !readFinds errs true (r.2.1 * 65536 + r.2.2 * 256) 768) (2 ^ 33) with
    | none => logRead errs s
    | some r => logRestored r (logRead errs s) := rfl

theorem loadLog_restores (errs : WordErrors) (s : State) : (loadLog errs s).flash.pages = s.flash.pages ∧
    besideIbi (loadLog errs s) = besideIbi s ∧
    (∃ d, (loadLog errs s).sys = { s.sys with prevDark := d }) ∧
    ∀ n : SlotId, ((loadLog errs s).rails[n]).en = (s.rails[n]).en := by
  obtain ⟨hpages, hbus, hrails, hsys⟩ := logRead_keeps errs s
  rw [loadLog_eq]
  split
  next => exact ⟨hpages, hbus, ⟨_, hsys⟩, fun n => by rw [hrails]⟩
  next r _ =>
    obtain ⟨hflash, hbus', hsys', hrails'⟩ := logRestored_keeps r (logRead errs s)
    refine ⟨?_, ?_, ?_, fun n => ?_⟩
    · rw [hflash, hpages]
    · rw [besideIbi, hbus']
      exact hbus
    · rw [← hsys]
      exact hsys'
    · rw [hrails' n, hrails]

/-- What an AON power-on makes of the block before option flash is scanned and the counter log read. -/
theorem aonUp_starts (straps : BitVec 2) (errs : WordErrors) (s : State) : ∃ u : State,
    aonUp straps errs s = loadLog errs (scanFlash u) ∧ (u.supply.aon = true ∧ u.supply.straps = straps) ∧
    u.sys = Sys.init ∧ u.bus = { Bus.init with staticAddr := 0x2C + straps.zeroExtend 7 } ∧ u.seq = Seq.init ∧
    u.rails = famAll 16 RailSlot.init ∧ u.flash.pages = s.flash.pages ∧ u.neg.gens = s.neg.gens ∧
    u.tiers.tiles = s.tiers.tiles ∧ u.ident = s.ident ∧ u.pending = s.pending := by
  unfold aonUp
  exact ⟨_, rfl, ⟨rfl, rfl⟩, rfl, rfl, rfl, rfl, rfl, rfl, rfl, rfl, rfl⟩

theorem aonPowerOn : Claims.AonPowerOn := by
  intro s straps errs
  refine ⟨fun ha => by simp [exec, execAonPowerOn, ha], fun ha => ⟨aonUp straps errs s, by simp [exec, execAonPowerOn, ha], ?_⟩⟩
  obtain ⟨u, hu, hsupply, hsys, hbus, hseq, hrails, hpages, hneg, htiles, hident, hpending⟩ := aonUp_starts straps errs s
  obtain ⟨hpages', hbus', ⟨d, hsys'⟩, hrails'⟩ := loadLog_restores errs (scanFlash u)
  rw [hu]
  simp only [scanFlash_keeps, hsys, hrails] at hsys' hrails'
  have hquiet : besideIbi (loadLog errs (scanFlash u)) = besideIbi u := by rw [hbus']; simp [besideIbi]
  obtain ⟨hstatic, hdyn, hresp⟩ := addresses_of_besideIbi hquiet
  rw [hbus] at hstatic hdyn hresp
  refine ⟨?_, ?_, ?_, ?_, ?_, ?_, ?_, hstatic, hdyn, hresp, ?_, fun n => ?_, ?_, ?_, ?_, ?_, ?_⟩
  · simpa using hsupply.1
  · simpa using hsupply.2
  · rw [hsys']; rfl
  · rw [hsys']; rfl
  · rw [hsys']; rfl
  · rw [hsys']; rfl
  · rw [hsys']; rfl
  · simp [hseq, Seq.init]
  · rw [hrails' n]; simp [RailSlot.init]
  · rw [hpages', scanFlash_pages, hpages]
  · simpa using hneg
  · simpa using htiles
  · simpa using hident
  · simpa using hpending

/-! ## Loss -/

@[simp] theorem exposureEnds_exp (result : Byte) (s : State) : (exposureEnds result s).neg.exp = none := by
  unfold exposureEnds
  split
  next h => exact h
  next => dsimp only; split_ifs <;> simp

@[simp] theorem exposureEnds_gens (result : Byte) (s : State) : (exposureEnds result s).neg.gens = s.neg.gens := by
  unfold exposureEnds
  split
  next => rfl
  next => dsimp only; split_ifs <;> simp

theorem aonPowerLoss : Claims.AonPowerLoss := by
  intro s ha
  refine ⟨aonLost 0x06 s, by simp [exec, execAonPowerLoss, ha], rfl, rfl, ?_, rfl, rfl, ?_, rfl, rfl, ?_, rfl, fun n => ?_, fun g hg => ?_, ?_, ?_⟩
  · simp [aonLost, mainDown_sys]
  · simp [aonLost]
  · simp [aonLost]
  · simp [aonLost, railsLost, -Fin.getElem_fin, updAll_get]
  · simpa [aonLost] using hg
  · simp [aonLost]
  · simp [aonLost]

/-! ## The band below 2.80 V -/

/-- What runs in the array of option flash, and how many operations have been aborted. -/
def arrayWork (s : State) : Fam 2 (Option FlashProg) × Option FlashErase × U32 :=
  (s.flash.prog, s.flash.erase, s.flash.aborted)

theorem abortJob_arrayWork (s : State) (j : FlashJob) : arrayWork (abortJob s j) = arrayWork s := by
  unfold abortJob
  split <;> simp [arrayWork, commitEnded]

theorem abortProgram_prog (s : State) (b k : Fin 2) :
    (abortProgram s b).flash.prog[k] = if k = b then none else s.flash.prog[k] := by
  unfold abortProgram
  by_cases hk : k = b
  · subst hk
    rw [if_pos rfl]
    cases hp : s.flash.prog[k] with
    | none => exact hp
    | some p => exact upd_same s.flash.prog k fun _ => none
  · rw [if_neg hk]
    cases s.flash.prog[b] with
    | none => rfl
    | some p => exact upd_other s.flash.prog b k (fun _ => none) (Ne.symm hk)

/-- Both banks' programs are cut. -/
def programsCut (s : State) : State := (List.finRange 2).foldl abortProgram s

theorem programsCut_prog (s : State) (k : Fin 2) : (programsCut s).flash.prog[k] = none := by
  have htwo : programsCut s = abortProgram (abortProgram s 0) 1 := rfl
  rw [htwo, abortProgram_prog, abortProgram_prog]
  split_ifs with h1 h0
  · rfl
  · rfl
  · omega

theorem abortErase_prog (s : State) : (abortErase s).flash.prog = s.flash.prog := by
  unfold abortErase
  split
  · simp only [drew, onFlash]
  · rfl

theorem abortErase_erase (s : State) : (abortErase s).flash.erase = none := by
  unfold abortErase
  split
  next => simp only [drew, onFlash]
  next h => exact h

/-- The operations that an abort cuts (R205). -/
def cutCount (s : State) : Nat :=
  ((List.finRange 2).filter fun b => (s.flash.prog[b]).isSome).length + (if s.flash.erase.isSome then 1 else 0)

theorem aborted_beforeCount (s : State) : (abortErase (programsCut s)).flash.aborted = s.flash.aborted := by
  have hprog : ∀ (u : State) (b : Fin 2), (abortProgram u b).flash.aborted = u.flash.aborted := fun u b => by
    unfold abortProgram
    split
    · simp only [drew, onFlash]
    · rfl
  have herase : ∀ u : State, (abortErase u).flash.aborted = u.flash.aborted := fun u => by
    unfold abortErase
    split
    · simp only [drew, onFlash]
    · rfl
  rw [herase]
  exact foldl_keeps (fun s => s.flash.aborted) abortProgram hprog _ s

/-- An abort leaves nothing running in the array, and counts what it cut. -/
theorem flashAbort_arrayWork (s : State) : (∀ b : Fin 2, (flashAbort s).flash.prog[b] = none) ∧
    (flashAbort s).flash.erase = none ∧
    (flashAbort s).flash.aborted = satOf 32 (s.flash.aborted.toNat + cutCount s) := by
  have hjobs : arrayWork (flashAbort s) = ((abortErase (programsCut s)).flash.prog,
      (abortErase (programsCut s)).flash.erase,
      satOf 32 ((abortErase (programsCut s)).flash.aborted.toNat + cutCount s)) :=
    (foldl_keeps arrayWork abortJob abortJob_arrayWork _ _).trans rfl
  obtain ⟨hprog, herase, haborted⟩ : (flashAbort s).flash.prog = _ ∧ (flashAbort s).flash.erase = _ ∧
      (flashAbort s).flash.aborted = _ := by simpa only [arrayWork, Prod.mk.injEq] using hjobs
  refine ⟨fun b => ?_, ?_, ?_⟩
  · rw [hprog, abortErase_prog]
    exact programsCut_prog s b
  · rw [herase, abortErase_erase]
  · rw [haborted, aborted_beforeCount]

/-! ## A waiting read after an abort -/

theorem readSuspends_none (sec : Nat) {s : State} (h : s.flash.erase = none) : readSuspends sec s = s := by
  simp only [readSuspends, h]

theorem countRead_arrayWork (errs : WordErrors) (addr len : Nat) (s : State) :
    arrayWork (countRead errs addr len s) = arrayWork s := by
  simp only [countRead]
  split_ifs <;> simp [arrayWork]

theorem takeArray_arrayWork (q : FlashRead) (s : State) : arrayWork (takeArray q s).2 = arrayWork s := by
  simp only [takeArray]
  split_ifs
  all_goals exact countRead_arrayWork _ _ _ s

/-- With no erase under way a read changes nothing that runs in the array. -/
theorem readArray_arrayWork (q : FlashRead) {s : State} (h : s.flash.erase = none) :
    arrayWork (readArray q s).2 = arrayWork s := by
  simp only [readArray, readSuspends_none _ h]
  split_ifs
  · rfl
  · rfl
  · rfl
  · rfl
  · exact takeArray_arrayWork q s

theorem flashReply_arrayWork (a : Abort) (s : State) : arrayWork (flashReply a s) = arrayWork s := by
  simp [arrayWork]

theorem serveWaiting_arrayWork {s : State} (h : s.flash.erase = none) : arrayWork (serveWaiting s) = arrayWork s := by
  unfold serveWaiting
  split
  next => rfl
  next q _ =>
    have hread := readArray_arrayWork q (s := onFlash (fun f => { f with readWait := none }) s) h
    dsimp only
    split
    · exact hread
    · exact (flashReply_arrayWork _ _).trans hread
    · exact (flashReply_arrayWork _ _).trans hread

/-! ## Queued work of option flash goes on -/

/-- What option flash holds, and how many operations have been aborted. -/
def contents (s : State) : Assoc FlashPage × U32 := (s.flash.pages, s.flash.aborted)

theorem askSuspend_contents (s : State) : contents (askSuspend s) = contents s := by
  simp only [askSuspend, onFlash, contents]

theorem refuseJob_contents (j : FlashJob) (a : Abort) (s : State) : contents (refuseJob j a s) = contents s := by
  unfold refuseJob
  dsimp only
  cases j.kind
  case keys =>
    dsimp only
    split_ifs <;> simp [contents, dropJob]
  all_goals
    dsimp only
    split_ifs <;> simp [contents, dropJob, commitEnded]

theorem prepare_contents (j : FlashJob) (s : State) : contents (prepare j s).2 = contents s := by
  unfold prepare
  cases j.kind <;> rfl

theorem startPrim_contents (j : FlashJob) (op : FlashPrim) (s : State) : contents (startPrim j op s).2 = contents s := by
  cases op with
  | erase sec =>
    simp only [startPrim]
    split_ifs <;> simp [contents]
  | program sec page data =>
    simp only [startPrim]
    split_ifs
    · exact askSuspend_contents s
    · exact askSuspend_contents s

theorem tryJob_contents (j : FlashJob) (s : State) : contents (tryJob j s).2 = contents s := by
  have hready : contents (if j.started then (j, s) else
      if decide (j.kind = .commit) && optionProtected s then (j, s) else prepare j s).2 = contents s := by
    split_ifs
    · rfl
    · rfl
    · exact prepare_contents j s
  unfold tryJob
  dsimp only
  generalize (if j.started then (j, s) else
    if decide (j.kind = .commit) && optionProtected s then (j, s) else prepare j s) = ready at hready ⊢
  split
  · rfl
  split
  · exact refuseJob_contents j _ s
  split
  · rfl
  next op _ _ =>
    generalize (if decide (j.kind = .commit) then Abort.done else primRefused ready.2 op) = refused
    split
    · exact (refuseJob_contents _ _ _).trans hready
    · split
      · exact (startPrim_contents _ _ _).trans hready
      · cases op with
        | erase => rfl
        | program => exact askSuspend_contents s

/-- Starting queued work writes nothing and aborts nothing: that comes with the end of an operation. -/
theorem pump_contents (fuel : Nat) (s : State) : contents (pump fuel s) = contents s := by
  induction fuel generalizing s with
  | zero => rfl
  | succ fuel ih =>
    have hround : ∀ (l : List FlashJob) (acc : Bool × State), contents (l.foldl (fun (acc : Bool × State) j =>
        if acc.1 then acc else tryJob j acc.2) acc).2 = contents acc.2 := by
      intro l
      induction l with
      | nil => exact fun _ => rfl
      | cons j l ihl =>
        intro acc
        obtain ⟨started, t⟩ := acc
        refine (ihl _).trans ?_
        cases started
        · exact tryJob_contents j t
        · rfl
    unfold pump
    dsimp only
    split
    · exact (ih _).trans (hround _ _)
    · exact hround _ _

theorem flashKick_contents (s : State) : contents (flashKick s) = contents s := pump_contents _ s

theorem aonSupplyBand : Claims.AonSupplyBand := by
  intro s ha
  refine ⟨⟨serveWaiting (flashAbort (onSupply (fun p => { p with aonLow := true }) s)), ?_, ?_⟩,
    supplyRecovers s, rfl, ?_⟩
  · simp [exec, execAonSupplyLow, supplyLow, ha]
  · obtain ⟨hprog, herase, haborted⟩ := flashAbort_arrayWork (onSupply (fun p => { p with aonLow := true }) s)
    obtain ⟨hprog', herase', haborted'⟩ : _ ∧ _ ∧ _ := by
      simpa only [arrayWork, Prod.mk.injEq] using serveWaiting_arrayWork herase
    refine ⟨by simp, fun b => ?_, ?_, ?_, ?_⟩
    · rw [hprog']
      exact hprog b
    · rw [herase', herase]
    · rw [haborted', haborted]
      rfl
    · apply State.ext <;> simp
  · obtain ⟨hpages, haborted⟩ : _ ∧ _ := by
      simpa only [contents, Prod.mk.injEq] using
        flashKick_contents (onSupply (fun p => { p with aonLow := false }) s)
    refine ⟨by simp [supplyRecovers], by simp, ?_, ?_, by simp, by simp, by simp, by simp⟩
    · exact hpages
    · exact haborted

/-- Settles O15: an AON power-on starts every unit of the die anew, its loss ends all that runs there, and the band in
between aborts the operations of option flash. -/
theorem aonSupply : Obligations.AonSupply := ⟨aonPowerOn, aonPowerLoss, aonSupplyBand⟩

end Sys2Proof.DeviceStates
end

section
/-! PROOF. The clocks' events, an empty cell, the watchdog, and the way through BOOT (R87, R90, R91, R94 to R101, R161). -/

namespace Sys2Proof.DeviceStates

open Sys2Proof Sys2Proof.Machine Sys2Proof.Claims Sys2Proof.Families Sys2Proof.BusFrames Sys2Proof.TilePorts

/-! ## A source whose event comes after other changes -/

/-- What decides whether the event of a source is heard, and the states of the sources. -/
def hearing (s : State) : Bool × Bool × Assoc Nat × Ident × Fam 192 Source :=
  (s.supply.aon, s.sys.mainOn, s.shadow, s.ident, s.irq.src)

theorem hears_of_hearing {s u : State} (h : hearing u = hearing s) (n : SourceId) : hears u n = hears s n := by
  obtain ⟨haon, hmain, hshadow, hident, -⟩ : _ ∧ _ ∧ _ ∧ _ ∧ _ := by simpa only [hearing, Prod.mk.injEq] using h
  have hlive (m : Nat) : sourceLive u m = sourceLive s m := by simp only [sourceLive, small, hident]
  have hassigned (k : Fin 16) : assignment u k = assignment s k := by
    simp only [assignment, pv, small, hident, hshadow]
  have hentry (m : Nat) : entryOf u m = entryOf s m := by simp only [entryOf, srcEntry, hlive, hshadow]
  have hroute (m : Nat) : route u m = route s m := by simp only [route, fastOf, hlive, hassigned, hentry]
  simp only [hears, hroute, haon, hmain]

theorem gotEvent_of_hearing {s u t : State} {n : SourceId} (h : hearing u = hearing s) (ht : gotEvent u t n) :
    gotEvent s t n := by
  intro hheard
  have hsrc : u.irq.src = s.irq.src := by simpa only [hearing, Prod.mk.injEq] using (congrArg (·.2.2.2.2) h)
  rw [← hsrc]
  exact ht ((hears_of_hearing h n).trans hheard)

/-- An event after changes that touch neither the sources nor what decides whether they are heard. -/
theorem raise_gotEvent_after {s u : State} (k : Nat) (hk : k < 192) (h : hearing u = hearing s) :
    gotEvent s (raise k u) (Fin.ofNat 192 k) :=
  gotEvent_of_hearing h (raise_gotEvent k hk u)

/-! ## Clocks -/

theorem oscillator_starts {s : State} (ha : s.supply.aon = true) : ∃ t, exec .oscillatorValid s = .next t ∧
    t.supply.oscValid = true ∧ t.bus = { s.bus with enabled := true } ∧
    t = { s with supply := t.supply, bus := t.bus } := by
  refine ⟨oscillatorStarts s, rfl, ?_⟩
  simp [oscillatorStarts, ha, debounce, onSupply]

theorem crystal_fails (s : State) : ∃ t, exec .crystalLoss s = .next t ∧
    t.supply = { s.supply with xtal := false, counting := false } ∧
    (pllRuns s = true → t.sys = { s.sys with crystalLost := true, crystalSeen := true } ∧ gotEvent s t 160) ∧
    (pllRuns s = false → t.sys = s.sys) ∧
    t = { s with supply := t.supply, sys := t.sys, irq := t.irq, bus := t.bus, free := t.free } := by
  refine ⟨crystalFails s, rfl, ?_⟩
  cases hruns : pllRuns s with
  | true =>
    simp only [crystalFails, hruns, if_true, raise_keeps]
    refine ⟨rfl, fun _ => ⟨rfl, raise_gotEvent_after 160 (by decide) rfl⟩, fun h => absurd h (by decide), ?_⟩
    apply State.ext <;> simp
  | false =>
    simp only [crystalFails, hruns]
    exact ⟨rfl, fun h => absurd h (by decide), fun _ => rfl, rfl⟩

theorem crystal_returns (s : State) : ∃ t, exec .crystalReturn s = .next t ∧ t.supply.xtal = true ∧
    (s.sys.crystalLost = true → t.sys = { s.sys with crystalLost := false } ∧ gotEvent s t 161) ∧
    t = { s with supply := t.supply, sys := t.sys, irq := t.irq, bus := t.bus, free := t.free } := by
  refine ⟨crystalBack s, rfl, ?_⟩
  cases hlost : s.sys.crystalLost with
  | true =>
    have hback : crystalBack s = raise 161 (onSys (fun y => { y with crystalLost := false })
        (debounce (onSupply (fun p => { p with xtal := true }) s))) := by simp [crystalBack, hlost]
    rw [hback]
    refine ⟨by simp [debounce], fun _ => ⟨by simp [debounce, onSys, onSupply], raise_gotEvent_after 161 (by decide) rfl⟩, ?_⟩
    apply State.ext <;> simp [debounce]
  | false =>
    have hback : crystalBack s = debounce (onSupply (fun p => { p with xtal := true }) s) := by simp [crystalBack, hlost]
    rw [hback]
    exact ⟨rfl, fun h => absurd h (by decide), rfl⟩

theorem clocks : Claims.Clocks := by
  intro s ha
  refine ⟨oscillator_starts ha, crystal_fails s, crystal_returns s, fun hst hc => ?_, fun hst => ?_⟩
  · simp [exec, execAonClockReturn, clockReturns, hst, hc, onSupply]
  · simp [exec, execAonClockReturn, clockReturns, hst]

/-! ## An empty cell -/

theorem aonLost_sys (cause : Byte) (s : State) : (aonLost cause s).sys =
    { s.sys with st := .dark, prev := s.sys.st, cause := cause, leaving := none, wakingPartial := false,
                 pllWait := false, mainOn := false } := by
  simp [aonLost, mainDown_sys]

theorem cellDepleted : Claims.CellDepleted := by
  intro s ha
  refine ⟨fun hc hv => ⟨aonLost 0x0D (onCell (fun c => { c with connected := false }) s), ?_, ?_⟩, fun h => ?_⟩
  · simp [exec, execCellDepleted, depleted, hc, hv, ha]
  · rw [aonLost_sys]
    exact ⟨rfl, rfl, rfl, by simp [aonLost, onCell], rfl, by simp [aonLost], by simp [aonLost]⟩
  · rcases h with h | h <;> simp [exec, execCellDepleted, depleted, h]

/-- Settles O16: each event of a clock through the lines it changes, and the empty cell through the loss of AON power. -/
theorem clocksAndDepletion : Obligations.ClocksAndDepletion := ⟨clocks, cellDepleted⟩

/-! ## The watchdog -/

/-- The restart of the supervisor core by its watchdog, as its record shows it. -/
def restarted (s : State) : State :=
  drew (onSys (fun y => { y with
    wdogRestarts := satInc y.wdogRestarts, resetSource := 4,
    restartEnd := y.aonTime.toNat + Config.restartTime s.free % 5001 }) s)

theorem watchdog_eq {s : State} (ha : s.supply.aon = true) : watchdog s = raise 162 (restarted s) := by
  simp [watchdog, ha, restarted]

theorem restarted_end (s : State) : s.sys.aonTime.toNat ≤ (restarted s).sys.restartEnd ∧
    (restarted s).sys.restartEnd ≤ s.sys.aonTime.toNat + 5000 := by
  have hbound : Config.restartTime s.free % 5001 < 5001 := Nat.mod_lt _ (by decide)
  simp only [restarted, drew, onSys]
  omega

theorem watchdogRestart : Claims.WatchdogRestart := by
  intro s ha
  obtain ⟨hfrom, hto⟩ := restarted_end s
  refine ⟨raise 162 (restarted s), congrArg _ (watchdog_eq ha), ?_⟩
  rw [(raise_keeps 162 _).2.2.1]
  refine ⟨rfl, hfrom, hto, fun hlate => ?_, raise_gotEvent_after 162 (by decide) rfl, ?_⟩
  · have hlate' : ¬ (restarted s).sys.restartEnd ≤ (restarted s).sys.aonTime.toNat := Nat.not_le.mpr hlate
    simp only [busServes, raise_keeps, decide_eq_false hlate', Bool.and_false, Bool.false_and]
  · apply State.ext <;> simp [restarted]

/-! ## The PLL locks -/

theorem flashBytes_of_flash {s t : State} (h : t.flash = s.flash) (addr len : Nat) :
    flashBytes t addr len = flashBytes s addr len := by
  simp only [flashBytes, flashByte, h]

/-- Whether a copy of the option block is taken depends on option flash alone. -/
theorem loadCopy_isSome {s t : State} (h : t.flash = s.flash) (sec : Nat) (errs : WordErrors) :
    (loadCopy t sec errs).isSome = (loadCopy s sec errs).isSome := by
  simp only [loadCopy, touchesInvalid, copyLen, pageInvalid, sectorUnerased, flashBytes_of_flash h, h,
    apply_ite Option.isSome, Option.isSome_some, Option.isSome_none]

/-- The copy that the option block is taken from: 0, 1, or 0xFF for neither. -/
def copyTaken (errs : WordErrors) (s : State) : Byte :=
  if (loadCopy s 0 errs).isSome then 0 else if (loadCopy s 1 errs).isSome then 1 else 0xFF

theorem loadOption_sys (errs : WordErrors) (s : State) :
    (loadOption errs s).sys = { s.sys with optCopy := copyTaken errs s } := by
  simp only [loadOption, copyTaken]
  cases loadCopy s 0 errs with
  | some l => simp
  | none => cases loadCopy s 1 errs <;> simp

theorem loadOption_shadow_of_none (errs : WordErrors) (s : State) (h : copyTaken errs s = 0xFF) :
    (loadOption errs s).shadow = [] := by
  simp only [copyTaken] at h
  simp only [loadOption]
  cases h0 : loadCopy s 0 errs with
  | some l => simp [h0] at h
  | none =>
    cases h1 : loadCopy s 1 errs with
    | some l => simp [h0, h1] at h
    | none => rfl

@[simp] theorem enterFault_sys (code cause : Byte) (s : State) : (enterFault code cause s).sys =
    { s.sys with st := .fault, prev := s.sys.st, cause := cause, transitions := s.sys.transitions + 1,
                 faultCause := code, depth := 0 } := by
  simp [enterFault, faultEntry]

theorem mainUp_sys (boot : Bool) (s : State) : (mainUp boot s).sys = { s.sys with mainOn := true } := by
  cases boot <;> simp [mainUp]

theorem mainUp_ctrl (s : State) : (mainUp true s).light.ctrl = famAll 2 false := by
  simp [mainUp, lightStart, markAll, ranksFresh]

theorem startPowerUp_sys (s : State) : ∃ ended, (startPowerUp s).sys = { s.sys with powerUpDone := ended } := by
  unfold startPowerUp
  dsimp only
  split_ifs
  · exact ⟨true, by simp [onSys]⟩
  · exact ⟨s.sys.powerUpDone, by simp⟩

/-- The boot steps after the PLL's lock end in FAULT for an option block or an image that cannot be read, else with the
main die on. -/
theorem bootSteps_cases (errs : WordErrors) (s : State) :
    (copyTaken errs s = 0xFF ∧ bootSteps errs s = enterFault 1 0x0E (hostSide (clampQ (loadOption errs s)))) ∨
    (copyTaken errs s ≠ 0xFF ∧ ∃ u, (∃ ended, u.sys = { s.sys with optCopy := copyTaken errs s, powerUpDone := ended }) ∧
      (bootSteps errs s = enterFault 2 0x0E u ∨ bootSteps errs s = mainUp true u)) := by
  have hload : (clampQ (loadOption errs s)).sys = { s.sys with optCopy := copyTaken errs s } := by
    simp [loadOption_sys]
  have hcopy : (clampQ (loadOption errs s)).sys.optCopy = copyTaken errs s := by rw [hload]
  obtain ⟨ended, hup⟩ := startPowerUp_sys (clampQ (loadOption errs s))
  have hsys : (loadKeys errs (startPowerUp (clampQ (loadOption errs s)))).sys =
      { s.sys with optCopy := copyTaken errs s, powerUpDone := ended } := by
    rw [(loadKeys_keeps errs _).2.2.1, hup, hload]
  unfold bootSteps
  dsimp only
  rw [hcopy]
  split_ifs with h
  · exact Or.inl ⟨h, rfl⟩
  · refine Or.inr ⟨h, ?_⟩
    split
    · exact ⟨_, ⟨ended, by simpa [hostSide] using hsys⟩, Or.inl rfl⟩
    · exact ⟨_, ⟨ended, by simpa using hsys⟩, Or.inr rfl⟩

theorem pllLockInBoot : Claims.PllLockInBoot := by
  intro s errs ha hx hw hst
  have hlocked : pllLocks errs s = bootSteps errs (pllOn s) := by simp [pllLocks, ha, hx, hw, hst]
  have htaken : copyTaken errs (pllOn s) = copyTaken errs s := by
    simp only [copyTaken, loadCopy_isSome (s := s) (t := pllOn s) rfl]
  refine ⟨bootSteps errs (pllOn s), congrArg _ hlocked, by simp [pllOn, onSys, onSupply], by simp [pllOn, onSys, onSupply], ?_⟩
  rcases bootSteps_cases errs (pllOn s) with ⟨hnone, heq⟩ | ⟨hsome, u, ⟨ended, hu⟩, heq | heq⟩
  · have hshadow := loadOption_shadow_of_none errs _ hnone
    rw [htaken] at hnone
    rw [heq]
    refine ⟨by simp [hostSide, clampQ, loadOption_sys, pllOn], ?_, fun _ => ?_, fun _ hboot => ?_, ?_, ?_⟩
    · rw [enterFault_sys]
      refine Eq.trans ?_ htaken
      simp [hostSide, loadOption_sys]
    · simp [hostSide, clampQ, hshadow]
    · simp at hboot
    · simp [hostSide, clampQ, pllOn]
    · simp [hostSide, clampQ, pllOn]
  · rw [htaken] at hsome hu
    have hsys : (enterFault 2 0x0E u).sys.optCopy = copyTaken errs s := by simp [hu]
    rw [heq]
    refine ⟨by simp [hu, pllOn, onSys], hsys, fun h => absurd (hsys.symm.trans h) hsome, fun _ hboot => ?_, ?_, ?_⟩
    · simp at hboot
    · rw [← heq]; simp [pllOn]
    · rw [← heq]; simp [pllOn]
  · rw [htaken] at hsome hu
    have hsys : (mainUp true u).sys.optCopy = copyTaken errs s := by simp [mainUp_sys, hu]
    have hctrl := mainUp_ctrl u
    rw [heq]
    refine ⟨by simp [mainUp_sys, hu, pllOn, onSys], hsys, fun h => absurd (hsys.symm.trans h) hsome, fun _ _ => ⟨?_, ?_⟩, ?_, ?_⟩
    · rw [mainUp_sys]
    · intro k
      rw [hctrl]
      exact famAll_get 2 false k.val k.isLt
    · rw [← heq]; simp [pllOn]
    · rw [← heq]; simp [pllOn]

/-! ## The self-test -/

/-- The self-test's result taken, before what a failure leads to. -/
def tested (result : U16) (s : State) : State :=
  channelsTested result (onSys (fun y => { y with
    selfTest := result.zeroExtend 32, testDone := true, testFailed := decide (result.toNat % 256 ≠ 0) }) s)

theorem tested_sys (result : U16) (s : State) : (tested result s).sys = { s.sys with
    selfTest := result.zeroExtend 32, testDone := true, testFailed := decide (result.toNat % 256 ≠ 0) } := by
  simp [tested, onSys]

theorem selfTestEnds_eq (result : U16) {s : State} (hst : s.sys.st = .boot) (hm : s.sys.mainOn = true)
    (hd : s.sys.testDone = false) (hl : s.sys.leaving = none) : selfTestEnds result s = if
      result.toNat % 256 ≠ 0 ∧ s.sys.powerUpDone = true then enterFault 2 0x0E (tested result s)
    else tested result s := by
  have hentry : selfTestEnds result s = bootTestFault (tested result s) := by simp [selfTestEnds, hst, hm, hd, hl, tested]
  rw [hentry, bootTestFault, tested_sys]
  simp [hst, hl]

theorem selfTest_ended : Claims.SelfTestEnds := by
  intro s result hst hm hd hl
  refine ⟨selfTestEnds result s, rfl, ?_⟩
  rw [selfTestEnds_eq result hst hm hd hl]
  split_ifs with hfail
  · obtain ⟨hbits, hup⟩ := hfail
    refine ⟨?_, ?_, ?_, fun _ _ => ?_, fun h => ?_, by simp [tested], by simp [tested], by simp [tested], by simp [tested]⟩
    · simp [tested_sys]
    · simp [tested_sys]
    · simp [tested_sys]
    · simp
    · rcases h with h | h
      · exact absurd h hbits
      · rw [hup] at h; cases h
  · refine ⟨?_, ?_, ?_, fun hbits hup => absurd ⟨hbits, hup⟩ hfail, fun _ => ?_, by simp [tested], by simp [tested],
      by simp [tested], by simp [tested]⟩
    · simp [tested_sys]
    · simp [tested_sys]
    · simp [tested_sys]
    · simp [tested_sys, hst]

/-! ## SETUP entry -/

theorem bootCompletes_eq (errs : WordErrors) {s : State} (hst : s.sys.st = .boot) (ht : s.sys.testDone = true)
    (hf : s.sys.testFailed = false) (hp : s.sys.powerUpDone = true) (hl : s.sys.leaving = none) :
    bootCompletes errs s = commitNow (logPoint 1 (logDeferred (hotJoin (fillPowerFail errs (negativeAtSetup
      (securityAtSetup (enter .setup 0x02
        (onSys (fun y => { y with bootTime := satOf 32 (y.aonTime.toNat - y.bootAt) }) s)))))))) := by
  simp [bootCompletes, hst, ht, hf, hp, hl]

theorem boot_completed : Claims.BootCompletes := by
  intro s errs
  refine ⟨fun hst ht hf hp hl => ⟨_, congrArg Host.Outcome.next (bootCompletes_eq errs hst ht hf hp hl), ?_⟩, fun h => ?_⟩
  · simp [onSys, hst]
  · rcases h with h | h | h | h <;> simp [exec, execBootComplete, bootCompletes, h]

/-- Settles O17: the watchdog, the lock of the PLL, the self-test's end and the entry of SETUP, each through what it
leaves of the record of states and boots. -/
theorem bootEvents : Obligations.BootEvents := ⟨watchdogRestart, pllLockInBoot, selfTest_ended, boot_completed⟩

end Sys2Proof.DeviceStates
end

section
/-! PROOF. What the operations on one rail slot do to that slot, and what a fold of them over a mask does to every slot
(R119, R134, R144 to R146, R154). -/

namespace Sys2Proof.Slots

open Sys2Proof Sys2Proof.Machine Sys2Proof.Claims Sys2Proof.Families

/-! ## Settings of a slot -/

theorem rail_reads {s t : State} (h : sameSettings s t) (n : SlotId) (b : Nat) : rail t n b = rail s n b :=
  pv_reads h _ _

theorem slotUsed_reads {s t : State} (h : sameSettings s t) (n : SlotId) : slotUsed t n = slotUsed s n := by
  simp only [slotUsed, rail_reads h]

theorem critical_reads {s t : State} (h : sameSettings s t) (n : SlotId) : critical t n = critical s n := by
  simp only [critical, rail_reads h]

theorem readingOf_reads {s t : State} (h : sameSettings s t) (n : SlotId) (code : U16) :
    readingOf t n code = readingOf s n code := by
  simp only [readingOf, rail_reads h]

theorem belowUv_reads {s t : State} (h : sameSettings s t) (n : SlotId)
    (ha : (t.rails[n]).applied = (s.rails[n]).applied) (v : Nat) :
    belowUv t n v = belowUv s n v := by
  have hlevel : uvLevel t n = uvLevel s n := by simp only [uvLevel, internal, nominal, rail_reads h, ha]
  simp only [belowUv, hlevel]

theorem aboveOv_reads {s t : State} (h : sameSettings s t) (n : SlotId)
    (ha : (t.rails[n]).applied = (s.rails[n]).applied) (v : Nat) :
    aboveOv t n v = aboveOv s n v := by
  have hlevel : ovLevel t n = ovLevel s n := by simp only [ovLevel, internal, nominal, rail_reads h, ha]
  simp only [aboveOv, hlevel]

/-! ## One slot -/

theorem onRail_same (n : SlotId) (f : RailSlot → RailSlot) (s : State) : (onRail n f s).rails[n] = f s.rails[n] :=
  upd_same _ _ _

theorem onRail_other (n m : SlotId) (f : RailSlot → RailSlot) (s : State) (h : m ≠ n) :
    (onRail n f s).rails[m] = s.rails[m] := upd_other _ _ _ _ (Ne.symm h)

theorem setFlag_rails (n : SlotId) (fl : SlotFlag) (s : State) : (setFlag n fl s).rails =
    upd s.rails n fun x => { x with flags := x.flags ||| BitVec.ofNat 32 (2 ^ flagBit fl) } := by
  unfold setFlag
  dsimp only
  split_ifs
  · rfl
  · exact (raise_keeps _ _).2.2.2.1

theorem setFlag_same (n : SlotId) (fl : SlotFlag) (s : State) : (setFlag n fl s).rails[n] =
    { s.rails[n] with flags := (s.rails[n]).flags ||| BitVec.ofNat 32 (2 ^ flagBit fl) } := by
  rw [setFlag_rails, upd_same]

theorem setFlag_other (n m : SlotId) (fl : SlotFlag) (s : State) (h : m ≠ n) :
    (setFlag n fl s).rails[m] = s.rails[m] := by
  rw [setFlag_rails, upd_other _ _ _ _ (Ne.symm h)]

/-- A flag of a slot is also a flag of the run. -/
theorem setFlag_seq (n : SlotId) (fl : SlotFlag) (s : State) : (setFlag n fl s).seq =
    { s.seq with run := s.seq.run.map fun r => { r with flagged := true } } := by
  unfold setFlag
  dsimp only
  split_ifs
  · rfl
  · exact (raise_keeps _ _).2.2.2.2.1

theorem setFlag_frame (n : SlotId) (fl : SlotFlag) (s : State) : setFlag n fl s = { s with
    rails := (setFlag n fl s).rails, seq := (setFlag n fl s).seq, irq := (setFlag n fl s).irq,
    bus := (setFlag n fl s).bus, free := (setFlag n fl s).free } := by
  apply State.ext <;> simp

/-- A counter counts in its slot; one that has an alert may mark it given. -/
theorem count_rails (n : SlotId) (c : RailCount) (s : State) : ∃ alert : Fam 3 Bool → Fam 3 Bool,
    (count n c s).rails = upd s.rails n (fun x =>
      { x with counts := upd x.counts (countFin c) satInc, alerted := alert x.alerted }) ∧
    (alertOf c = none → alert = id) := by
  unfold count
  dsimp only
  cases ha : alertOf c with
  | none => exact ⟨id, rfl, fun _ => rfl⟩
  | some a =>
    dsimp only
    split_ifs
    · refine ⟨fun v => upd v a fun _ => true, ?_, fun h => by cases h⟩
      rw [(raise_keeps 22 _).2.2.2.1, onRail, onRail, TilePorts.upd_upd]
    · exact ⟨id, rfl, fun _ => rfl⟩

theorem count_same (n : SlotId) (c : RailCount) (s : State) : ∃ alerted, (count n c s).rails[n] =
    { s.rails[n] with counts := upd (s.rails[n]).counts (countFin c) satInc, alerted := alerted } ∧
    (alertOf c = none → alerted = (s.rails[n]).alerted) := by
  obtain ⟨alert, hrails, hnone⟩ := count_rails n c s
  exact ⟨alert (s.rails[n]).alerted, by rw [hrails, upd_same], fun h => by rw [hnone h, id]⟩

theorem count_other (n m : SlotId) (c : RailCount) (s : State) (h : m ≠ n) :
    (count n c s).rails[m] = s.rails[m] := by
  obtain ⟨alert, hrails, -⟩ := count_rails n c s
  rw [hrails, upd_other _ _ _ _ (Ne.symm h)]

/-- A counter without an alert changes its slot's count and nothing else. -/
theorem count_silent (n : SlotId) (c : RailCount) (s : State) (h : alertOf c = none) : count n c s =
    onRail n (fun x => { x with counts := upd x.counts (countFin c) satInc }) s := by
  simp only [count, h]

theorem count_frame (n : SlotId) (c : RailCount) (s : State) : count n c s = { s with
    rails := (count n c s).rails, irq := (count n c s).irq, bus := (count n c s).bus, free := (count n c s).free } := by
  apply State.ext <;> simp

/-! ## The slots of a mask -/

theorem mem_slotsOf (mask : U16) (n : SlotId) : n ∈ slotsOf mask ↔ mask.getLsbD n.val = true := by
  simp [slotsOf, List.mem_finRange]

theorem slotsOf_nodup (mask : U16) : (slotsOf mask).Nodup := (List.nodup_finRange 16).filter _

section Fold
variable (P : State → Prop) (g : State → SlotId → State) (R : SlotId → RailSlot → RailSlot → Prop)

/-- An operation on one slot at a time, over slots that are all different: each slot is changed by its own turn alone,
where what the operation reads beside its slot stays. -/
theorem foldl_slots (hP : ∀ s n, P s → P (g s n))
    (hat : ∀ s n, P s → R n s.rails[n] (g s n).rails[n])
    (hoff : ∀ (s : State) (n m : SlotId), m ≠ n → (g s n).rails[m] = s.rails[m])
    {l : List SlotId} (hl : l.Nodup) {s : State} (hs : P s) (m : SlotId) :
    (m ∈ l → R m s.rails[m] (l.foldl g s).rails[m]) ∧ (m ∉ l → (l.foldl g s).rails[m] = s.rails[m]) := by
  induction l generalizing s with
  | nil => exact ⟨fun h => absurd h List.not_mem_nil, fun _ => rfl⟩
  | cons n l ih =>
    obtain ⟨hn, hl⟩ := List.nodup_cons.mp hl
    obtain ⟨hin, hout⟩ := ih hl (hP s n hs)
    by_cases hm : m = n
    · subst hm
      refine ⟨fun _ => ?_, fun h => absurd List.mem_cons_self h⟩
      rw [List.foldl_cons, hout hn]
      exact hat s m hs
    · rw [List.foldl_cons]
      rw [hoff s n m hm] at hin hout
      exact ⟨fun h => hin ((List.mem_cons.mp h).resolve_left hm), fun h => hout fun h' => h (List.mem_cons_of_mem n h')⟩

end Fold

end Sys2Proof.Slots
end

section
/-! PROOF. The steps of a sequence program: the step due, its correction mark, and each opcode (R117 to R123, R134). -/

namespace Sys2Proof.Sequencing

open Sys2Proof Sys2Proof.Machine Sys2Proof.Claims Sys2Proof.Families Sys2Proof.Slots Sys2Proof.DeviceStates

/-! ## The step due -/

/-- The running program. -/
def running (s : State) (r : SeqRun) : State := { s with seq := { s.seq with run := some r } }

theorem onRun_some (f : SeqRun → SeqRun) {s : State} {r : SeqRun} (h : s.seq.run = some r) :
    onRun f s = running s (f r) := by
  simp only [onRun, running, h, Option.map_some]

/-- The state in which a step runs: its correction noted. -/
def noted (s : State) (r : SeqRun) (c : Bool) : State :=
  { s with seq := { s.seq with run := some { r with corrected := r.corrected || c }, corrected := correctedAfter s c } }

theorem noteCorrected_eq (c : Bool) {s : State} {r : SeqRun} (h : s.seq.run = some r) :
    noteCorrected c s = noted s r c := by
  cases c with
  | true => simp [noteCorrected, noted, correctedAfter, onRun, h]
  | false => simp [noteCorrected, noted, correctedAfter, ← h]

/-- A step is due only in a loaded program that waits for nothing. -/
theorem dueStep_ready {s : State} {flips : U64} {r : SeqRun} {w : StepWord} {c : Bool} (h : dueStep s flips r w c) :
    r.wait = .none ∧ stepListed w = true := by
  obtain ⟨hrun, hfetch⟩ := h
  simp only [fetchStep, hrun] at hfetch
  split_ifs at hfetch with hready
  have hwait : r.wait = .none := by
    by_contra hw
    exact hready (by simp [hw])
  split at hfetch
  · cases hfetch
  · split at hfetch
    · cases hfetch
    · split_ifs at hfetch with hlisted
      obtain ⟨rfl, -⟩ := Fetched.step.inj hfetch
      exact ⟨hwait, hlisted⟩

theorem stepAs_due {s : State} {flips : U64} {r : SeqRun} {w : StepWord} {c : Bool} (op : Nat)
    (f : StepWord → State → State) (h : dueStep s flips r w c) (hop : w.op = op) :
    stepAs op flips f s = f w (noted s r c) := by
  obtain ⟨hrun, hfetch⟩ := h
  simp only [stepAs, hfetch, hop, if_true, noteCorrected_eq c hrun]

theorem afterProgram_running (before : State) {s : State} {r : SeqRun} (h : s.seq.run = some r) :
    afterProgram before s = s := by
  simp only [afterProgram, h]
  split
  next hs => cases hs
  next => rfl

theorem nextStep_some {s : State} {r : SeqRun} (h : s.seq.run = some r) :
    nextStep s = running s { r with pc := r.pc + 1, wait := .none } := onRun_some _ h

/-! ## WAIT, WAIT_FOR and SIGNAL -/

theorem waitAndSignalSteps : Claims.WaitAndSignalSteps := by
  intro s flips r w c hdue
  obtain ⟨hwait, -⟩ := dueStep_ready hdue
  refine ⟨fun hop => ?_, fun hop => ?_, fun hop => ⟨stepSignal w (noted s r c), ?_, ?_⟩⟩
  · simp only [exec, execWait, stepAs_due 2 _ hdue hop]
    exact congrArg _ (afterProgram_running s rfl)
  · simp only [exec, execWaitFor, stepAs_due 3 _ hdue hop]
    exact congrArg _ (afterProgram_running s rfl)
  · simp only [exec, execSignal, stepAs_due 7 _ hdue hop]
    rw [afterProgram_running s (r := { r with pc := r.pc + 1, corrected := r.corrected || c, wait := .none })]
    simp [stepSignal, nextStep, onRun, noted]
  · refine ⟨raise_gotEvent_after 17 (by decide) rfl, ?_, ?_⟩
    · simp [stepSignal, nextStep, onRun, noted, hwait]
    · apply State.ext <;> simp [stepSignal, noted]

/-! ## JUMP -/

/-- Whether a JUMP is taken. -/
def jumps (r : SeqRun) (arg : Nat) : Bool := match arg with | 0 => true | 1 => r.c | 2 => !r.c | _ => anyRunFlag r

theorem jumps_eq {r : SeqRun} {c taken : Bool} {arg : Nat} (harg : arg ≤ 3) (h0 : arg = 0 → taken = true)
    (h1 : arg = 1 → taken = r.c) (h2 : arg = 2 → taken = !r.c)
    (h3 : arg = 3 → taken = (r.corrected || c || r.mismatch || r.flagged)) :
    jumps { r with corrected := r.corrected || c } arg = taken := by
  interval_cases arg
  · exact (h0 rfl).symm
  · exact (h1 rfl).symm
  · exact (h2 rfl).symm
  · exact (h3 rfl).symm

theorem stepJump_noted (w : StepWord) (s : State) (r : SeqRun) (c : Bool) : stepJump w (noted s r c) =
    if r.words.length ≤ bits 9 0 w.value then safeExit 3 (noted s r c)
    else if !jumps { r with corrected := r.corrected || c } w.arg then nextStep (noted s r c)
    else onRun (fun r => { r with pc := bits 9 0 w.value }) (noted s r c) := rfl

/-- The way to a safe exit that the program has not taken yet and that its directory entry names. -/
theorem safeExit_taken (result : Byte) {s : State} {r : SeqRun} (hrun : s.seq.run = some r) (hx : r.exited = false)
    (hsafe : dirSafe (entryAt s r.sub) ≠ 0x3FF) : safeExit result s = raise 18 (running s { r with
      exited := true, result := result, wait := .none, pc := dirSafe (entryAt s r.sub) }) := by
  simp only [safeExit, hrun, hx, Bool.false_eq_true, if_false, hsafe, onRun_some _ hrun]

theorem jumpStep : Claims.JumpStep := by
  intro s flips r w c hdue hop taken ⟨h0, h1, h2, h3⟩
  obtain ⟨hwait, hlisted⟩ := dueStep_ready hdue
  have harg : w.arg ≤ 3 := by simpa [stepListed, hop] using hlisted
  have htaken := jumps_eq (r := r) harg h0 h1 h2 h3
  have hexec : exec (.jump flips) s = .next (afterProgram s (stepJump w (noted s r c))) := by
    simp only [exec, execJump, stepAs_due 5 _ hdue hop]
  rw [hexec, stepJump_noted, htaken]
  refine ⟨fun ht hin => ?_, fun ht hin => ?_, fun hout hx hsafe => ?_⟩
  · rw [if_neg (Nat.not_le.mpr hin), ht, Bool.not_true, if_neg Bool.false_ne_true]
    exact congrArg _ (afterProgram_running s rfl)
  · rw [if_neg (Nat.not_le.mpr hin), ht, Bool.not_false, if_pos rfl,
      nextStep_some (r := { r with corrected := r.corrected || c }) rfl]
    refine (congrArg _ (afterProgram_running s rfl)).trans ?_
    simp only [running, noted, hwait]
  · rw [if_pos hout, safeExit_taken 3 (s := noted s r c) (r := { r with corrected := r.corrected || c }) rfl hx hsafe]
    refine ⟨_, congrArg Host.Outcome.next (afterProgram_running s (by rw [(raise_keeps 18 _).2.2.2.2.1]; rfl)),
      raise_gotEvent_after 18 (by decide) rfl, ?_, ?_⟩
    · rw [(raise_keeps 18 _).2.2.2.2.1]
      rfl
    · apply State.ext <;> simp [running, noted]

/-! ## CHECK -/

/-- One conversion of a CHECK with ARG 0. -/
def convertSlot (codes : Fam 16 U16) (s : State) (n : SlotId) : State :=
  if slotUsed s n then onRail n (fun x => { x with reading := readingOf s n codes[n] }) s else s

/-- The conversions of a CHECK with ARG 0. -/
def converted (codes : Fam 16 U16) (w : StepWord) (s : State) : State :=
  if w.arg = 0 then (slotsOf w.mask).foldl (convertSlot codes) s else s

theorem convertSlot_same (codes : Fam 16 U16) (s : State) (n : SlotId) : (convertSlot codes s n).rails[n] =
    if slotUsed s n then { s.rails[n] with reading := readingOf s n codes[n] } else s.rails[n] := by
  unfold convertSlot
  by_cases h : slotUsed s n = true
  · rw [if_pos h, if_pos h, onRail_same]
  · rw [if_neg h, if_neg h]

theorem convertSlot_other (codes : Fam 16 U16) (s : State) (n m : SlotId) (h : m ≠ n) :
    (convertSlot codes s n).rails[m] = s.rails[m] := by
  unfold convertSlot
  by_cases hu : slotUsed s n = true
  · rw [if_pos hu, onRail_other n m _ s h]
  · rw [if_neg hu]

theorem convertSlot_keeps (codes : Fam 16 U16) (s : State) (n : SlotId) :
    (convertSlot codes s n).seq = s.seq ∧ sameSettings s (convertSlot codes s n) := by
  unfold convertSlot
  split_ifs <;> exact ⟨rfl, rfl, rfl⟩

/-- Whether the slots of a CHECK's mask pass. -/
def passes (w : StepWord) (s : State) : Bool := (slotsOf w.mask).all fun n => match w.arg with
  | 0 => !belowUv s n s.rails[n].reading.toNat && !aboveOv s n s.rails[n].reading.toNat
  | 1 => !(s.rails[n].flags.getLsbD 1) && !(s.rails[n].flags.getLsbD 2)
  | _ => decide (s.rails[n].st ≠ .latched)

theorem stepCheck_eq (codes : Fam 16 U16) (w : StepWord) (s : State) : stepCheck codes w s =
    nextStep (onRun (fun r => { r with c := passes w (converted codes w s) }) (converted codes w s)) := rfl

theorem sameSettings_trans {s t u : State} (h : sameSettings s t) (h' : sameSettings t u) : sameSettings s u :=
  ⟨h'.1.trans h.1, h'.2.trans h.2⟩

theorem converted_rails (codes : Fam 16 U16) (w : StepWord) (s : State) (n : SlotId) :
    (converted codes w s).rails[n] = if w.arg = 0 ∧ w.mask.getLsbD n.val = true ∧ slotUsed s n = true then
      { s.rails[n] with reading := readingOf s n codes[n] } else s.rails[n] := by
  unfold converted
  by_cases h0 : w.arg = 0
  · obtain ⟨hin, hout⟩ := foldl_slots (sameSettings s) (convertSlot codes)
      (fun n x y => y = if slotUsed s n then { x with reading := readingOf s n codes[n] } else x)
      (fun u m hu => sameSettings_trans hu (convertSlot_keeps codes u m).2)
      (fun u m hu => by rw [convertSlot_same, slotUsed_reads hu, readingOf_reads hu])
      (fun u m k hk => convertSlot_other codes u m k hk) (slotsOf_nodup w.mask) (s := s) ⟨rfl, rfl⟩ n
    rw [if_pos h0]
    by_cases hm : w.mask.getLsbD n.val = true
    · rw [hin ((mem_slotsOf _ _).mpr hm)]
      simp only [h0, hm, true_and]
    · rw [hout fun h => hm ((mem_slotsOf _ _).mp h), if_neg fun h => hm h.2.1]
  · rw [if_neg h0, if_neg fun h => h0 h.1]

theorem converted_seq (codes : Fam 16 U16) (w : StepWord) (s : State) : (converted codes w s).seq = s.seq := by
  unfold converted
  split_ifs
  · exact foldl_keeps State.seq _ (fun u n => (convertSlot_keeps codes u n).1) _ s
  · rfl

/-- The verdict of a CHECK, from the state that it leaves. -/
theorem passes_eq {w : StepWord} {s t : State} (hset : sameSettings s t) (hrails : t.rails = s.rails) :
    passes w s = (slotsOf w.mask).all fun n =>
      if w.arg = 0 then !belowUv t n (t.rails[n]).reading.toNat && !aboveOv t n (t.rails[n]).reading.toNat
      else if w.arg = 1 then !((t.rails[n]).flags.getLsbD 1) && !((t.rails[n]).flags.getLsbD 2)
      else decide ((t.rails[n]).st ≠ .latched) := by
  refine congrArg (slotsOf w.mask).all (funext fun n => ?_)
  rw [belowUv_reads hset n (by rw [hrails]), aboveOv_reads hset n (by rw [hrails]), hrails]
  split
  next h => rw [if_pos h]
  next h => rw [if_neg (by omega), if_pos h]
  next h0 h1 => rw [if_neg h0, if_neg h1]

theorem checkStep : Claims.CheckStep := by
  intro s flips codes r w c hdue hop
  obtain ⟨hwait, -⟩ := dueStep_ready hdue
  have hrun : (converted codes w (noted s r c)).seq.run = some { r with corrected := r.corrected || c } := by
    rw [converted_seq]; rfl
  have hstep : stepCheck codes w (noted s r c) = running (converted codes w (noted s r c)) { r with
      pc := r.pc + 1, corrected := r.corrected || c, wait := .none, c := passes w (converted codes w (noted s r c)) } := by
    rw [stepCheck_eq, onRun_some _ hrun, nextStep_some rfl]
    rfl
  have hslots (n : SlotId) : (stepCheck codes w (noted s r c)).rails[n] =
      if w.arg = 0 ∧ w.mask.getLsbD n.val = true ∧ slotUsed s n = true then
        { s.rails[n] with reading := readingOf s n codes[n] } else s.rails[n] := by
    rw [hstep]
    exact converted_rails codes w (noted s r c) n
  refine ⟨stepCheck codes w (noted s r c), ?_, fun n h0 hm hu => ?_, ?_, fun n => ?_, fun n h => ?_, ?_⟩
  · simp only [exec, execCheck, stepAs_due 4 _ hdue hop]
    rw [hstep, afterProgram_running s rfl]
  · rw [hslots, if_pos ⟨h0, hm, hu⟩]
  · rw [← passes_eq (t := stepCheck codes w (noted s r c)) (s := converted codes w (noted s r c)) ⟨by
      rw [hstep]; rfl, by rw [hstep]; rfl⟩ (by rw [hstep]; rfl), hstep]
    simp only [running, converted_seq, noted, hwait]
  · rw [hslots]
    split_ifs <;> rfl
  · rw [hslots, if_neg]
    rintro ⟨h0, hm, hu⟩
    rcases h with h | h | h
    · exact h h0
    · rw [hm] at h; cases h
    · rw [hu] at h; cases h
  · apply State.ext <;> simp [noted]

/-! ## ENABLE -/

/-- A slot at its enable edge. -/
def ramped (x : RailSlot) : RailSlot :=
  { x with en := true, st := .ramping, awaiting := true, rampOver := false, blanked := true, driven := true }

/-- The slot after its turn in an ENABLE with ARG 0. -/
def switchedOn (x : RailSlot) : RailSlot :=
  if x.st = .latched then { x with flags := x.flags ||| 0x800 }
  else if x.en then x
  else { ramped x with counts := upd x.counts 8 satInc }

/-- Whether a slot powers up in its turn, as one that holds memory. -/
def powersUp (s : State) (n : SlotId) : Bool := critical s n && decide ((s.rails[n]).st ≠ .latched) && !(s.rails[n]).en

theorem enableSlot_latched {n : SlotId} {s : State} (hl : (s.rails[n]).st = .latched) :
    enableSlot n s = setFlag n .enableBlocked s := if_pos hl

theorem enableSlot_on {n : SlotId} {s : State} (hl : (s.rails[n]).st ≠ .latched) (he : (s.rails[n]).en = true) :
    enableSlot n s = s := (if_neg hl).trans (if_pos he)

theorem upd_congr {α : Type} {k : Nat} (v : Fam k α) (i : Fin k) {f g : α → α} (h : f v[i] = g v[i]) :
    upd v i f = upd v i g := by simp only [upd, h]

theorem upd_fixed {α : Type} {k : Nat} (v : Fam k α) (i : Fin k) {f : α → α} (h : f v[i] = v[i]) :
    upd v i f = v := by
  rw [upd, h]
  simp

theorem enableSlot_off {n : SlotId} {s : State} (hl : (s.rails[n]).st ≠ .latched) (he : (s.rails[n]).en = false) :
    enableSlot n s = { s with
      rails := upd s.rails n switchedOn
      light := { s.light with slotTrained := s.light.slotTrained && !critical s n } } := by
  have hramp : enableSlot n s = count n .enables (if critical s n then
      { onRail n ramped s with light := { s.light with slotTrained := false } } else onRail n ramped s) := by
    unfold enableSlot
    rw [if_neg hl, if_neg (by rw [he]; exact Bool.false_ne_true)]
    rfl
  have hslot : upd (upd s.rails n ramped) n
        (fun x => { x with counts := upd x.counts (countFin .enables) satInc }) = upd s.rails n switchedOn := by
    rw [TilePorts.upd_upd]
    refine upd_congr _ _ ?_
    rw [switchedOn, if_neg hl, if_neg (by rw [he]; exact Bool.false_ne_true)]
    rfl
  rw [hramp, count_silent n .enables _ rfl, ← hslot]
  cases critical s n
  · simp only [Bool.not_false, Bool.and_true]
    rfl
  · simp only [Bool.not_true, Bool.and_false]
    rfl

theorem enableSlot_rails (n : SlotId) (s : State) : (enableSlot n s).rails = upd s.rails n switchedOn := by
  by_cases hl : (s.rails[n]).st = .latched
  · rw [enableSlot_latched hl, setFlag_rails]
    refine upd_congr _ _ ?_
    rw [switchedOn, if_pos hl]
    rfl
  · cases he : (s.rails[n]).en with
    | true =>
      rw [enableSlot_on hl he, upd_fixed]
      rw [switchedOn, if_neg hl, if_pos he]
    | false => rw [enableSlot_off hl he]

theorem enableSlot_light (n : SlotId) (s : State) : (enableSlot n s).light =
    { s.light with slotTrained := s.light.slotTrained && !powersUp s n } := by
  unfold powersUp
  by_cases hl : (s.rails[n]).st = .latched
  · rw [enableSlot_latched hl, (setFlag_keeps _ _ _).2.2.2.2.2.2.2.1, decide_eq_false (fun h => h hl)]
    simp only [Bool.and_false, Bool.false_and, Bool.not_false, Bool.and_true]
  · rw [decide_eq_true hl]
    cases he : (s.rails[n]).en with
    | true =>
      rw [enableSlot_on hl he]
      simp only [Bool.not_true, Bool.and_false, Bool.not_false, Bool.and_true]
    | false =>
      rw [enableSlot_off hl he, Bool.not_false, Bool.and_true, Bool.and_true]

/-- The sequencer without the mark that a slot's flag leaves on the run. -/
def unflagged (s : State) : Seq := { s.seq with run := s.seq.run.map fun r => { r with flagged := false } }

theorem unflagged_setFlag (n : SlotId) (fl : SlotFlag) (s : State) : unflagged (setFlag n fl s) = unflagged s := by
  simp only [unflagged, setFlag_seq, Option.map_map, Function.comp_def]

theorem seq_of_unflagged {s t : State} {r : SeqRun} (h : unflagged t = unflagged s) (hr : s.seq.run = some r) :
    ∃ f, t.seq = { s.seq with run := some { r with flagged := f } } := by
  have hrun := congrArg Seq.run h
  simp only [unflagged, hr, Option.map_some, Option.map_eq_some_iff] at hrun
  obtain ⟨r', hr', hsame⟩ := hrun
  have hflag : r' = { r with flagged := r'.flagged } := congrArg (fun q : SeqRun => { q with flagged := r'.flagged }) hsame
  refine ⟨r'.flagged, ?_⟩
  rw [← hflag, ← hr']
  exact congrArg (fun q : Seq => { q with run := t.seq.run }) h

theorem unflagged_enableSlot (n : SlotId) (s : State) : unflagged (enableSlot n s) = unflagged s := by
  by_cases hl : (s.rails[n]).st = .latched
  · rw [enableSlot_latched hl, unflagged_setFlag]
  · cases he : (s.rails[n]).en with
    | true => rw [enableSlot_on hl he]
    | false => rw [enableSlot_off hl he]; rfl

/-- An ENABLE with ARG 0 of the slots in a list. -/
def enabled (l : List SlotId) (s : State) : State := l.foldl (fun s n => enableSlot n s) s

theorem enabled_rails (l : List SlotId) (hl : l.Nodup) (s : State) (n : SlotId) :
    (enabled l s).rails[n] = if n ∈ l then switchedOn s.rails[n] else s.rails[n] := by
  obtain ⟨hin, hout⟩ := foldl_slots (fun _ => True) (fun s n => enableSlot n s) (fun _ x y => y = switchedOn x)
    (fun _ _ _ => trivial) (fun u m _ => by rw [enableSlot_rails, upd_same])
    (fun u m k hk => by rw [enableSlot_rails, upd_other _ _ _ _ (Ne.symm hk)]) hl (s := s) trivial n
  by_cases hn : n ∈ l
  · rw [if_pos hn]; exact hin hn
  · rw [if_neg hn]; exact hout hn

theorem enabled_light (l : List SlotId) (hl : l.Nodup) (s : State) : (enabled l s).light =
    { s.light with slotTrained := s.light.slotTrained && !l.any (powersUp s) } := by
  induction l generalizing s with
  | nil => simp [enabled]
  | cons n l ih =>
    obtain ⟨hn, hl⟩ := List.nodup_cons.mp hl
    have hlater : l.any (powersUp (enableSlot n s)) = l.any (powersUp s) := by
      rw [Bool.eq_iff_iff, List.any_eq_true, List.any_eq_true]
      refine exists_congr fun m => and_congr_right fun hm => ?_
      have hne : n ≠ m := fun h => hn (h ▸ hm)
      rw [powersUp, powersUp, enableSlot_rails, upd_other _ _ _ _ hne, critical_reads (s := s) (t := enableSlot n s)
        ⟨by simp, by simp⟩]
    refine (ih hl (enableSlot n s)).trans ?_
    simp only [hlater, enableSlot_light, List.any_cons, Bool.not_or, Bool.and_assoc]

theorem enabled_unflagged (l : List SlotId) (s : State) : unflagged (enabled l s) = unflagged s :=
  foldl_keeps unflagged _ (fun u n => unflagged_enableSlot n u) l s

theorem stepEnable_on {w : StepWord} (h : w.arg = 0) (s : State) : stepEnable w s =
    nextStep (enabled (slotsOf w.mask) s) := by
  simp only [stepEnable, h, if_true, enabled]

theorem enableStep : Claims.EnableStep := by
  intro s flips r w c hdue hop harg
  obtain ⟨hwait, -⟩ := dueStep_ready hdue
  obtain ⟨f, hseq⟩ := seq_of_unflagged (enabled_unflagged (slotsOf w.mask) (noted s r c)) rfl
  have hstep : stepEnable w (noted s r c) = running (enabled (slotsOf w.mask) (noted s r c)) { r with
      pc := r.pc + 1, corrected := r.corrected || c, wait := .none, flagged := f } := by
    rw [stepEnable_on harg, nextStep_some (by rw [hseq])]
  have hslots (n : SlotId) : (stepEnable w (noted s r c)).rails[n] =
      if n ∈ slotsOf w.mask then switchedOn s.rails[n] else s.rails[n] := by
    rw [hstep]
    exact enabled_rails _ (slotsOf_nodup _) (noted s r c) n
  refine ⟨stepEnable w (noted s r c), ?_, ⟨f, ?_⟩, fun n hm hl he => ?_, fun n hm hl => ?_, fun n h => ?_, ?_, ?_⟩
  · simp only [exec, execEnable, stepAs_due 1 _ hdue hop]
    rw [hstep, afterProgram_running s rfl]
  · rw [hstep, running, hseq]
    simp only [noted, hwait]
  · rw [hslots, if_pos ((mem_slotsOf _ _).mpr hm), switchedOn, if_neg hl, if_neg (by rw [he]; exact Bool.false_ne_true)]
    exact ⟨rfl, rfl, rfl, rfl, upd_same _ _ _⟩
  · rw [hslots, if_pos ((mem_slotsOf _ _).mpr hm), switchedOn, if_pos hl]
  · rw [hslots]
    rcases h with h | ⟨hl, he⟩
    · rw [if_neg]
      rw [mem_slotsOf, h]
      exact Bool.false_ne_true
    · rw [switchedOn, if_neg hl, if_pos he, ite_self]
  · rw [hstep]
    exact enabled_light _ (slotsOf_nodup _) (noted s r c)
  · apply State.ext <;> simp [noted]

/-- The slot's turn in an ENABLE with ARG 1. -/
def disableTurn (s : State) (n : SlotId) : State :=
  if keepsSlots s && critical s n && (s.rails[n]).en then setFlag n .keepViolation s else disableSlot n s

/-- The slot after its turn in an ENABLE with ARG 1. -/
def switchedOff (kept : Bool) (x : RailSlot) : RailSlot :=
  if kept && x.en then { x with flags := x.flags ||| 0x400 }
  else if x.en then { marginZero x with en := false, st := .off, awaiting := false, blanked := false }
  else x

theorem stepEnable_off {w : StepWord} (h : w.arg = 1) (s : State) : stepEnable w s =
    nextStep ((slotsOf w.mask).foldl disableTurn s) := by
  have hne : ¬ w.arg = 0 := by omega
  simp only [stepEnable, hne, if_false]
  rfl

theorem slotOff_rails (st : SlotState) (n : SlotId) (s : State) : (slotOff st n s).rails = upd s.rails n fun x =>
    { marginZero x with en := false, st := st, awaiting := false, blanked := false } := rfl

theorem disableTurn_rails (s : State) (n : SlotId) : (disableTurn s n).rails =
    upd s.rails n (switchedOff (keepsSlots s && critical s n)) := by
  unfold disableTurn
  cases hk : keepsSlots s && critical s n with
  | true =>
    cases he : (s.rails[n]).en with
    | true =>
      rw [if_pos (Bool.and_self true), setFlag_rails]
      refine upd_congr _ _ ?_
      rw [switchedOff, he, if_pos (Bool.and_self true)]
      rfl
    | false =>
      rw [upd_fixed _ _ (by rw [switchedOff, he]; rfl), Bool.and_false, if_neg Bool.false_ne_true, disableSlot, he,
        if_neg Bool.false_ne_true]
  | false =>
    rw [Bool.false_and, if_neg Bool.false_ne_true, disableSlot]
    cases he : (s.rails[n]).en with
    | true =>
      rw [if_pos rfl, slotOff_rails]
      refine upd_congr _ _ ?_
      rw [switchedOff, he, Bool.false_and, if_neg Bool.false_ne_true, if_pos rfl]
    | false =>
      rw [upd_fixed _ _ (by rw [switchedOff, he]; rfl), if_neg Bool.false_ne_true]

/-- What the sequencer's refusal to switch a slot off reads. -/
def keeping (s : State) : Light × Neg × Assoc Nat × Ident := (s.light, s.neg, s.shadow, s.ident)

theorem disableTurn_keeping (s : State) (n : SlotId) : keeping (disableTurn s n) = keeping s := by
  unfold disableTurn
  split_ifs <;> simp [keeping]

theorem keeps_of_keeping {s u : State} (h : keeping u = keeping s) (n : SlotId) :
    (keepsSlots u && critical u n) = (keepsSlots s && critical s n) := by
  obtain ⟨hlight, hneg, hshadow, hident⟩ : _ ∧ _ ∧ _ ∧ _ := by simpa only [keeping, Prod.mk.injEq] using h
  simp only [keepsSlots, hlight, hneg, critical_reads (s := s) (t := u) ⟨hshadow, hident⟩]

theorem disabled_rails (l : List SlotId) (hl : l.Nodup) (s : State) (n : SlotId) : (l.foldl disableTurn s).rails[n] =
    if n ∈ l then switchedOff (keepsSlots s && critical s n) s.rails[n] else s.rails[n] := by
  obtain ⟨hin, hout⟩ := foldl_slots (fun u => keeping u = keeping s) disableTurn
    (fun n x y => y = switchedOff (keepsSlots s && critical s n) x)
    (fun u m hu => (disableTurn_keeping u m).trans hu)
    (fun u m hu => by rw [disableTurn_rails, upd_same, keeps_of_keeping hu])
    (fun u m k hk => by rw [disableTurn_rails, upd_other _ _ _ _ (Ne.symm hk)]) hl (s := s) rfl n
  by_cases hn : n ∈ l
  · rw [if_pos hn]; exact hin hn
  · rw [if_neg hn]; exact hout hn

theorem disableTurn_run (s : State) (n : SlotId) : unflagged (disableTurn s n) = unflagged s := by
  unfold disableTurn
  split_ifs
  · exact unflagged_setFlag n _ s
  · simp [unflagged]

theorem disableStep : Claims.DisableStep := by
  intro s flips r w c hdue hop harg
  obtain ⟨f, hseq⟩ := seq_of_unflagged (foldl_keeps unflagged disableTurn disableTurn_run (slotsOf w.mask) (noted s r c)) rfl
  have hslots (n : SlotId) : (stepEnable w (noted s r c)).rails[n] = if n ∈ slotsOf w.mask then
      switchedOff (keepsSlots s && critical s n) s.rails[n] else s.rails[n] := by
    rw [stepEnable_off harg]
    exact disabled_rails _ (slotsOf_nodup _) (noted s r c) n
  refine ⟨stepEnable w (noted s r c), ?_, fun n hm he hk => ?_, fun n hm he hk => ?_, fun n h => ?_, ?_⟩
  · simp only [exec, execEnable, stepAs_due 1 _ hdue hop]
    rw [stepEnable_off harg, nextStep_some (by rw [hseq]), afterProgram_running s rfl]
  · rw [hslots, if_pos ((mem_slotsOf _ _).mpr hm), hk, switchedOff, he, Bool.false_and, if_neg Bool.false_ne_true,
      if_pos rfl]
    exact ⟨rfl, rfl, rfl, rfl⟩
  · rw [hslots, if_pos ((mem_slotsOf _ _).mpr hm), hk, switchedOff, if_pos (by rw [he]; rfl)]
  · rw [hslots]
    rcases h with h | he
    · rw [if_neg]
      rw [mem_slotsOf, h]
      exact Bool.false_ne_true
    · rw [switchedOff, he, Bool.and_false, if_neg Bool.false_ne_true, if_neg Bool.false_ne_true, ite_self]
  · have hlight : (stepEnable w (noted s r c)).light = s.light := by
      rw [stepEnable_off harg, (nextStep_keeps _).2.2.2.2.2.2.2.2.1]
      exact congrArg Prod.fst (foldl_keeps keeping _ disableTurn_keeping _ _)
    apply State.ext
    case light => exact hlight
    all_goals simp [noted]

/-! ## TRIM -/

/-- A margin kept within a slot's limit. -/
def clampedTo (limit : Nat) (steps : U16) : U16 :=
  if limit < steps.toInt.natAbs then
    if steps.toInt < 0 then BitVec.ofInt 16 (-(limit : Int)) else BitVec.ofNat 16 limit
  else steps

/-- Whether a TRIM is refused on a slot. -/
def trimRefused (s : State) (n : SlotId) : Bool :=
  critical s n && (decide (s.sys.st = .expose) || decide (s.sys.st = .develop))

/-- A margin in steps lies outside the slot's limit. -/
def beyondLimit (s : State) (n : SlotId) (steps : U16) : Bool := decide (pv s 0x2320 (n.val + 1) < steps.toInt.natAbs)

theorem trimSlot_unused {steps : U16} {n : SlotId} {s : State} (hu : slotUsed s n = false) : trimSlot steps n s = s := by
  rw [trimSlot, hu]
  rfl

theorem trimSlot_refused {steps : U16} {n : SlotId} {s : State} (hu : slotUsed s n = true) (hr : trimRefused s n = true) :
    trimSlot steps n s = onRail n (fun x => { x with refused := true }) s := by
  rw [trimSlot, hu]
  exact if_pos hr

/-- The state in which a TRIM requests its margin: a clamp is shown. -/
def trimShown (steps : U16) (n : SlotId) (s : State) : State :=
  if beyondLimit s n steps then onRail n (fun x => { x with clamped := true }) s else s

theorem trimSlot_allowed {steps : U16} {n : SlotId} {s : State} (hu : slotUsed s n = true) (hr : trimRefused s n = false) :
    trimSlot steps n s = requestMargin n (clampedTo (pv s 0x2320 (n.val + 1)) steps) (trimShown steps n s) := by
  have hallowed : ¬ (critical s n && (decide (s.sys.st = .expose) || decide (s.sys.st = .develop))) = true := by
    rw [← trimRefused, hr]
    exact Bool.false_ne_true
  rw [trimSlot, hu, Bool.not_true, if_neg Bool.false_ne_true, if_neg hallowed]
  by_cases hlim : pv s 0x2320 (n.val + 1) < steps.toInt.natAbs
  · simp only [clampedTo, trimShown, beyondLimit, hlim, if_true, decide_true]
  · simp only [clampedTo, trimShown, beyondLimit, hlim, if_false, decide_false, Bool.false_eq_true]

theorem requestMargin_rails (n : SlotId) (steps : U16) (s : State) : ∃ m : RailSlot → MarginState,
    (requestMargin n steps s).rails = upd s.rails n fun x => { x with request := steps, steady := 0, margin := m x } :=
  ⟨fun x => if steps = x.applied then (if steps = 0 then .idle else x.margin)
    else if loopRuns s n then .walking else .inactive, rfl⟩

theorem trimShown_rails (steps : U16) (n : SlotId) (s : State) : (trimShown steps n s).rails =
    upd s.rails n fun x => { x with clamped := x.clamped || beyondLimit s n steps } := by
  unfold trimShown
  cases beyondLimit s n steps with
  | true => simp only [if_true, onRail, Bool.or_true]
  | false =>
    rw [if_neg Bool.false_ne_true, upd_fixed]
    rw [Bool.or_false]

/-- What a TRIM leaves of a slot: the margin asked for, within the limit; how the walk stands depends on the slot. -/
def trimmed (used refused beyond : Bool) (limit : Nat) (steps : U16) (x y : RailSlot) : Prop :=
  (used = false → y = x) ∧ (used = true → refused = true → y = { x with refused := true }) ∧
  (used = true → refused = false → y.applied = x.applied ∧ y.request = clampedTo limit steps ∧
    y.clamped = (x.clamped || beyond))

theorem trimSlot_at (steps : U16) (n : SlotId) (s : State) : trimmed (slotUsed s n) (trimRefused s n)
    (beyondLimit s n steps) (pv s 0x2320 (n.val + 1)) steps s.rails[n] (trimSlot steps n s).rails[n] := by
  refine ⟨fun hu => by rw [trimSlot_unused hu], fun hu hr => by rw [trimSlot_refused hu hr, onRail_same], fun hu hr => ?_⟩
  obtain ⟨m, hrails⟩ := requestMargin_rails n (clampedTo (pv s 0x2320 (n.val + 1)) steps) (trimShown steps n s)
  rw [trimSlot_allowed hu hr, hrails, upd_same, trimShown_rails, upd_same]
  exact ⟨rfl, rfl, rfl⟩

theorem trimSlot_other (steps : U16) (n m : SlotId) (s : State) (h : m ≠ n) :
    (trimSlot steps n s).rails[m] = s.rails[m] := by
  cases hu : slotUsed s n with
  | false => rw [trimSlot_unused hu]
  | true =>
    cases hr : trimRefused s n with
    | true => rw [trimSlot_refused hu hr, onRail_other n m _ s h]
    | false =>
      rw [trimSlot_allowed hu hr, requestMargin, onRail_other n m _ _ h, trimShown_rails, upd_other _ _ _ _ (Ne.symm h)]

theorem trimmed_rails (steps : U16) (l : List SlotId) (hl : l.Nodup) (s : State) (n : SlotId) :
    (n ∈ l → trimmed (slotUsed s n) (trimRefused s n) (beyondLimit s n steps) (pv s 0x2320 (n.val + 1)) steps s.rails[n]
      (l.foldl (fun s n => trimSlot steps n s) s).rails[n]) ∧
    (n ∉ l → (l.foldl (fun s n => trimSlot steps n s) s).rails[n] = s.rails[n]) :=
  foldl_slots (fun u => sameSettings s u ∧ u.sys = s.sys) (fun s n => trimSlot steps n s)
    (fun n x y => trimmed (slotUsed s n) (trimRefused s n) (beyondLimit s n steps) (pv s 0x2320 (n.val + 1)) steps x y)
    (fun u m ⟨hset, hsys⟩ => ⟨⟨by simpa using hset.1, by simpa using hset.2⟩, by simpa using hsys⟩)
    (fun u m ⟨hset, hsys⟩ => by
      have hturn := trimSlot_at steps m u
      rwa [slotUsed_reads hset, trimRefused, critical_reads hset, hsys, beyondLimit, pv_reads hset] at hturn)
    (fun u m k hk => trimSlot_other steps m k u hk) hl ⟨⟨rfl, rfl⟩, rfl⟩ n

theorem trimStep : Claims.TrimStep := by
  intro s flips r w c hdue hop v hv
  obtain ⟨hwait, -⟩ := dueStep_ready hdue
  have hstep : stepTrim w (noted s r c) =
      nextStep ((slotsOf w.mask).foldl (fun s n => trimSlot v n s) (noted s r c)) := by rw [hv]; rfl
  have hseq : ((slotsOf w.mask).foldl (fun s n => trimSlot v n s) (noted s r c)).seq = (noted s r c).seq :=
    foldl_keeps State.seq _ (fun u n => by simp) _ _
  have hnext := hstep.trans (nextStep_some (r := { r with corrected := r.corrected || c }) (by rw [hseq]; rfl))
  have hslots (n : SlotId) := trimmed_rails v _ (slotsOf_nodup w.mask) (noted s r c) n
  refine ⟨stepTrim w (noted s r c), ?_, ?_, fun n hm hu hfree => ?_, fun n hm hu hc hst => ?_, fun n h => ?_, ?_⟩
  · simp only [exec, execTrim, stepAs_due 6 _ hdue hop]
    rw [hnext, afterProgram_running s rfl]
  · rw [hnext, running, hseq]
    simp only [noted, hwait]
  · obtain ⟨-, -, hmargin⟩ := (hslots n).1 ((mem_slotsOf _ _).mpr hm)
    have hallowed : trimRefused s n = false := by
      rcases hfree with hc | ⟨he, hd⟩
      · simp only [trimRefused, hc, Bool.false_and]
      · simp only [trimRefused, decide_eq_false he, decide_eq_false hd, Bool.or_self, Bool.and_false]
    obtain ⟨happlied, hrequest, hclamped⟩ := hmargin hu hallowed
    have hlimit : pv (noted s r c) 0x2320 (n.val + 1) = pv s 0x2320 (n.val + 1) := rfl
    rw [hstep, (nextStep_keeps _).2.2.2.1, happlied, hrequest, hclamped, clampedTo, beyondLimit, hlimit]
    refine ⟨rfl, fun hin => ?_, fun hout => ?_⟩
    · rw [if_neg (Nat.not_lt.mpr hin), decide_eq_false (Nat.not_lt.mpr hin), Bool.or_false]
      exact ⟨rfl, rfl⟩
    · rw [if_pos hout, decide_eq_true hout, Bool.or_true]
      exact ⟨rfl, rfl⟩
  · obtain ⟨-, hkept, -⟩ := (hslots n).1 ((mem_slotsOf _ _).mpr hm)
    have hrefused : trimRefused s n = true := by
      rcases hst with hst | hst <;> simp [trimRefused, hc, hst]
    rw [hstep, (nextStep_keeps _).2.2.2.1]
    exact hkept hu hrefused
  · rw [hstep, (nextStep_keeps _).2.2.2.1]
    by_cases hm : n ∈ slotsOf w.mask
    · have hunused : slotUsed s n = false := h.resolve_left fun hout => by
        rw [mem_slotsOf, hout] at hm
        exact Bool.false_ne_true hm
      exact ((hslots n).1 hm).1 hunused
    · exact (hslots n).2 hm
  · apply State.ext <;> simp [noted]

/-- Settles O18: the step due runs with its correction noted; the steps over a mask change each slot in its own turn. -/
theorem sequenceSteps : Obligations.SequenceSteps :=
  ⟨waitAndSignalSteps, jumpStep, checkStep, enableStep, disableStep, trimStep⟩

end Sys2Proof.Sequencing
end

section
/-! PROOF. How a program ends (R119, R131, R141), and what a bad step word does (R118). -/

namespace Sys2Proof.Sequencing

open Sys2Proof Sys2Proof.Machine Sys2Proof.Claims Sys2Proof.Families Sys2Proof.DeviceStates Sys2Proof.TilePorts

/-! ## The end of a program -/

/-- Outside a transition that waits for a program, the end of one starts nothing. -/
theorem afterProgram_elsewhere (before : State) {s : State} (hl : s.sys.leaving = none) (hb : s.sys.st ≠ .boot)
    (hw : s.sys.wakingPartial = false) : afterProgram before s = s := by
  unfold afterProgram
  split
  · simp only [hl, decide_eq_false hb, hw, Bool.false_and, Bool.false_eq_true, if_false]
  · rfl

theorem setResult_results (role : Nat) (r : Byte) (s : State) (k : Fin 6) :
    (setResult role r s).seq.results[k] = if role = k.val + 1 then r else s.seq.results[k] := by
  unfold setResult
  split
  next h =>
    by_cases hk : role = k.val + 1
    · have hat : (⟨role - 1, by omega⟩ : Fin 6) = k := Fin.ext (by simp [hk])
      simp only [hat, upd_same, if_pos hk]
    · have hat : (⟨role - 1, by omega⟩ : Fin 6) ≠ k := fun e => hk (by rw [← e]; simp only; omega)
      simp only [upd_other _ _ _ _ hat, if_neg hk]
  next h =>
    rw [if_neg]
    have := k.isLt
    omega

theorem setResult_rest (role : Nat) (r : Byte) (s : State) :
    (setResult role r s).seq = { s.seq with results := (setResult role r s).seq.results } := by
  unfold setResult
  split <;> rfl

theorem setResult_frame (role : Nat) (r : Byte) (s : State) :
    setResult role r s = { s with seq := (setResult role r s).seq } := by
  unfold setResult
  split <;> rfl

/-- What a program leaves that has ended with a result. -/
structure Ended (s t : State) (r : SeqRun) (result : Byte) : Prop where
  run : t.seq.run = none
  flags : t.seq.runFlags = runFlagsOf r
  corrected : t.seq.corrected = s.seq.corrected
  event : gotEvent s t 16
  results : ∀ k : Fin 6, t.seq.results[k] = if r.role = k.val + 1 then result else s.seq.results[k]
  frame : t = { s with seq := t.seq, irq := t.irq, bus := t.bus, free := t.free }

theorem programEnds_ended (result : Byte) {s : State} {r : SeqRun} (h : s.seq.run = some r) :
    Ended s (programEnds result s) r result := by
  have hends : programEnds result s = raise 16 (setResult r.role result
      { s with seq := { s.seq with run := none, runFlags := runFlagsOf r } }) := by simp only [programEnds, h]
  have hseq : (programEnds result s).seq = (setResult r.role result
      { s with seq := { s.seq with run := none, runFlags := runFlagsOf r } }).seq := by
    rw [hends, (raise_keeps 16 _).2.2.2.2.1]
  constructor
  · rw [hseq, setResult_rest]
  · rw [hseq, setResult_rest]
  · rw [hseq, setResult_rest]
  · rw [hends]
    refine raise_gotEvent_after 16 (by decide) ?_
    rw [setResult_frame]
    rfl
  · intro k
    rw [hseq, setResult_results]
  · apply State.ext <;> simp

theorem endStep : Claims.EndStep := by
  intro s flips r w c hdue hop hl hb hw
  have hstep : stepEnd w (noted s r c) = programEnds (endResult { r with corrected := r.corrected || c } w.arg)
      (noted s r c) := rfl
  have hended := programEnds_ended (endResult { r with corrected := r.corrected || c } w.arg)
    (s := noted s r c) (r := { r with corrected := r.corrected || c }) rfl
  refine ⟨stepEnd w (noted s r c), ?_, ?_⟩
  · simp only [exec, execEndProgram, stepAs_due 8 _ hdue hop]
    rw [afterProgram_elsewhere s (by simpa [noted] using hl) (by simpa [noted] using hb) (by simpa [noted] using hw)]
  · rw [hstep]
    exact ⟨hended.run, hended.flags, gotEvent_of_hearing (u := noted s r c) rfl hended.event, hended.results,
      hended.frame.trans (by simp [noted])⟩

/-! ## The safe exit -/

/-- The way to the safe exit, for a program that has none: it ends there. -/
theorem safeExit_none (result : Byte) {s : State} {r : SeqRun} (hrun : s.seq.run = some r) (hx : r.exited = false)
    (hsafe : dirSafe (entryAt s r.sub) = 0x3FF) : safeExit result s = programEnds result (raise 18 (running s { r with
      exited := true, result := result, wait := .none, pc := 0x3FF })) := by
  simp only [safeExit, hrun, hx, Bool.false_eq_true, if_false, hsafe, if_true, onRun_some _ hrun]

theorem safeExit_again (result : Byte) {s : State} {r : SeqRun} (hrun : s.seq.run = some r) (hx : r.exited = true) :
    safeExit result s = programEnds 5 s := by
  simp only [safeExit, hrun, hx, if_true]

/-- What a jump to the safe exit leaves: the exit taken, the program ended for want of one, or aborted on its way there. -/
structure ExitTaken (s t : State) (r : SeqRun) (result : Byte) : Prop where
  corrected : t.seq.corrected = s.seq.corrected
  jumps : r.exited = false → dirSafe (entryAt s r.sub) ≠ 0x3FF → t.seq.run = some { r with
    exited := true, result := result, wait := .none, pc := dirSafe (entryAt s r.sub) } ∧ gotEvent s t 18
  ends : r.exited = false → dirSafe (entryAt s r.sub) = 0x3FF → t.seq.run = none ∧
    ∀ k : Fin 6, r.role = k.val + 1 → t.seq.results[k] = result
  aborts : r.exited = true → t.seq.run = none ∧ ∀ k : Fin 6, r.role = k.val + 1 → t.seq.results[k] = 5
  frame : t = { s with seq := t.seq, irq := t.irq, bus := t.bus, free := t.free }

theorem safeExit_takes (result : Byte) {s : State} {r : SeqRun} (hrun : s.seq.run = some r) :
    ExitTaken s (safeExit result s) r result := by
  have hframe : safeExit result s = { s with seq := (safeExit result s).seq, irq := (safeExit result s).irq,
                                             bus := (safeExit result s).bus, free := (safeExit result s).free } := by
    apply State.ext <;> simp
  cases hx : r.exited with
  | true =>
    have hended := programEnds_ended 5 hrun
    rw [safeExit_again result hrun hx] at hframe ⊢
    exact ⟨hended.corrected, fun h => (Bool.false_ne_true (h.symm.trans hx)).elim,
      fun h => (Bool.false_ne_true (h.symm.trans hx)).elim,
      fun _ => ⟨hended.run, fun k hk => (hended.results k).trans (if_pos hk)⟩, hframe⟩
  | false =>
    by_cases hsafe : dirSafe (entryAt s r.sub) = 0x3FF
    · have hrun' : (raise 18 (running s { r with exited := true, result := result, wait := .none, pc := 0x3FF })).seq.run =
          some { r with exited := true, result := result, wait := .none, pc := 0x3FF } := by
        rw [(raise_keeps 18 _).2.2.2.2.1]; rfl
      have hended := programEnds_ended result hrun'
      rw [safeExit_none result hrun hx hsafe] at hframe ⊢
      refine ⟨hended.corrected.trans ?_, fun _ h => absurd hsafe h,
        fun _ _ => ⟨hended.run, fun k hk => (hended.results k).trans (if_pos hk)⟩,
        fun h => (Bool.false_ne_true (hx.symm.trans h)).elim, hframe⟩
      rw [(raise_keeps 18 _).2.2.2.2.1]
      rfl
    · rw [safeExit_taken result hrun hx hsafe] at hframe ⊢
      refine ⟨?_, fun _ _ => ⟨?_, raise_gotEvent_after 18 (by decide) rfl⟩, fun _ h => absurd h hsafe,
        fun h => (Bool.false_ne_true (hx.symm.trans h)).elim, hframe⟩
      · rw [(raise_keeps 18 _).2.2.2.2.1]; rfl
      · rw [(raise_keeps 18 _).2.2.2.2.1]; rfl

theorem stepAs_bad {s : State} {flips : U64} {r : SeqRun} {b : Bool} (op : Nat) (f : StepWord → State → State)
    (hrun : s.seq.run = some r) (h : fetchStep s flips = .bad b) : stepAs op flips f s = safeExit 3 (noted s r b) := by
  simp only [stepAs, h, noteCorrected_eq b hrun]

/-- Every opcode's command meets a bad word in the same way. -/
theorem exec_bad {s : State} {flips : U64} {codes : Fam 16 U16} {r : SeqRun} {b : Bool} (hrun : s.seq.run = some r)
    (h : fetchStep s flips = .bad b) {c : Instr} (hc : c ∈ [Instr.enable flips, .wait flips, .waitFor flips,
      .check flips codes, .jump flips, .trim flips, .signal flips, .endProgram flips]) :
    exec c s = .next (afterProgram s (safeExit 3 (noted s r b))) := by
  simp only [List.mem_cons, List.not_mem_nil, or_false] at hc
  rcases hc with rfl | rfl | rfl | rfl | rfl | rfl | rfl | rfl
  all_goals exact congrArg (fun u => Host.Outcome.next (afterProgram s u)) (stepAs_bad _ _ hrun h)

theorem badStepTakesSafeExit : Claims.BadStepTakesSafeExit := by
  intro s flips codes r b hrun h hl hb hw c hc
  have htaken := safeExit_takes 3 (s := noted s r b) (r := { r with corrected := r.corrected || b }) rfl
  refine ⟨safeExit 3 (noted s r b), ?_, htaken.corrected, fun hx hsafe => ?_, htaken.ends, htaken.aborts,
    htaken.frame.trans (by simp [noted])⟩
  · rw [exec_bad hrun h hc, afterProgram_elsewhere s (by simpa [noted] using hl) (by simpa [noted] using hb)
      (by simpa [noted] using hw)]
  · obtain ⟨hjump, hevent⟩ := htaken.jumps hx hsafe
    exact ⟨hjump, gotEvent_of_hearing (u := noted s r b) rfl hevent⟩

/-- Settles O19: END gives the result of the run, and a bad step takes the way to the safe exit. -/
theorem programEndsAndExits : Obligations.ProgramEnds := ⟨endStep, badStepTakesSafeExit⟩

end Sys2Proof.Sequencing
end

section
/-! PROOF. What a running program waits for, its load and its time limit, and the host's request (R121, R122, R126 to R132). -/

namespace Sys2Proof.Sequencing

open Sys2Proof Sys2Proof.Machine Sys2Proof.Claims Sys2Proof.Families Sys2Proof.Slots Sys2Proof.DeviceStates
  Sys2Proof.TilePorts

/-! ## The waits -/

/-- The running program after a note on its two counters. -/
def compared (r : SeqRun) (m : Bool) : SeqRun := { r with mismatch := r.mismatch || (m && decide (r.wait ≠ .none)) }

theorem noteMismatch_eq (m : Bool) {s : State} {r : SeqRun} (h : s.seq.run = some r) :
    noteMismatch m s = running s (compared r m) := onRun_some _ h

theorem compared_of_wait {r : SeqRun} (m : Bool) (h : r.wait ≠ .none) :
    compared r m = { r with mismatch := r.mismatch || m } := by
  simp only [compared, decide_eq_true h, Bool.and_true]

theorem compared_of_idle {r : SeqRun} (m : Bool) (h : r.wait = .none) : compared r m = r := by
  rw [compared, decide_eq_false (not_not.mpr h), Bool.and_false, Bool.or_false]

theorem running_self {s : State} {r : SeqRun} (h : s.seq.run = some r) : running s r = s := by
  simp only [running, ← h]

theorem waitEvents : Claims.WaitEvents := by
  intro s r m hrun
  have hstill (u : State) (h : u = s) : 
      (Host.Outcome.next (afterProgram s u) : Host.Outcome State Fault Refusal) = .next s := by
    rw [h, afterProgram_running s hrun]
  refine ⟨fun hw => ?_, fun arg mask hw hmet => ?_, fun arg mask hw hmet => ?_, fun hw => ⟨?_, ?_, ?_⟩, fun hw => ⟨?_, ?_⟩⟩
  · have hstep : waitExpired m s = running s { r with pc := r.pc + 1, wait := .none, mismatch := r.mismatch || m } := by
      have hwait : (compared r m).wait = .delay := hw
      rw [waitExpired, noteMismatch_eq m hrun]
      simp only [running, hwait]
      rw [nextStep_some rfl, compared_of_wait m (by rw [hw]; simp)]
      rfl
    simp only [exec, execWaitExpiry, hstep]
    exact congrArg _ (afterProgram_running s rfl)
  · have hstep : conditionMet m s = running s { r with pc := r.pc + 1, wait := .none, mismatch := r.mismatch || m } := by
      simp only [conditionMet, hrun, hw, hmet, if_true, noteMismatch_eq m hrun]
      rw [nextStep_some rfl, compared_of_wait m (by rw [hw]; simp)]
      rfl
    simp only [exec, execWaitForMet, hstep]
    exact congrArg _ (afterProgram_running s rfl)
  · exact hstill _ (by simp only [conditionMet, hrun, hw, hmet, Bool.false_eq_true, if_false])
  · refine hstill _ ?_
    rw [waitExpired, noteMismatch_eq m hrun, compared_of_idle m hw, running_self hrun]
    simp only [hrun, hw]
  · exact hstill _ (by simp only [conditionMet, hrun, hw])
  · exact hstill _ (by simp only [conditionMissed, hrun, hw])
  · exact hstill _ (by simp only [conditionMet, hrun, hw])
  · exact hstill _ (by simp only [conditionMissed, hrun, hw])

/-! ## A wait that times out -/

/-- A slot that has failed the condition of a WAIT_FOR. -/
def failedWait (arg : Nat) (x : RailSlot) : RailSlot :=
  if arg = 0 then { x with flags := x.flags ||| 0x10, counts := upd x.counts 4 satInc }
  else { x with flags := x.flags ||| if arg = 1 then 0x40 else 0x1000 }

theorem timeoutFlag_rails (arg : Nat) (n : SlotId) (s : State) : (timeoutFlag arg n s).rails =
    upd s.rails n (failedWait arg) := by
  unfold timeoutFlag
  split
  next =>
    rw [rampSlowFlag, count_silent n .rampSlow _ rfl, onRail, setFlag_rails, TilePorts.upd_upd]
    rfl
  next => exact setFlag_rails n .dischargeSlow s
  next h0 h1 =>
    rw [setFlag_rails]
    refine upd_congr _ _ ?_
    rw [failedWait, if_neg h0, if_neg h1]
    rfl

theorem unflagged_timeoutFlag (arg : Nat) (s : State) (n : SlotId) : unflagged (timeoutFlag arg n s) = unflagged s := by
  unfold timeoutFlag
  split
  next =>
    have hcount : unflagged (count n .rampSlow (setFlag n .rampSlow s)) = unflagged (setFlag n .rampSlow s) := by
      simp only [unflagged, count_keeps]
    exact hcount.trans (unflagged_setFlag n _ s)
  next => exact unflagged_setFlag n _ s
  next => exact unflagged_setFlag n _ s

/-- The slots of a mask that fail a condition, as the flags of its timeout mark them. -/
def failing (s : State) (arg : Nat) (mask : U16) : List SlotId := (slotsOf mask).filter fun n => failsCondition s arg n

/-- A timeout's flags given to the slots of a list. -/
def timedOut (arg : Nat) (l : List SlotId) (s : State) : State := l.foldl (fun s n => timeoutFlag arg n s) s

theorem mem_failing (s : State) (arg : Nat) (mask : U16) (n : SlotId) :
    n ∈ failing s arg mask ↔ mask.getLsbD n.val = true ∧ failsCondition s arg n = true := by
  rw [failing, List.mem_filter, mem_slotsOf]

theorem failing_isEmpty (s : State) (arg : Nat) (mask : U16) :
    (failing s arg mask).isEmpty = !((slotsOf mask).any fun n => failsCondition s arg n) := by
  rw [Bool.eq_iff_iff]
  simp [failing, List.isEmpty_iff, List.filter_eq_nil_iff]

theorem timedOut_rails (arg : Nat) {l : List SlotId} (hl : l.Nodup) (s : State) (n : SlotId) :
    (timedOut arg l s).rails[n] = if n ∈ l then failedWait arg s.rails[n] else s.rails[n] := by
  obtain ⟨hin, hout⟩ := foldl_slots (fun _ => True) (fun s n => timeoutFlag arg n s) (fun _ x y => y = failedWait arg x)
    (fun _ _ _ => trivial) (fun u m _ => by rw [timeoutFlag_rails, upd_same])
    (fun u m k hk => by rw [timeoutFlag_rails, upd_other _ _ _ _ (Ne.symm hk)]) hl (s := s) trivial n
  by_cases hn : n ∈ l
  · rw [if_pos hn]; exact hin hn
  · rw [if_neg hn]; exact hout hn

theorem waitForTimesOut : Claims.WaitForTimesOut := by
  intro s r m arg mask hrun hw
  have hnoted : noteMismatch m s = running s { r with mismatch := r.mismatch || m } := by
    rw [noteMismatch_eq m hrun, compared_of_wait m (by rw [hw]; simp)]
  obtain ⟨f, hseq⟩ := seq_of_unflagged (foldl_keeps unflagged (fun s n => timeoutFlag arg n s)
    (unflagged_timeoutFlag arg) (failing s arg mask) (running s { r with mismatch := r.mismatch || m })) rfl
  have hstep : conditionMissed m s = running (timedOut arg (failing s arg mask)
      (running s { r with mismatch := r.mismatch || m })) { r with
        mismatch := r.mismatch || m, flagged := f, c := r.c && (failing s arg mask).isEmpty, pc := r.pc + 1, wait := .none } := by
    have hmissed : conditionMissed m s = nextStep (onRun (fun r => { r with c := r.c && (failing s arg mask).isEmpty })
        (timedOut arg (failing s arg mask) (running s { r with mismatch := r.mismatch || m }))) := by
      simp only [conditionMissed, hrun, hw, hnoted]
      rfl
    rw [hmissed, onRun_some _ (by rw [timedOut, hseq]), nextStep_some rfl]
    rfl
  have hslots (n : SlotId) : (conditionMissed m s).rails[n] =
      if n ∈ failing s arg mask then failedWait arg s.rails[n] else s.rails[n] := by
    rw [hstep]
    exact timedOut_rails arg ((slotsOf_nodup mask).filter _) _ n
  refine ⟨conditionMissed m s, ?_, ?_, fun n hm hf => ?_, fun n h => ?_, ?_⟩
  · simp only [exec, execWaitForTimeout, hstep]
    exact congrArg _ (afterProgram_running s rfl)
  · rw [hstep]
    exact ⟨_, rfl, rfl, rfl, rfl, rfl, by rw [failing_isEmpty]⟩
  · rw [hslots, if_pos ((mem_failing _ _ _ _).mpr ⟨hm, hf⟩), failedWait]
    by_cases h0 : arg = 0
    · rw [if_pos h0, if_pos h0]
      exact ⟨rfl, fun _ => upd_same _ _ _, rfl⟩
    · rw [if_neg h0, if_neg h0]
      exact ⟨rfl, fun h => absurd h h0, rfl⟩
  · rw [hslots, if_neg]
    rw [mem_failing]
    rintro ⟨hm, hf⟩
    rcases h with h | h
    · exact Bool.false_ne_true (h.symm.trans hm)
    · exact Bool.false_ne_true (h.symm.trans hf)
  · apply State.ext
    case light => rw [hstep]; simp [running, timedOut]
    all_goals simp

/-! ## The load and the time limit -/

theorem countRead_clean {errs : WordErrors} {addr len : Nat} (h : readFinds errs true addr len = false) (s : State) :
    countRead errs addr len s = onFlash (fun f => { f with corrected := (countRead errs addr len s).flash.corrected }) s := by
  simp only [countRead, h, Bool.false_eq_true, if_false]
  split_ifs <;> rfl

theorem countRead_flash (errs : WordErrors) (addr len : Nat) (s : State) : (countRead errs addr len s).flash =
    { s.flash with corrected := (countRead errs addr len s).flash.corrected,
                   uncorrectable := (countRead errs addr len s).flash.uncorrectable } := by
  simp only [countRead]
  split_ifs <;> simp [onFlash]

theorem programOk_clean {s : State} {sub : Nat} {errs : WordErrors} (h : programOk s sub errs = true) :
    readFinds errs true (storeBase s sub) (8 * dirLength (entryAt s sub)) = false := by
  simp only [programOk, Bool.and_eq_true, Bool.not_eq_true'] at h
  obtain ⟨⟨-, hclean⟩, -⟩ := h
  exact hclean

theorem loadEnded_eq (errs : WordErrors) {s : State} {r : SeqRun} (hrun : s.seq.run = some r) (hload : r.loading = true)
    (hwait : readWaits s (storeActive s) = false) : loadEnded errs s = if programOk s r.sub errs then
      onRun (fun r => { r with loading := false, words := storeWords s r.sub })
        (countRead errs (storeBase s r.sub) (8 * dirLength (entryAt s r.sub)) s)
    else programEnds 6 (countRead errs (storeBase s r.sub) (8 * dirLength (entryAt s r.sub)) s) := by
  simp only [loadEnded, hrun, hload, hwait, Bool.not_true, Bool.or_self, Bool.false_eq_true, if_false]

theorem programLoadAndTimeout : Claims.ProgramLoadAndTimeout := by
  intro s r errs hrun hl hb hw
  refine ⟨fun hload hwait hok => ?_, fun hload hwait hok => ?_, fun h => ?_, fun hload hx hlim hsafe => ?_, fun h0 h1 => ?_⟩
  · have hend : loadEnded errs s = running (countRead errs (storeBase s r.sub) (8 * dirLength (entryAt s r.sub)) s)
        { r with loading := false, words := storeWords s r.sub } := by
      rw [loadEnded_eq errs hrun hload hwait, if_pos hok, onRun_some _ (by rw [(countRead_keeps _ _ _ _).2.2.2.2.1, hrun])]
    refine ⟨loadEnded errs s, ?_, ?_, ?_⟩
    · simp only [exec, execProgramLoadEnd, hend]
      exact congrArg _ (afterProgram_running s rfl)
    · rw [hend]
      simp [running]
    · rw [hend, countRead_clean (programOk_clean hok)]
      rfl
  · have hend : loadEnded errs s = programEnds 6 (countRead errs (storeBase s r.sub)
        (8 * dirLength (entryAt s r.sub)) s) := by
      rw [loadEnded_eq errs hrun hload hwait, if_neg (by rw [hok]; exact Bool.false_ne_true)]
    have hended := programEnds_ended 6 (s := countRead errs (storeBase s r.sub) (8 * dirLength (entryAt s r.sub)) s)
      (r := r) (by simpa using hrun)
    refine ⟨loadEnded errs s, ?_, ?_, fun k hk => ?_, ?_⟩
    · simp only [exec, execProgramLoadEnd]
      rw [afterProgram_elsewhere s (by simpa using hl) (by simpa using hb) (by simpa using hw)]
    · rw [hend]; exact hended.run
    · rw [hend]; exact (hended.results k).trans (if_pos hk)
    · apply State.ext
      case flash =>
        rw [hend]
        simpa using countRead_flash errs _ _ s
      all_goals simp
  · have hstill : loadEnded errs s = s := by
      rcases h with h | h <;> simp [loadEnded, hrun, h]
    simp only [exec, execProgramLoadEnd, hstill]
    exact congrArg _ (afterProgram_running s hrun)
  · have hlong : runTooLong s = safeExit 4 s := by
      have hlimit : ¬ (dirMaxRun (entryAt s r.sub) = 0 ∧ r.role ≠ 1) := by
        rintro ⟨h0, h1⟩
        rcases hlim with h | h
        · exact h h0
        · exact h1 h
      simp only [runTooLong, hrun, hload, Bool.false_or, Bool.and_eq_true, decide_eq_true_eq]
      exact if_neg hlimit
    have htaken := safeExit_takes 4 hrun
    obtain ⟨hjump, hevent⟩ := htaken.jumps hx hsafe
    refine ⟨safeExit 4 s, ?_, hjump, hevent, htaken.frame⟩
    simp only [exec, execProgramTimeout, hlong]
    exact congrArg _ (afterProgram_running s hjump)
  · have hstill : runTooLong s = s := by simp [runTooLong, hrun, h0, h1]
    simp only [exec, execProgramTimeout, hstill]
    exact congrArg _ (afterProgram_running s hrun)

/-! ## Writes that the checks pass -/

theorem firstOf_done {l : List Abort} (h : firstOf l = .done) : ∀ a ∈ l, a = .done := by
  induction l with
  | nil => exact fun _ ha => absurd ha List.not_mem_nil
  | cons a l ih =>
    simp only [firstOf] at h
    split_ifs at h with ha
    · rintro b (_ | ⟨_, hb⟩)
      · exact ha
      · exact ih h b hb
    · exact absurd h ha

/-- A write that passes its checks is one that the device state takes. -/
theorem writeState_of_checks {s : State} {path : Sys2Proof.Path} {i b : Nat} {data : List Byte}
    (h : writeChecks s path i b data = .done) (hi : idleTrigger i b data = false) : writeState s i b = true := by
  have hstate : stateCheck s i b data = .done := firstOf_done h _ (by simp)
  simp only [stateCheck, hi, Bool.false_or] at hstate
  split_ifs at hstate with h1 h2 h3 h4
  · exact absurd hstate h2
  · exact h4

theorem row2230 : rowOf 0x2230 1 = some (wo 0x2230 1 1 1 .u8 1 1 16) := by rfl

theorem idle2230 (data : List Byte) : idleTrigger 0x2230 1 data = false := by
  simp [idleTrigger, row2230, wo]

/-- While a program runs, the check of the state ends the write whatever it carries. -/
theorem checks2230_busy {s : State} (data : List Byte) (h : s.seq.run ≠ none) :
    writeChecks s .bus 0x2230 1 data = .seqBusy := by
  have hrow : existence (small s) 0x2230 1 = .done := by cases small s <;> rfl
  have hrun : s.seq.run.isSome = true := Option.isSome_iff_ne_none.mpr h
  simp [writeChecks, firstOf, hrow, pathCheck, claimOnly, classCheck, accOf, row2230, wo, stateCheck, hrun]

theorem checks2230_idle {s : State} {data : List Byte} (h : writeChecks s .bus 0x2230 1 data = .done) :
    s.seq.run = none := by
  by_contra hrun
  rw [checks2230_busy data hrun] at h
  cases h

theorem readSuspends_flash (sec : Nat) (s : State) : readSuspends sec s = { s with
    flash := { s.flash with erase := (readSuspends sec s).flash.erase } } := by
  unfold readSuspends
  split
  · split_ifs <;> rfl
  · rfl

theorem runRequest_taken {s : State} {sub : Byte} (h : takes s 0x2230 1 [sub]) :
    exec (.runRequest sub) s = .next (written (runProgram sub.toNat (touch s))) ∧ s.seq.run = none ∧
      s.sys.st ≠ .hold := by
  obtain ⟨hfree, hchecks⟩ := h
  have hstate : writeState (touch s) 0x2230 1 = true := writeState_of_checks hchecks (idle2230 _)
  refine ⟨?_, by simpa using checks2230_idle hchecks, fun hst => ?_⟩
  · simp only [exec, execRunRequest, hostWrite_takes 0x2230 1 [sub] s _ hfree (by decide) hchecks (idle2230 _) row2230 rfl]
    simp [writeEffect, leNat]
  · simp [writeState, hst] at hstate

theorem runRequest : Claims.RunRequest := by
  intro s sub
  have hentry : entryAt (touch s) sub.toNat = entryAt s sub.toNat := pv_reads (sameSettings_touch s) _ _
  refine ⟨fun h hrole => ?_, fun h hrole => ?_, fun hfree hrun => ?_⟩
  · obtain ⟨hexec, hnone, hst⟩ := runRequest_taken h
    have hidle : (loadProgram sub.toNat 6 (touch s)).bus.busy = false := by simpa using busFree_busy h.1
    have heffect : runProgram sub.toNat (touch s) = (.done, loadProgram sub.toNat 6 (touch s)) := by
      simp [runProgram, hnone, hentry, hrole]
    rw [hexec, heffect]
    refine ⟨_, rfl, answered_written hidle,
      ⟨⟨sub.toNat, 6, true, [], 0, false, .none, false, false, false, false, 0⟩, ?_, rfl, rfl, rfl⟩, ?_⟩
    · rw [written_eq_reply hidle, touch_of_not_hold s hst, loadProgram, readSuspends_flash]
      rfl
    · rw [written_eq_reply hidle, touch_of_not_hold s hst, loadProgram, readSuspends_flash]
      rfl
  · obtain ⟨hexec, hnone, hst⟩ := runRequest_taken h
    have heffect : runProgram sub.toNat (touch s) = (.valueRange, touch s) := by
      simp [runProgram, hnone, hentry, hrole]
    have hidle := DeviceStates.touch_not_busy h.1
    rw [hexec, heffect]
    refine ⟨_, rfl, answered_written hidle, ?_⟩
    rw [written_eq_reply hidle]
    exact reply_touch_outside_hold _ hst
  · have hrefused : writeChecks (touch s) .bus 0x2230 1 [sub] = .seqBusy := checks2230_busy _ (by simpa using hrun)
    refine ⟨reply .seqBusy [] (touch s), ?_, answered_reply _ _ (DeviceStates.touch_not_busy hfree), reply_touch_frame _ s⟩
    simp only [exec, execRunRequest]
    rw [hostWrite_refused 0x2230 1 [sub] s hfree (by decide) (by rw [hrefused]; decide), hrefused]

/-- Settles O20: the waits and the load through the program's own fields, the request through the checks of a write. -/
theorem programRuns : Obligations.ProgramRuns := ⟨waitEvents, waitForTimesOut, programLoadAndTimeout, runRequest⟩

end Sys2Proof.Sequencing
end

section
/-! PROOF. The code of a step word (R117, R118): its syndrome is linear, zero on every stored word, and tells any one wrong
bit from the others. -/

namespace Sys2Proof.StepCode

open Sys2Proof Sys2Proof.Machine

/-! ## Linearity -/

theorem bits_xor (hi lo m n : Nat) : bits hi lo (m ^^^ n) = bits hi lo m ^^^ bits hi lo n := by
  simp only [bits, ← Nat.shiftRight_eq_div_pow, Nat.shiftRight_xor_distrib, Nat.xor_mod_two_pow]

/-- The check bits that a list of positions collects from the data bits. -/
def collect (l : List (Nat × Nat)) (x data : Nat) : Nat :=
  l.foldl (fun x p => if data.testBit p.2 then Nat.xor x p.1 else x) x

theorem collect_xor (l : List (Nat × Nat)) (x y m n : Nat) :
    collect l (x ^^^ y) (m ^^^ n) = collect l x m ^^^ collect l y n := by
  induction l generalizing x y with
  | nil => rfl
  | cons p l ih =>
    have hstep : (if (m ^^^ n).testBit p.2 then Nat.xor (x ^^^ y) p.1 else x ^^^ y) =
        (if m.testBit p.2 then Nat.xor x p.1 else x) ^^^ (if n.testBit p.2 then Nat.xor y p.1 else y) := by
      have hxor (a b : Nat) : Nat.xor a b = a ^^^ b := rfl
      rw [Nat.testBit_xor]
      cases m.testBit p.2 <;> cases n.testBit p.2 <;> simp only [hxor, Bool.xor_false, Bool.xor_true, Bool.not_false,
        Bool.not_true, Bool.false_eq_true, if_true, if_false]
      · rw [Nat.xor_assoc]
      · rw [Nat.xor_assoc, Nat.xor_comm y, ← Nat.xor_assoc]
      · rw [Nat.xor_comm y p.1, Nat.xor_assoc x, ← Nat.xor_assoc p.1, Nat.xor_self, Nat.zero_xor]
    exact (congrArg (fun z => collect l z (m ^^^ n)) hstep).trans (ih _ _)

theorem checkOf_xor (m n : Nat) : checkOf (m ^^^ n) = checkOf m ^^^ checkOf n :=
  collect_xor dataPositions.zipIdx 0 0 m n

theorem collect_lt (l : List (Nat × Nat)) (hl : ∀ p ∈ l, p.1 < 2 ^ 6) (x data : Nat) (hx : x < 2 ^ 6) :
    collect l x data < 2 ^ 6 := by
  induction l generalizing x with
  | nil => exact hx
  | cons p l ih =>
    refine ih (fun q hq => hl q (List.mem_cons_of_mem p hq)) _ ?_
    dsimp only
    split_ifs
    · exact Nat.xor_lt_two_pow hx (hl p List.mem_cons_self)
    · exact hx

theorem checkOf_lt (data : Nat) : checkOf data < 64 :=
  collect_lt dataPositions.zipIdx (by decide) 0 data (by decide)

theorem oddBits_succ (n w : Nat) : oddBits (n + 1) w = xor (oddBits n w) (w.testBit n) := by
  simp [oddBits, List.range_succ]

theorem oddBits_xor (n v w : Nat) : oddBits n (v ^^^ w) = xor (oddBits n v) (oddBits n w) := by
  induction n with
  | zero => rfl
  | succ n ih =>
    rw [oddBits_succ, oddBits_succ, oddBits_succ, ih, Nat.testBit_xor, Bool.xor_assoc, Bool.xor_assoc,
      Bool.xor_left_comm (oddBits n w)]

theorem oddBits_low {n v w : Nat} (h : ∀ i < n, v.testBit i = w.testBit i) : oddBits n v = oddBits n w := by
  induction n with
  | zero => rfl
  | succ n ih => rw [oddBits_succ, oddBits_succ, ih fun i hi => h i (Nat.lt_succ_of_lt hi), h n (Nat.lt_succ_self n)]

/-! ## The syndrome -/

/-- The syndrome of a word. -/
def syndrome (w : Nat) : Nat := bits 61 56 w ^^^ checkOf (bits 55 0 w)

theorem syndrome_xor (v w : Nat) : syndrome (v ^^^ w) = syndrome v ^^^ syndrome w := by
  rw [syndrome, bits_xor, bits_xor, checkOf_xor, syndrome, syndrome]
  ac_rfl

theorem decodeStep_eq (w : U64) : decodeStep w =
    if syndrome w.toNat = 63 then none
    else if syndrome w.toNat = 0 then some (bits 55 0 w.toNat, oddBits 63 w.toNat)
    else if !oddBits 63 w.toNat then none
    else match dataPositions.zipIdx.find? fun p => p.1 = syndrome w.toNat with
      | some p => some (Nat.xor (bits 55 0 w.toNat) (2 ^ p.2), true)
      | none => some (bits 55 0 w.toNat, true) := rfl

/-- The data bits that a syndrome has corrected. -/
def repair (synd : Nat) : Nat := match dataPositions.zipIdx.find? fun p => p.1 = synd with
  | some p => 2 ^ p.2
  | none => 0

theorem decodeStep_of_syndrome {w : U64} {synd : Nat} (hs : syndrome w.toNat = synd) (h63 : synd ≠ 63)
    (hodd : oddBits 63 w.toNat = true) (h0 : synd = 0 → repair synd = 0) :
    decodeStep w = some (bits 55 0 w.toNat ^^^ repair synd, true) := by
  rw [decodeStep_eq, hs, if_neg h63, hodd]
  by_cases hz : synd = 0
  · rw [if_pos hz, h0 hz, Nat.xor_zero]
  · rw [if_neg hz, Bool.not_true, if_neg Bool.false_ne_true, repair]
    cases dataPositions.zipIdx.find? fun p => p.1 = synd with
    | some p => rfl
    | none => simp only [Nat.xor_zero]

/-- Each of the 63 bits read wrong has an odd word, a syndrome of its own that is not 63, and is repaired. -/
theorem oneBit (k : Nat) (hk : k < 63) : syndrome (2 ^ k) ≠ 63 ∧ oddBits 63 (2 ^ k) = true ∧
    repair (syndrome (2 ^ k)) = bits 55 0 (2 ^ k) ∧ (syndrome (2 ^ k) = 0 → repair (syndrome (2 ^ k)) = 0) := by
  revert k
  decide +kernel

/-! ## A stored word -/

/-- A stored word as a number: its data, its check bits and its parity bit. -/
theorem encodeStep_toNat {d : Nat} (hd : d < 2 ^ 56) : ∃ b : Bool, b = oddBits 62 (d + 2 ^ 56 * checkOf d) ∧
    (encodeStep d).toNat = d + 2 ^ 56 * checkOf d + if b then 2 ^ 62 else 0 := by
  refine ⟨_, rfl, ?_⟩
  have hc := checkOf_lt d
  simp only [encodeStep, BitVec.toNat_ofNat]
  split_ifs <;> omega

theorem encodeStep_bits {d : Nat} (hd : d < 2 ^ 56) : bits 55 0 (encodeStep d).toNat = d ∧
    bits 61 56 (encodeStep d).toNat = checkOf d := by
  obtain ⟨b, -, hw⟩ := encodeStep_toNat hd
  have hc := checkOf_lt d
  rw [hw]
  simp only [bits]
  cases b
  · simp only [Bool.false_eq_true, if_false]
    omega
  · simp only [if_true]
    omega

theorem encodeStep_even {d : Nat} (hd : d < 2 ^ 56) : oddBits 63 (encodeStep d).toNat = false := by
  obtain ⟨b, hb, hw⟩ := encodeStep_toNat hd
  have hlow : d + 2 ^ 56 * checkOf d < 2 ^ 62 := by
    have hc := checkOf_lt d
    omega
  rw [oddBits_succ, hw]
  cases b
  · rw [if_neg Bool.false_ne_true, Nat.add_zero, ← hb, Nat.testBit_lt_two_pow hlow]
    rfl
  · rw [if_pos rfl, Nat.add_comm, oddBits_low fun i hi => Nat.testBit_two_pow_add_gt hi _, ← hb,
      Nat.testBit_two_pow_add_eq, Nat.testBit_lt_two_pow hlow]
    rfl

/-- Settles O21: the syndrome of a stored word is 0, so that of the word as read is the wrong bit's. -/
theorem stepWordsCorrected : Obligations.StepWordsCorrected := by
  intro d hd
  obtain ⟨hdata, hcheck⟩ := encodeStep_bits hd
  have heven := encodeStep_even hd
  have hzero : syndrome (encodeStep d).toNat = 0 := by rw [syndrome, hcheck, hdata, Nat.xor_self]
  refine ⟨?_, fun k hk => ?_⟩
  · rw [decodeStep_eq, hzero, heven, hdata]
    rfl
  · obtain ⟨h63, hodd, hrepair, hnone⟩ := oneBit k hk
    have hread : (encodeStep d ^^^ BitVec.ofNat 64 (2 ^ k)).toNat = (encodeStep d).toNat ^^^ 2 ^ k := by
      rw [BitVec.toNat_xor, BitVec.toNat_ofNat, Nat.mod_eq_of_lt (Nat.pow_lt_pow_right (by decide) (by omega))]
    have hsynd : syndrome (encodeStep d ^^^ BitVec.ofNat 64 (2 ^ k)).toNat = syndrome (2 ^ k) := by
      rw [hread, syndrome_xor, hzero, Nat.zero_xor]
    rw [decodeStep_of_syndrome hsynd h63 (by rw [hread, oddBits_xor, heven, hodd]; rfl) hnone, hread, bits_xor, hdata,
      hrepair, Nat.xor_assoc, Nat.xor_self, Nat.xor_zero]

end Sys2Proof.StepCode
end

section
/-! PROOF. The operations of rail supervision, each as what it does to its own slot, seen without its alert marks, and to no
other slot (R101 to R110, R156). -/

namespace Sys2Proof.Slots

open Sys2Proof Sys2Proof.Machine Sys2Proof.Claims Sys2Proof.Families

/-! ## A slot without its alert marks -/

/-- A slot without its alert marks, which an event that is counted may set. -/
def plain (x : RailSlot) : RailSlot := { x with alerted := famAll 3 false }

/-- A slot with a flag set. -/
def flagged (fl : SlotFlag) (x : RailSlot) : RailSlot :=
  { x with flags := x.flags ||| BitVec.ofNat 32 (2 ^ flagBit fl) }

/-- A slot with an event counted. -/
def counted (c : RailCount) (x : RailSlot) : RailSlot := { x with counts := upd x.counts (countFin c) satInc }

/-- A slot latched off. -/
def latchedOff (x : RailSlot) : RailSlot :=
  { marginZero x with en := false, st := .latched, awaiting := false, blanked := false, driven := false }

theorem plain_setFlag (n : SlotId) (fl : SlotFlag) (s : State) :
    plain (setFlag n fl s).rails[n] = flagged fl (plain s.rails[n]) := by
  rw [setFlag_same]
  rfl

theorem plain_count (n : SlotId) (c : RailCount) (s : State) :
    plain (count n c s).rails[n] = counted c (plain s.rails[n]) := by
  obtain ⟨alerted, hsame, -⟩ := count_same n c s
  rw [hsame]
  rfl

theorem latchOff_rails (n : SlotId) (s : State) : (latchOff n s).rails = upd s.rails n latchedOff := by
  rw [latchOff, onRail, Sequencing.slotOff_rails, TilePorts.upd_upd]
  rfl

theorem plain_latchOff (n : SlotId) (s : State) : plain (latchOff n s).rails[n] = latchedOff (plain s.rails[n]) := by
  rw [latchOff_rails, upd_same]
  rfl

theorem latchOff_other (n m : SlotId) (s : State) (h : m ≠ n) : (latchOff n s).rails[m] = s.rails[m] := by
  rw [latchOff_rails, upd_other _ _ _ _ (Ne.symm h)]

/-! ## Trips -/

/-- The three ways in which an output's condition is named: flag, counter, state, and the bit that selects a latch-off. -/
def tripFlag (ov : Bool) : SlotFlag := if ov then .ov else .uv
def tripCount (ov : Bool) : RailCount := if ov then .ov else .uv
def tripState (ov : Bool) : SlotState := if ov then .ov else .uv
def tripBit (ov : Bool) : Nat := if ov then 0 else 1

/-- A UV or an OV trip. -/
def trip (ov : Bool) (n : SlotId) (s : State) : State := if ov then tripOv n s else tripUv n s

/-- A slot that has tripped. -/
def tripped (ov latch : Bool) (x : RailSlot) : RailSlot :=
  let y := counted (tripCount ov) (flagged (tripFlag ov) { x with st := tripState ov })
  if latch then latchedOff y else y

theorem trip_eq (ov : Bool) (n : SlotId) (s : State) : trip ov n s =
    let t := count n (tripCount ov) (setFlag n (tripFlag ov) (onRail n (fun x => { x with st := tripState ov }) s))
    if (rail t n 0xA).testBit (tripBit ov) then latchOff n t else t := by
  cases ov <;> rfl

theorem plain_trip (ov : Bool) (n : SlotId) (s : State) : plain (trip ov n s).rails[n] =
    tripped ov ((rail s n 0xA).testBit (tripBit ov)) (plain s.rails[n]) := by
  have hslot : plain (count n (tripCount ov) (setFlag n (tripFlag ov) (onRail n (fun x => { x with st := tripState ov })
      s))).rails[n] = counted (tripCount ov) (flagged (tripFlag ov) { plain s.rails[n] with st := tripState ov }) := by
    rw [plain_count, plain_setFlag, onRail_same]
    rfl
  rw [trip_eq]
  dsimp only
  rw [rail_reads (s := s) ⟨by simp, by simp⟩, tripped]
  cases (rail s n 0xA).testBit (tripBit ov)
  · rw [if_neg Bool.false_ne_true, if_neg Bool.false_ne_true, hslot]
  · rw [if_pos rfl, if_pos rfl, plain_latchOff, hslot]

theorem trip_other (ov : Bool) (n m : SlotId) (s : State) (h : m ≠ n) : (trip ov n s).rails[m] = s.rails[m] := by
  have hslot : (count n (tripCount ov) (setFlag n (tripFlag ov) (onRail n (fun x => { x with st := tripState ov })
      s))).rails[m] = s.rails[m] := by
    rw [count_other n m _ _ h, setFlag_other n m _ _ h, onRail_other n m _ s h]
  rw [trip_eq]
  dsimp only
  by_cases hl : (rail (count n (tripCount ov) (setFlag n (tripFlag ov) (onRail n (fun x => { x with st := tripState ov })
      s))) n 0xA).testBit (tripBit ov) = true
  · rw [if_pos hl, latchOff_other n m _ h, hslot]
  · rw [if_neg hl, hslot]

theorem evalTrips_eq (n : SlotId) (s : State) : evalTrips n s =
    if !supervised s n then s
    else if combined s n true && decide ((s.rails[n]).st ≠ .ov) then trip true n s
    else if combined s n false && decide ((s.rails[n]).st ≠ .uv) && decide ((s.rails[n]).st ≠ .ramping) then trip false n s
    else s := rfl

theorem evalTrips_other (n m : SlotId) (s : State) (h : m ≠ n) : (evalTrips n s).rails[m] = s.rails[m] := by
  rw [evalTrips_eq]
  split_ifs
  · rfl
  · exact trip_other true n m s h
  · exact trip_other false n m s h
  · rfl

theorem backInWindow_other (n m : SlotId) (s : State) (h : m ≠ n) : (backInWindow n s).rails[m] = s.rails[m] := by
  unfold backInWindow
  dsimp only
  split_ifs
  · exact onRail_other n m _ s h
  · rfl

theorem onCmp_other (n m : SlotId) (c : Comp) (f : Cmp → Cmp) (s : State) (h : m ≠ n) :
    (onCmp n c f s).rails[m] = s.rails[m] := onRail_other n m _ s h

theorem onCmp_same (n : SlotId) (c : Comp) (f : Cmp → Cmp) (s : State) : (onCmp n c f s).rails[n] = match c with
    | .a => { s.rails[n] with cmpA := f (s.rails[n]).cmpA }
    | .b => { s.rails[n] with cmpB := f (s.rails[n]).cmpB } := onRail_same n _ s

/-! ## What supervision reads -/

theorem supervised_iff (s : State) (n : SlotId) : supervised s n = true ↔ s.supply.aon = true ∧ slotUsed s n = true ∧
    (s.rails[n]).en = true ∧ (s.rails[n]).st ≠ .latched := by
  simp only [supervised, Bool.and_eq_true, decide_eq_true_eq, and_assoc]

/-- With a comparator that is not suspect the outputs decide, under the slot's policy. -/
def shows (policy : Nat) (a b : Cmp) (ov : Bool) : Bool :=
  let out := fun (c : Cmp) => if ov then c.ov else c.uv
  if a.suspect then out b else if b.suspect then out a else if policy = 1 then out a && out b else out a || out b

theorem combined_eq {s : State} {n : SlotId} (h : ((s.rails[n]).cmpA.suspect && (s.rails[n]).cmpB.suspect) = false)
    (ov : Bool) : combined s n ov = shows (rail s n 9) (s.rails[n]).cmpA (s.rails[n]).cmpB ov := by
  unfold combined
  dsimp only
  rw [h, if_neg Bool.false_ne_true]
  rfl

end Sys2Proof.Slots
end

section
/-! PROOF. The comparators' outputs, the short latch, disagreement, the audit and the ramp of a slot (R100 to R110). -/

namespace Sys2Proof.RailSupervision

open Sys2Proof Sys2Proof.Machine Sys2Proof.Claims Sys2Proof.Families Sys2Proof.Slots

/-! ## Outputs that assert -/

theorem not_supervised {s : State} {n : SlotId} (h : supervised s n = false) : evalTrips n s = s := by
  rw [evalTrips_eq, h]
  rfl

/-- The slot's output after a trip asks for nothing more. -/
theorem backInWindow_latched {s : State} {n : SlotId} (h : (s.rails[n]).st = .latched) : backInWindow n s = s := by
  have hs : supervised s n = false := by simp only [supervised, h, ne_eq, not_true_eq_false, decide_false, Bool.and_false]
  unfold backInWindow
  dsimp only
  rw [hs, Bool.false_and, Bool.false_and, Bool.false_and, Bool.false_and, if_neg Bool.false_ne_true]

theorem backInWindow_elsewhere {s : State} {n : SlotId} (h : (s.rails[n]).st ≠ .uv) (h' : (s.rails[n]).st ≠ .ov) :
    backInWindow n s = s := by
  unfold backInWindow
  dsimp only
  rw [decide_eq_false h, decide_eq_false h', Bool.or_self, Bool.and_false, Bool.false_and, Bool.false_and,
    if_neg Bool.false_ne_true]

theorem backInWindow_asserted {s : State} {n : SlotId} (ov : Bool) (h : combined s n ov = true) : backInWindow n s = s := by
  unfold backInWindow
  dsimp only
  cases ov with
  | true => rw [h, Bool.not_true, Bool.and_false, Bool.false_and, if_neg Bool.false_ne_true]
  | false => rw [h, Bool.not_true, Bool.and_false, if_neg Bool.false_ne_true]

/-- The output of one comparator, and of none. -/
def asserted (ov : Bool) : Cmp := if ov then { Cmp.init with ov := true } else { Cmp.init with uv := true }

/-- One output of a slot asserts: UV or OV. -/
def assertion (n : SlotId) (c : Comp) (ov : Bool) : Instr := if ov then .ovTrip n c true else .uvTrip n c true

/-- The slot after one of its outputs asserts. -/
def withOutput (c : Comp) (k : Cmp) (x : RailSlot) : RailSlot := match c with
  | .a => { x with cmpA := k }
  | .b => { x with cmpB := k }

section Assertion
variable {s : State} {n : SlotId} (c : Comp) (ov : Bool) (hs : supervised s n = true) (hst : (s.rails[n]).st = .inWindow)
  (hA : (s.rails[n]).cmpA = Cmp.init) (hB : (s.rails[n]).cmpB = Cmp.init)

/-- The state in which the trips of an asserted output are judged. -/
def shown (s : State) (n : SlotId) (c : Comp) (ov : Bool) : State := onRail n (withOutput c (asserted ov)) s

theorem exec_assertion (hs : supervised s n = true) (hA : (s.rails[n]).cmpA = Cmp.init)
    (hB : (s.rails[n]).cmpB = Cmp.init) : exec (assertion n c ov) s = .next (backInWindow n (evalTrips n (shown s n c ov))) := by
  obtain ⟨haon, -⟩ := (supervised_iff s n).mp hs
  have hcmp (f : Cmp → Cmp) (hf : f Cmp.init = asserted ov) : onCmp n c f s = shown s n c ov := by
    unfold onCmp shown onRail
    rw [Sequencing.upd_congr]
    cases c
    · dsimp only [withOutput]; rw [hA, hf]
    · dsimp only [withOutput]; rw [hB, hf]
  cases ov
  · simp only [assertion, Bool.false_eq_true, if_false, exec, execUvTrip, outputChanges, haon, if_true]
    rw [hcmp _ rfl]
  · simp only [assertion, if_true, exec, execOvTrip, outputChanges, haon]
    rw [hcmp _ rfl]

theorem shown_same : (shown s n c ov).rails[n] = withOutput c (asserted ov) s.rails[n] := onRail_same n _ s

include hA hB in
theorem shown_suspect : (((shown s n c ov).rails[n]).cmpA.suspect && ((shown s n c ov).rails[n]).cmpB.suspect) = false := by
  rw [shown_same]
  cases c <;> cases ov <;> simp [-Fin.getElem_fin, withOutput, asserted, hA, hB, Cmp.init]

include hA hB in
/-- Under OR the output that asserts shows its condition and no other; under AND none. -/
theorem combined_shown (q : Bool) : combined (shown s n c ov) n q = (decide (rail s n 9 ≠ 1) && (q == ov)) := by
  rw [combined_eq (shown_suspect c ov hA hB), shown_same, show rail (shown s n c ov) n 9 = rail s n 9 from rfl]
  by_cases h : rail s n 9 = 1
  · cases c <;> cases ov <;> cases q <;> simp [-Fin.getElem_fin, shows, withOutput, asserted, hA, hB, Cmp.init, h]
  · cases c <;> cases ov <;> cases q <;> simp [-Fin.getElem_fin, shows, withOutput, asserted, hA, hB, Cmp.init, h]

theorem shown_supervised : supervised (shown s n c ov) n = supervised s n := by
  rw [supervised, supervised, shown_same]
  cases c <;> rfl

include hs hst hA hB in
theorem evalTrips_shown (hor : rail s n 9 ≠ 1) : evalTrips n (shown s n c ov) = trip ov n (shown s n c ov) := by
  have hst' : ((shown s n c ov).rails[n]).st = .inWindow := by
    rw [shown_same]
    cases c <;> exact hst
  rw [evalTrips_eq, shown_supervised, hs, combined_shown c ov hA hB, combined_shown c ov hA hB, hst', decide_eq_true hor]
  cases ov <;> simp

include hs hA hB in
/-- Under AND the slot waits for its other comparator. -/
theorem evalTrips_waits (hand : rail s n 9 = 1) : evalTrips n (shown s n c ov) = shown s n c ov := by
  rw [evalTrips_eq, shown_supervised, hs, combined_shown c ov hA hB, combined_shown c ov hA hB, hand]
  rfl

theorem plain_shown : plain ((shown s n c ov).rails[n]) = withOutput c (asserted ov) (plain s.rails[n]) := by
  rw [shown_same]
  cases c <;> rfl

include hs hst hA hB in
/-- A trip under OR: the slot has tripped, and nothing outside the slot, its events and the run's mark changes. -/
theorem trips (hor : rail s n 9 ≠ 1) : exec (assertion n c ov) s = .next (trip ov n (shown s n c ov)) := by
  have hafter := plain_trip ov n (shown s n c ov)
  rw [exec_assertion c ov hs hA hB, evalTrips_shown c ov hs hst hA hB hor]
  refine congrArg _ ?_
  cases hlatch : (rail (shown s n c ov) n 0xA).testBit (tripBit ov) with
  | true =>
    rw [hlatch] at hafter
    exact backInWindow_latched (congrArg RailSlot.st hafter)
  | false =>
    rw [hlatch, plain_shown] at hafter
    have hA' := congrArg RailSlot.cmpA hafter
    have hB' := congrArg RailSlot.cmpB hafter
    have hkept : ((trip ov n (shown s n c ov)).rails[n]).cmpA = ((shown s n c ov).rails[n]).cmpA ∧
        ((trip ov n (shown s n c ov)).rails[n]).cmpB = ((shown s n c ov).rails[n]).cmpB := by
      rw [shown_same]
      exact ⟨hA'.trans (by cases c <;> rfl), hB'.trans (by cases c <;> rfl)⟩
    refine backInWindow_asserted ov ?_
    rw [combined_eq (by rw [hkept.1, hkept.2]; exact shown_suspect c ov hA hB), hkept.1, hkept.2,
      rail_reads (s := shown s n c ov) (by cases ov <;> simp [sameSettings, trip]),
      ← combined_eq (shown_suspect c ov hA hB), combined_shown c ov hA hB, decide_eq_true hor]
    simp

end Assertion

/-- What a trip shows of a slot. -/
theorem tripped_shows (ov latch : Bool) (x : RailSlot) :
    (tripped ov latch x).flags = x.flags ||| BitVec.ofNat 32 (2 ^ flagBit (tripFlag ov)) ∧
    (tripped ov latch x).counts[countFin (tripCount ov)] = satInc x.counts[countFin (tripCount ov)] ∧
    (latch = false → (tripped ov latch x).st = tripState ov ∧ (tripped ov latch x).en = x.en) ∧
    (latch = true → (tripped ov latch x).st = .latched ∧ (tripped ov latch x).en = false) := by
  cases latch
  · exact ⟨rfl, upd_same _ _ _, fun _ => ⟨rfl, rfl⟩, nofun⟩
  · exact ⟨rfl, upd_same _ _ _, nofun, fun _ => ⟨rfl, rfl⟩⟩

/-- A trip counts no disagreement. -/
theorem tripped_disagreements (ov latch : Bool) (x : RailSlot) : (tripped ov latch x).counts[6] = x.counts[6] := by
  have hne : countFin (tripCount ov) ≠ 6 := by cases ov <;> decide
  cases latch <;> exact upd_other _ _ _ _ hne

/-- An output that asserts under OR. -/
theorem tripsUnderOr {s : State} {n : SlotId} (c : Comp) (ov : Bool) (hs : supervised s n = true)
    (hst : (s.rails[n]).st = .inWindow) (hA : (s.rails[n]).cmpA = Cmp.init) (hB : (s.rails[n]).cmpB = Cmp.init)
    (hor : rail s n 9 ≠ 1) : ∃ t, exec (assertion n c ov) s = .next t ∧
      (t.rails[n]).flags = (s.rails[n]).flags ||| BitVec.ofNat 32 (2 ^ flagBit (tripFlag ov)) ∧
      (t.rails[n]).counts[countFin (tripCount ov)] = satInc (s.rails[n]).counts[countFin (tripCount ov)] ∧
      ((rail s n 0xA).testBit (tripBit ov) = false → (t.rails[n]).st = tripState ov ∧ (t.rails[n]).en = true) ∧
      ((rail s n 0xA).testBit (tripBit ov) = true → (t.rails[n]).st = .latched ∧ (t.rails[n]).en = false) ∧
      (∀ m : SlotId, m ≠ n → t.rails[m] = s.rails[m]) ∧
      t = { s with rails := t.rails, seq := t.seq, irq := t.irq, bus := t.bus, free := t.free } := by
  obtain ⟨-, -, hen, -⟩ := (supervised_iff s n).mp hs
  have hslot := plain_trip ov n (shown s n c ov)
  have hbit : rail (shown s n c ov) n 0xA = rail s n 0xA := rfl
  rw [plain_shown, hbit] at hslot
  obtain ⟨hflags, hcounts, hfree, hlatch⟩ := tripped_shows ov ((rail s n 0xA).testBit (tripBit ov))
    (withOutput c (asserted ov) (plain s.rails[n]))
  rw [← hslot] at hflags hcounts hfree hlatch
  refine ⟨_, trips c ov hs hst hA hB hor, ?_, ?_, fun h => ?_, hlatch, fun m hm => ?_, ?_⟩
  · exact hflags.trans (by cases c <;> rfl)
  · exact hcounts.trans (by cases c <;> rfl)
  · exact ⟨(hfree h).1, (hfree h).2.trans (by cases c <;> exact hen)⟩
  · rw [trip_other ov n m _ hm, shown, onRail_other n m _ s hm]
  · cases ov
    · apply State.ext <;> simp [trip, shown]
    · apply State.ext <;> simp [trip, shown]

/-- An output that asserts under AND. -/
theorem waitsUnderAnd {s : State} {n : SlotId} (c : Comp) (ov : Bool) (hs : supervised s n = true)
    (hst : (s.rails[n]).st = .inWindow) (hA : (s.rails[n]).cmpA = Cmp.init) (hB : (s.rails[n]).cmpB = Cmp.init)
    (hand : rail s n 9 = 1) : ∃ t, exec (assertion n c ov) s = .next t ∧
      (t.rails[n]).st = .inWindow ∧ (t.rails[n]).en = true ∧ (t.rails[n]).flags = (s.rails[n]).flags ∧
      t = { s with rails := t.rails } ∧ ∀ m : SlotId, m ≠ n → t.rails[m] = s.rails[m] := by
  obtain ⟨-, -, hen, -⟩ := (supervised_iff s n).mp hs
  have hsame : (shown s n c ov).rails[n] = withOutput c (asserted ov) s.rails[n] := shown_same c ov
  have hst' : ((shown s n c ov).rails[n]).st = .inWindow := by
    rw [hsame]
    cases c <;> exact hst
  refine ⟨shown s n c ov, ?_, hst', ?_, ?_, rfl, fun m hm => onRail_other n m _ s hm⟩
  · rw [exec_assertion c ov hs hA hB, evalTrips_waits c ov hs hA hB hand,
      backInWindow_elsewhere (by rw [hst']; decide) (by rw [hst']; decide)]
  · rw [hsame]
    cases c <;> exact hen
  · rw [hsame]
    cases c <;> rfl

theorem windowTrips : Claims.WindowTrips := by
  intro s n c hs hst hA hB
  refine ⟨tripsUnderOr c false hs hst hA hB, tripsUnderOr c true hs hst hA hB, fun hand e he => ?_⟩
  simp only [List.mem_cons, List.not_mem_nil, or_false] at he
  rcases he with rfl | rfl
  · exact waitsUnderAnd c false hs hst hA hB hand
  · exact waitsUnderAnd c true hs hst hA hB hand

/-! ## Outputs that release -/

/-- A slot whose outputs show nothing any more is back in its window, where it has been there before. -/
theorem released {s : State} {n : SlotId} (hs : supervised s n = true) (hst : (s.rails[n]).st = .uv ∨ (s.rails[n]).st = .ov)
    (haw : (s.rails[n]).awaiting = false) (hnone : ∀ ov, combined s n ov = false) :
    backInWindow n (evalTrips n s) = onRail n (fun x => { x with st := .inWindow }) s := by
  have hstill : evalTrips n s = s := by
    rw [evalTrips_eq, hs, hnone, hnone]
    rfl
  have htripped : (decide ((s.rails[n]).st = .uv) || decide ((s.rails[n]).st = .ov)) = true := by
    rcases hst with h | h <;> rw [h] <;> rfl
  rw [hstill, backInWindow, hs, haw, htripped, hnone, hnone]
  rfl

theorem shows_init (policy : Nat) (ov : Bool) : shows policy Cmp.init Cmp.init ov = false := by
  cases ov <;> simp [shows, Cmp.init]

/-- The last output of a slot releases, whichever it is. -/
theorem releases {s : State} {n : SlotId} {c : Comp} {f : Cmp → Cmp} {x : RailSlot} (hs : supervised s n = true)
    (hst : (s.rails[n]).st = .uv ∨ (s.rails[n]).st = .ov) (haw : (s.rails[n]).awaiting = false)
    (hx : (onCmp n c f s).rails[n] = x) (hA : x.cmpA = Cmp.init) (hB : x.cmpB = Cmp.init) :
    let t := outputChanges n c f s
    t = { s with rails := t.rails } ∧ t.rails[n] = { x with st := .inWindow } ∧
      ∀ m : SlotId, m ≠ n → t.rails[m] = s.rails[m] := by
  obtain ⟨haon, -⟩ := (supervised_iff s n).mp hs
  have hkept : x.st = (s.rails[n]).st ∧ x.awaiting = (s.rails[n]).awaiting ∧ x.en = (s.rails[n]).en := by
    rw [← hx, onCmp_same]
    cases c <;> exact ⟨rfl, rfl, rfl⟩
  obtain ⟨hkst, hkaw, hken⟩ := hkept
  have hback : backInWindow n (evalTrips n (onCmp n c f s)) = onRail n (fun x => { x with st := .inWindow }) (onCmp n c f s) := by
    refine released ?_ (by rw [hx, hkst]; exact hst) (by rw [hx, hkaw]; exact haw) fun ov => ?_
    · rw [← hs, supervised, supervised, hx, hkst, hken]
      rfl
    · rw [combined_eq (by rw [hx, hA, hB]; rfl), hx, hA, hB, shows_init]
  dsimp only
  rw [outputChanges, if_pos haon, hback]
  refine ⟨rfl, ?_, fun m hm => ?_⟩
  · rw [onRail_same, hx]
  · rw [onRail_other n m _ _ hm, onCmp_other n m c f s hm]

theorem outputReleases : Claims.OutputReleases := by
  intro s n hs hst haw
  refine ⟨fun hA hB => ⟨_, rfl, ?_⟩, fun hA hB => ⟨_, rfl, ?_⟩⟩
  · obtain ⟨hframe, hslot, hothers⟩ := releases (c := .a) (f := fun k => { k with uv := false }) hs hst haw
      (x := { s.rails[n] with cmpA := Cmp.init }) (by rw [onCmp_same, hA]; rfl) rfl hB
    exact ⟨hframe, hslot, hothers⟩
  · obtain ⟨hframe, hslot, hothers⟩ := releases (c := .b) (f := fun k => { k with ov := false }) hs hst haw
      (x := { s.rails[n] with cmpB := Cmp.init }) (by rw [onCmp_same, hB]; rfl) hA rfl
    exact ⟨hframe, hslot, hothers⟩

/-! ## The short latch -/

/-- The slots in their ramp when a short latch acts. -/
def rampingBeside (s : State) (n : SlotId) : List SlotId :=
  (List.finRange 16).filter fun m => decide (m ≠ n) && decide ((s.rails[m]).st = .ramping)

theorem mem_rampingBeside (s : State) (n m : SlotId) : m ∈ rampingBeside s n ↔ m ≠ n ∧ (s.rails[m]).st = .ramping := by
  simp only [rampingBeside, List.mem_filter, List.mem_finRange, true_and, Bool.and_eq_true, decide_eq_true_eq]

/-- A coincidence counted in each slot of a list. -/
def coincident (l : List SlotId) (s : State) : State := l.foldl (fun s m => count m .coincident s) s

theorem coincident_rails {l : List SlotId} (hl : l.Nodup) (s : State) (m : SlotId) : (coincident l s).rails[m] =
    if m ∈ l then counted .coincident s.rails[m] else s.rails[m] := by
  obtain ⟨hin, hout⟩ := foldl_slots (fun _ => True) (fun s m => count m .coincident s) (fun _ x y => y = counted .coincident x)
    (fun _ _ _ => trivial) (fun u k _ => by rw [count_silent k .coincident u rfl, onRail_same]; rfl)
    (fun u k j hj => count_other k j _ u hj) hl (s := s) trivial m
  by_cases hm : m ∈ l
  · rw [if_pos hm]; exact hin hm
  · rw [if_neg hm]; exact hout hm

theorem shortLatch_eq (n : SlotId) (s : State) : shortLatch n s =
    coincident (rampingBeside s n) (count n .short (setFlag n .short (latchOff n s))) := rfl

theorem shortedOff_shortLatch (n : SlotId) (s : State) : shortedOff s (shortLatch n s) n := by
  have hnodup : (rampingBeside s n).Nodup := (List.nodup_finRange 16).filter _
  have hself : n ∉ rampingBeside s n := fun h => ((mem_rampingBeside s n n).mp h).1 rfl
  have hn : plain (shortLatch n s).rails[n] = counted .short (flagged .short (latchedOff (plain s.rails[n]))) := by
    rw [shortLatch_eq, coincident_rails hnodup, if_neg hself, plain_count, plain_setFlag, plain_latchOff]
  have hothers (m : SlotId) (hm : m ≠ n) : (shortLatch n s).rails[m] =
      if (s.rails[m]).st = .ramping then counted .coincident s.rails[m] else s.rails[m] := by
    have hbase : (count n .short (setFlag n .short (latchOff n s))).rails[m] = s.rails[m] := by
      rw [count_other n m _ _ hm, setFlag_other n m _ _ hm, latchOff_other n m s hm]
    rw [shortLatch_eq, coincident_rails hnodup, hbase]
    simp only [mem_rampingBeside, hm, ne_eq, not_false_eq_true, true_and]
  refine ⟨congrArg RailSlot.st hn, congrArg RailSlot.en hn, congrArg RailSlot.flags hn,
    (congrArg (fun x : RailSlot => x.counts[2]) hn).trans (upd_same _ _ _), congrArg RailSlot.request hn,
    congrArg RailSlot.driven hn, fun m hm hr => ?_, fun m hm hr => ?_⟩
  · rw [hothers m hm, if_pos hr]
    exact ⟨upd_same _ _ _, hr, rfl⟩
  · rw [hothers m hm, if_neg hr]

theorem onCmp_short (n : SlotId) (c : Comp) (asserts : Bool) (s : State) :
    supervised (onCmp n c (fun k => { k with short := asserts }) s) n = supervised s n ∧
    ((onCmp n c (fun k => { k with short := asserts }) s).rails[n]).blanked = (s.rails[n]).blanked := by
  rw [supervised, supervised, onCmp_same]
  cases c <;> exact ⟨rfl, rfl⟩

/-- A short latch that acts on a slot whose output has just been noted. -/
theorem shortedOff_onCmp (n : SlotId) (c : Comp) (asserts : Bool) (s : State) :
    shortedOff s (shortLatch n (onCmp n c (fun k => { k with short := asserts }) s)) n := by
  have hnoted := shortedOff_shortLatch n (onCmp n c (fun k => { k with short := asserts }) s)
  have hsame : ((onCmp n c (fun k => { k with short := asserts }) s).rails[n]).flags = (s.rails[n]).flags ∧
      ((onCmp n c (fun k => { k with short := asserts }) s).rails[n]).counts = (s.rails[n]).counts := by
    rw [onCmp_same]
    cases c <;> exact ⟨rfl, rfl⟩
  obtain ⟨hst, hen, hflags, hcounts, hreq, hdriven, hramp, hrest⟩ := hnoted
  rw [hsame.1] at hflags
  simp only [hsame.2] at hcounts
  refine ⟨hst, hen, hflags, hcounts, hreq, hdriven, fun m hm hr => ?_, fun m hm hr => ?_⟩
  · have hm' := hramp m hm
    rw [onCmp_other n m c _ s hm] at hm'
    exact hm' hr
  · have hm' := hrest m hm
    rw [onCmp_other n m c _ s hm] at hm'
    exact hm' hr

/-- The end of the blanking time clears its mark and nothing else that the short latch reads. -/
theorem shortedOff_onRail (n : SlotId) (s : State) :
    shortedOff s (shortLatch n (onRail n (fun x => { x with blanked := false }) s)) n := by
  obtain ⟨hst, hen, hflags, hcounts, hreq, hdriven, hramp, hrest⟩ :=
    shortedOff_shortLatch n (onRail n (fun x => { x with blanked := false }) s)
  rw [onRail_same] at hflags
  simp only [onRail_same] at hcounts
  refine ⟨hst, hen, hflags, hcounts, hreq, hdriven, fun m hm hr => ?_, fun m hm hr => ?_⟩
  · have hm' := hramp m hm
    rw [onRail_other n m _ s hm] at hm'
    exact hm' hr
  · have hm' := hrest m hm
    rw [onRail_other n m _ s hm] at hm'
    exact hm' hr

theorem blankingEnd_eq {s : State} {n : SlotId} (hs : supervised s n = true) (hb : (s.rails[n]).blanked = true) :
    blankingEnd n s = if ((s.rails[n]).cmpA.short || (s.rails[n]).cmpB.short) = true then
      shortLatch n (onRail n (fun x => { x with blanked := false }) s)
    else onRail n (fun x => { x with blanked := false }) s := by
  have hsup : supervised (onRail n (fun x => { x with blanked := false }) s) n = true := by
    rw [← hs, supervised, supervised, onRail_same]
    rfl
  rw [blankingEnd, hb, Bool.not_true, if_neg Bool.false_ne_true]
  dsimp only
  rw [hsup, Bool.true_and, onRail_same]

theorem shortLatches : Claims.ShortLatch := by
  intro s n c hs
  obtain ⟨haon, -, hen, -⟩ := (supervised_iff s n).mp hs
  refine ⟨fun hb => ⟨_, ?_, shortedOff_onCmp n c true s, ?_⟩,
    fun asserts h => ⟨onCmp n c (fun k => { k with short := asserts }) s, ?_, rfl, ?_⟩, fun hb hshort =>
      ⟨_, congrArg Host.Outcome.next ((blankingEnd_eq hs hb).trans (if_pos hshort)), shortedOff_onRail n s⟩,
    fun hb hshort => ⟨_, congrArg Host.Outcome.next ((blankingEnd_eq hs hb).trans
      (if_neg (by rw [hshort]; exact Bool.false_ne_true))), onRail_same n _ s, rfl⟩⟩
  · obtain ⟨hsup, hblank⟩ := onCmp_short n c true s
    simp only [exec, execShortLatchOff, haon, if_true, shortChanged]
    rw [hsup, hs, hblank, hb]
    rfl
  · apply State.ext <;> simp
  · obtain ⟨hsup, hblank⟩ := onCmp_short n c asserts s
    have hidle : (asserts && supervised s n && !(s.rails[n]).blanked) = false := by
      rcases h with h | h <;> rw [h] <;> simp
    simp only [exec, execShortLatchOff, haon, if_true, shortChanged]
    rw [hsup, hblank, hidle]
    rfl
  · rw [onCmp_same]
    cases c
    · exact ⟨rfl, hen, rfl, fun _ => rfl, nofun, fun m hm => onCmp_other n m _ _ s hm⟩
    · exact ⟨rfl, hen, rfl, nofun, fun _ => rfl, fun m hm => onCmp_other n m _ _ s hm⟩

/-! ## Comparators that disagree -/

/-- The disagreement noted: its flag and its count. -/
def disagreed (n : SlotId) (s : State) : State := count n .disagree (setFlag n .compDisagree s)

theorem plain_disagreed (n : SlotId) (s : State) : plain (disagreed n s).rails[n] =
    counted .disagree (flagged .compDisagree (plain s.rails[n])) := by
  rw [disagreed, plain_count, plain_setFlag]

theorem disagreed_other (n m : SlotId) (s : State) (h : m ≠ n) : (disagreed n s).rails[m] = s.rails[m] := by
  rw [disagreed, count_other n m _ _ h, setFlag_other n m _ s h]

theorem disagreed_settings (n : SlotId) (s : State) : sameSettings s (disagreed n s) := by
  simp [sameSettings, disagreed]

/-- A disagreement ends in its note, or in a trip after it. -/
theorem disagree_cases {s : State} {n : SlotId} (hs : supervised s n = true)
    (hdiff : (s.rails[n]).cmpA.uv ≠ (s.rails[n]).cmpB.uv ∨ (s.rails[n]).cmpA.ov ≠ (s.rails[n]).cmpB.ov) :
    ∃ t, disagree n s = t ∧ (t = disagreed n s ∨ (∃ ov, t = trip ov n (disagreed n s))) ∧
      ((rail s n 9 ≠ 1 ∨ (s.rails[n]).cmpA.suspect = true ∨ (s.rails[n]).cmpB.suspect = true) → t = disagreed n s) ∧
      (rail s n 9 = 1 → (s.rails[n]).cmpA.suspect = false → (s.rails[n]).cmpB.suspect = false →
        (s.rails[n]).st = .inWindow → aboveOv s n (s.rails[n]).reading.toNat = false →
        belowUv s n (s.rails[n]).reading.toNat = true → t = trip false n (disagreed n s)) := by
  have hplain := plain_disagreed n s
  have happlied : ((disagreed n s).rails[n]).applied = (s.rails[n]).applied := (congrArg RailSlot.applied hplain :)
  have hrail (b : Nat) : rail (disagreed n s) n b = rail s n b := rail_reads (disagreed_settings n s) n b
  have habove := aboveOv_reads (disagreed_settings n s) n happlied
  have hbelow := belowUv_reads (disagreed_settings n s) n happlied
  have hentry : disagree n s =
      if rail s n 9 ≠ 1 || (s.rails[n]).cmpA.suspect || (s.rails[n]).cmpB.suspect then disagreed n s
      else if aboveOv s n (s.rails[n]).reading.toNat && decide ((s.rails[n]).st ≠ .ov) then trip true n (disagreed n s)
      else if belowUv s n (s.rails[n]).reading.toNat && decide ((s.rails[n]).st ≠ .uv)
          && decide ((s.rails[n]).st ≠ .ramping) then trip false n (disagreed n s)
      else disagreed n s := by
    have hagree : ¬ ((s.rails[n]).cmpA.uv = (s.rails[n]).cmpB.uv ∧ (s.rails[n]).cmpA.ov = (s.rails[n]).cmpB.ov) := by
      rintro ⟨hu, ho⟩
      rcases hdiff with h | h
      · exact h hu
      · exact h ho
    rw [← hrail 9, ← habove, ← hbelow]
    simp only [disagree, hs, Bool.not_true, Bool.false_or, Bool.and_eq_true, decide_eq_true_eq]
    exact if_neg hagree
  refine ⟨disagree n s, rfl, ?_, fun h => ?_, fun h9 hA hB hst ha hb => ?_⟩
  · rw [hentry]
    split_ifs
    · exact Or.inl rfl
    · exact Or.inr ⟨true, rfl⟩
    · exact Or.inr ⟨false, rfl⟩
    · exact Or.inl rfl
  · rw [hentry]
    rcases h with h | h | h <;> simp [-Fin.getElem_fin, h]
  · rw [hentry, h9, hA, hB, hst, ha, hb]
    rfl

theorem comparatorsDisagree : Claims.ComparatorsDisagree := by
  intro s n hs
  refine ⟨fun hdiff => ?_, fun hu ho => ?_⟩
  · obtain ⟨t, ht, hcases, hnote, htrip⟩ := disagree_cases hs hdiff
    have hplain := plain_disagreed n s
    have hcount : ((disagreed n s).rails[n]).counts[6] = satInc (s.rails[n]).counts[6] :=
      (congrArg (fun x : RailSlot => x.counts[6]) hplain).trans (upd_same _ _ _)
    refine ⟨t, congrArg _ ht, ?_, fun m hm => ?_, ?_, fun h => ?_, fun h9 hA hB hst ha hb => ?_⟩
    · rcases hcases with rfl | ⟨ov, rfl⟩
      · exact hcount
      · exact ((congrArg (fun x : RailSlot => x.counts[6]) (plain_trip ov n (disagreed n s)) :).trans
          (tripped_disagreements ov _ _)).trans hcount
    · rcases hcases with rfl | ⟨ov, rfl⟩
      · exact disagreed_other n m s hm
      · rw [trip_other ov n m _ hm, disagreed_other n m s hm]
    · rw [← ht]
      apply State.ext <;> simp
    · rw [hnote h]
      exact ⟨(congrArg RailSlot.flags hplain :), (congrArg RailSlot.st hplain :), (congrArg RailSlot.en hplain :)⟩
    · have hafter := plain_trip false n (disagreed n s)
      obtain ⟨hflags, hcounts, -, -⟩ := tripped_shows false ((rail (disagreed n s) n 0xA).testBit (tripBit false))
        (plain (disagreed n s).rails[n])
      rw [← hafter, hplain] at hflags hcounts
      rw [htrip h9 hA hB hst ha hb]
      exact ⟨hflags, hcounts.trans (congrArg satInc (upd_other _ _ _ _ (by decide)))⟩
  · have hagree : disagree n s = s := by simp [disagree, -Fin.getElem_fin, hu, ho]
    exact congrArg _ hagree

/-! ## The audit -/

theorem auditFails_reads {s t : State} (h : sameSettings s t) (n : SlotId) (hr : (t.rails[n]).reading = (s.rails[n]).reading)
    (ha : (t.rails[n]).applied = (s.rails[n]).applied) (k : Cmp) : auditFails t n k = auditFails s n k := by
  have hu : uvLevel t n = uvLevel s n := by simp only [uvLevel, internal, nominal, rail_reads h, ha]
  have ho : ovLevel t n = ovLevel s n := by simp only [ovLevel, internal, nominal, rail_reads h, ha]
  simp only [auditFails, rail_reads h, hu, ho, hr]

theorem auditOne_other (n m : SlotId) (c : Comp) (s : State) (h : m ≠ n) : (auditOne n c s).rails[m] = s.rails[m] := by
  have hfailed : (count n .audit (setFlag n .auditFail (onCmp n c (fun k => { k with streak := k.streak + 1 }) s))).rails[m] =
      s.rails[m] := by
    rw [count_other n m _ _ h, setFlag_other n m _ _ h, onCmp_other n m c _ s h]
  unfold auditOne
  dsimp only
  split_ifs
  · exact onCmp_other n m c _ s h
  · rw [evalTrips_other n m _ h, setFlag_other n m _ _ h, onCmp_other n m c _ _ h, hfailed]
  · exact hfailed

theorem auditSlot_other (n m : SlotId) (s : State) (h : m ≠ n) : (auditSlot n s).rails[m] = s.rails[m] := by
  unfold auditSlot
  split_ifs
  · rw [auditOne_other n m _ _ h, auditOne_other n m _ s h]
  · rfl

/-- One comparator of a slot. -/
def comparatorOf (c : Comp) (x : RailSlot) : Cmp := match c with | .a => x.cmpA | .b => x.cmpB

theorem auditOne_agrees {n : SlotId} {c : Comp} {s : State} (h : auditFails s n (comparatorOf c s.rails[n]) = false) :
    auditOne n c s = onCmp n c (fun k => { k with streak := 0 }) s := by
  have hagrees : (!auditFails s n (comparatorOf c s.rails[n])) = true := by rw [h]; rfl
  cases c <;> exact if_pos hagrees

theorem auditOne_fails {n : SlotId} {s : State} (h : auditFails s n (s.rails[n]).cmpA = true)
    (hk : (s.rails[n]).cmpA.streak ≠ 2) : auditOne n .a s =
      count n .audit (setFlag n .auditFail (onCmp n .a (fun k => { k with streak := k.streak + 1 }) s)) := by
  have hthird : ¬ (s.rails[n]).cmpA.streak + 1 = 3 := by omega
  unfold auditOne
  dsimp only
  rw [h, decide_eq_false hthird, Bool.false_and, Bool.not_true, if_neg Bool.false_ne_true, if_neg Bool.false_ne_true]

/-- What the audit of a slot leaves of it, by what its comparators show. -/
structure Audited (s : State) (n : SlotId) (x y : RailSlot) : Prop where
  agree : supervised s n = true → auditFails s n x.cmpA = false → auditFails s n x.cmpB = false →
    y = { x with cmpA := { x.cmpA with streak := 0 }, cmpB := { x.cmpB with streak := 0 } }
  fails : supervised s n = true → auditFails s n x.cmpA = true → auditFails s n x.cmpB = false → x.cmpA.streak ≠ 2 →
    y.cmpA.streak = x.cmpA.streak + 1 ∧ y.flags = x.flags ||| 0x100 ∧ y.counts[7] = satInc x.counts[7]
  left : supervised s n = false → y = x

theorem audited_auditSlot (s : State) (n : SlotId) : Audited s n s.rails[n] (auditSlot n s).rails[n] := by
  constructor
  · intro hs hA hB
    have hfirst := auditOne_agrees (n := n) (c := .a) hA
    have hslot : (auditOne n .a s).rails[n] = { s.rails[n] with cmpA := { (s.rails[n]).cmpA with streak := 0 } } := by
      rw [hfirst, onCmp_same]
    have hsecond : auditFails (auditOne n .a s) n ((auditOne n .a s).rails[n]).cmpB = false := by
      rw [auditFails_reads (s := s) (by rw [hfirst]; exact ⟨rfl, rfl⟩) n (by rw [hslot]) (by rw [hslot]), hslot]
      exact hB
    rw [auditSlot, if_pos hs, auditOne_agrees (c := .b) hsecond, onCmp_same, hslot]
  · intro hs hA hB hk
    have hfirst := auditOne_fails hA hk
    have hplain : plain (auditOne n .a s).rails[n] = counted .audit (flagged .auditFail (plain { s.rails[n] with
        cmpA := { (s.rails[n]).cmpA with streak := (s.rails[n]).cmpA.streak + 1 } })) := by
      rw [hfirst, plain_count, plain_setFlag, onCmp_same]
    have hsecond : auditFails (auditOne n .a s) n ((auditOne n .a s).rails[n]).cmpB = false := by
      rw [auditFails_reads (s := s) (by simp [sameSettings, hfirst]) n (congrArg RailSlot.reading hplain :)
        (congrArg RailSlot.applied hplain :), show ((auditOne n .a s).rails[n]).cmpB = (s.rails[n]).cmpB from
          (congrArg RailSlot.cmpB hplain :)]
      exact hB
    rw [auditSlot, if_pos hs, auditOne_agrees (c := .b) hsecond, onCmp_same]
    exact ⟨(congrArg (fun x : RailSlot => x.cmpA.streak) hplain :), (congrArg RailSlot.flags hplain :),
      (congrArg (fun x : RailSlot => x.counts[7]) hplain :).trans (upd_same _ _ _)⟩
  · intro hs
    rw [auditSlot, if_neg (by rw [hs]; exact Bool.false_ne_true)]

theorem supervised_reads {s t : State} (h : sameSettings s t) (haon : t.supply.aon = s.supply.aon) (n : SlotId)
    (hx : t.rails[n] = s.rails[n]) : supervised t n = supervised s n := by
  simp only [supervised, haon, slotUsed_reads h, hx]

theorem audited_audit (s : State) (n : SlotId) :
    Audited s n s.rails[n] ((List.finRange 16).foldl (fun s n => auditSlot n s) s).rails[n] := by
  obtain ⟨hin, -⟩ := foldl_slots (fun u => sameSettings s u ∧ u.supply = s.supply) (fun s n => auditSlot n s)
    (fun n x y => x = s.rails[n] → Audited s n x y)
    (fun u m ⟨hset, hsup⟩ => ⟨⟨by simpa using hset.1, by simpa using hset.2⟩, by simpa using hsup⟩)
    (fun u m ⟨hset, hsup⟩ hx => by
      obtain ⟨hagree, hfails, hleft⟩ := audited_auditSlot u m
      have hs := supervised_reads hset (by rw [hsup]) m hx
      have ha := auditFails_reads hset m (by rw [hx]) (by rw [hx])
      rw [hs] at hagree hfails hleft
      simp only [ha] at hagree hfails
      exact ⟨hagree, hfails, hleft⟩)
    (fun u m k hk => auditSlot_other m k u hk) (List.nodup_finRange 16) (s := s) ⟨⟨rfl, rfl⟩, rfl⟩ n
  exact hin (List.mem_finRange n) rfl

theorem comparatorAudit : Claims.ComparatorAudit := by
  intro s
  refine ⟨fun hp => ?_, fun hp => ⟨(List.finRange 16).foldl (fun s n => auditSlot n s) s, ?_, fun n hs hA hB => ?_,
    fun n hs hA hB hk => ?_, fun n hs => ?_, ?_⟩⟩
  · simp [exec, execComparatorAudit, hp]
  · simp [exec, execComparatorAudit, hp]
  · rw [(audited_audit s n).agree hs hA hB]
    exact ⟨rfl, rfl, rfl, rfl⟩
  · exact (audited_audit s n).fails hs hA hB hk
  · exact (audited_audit s n).left hs
  · apply State.ext <;> simp

/-! ## Ramps -/

/-- A slot at its window entry. -/
def inWindow (ticks : Nat) (x : RailSlot) : RailSlot :=
  { x with st := .inWindow, awaiting := false, rampUs := satOf 32 (ticks / 100), rampRem := BitVec.ofNat 8 (ticks % 100) }

theorem windowEntered_eq {s : State} {n : SlotId} (ticks : Nat) (hs : supervised s n = true)
    (haw : (s.rails[n]).awaiting = true) (hov : combined s n true = false) (huv : combined s n false = false) :
    windowEntered n ticks s = if ticks < 100 * rail s n 7 then
      count n .rampFast (setFlag n .rampFast (onRail n (inWindow ticks) s)) else onRail n (inWindow ticks) s := by
  unfold windowEntered
  rw [hs, haw, hov, huv]
  rfl

/-- A slot whose ramp window has ended without entry. -/
def overdue (x : RailSlot) : RailSlot := { x with rampOver := true, st := if x.st = .ramping then .uv else x.st }

theorem rampExpired_eq {s : State} {n : SlotId} (hs : supervised s n = true) (haw : (s.rails[n]).awaiting = true)
    (hover : (s.rails[n]).rampOver = false) : rampExpired n s =
      if (rail s n 0xA).testBit 1 then latchOff n (rampSlowFlag n (onRail n overdue s))
      else rampSlowFlag n (onRail n overdue s) := by
  have hbit : rail (rampSlowFlag n (onRail n overdue s)) n 0xA = rail s n 0xA := rail_reads ⟨by simp, by simp⟩ n _
  rw [← hbit]
  unfold rampExpired
  rw [hs, haw, hover]
  rfl

theorem windowEntry_claim {s : State} {n : SlotId} (ticks : Nat) (hs : supervised s n = true)
    (haw : (s.rails[n]).awaiting = true) (hov : combined s n true = false) (huv : combined s n false = false) :
    ∃ t, exec (.windowEntry n ticks) s = .next t ∧
      (t.rails[n]).st = .inWindow ∧ (t.rails[n]).awaiting = false ∧ (t.rails[n]).rampUs = satOf 32 (ticks / 100) ∧
      (t.rails[n]).cmpA = (s.rails[n]).cmpA ∧ (t.rails[n]).cmpB = (s.rails[n]).cmpB ∧
      (ticks < 100 * rail s n 7 → (t.rails[n]).flags = (s.rails[n]).flags ||| 0x20 ∧
        (t.rails[n]).counts[5] = satInc (s.rails[n]).counts[5]) ∧
      (100 * rail s n 7 ≤ ticks → (t.rails[n]).flags = (s.rails[n]).flags) ∧
      (∀ m : SlotId, m ≠ n → t.rails[m] = s.rails[m]) ∧
      t = { s with rails := t.rails, seq := t.seq, irq := t.irq, bus := t.bus, free := t.free } := by
  refine ⟨windowEntered n ticks s, rfl, ?_⟩
  have hframe : windowEntered n ticks s = { s with
      rails := (windowEntered n ticks s).rails, seq := (windowEntered n ticks s).seq, irq := (windowEntered n ticks s).irq,
      bus := (windowEntered n ticks s).bus, free := (windowEntered n ticks s).free } := by
    apply State.ext <;> simp
  rw [windowEntered_eq ticks hs haw hov huv] at hframe ⊢
  by_cases hfast : ticks < 100 * rail s n 7
  · rw [if_pos hfast] at hframe ⊢
    have hplain : plain (count n .rampFast (setFlag n .rampFast (onRail n (inWindow ticks) s))).rails[n] =
        counted .rampFast (flagged .rampFast (plain (inWindow ticks s.rails[n]))) := by
      rw [plain_count, plain_setFlag, onRail_same]
    exact ⟨(congrArg RailSlot.st hplain :), (congrArg RailSlot.awaiting hplain :), (congrArg RailSlot.rampUs hplain :),
      (congrArg RailSlot.cmpA hplain :), (congrArg RailSlot.cmpB hplain :), fun _ => ⟨(congrArg RailSlot.flags hplain :),
        (congrArg (fun x : RailSlot => x.counts[5]) hplain :).trans (upd_same _ _ _)⟩,
      fun h => absurd hfast (Nat.not_lt.mpr h), fun m hm => by
        rw [count_other n m _ _ hm, setFlag_other n m _ _ hm, onRail_other n m _ s hm], hframe⟩
  · rw [if_neg hfast] at hframe ⊢
    rw [onRail_same]
    exact ⟨rfl, rfl, rfl, rfl, rfl, fun h => absurd h hfast, fun _ => rfl, fun m hm => onRail_other n m _ s hm, hframe⟩

theorem rampSlow_claim {s : State} {n : SlotId} (hs : supervised s n = true) (haw : (s.rails[n]).awaiting = true)
    (hover : (s.rails[n]).rampOver = false) : ∃ t, exec (.rampSlow n) s = .next t ∧
      (t.rails[n]).flags = (s.rails[n]).flags ||| 0x10 ∧ (t.rails[n]).counts[4] = satInc (s.rails[n]).counts[4] ∧
      ((rail s n 0xA).testBit 1 = false → (t.rails[n]).rampOver = true ∧ (t.rails[n]).en = true ∧
        (t.rails[n]).st = if (s.rails[n]).st = .ramping then .uv else (s.rails[n]).st) ∧
      ((rail s n 0xA).testBit 1 = true → (t.rails[n]).st = .latched ∧ (t.rails[n]).en = false) ∧
      (∀ m : SlotId, m ≠ n → t.rails[m] = s.rails[m]) ∧
      t = { s with rails := t.rails, seq := t.seq, irq := t.irq, bus := t.bus, free := t.free } := by
  obtain ⟨haon, -, hen, -⟩ := (supervised_iff s n).mp hs
  have hframe : rampExpired n s = { s with
      rails := (rampExpired n s).rails, seq := (rampExpired n s).seq, irq := (rampExpired n s).irq,
      bus := (rampExpired n s).bus, free := (rampExpired n s).free } := by
    apply State.ext <;> simp
  have hplain : plain (rampSlowFlag n (onRail n overdue s)).rails[n] =
      counted .rampSlow (flagged .rampSlow (plain (overdue s.rails[n]))) := by
    rw [rampSlowFlag, plain_count, plain_setFlag, onRail_same]
  have hothers (m : SlotId) (hm : m ≠ n) : (rampSlowFlag n (onRail n overdue s)).rails[m] = s.rails[m] := by
    rw [rampSlowFlag, count_other n m _ _ hm, setFlag_other n m _ _ hm, onRail_other n m _ s hm]
  refine ⟨rampExpired n s, by simp only [exec, execRampSlow, haon, if_true], ?_⟩
  rw [rampExpired_eq hs haw hover] at hframe ⊢
  cases hbit : (rail s n 0xA).testBit 1 with
  | true =>
    rw [hbit, if_pos rfl] at hframe
    have hlatched := (plain_latchOff n (rampSlowFlag n (onRail n overdue s))).trans (congrArg latchedOff hplain)
    rw [if_pos rfl]
    exact ⟨(congrArg RailSlot.flags hlatched :), (congrArg (fun x : RailSlot => x.counts[4]) hlatched :).trans (upd_same _ _ _),
      nofun, fun _ => ⟨(congrArg RailSlot.st hlatched :), (congrArg RailSlot.en hlatched :)⟩,
      fun m hm => (latchOff_other n m _ hm).trans (hothers m hm), hframe⟩
  | false =>
    rw [hbit, if_neg Bool.false_ne_true] at hframe
    rw [if_neg Bool.false_ne_true]
    exact ⟨(congrArg RailSlot.flags hplain :), (congrArg (fun x : RailSlot => x.counts[4]) hplain :).trans (upd_same _ _ _),
      fun _ => ⟨(congrArg RailSlot.rampOver hplain :), (congrArg RailSlot.en hplain :).trans hen,
        (congrArg RailSlot.st hplain :)⟩, nofun, hothers, hframe⟩

theorem rampSupervision : Claims.RampSupervision := by
  intro s n ticks
  refine ⟨windowEntry_claim ticks, fun h => ?_, rampSlow_claim, fun h => ?_⟩
  · have hstill : windowEntered n ticks s = s := by
      rcases h with h | h | h | h <;> simp [windowEntered, -Fin.getElem_fin, h]
    exact congrArg _ hstill
  · have hstill : rampExpired n s = s := by
      rcases h with h | h | h <;> simp [rampExpired, -Fin.getElem_fin, h]
    simp only [exec, execRampSlow, hstill, ite_self]

/-- Settles O23: each event of supervision is what it does to its slot, and leaves the other slots and the rest alone. -/
theorem railSupervision : Obligations.RailSupervision :=
  ⟨windowTrips, outputReleases, shortLatches, comparatorsDisagree, comparatorAudit, rampSupervision⟩

end Sys2Proof.RailSupervision
end

section
/-! PROOF. Conversions of the supplies and of the slots, and the margin loop that a slot's conversion drives (R96 to R98,
R147, R150). -/

namespace Sys2Proof.Conversions

open Sys2Proof Sys2Proof.Machine Sys2Proof.Claims Sys2Proof.Families Sys2Proof.Slots Sys2Proof.DeviceStates
  Sys2Proof.TilePorts

theorem scanOfSupplies : Claims.ScanOfSupplies := by
  intro s v d trim
  refine ⟨fun hp c => ?_, fun hp => ⟨?_, ?_, ?_, ?_⟩⟩
  · simp [exec, execAdcConversion, Machine.converted, hp]
  all_goals
    simp only [exec, execAdcConversion, Machine.converted, hp, Bool.not_true, Bool.false_eq_true, if_false]
    rfl

/-! ## The margin loop -/

/-- A slot with a reading. -/
def withReading (s : State) (n : SlotId) (code : U16) : State := onRail n (fun x => { x with reading := readingOf s n code }) s

theorem withReading_same (s : State) (n : SlotId) (code : U16) : (withReading s n code).rails[n] =
    { s.rails[n] with reading := readingOf s n code } := onRail_same n _ s

theorem loopRuns_withReading (s : State) (n : SlotId) (code : U16) :
    loopRuns (withReading s n code) n = loopRuns s n := by
  rw [loopRuns, loopRuns, withReading_same]
  rfl

/-- The slot's trim held within the output's bounds, before the loop judges its step. -/
def held (s : State) (n : SlotId) (loop : U16) : State := onRail n (fun x => { x with
  trim := heldTrim s n loop,
  margin := if x.margin = .inactive && decide (x.request ≠ x.applied) then .walking else x.margin }) s

theorem held_same (s : State) (n : SlotId) (loop : U16) : (held s n loop).rails[n] = { s.rails[n] with
    trim := heldTrim s n loop,
    margin := if (s.rails[n]).margin = .inactive && decide ((s.rails[n]).request ≠ (s.rails[n]).applied) then .walking
      else (s.rails[n]).margin } := onRail_same n _ s

/-- A trim whose sum lies inside the bounds is held as it is. -/
theorem heldTrim_inside {s : State} {n : SlotId} {loop : U16} (h : trimAtBound s n loop = false) :
    heldTrim s n loop = loop := by
  simp only [trimAtBound, Bool.or_eq_false_iff, decide_eq_false_iff_not] at h
  obtain ⟨hlow, hhigh⟩ := h
  have hsame : max (-8192 - (staticTrim s n).toInt) (min (8191 - (staticTrim s n).toInt) loop.toInt) = loop.toInt := by
    omega
  rw [heldTrim, hsame, BitVec.ofInt_toInt]

/-- The sum of the static and the held trim lies within the output's bounds, whatever the loop asked for. -/
theorem heldTrim_bounds (s : State) (n : SlotId) (loop : U16) :
    -8192 ≤ (staticTrim s n).toInt + (heldTrim s n loop).toInt ∧
      (staticTrim s n).toInt + (heldTrim s n loop).toInt ≤ 8191 := by
  have hst := (staticTrim s n).toInt_lt
  have hst' := (staticTrim s n).le_toInt
  have hl := loop.toInt_lt
  have hl' := loop.le_toInt
  have hfits : (heldTrim s n loop).toInt =
      max (-8192 - (staticTrim s n).toInt) (min (8191 - (staticTrim s n).toInt) loop.toInt) := by
    rw [heldTrim, BitVec.toInt_ofInt, Int.bmod_eq_of_le] <;> omega
  omega

theorem marginStep_idle {s : State} {n : SlotId} (loop : U16) (h : loopRuns s n = false) : marginStep n loop s = s := by
  rw [marginStep, h]
  rfl

theorem raise_rails (k : Nat) (s : State) : (raise k s).rails = s.rails := (raise_keeps k s).2.2.2.1

theorem held_other (n m : SlotId) (loop : U16) (s : State) (h : m ≠ n) : (held s n loop).rails[m] = s.rails[m] :=
  onRail_other n m _ s h

/-- The margin loop at a bound: LIMIT, with source 21. -/
def limited (n : SlotId) (s : State) : State :=
  count n .marginLimit (raise 21 (onRail n (fun x => { x with margin := .limit, limited := true }) s))

/-- One step of a walking margin. -/
def stepped (x : RailSlot) : RailSlot :=
  { x with applied := if x.applied.slt x.request then x.applied + 1 else x.applied - 1, steady := 0 }

/-- A margin that has arrived: the readings near the target counted. -/
def tallied (n : SlotId) (s : State) : State :=
  let d := 10000 * ((s.rails[n]).reading.toNat : Int) - internal s n
  let near := decide (5000 * d ≤ internal s n) && decide (-(internal s n) ≤ 5000 * d)
  onRail n (fun x => { x with steady := if near then x.steady + 1 else 0 }) s

/-- SETTLED after three of them. -/
def arrived (n : SlotId) (s : State) : State :=
  if ((tallied n s).rails[n]).steady = 3 then raise 20 (onRail n (fun x => { x with margin := .settled }) (tallied n s))
  else tallied n s

theorem marginStep_eq (n : SlotId) (loop : U16) (s : State) : marginStep n loop s =
    if !loopRuns s n || decide ((s.rails[n]).margin = .limit) then s
    else if trimAtBound s n loop then limited n (held s n loop)
    else if ((held s n loop).rails[n]).margin ≠ .walking then held s n loop
    else if ((held s n loop).rails[n]).applied ≠ ((held s n loop).rails[n]).request then onRail n stepped (held s n loop)
    else arrived n (held s n loop) := rfl

theorem arrived_rails (n : SlotId) (s : State) : ∃ (steady : RailSlot → Nat) (margin : RailSlot → MarginState),
    (arrived n s).rails = upd s.rails n fun x => { x with steady := steady x, margin := margin x } := by
  have htally : ∃ steady : RailSlot → Nat, (tallied n s).rails = upd s.rails n fun x => { x with steady := steady x } :=
    ⟨fun x => if decide (5000 * (10000 * ((s.rails[n]).reading.toNat : Int) - internal s n) ≤ internal s n) &&
      decide (-(internal s n) ≤ 5000 * (10000 * ((s.rails[n]).reading.toNat : Int) - internal s n)) then x.steady + 1 else 0,
      rfl⟩
  obtain ⟨steady, htally⟩ := htally
  unfold arrived
  by_cases h : ((tallied n s).rails[n]).steady = 3
  · refine ⟨steady, fun _ => .settled, ?_⟩
    rw [if_pos h, raise_rails, onRail, htally, TilePorts.upd_upd]
  · exact ⟨steady, fun x => x.margin, by rw [if_neg h]; exact htally⟩

theorem arrived_other (n m : SlotId) (s : State) (h : m ≠ n) : (arrived n s).rails[m] = s.rails[m] := by
  obtain ⟨steady, margin, hrails⟩ := arrived_rails n s
  rw [hrails, upd_other _ _ _ _ (Ne.symm h)]

theorem limited_other (n m : SlotId) (s : State) (h : m ≠ n) : (limited n s).rails[m] = s.rails[m] := by
  rw [limited, count_other n m _ _ h, raise_rails, onRail_other n m _ s h]

theorem marginStep_other (n m : SlotId) (loop : U16) (s : State) (h : m ≠ n) :
    (marginStep n loop s).rails[m] = s.rails[m] := by
  have hheld := held_other n m loop s h
  rw [marginStep_eq]
  split_ifs
  · rfl
  · rw [limited_other n m _ h, hheld]
  · exact hheld
  · rw [onRail_other n m _ _ h, hheld]
  · exact (arrived_other n m _ h).trans hheld

/-! ## A slot's conversion -/

theorem slotConverted_eq {s : State} {n : SlotId} (code loop : U16) (hu : slotUsed s n = true) :
    slotConverted n code loop s =
      if (((marginStep n loop (withReading s n code)).rails[n]).cmpA.suspect &&
        ((marginStep n loop (withReading s n code)).rails[n]).cmpB.suspect) = true then
        backInWindow n (evalTrips n (marginStep n loop (withReading s n code)))
      else marginStep n loop (withReading s n code) := by
  rw [slotConverted, hu]
  dsimp only
  cases h : ((marginStep n loop (withReading s n code)).rails[n]).cmpA.suspect &&
    ((marginStep n loop (withReading s n code)).rails[n]).cmpB.suspect <;>
  · unfold withReading at h
    simp only [h, withReading]
    rfl

/-- What a conversion does not change of its own slot: the reading taken, and the comparators. -/
def converting (x : RailSlot) : U32 × Cmp × Cmp := (x.reading, x.cmpA, x.cmpB)

theorem limited_same (n : SlotId) (s : State) : (limited n s).rails[n] = counted .marginLimit
    { s.rails[n] with margin := .limit, limited := true } := by
  rw [limited, count_silent n .marginLimit _ rfl, onRail_same, raise_rails, onRail_same]
  rfl

theorem converting_arrived (n : SlotId) (s : State) : converting (arrived n s).rails[n] = converting s.rails[n] := by
  obtain ⟨steady, margin, hrails⟩ := arrived_rails n s
  rw [hrails, upd_same]
  rfl

theorem converting_marginStep (n : SlotId) (loop : U16) (s : State) :
    converting (marginStep n loop s).rails[n] = converting s.rails[n] := by
  have hheld : converting (held s n loop).rails[n] = converting s.rails[n] := by rw [held_same]; rfl
  rw [marginStep_eq]
  split_ifs
  · rfl
  · rw [limited_same]; exact hheld
  · exact hheld
  · rw [onRail_same]; exact hheld
  · exact (converting_arrived n _).trans hheld

theorem reading_evalTrips (n : SlotId) (s : State) : ((evalTrips n s).rails[n]).reading = (s.rails[n]).reading := by
  have htrip (ov : Bool) : ((trip ov n s).rails[n]).reading = (s.rails[n]).reading := by
    have h := congrArg RailSlot.reading (plain_trip ov n s)
    refine Eq.trans h ?_
    cases (rail s n 0xA).testBit (tripBit ov) <;> rfl
  rw [evalTrips_eq]
  split_ifs
  · rfl
  · exact htrip true
  · exact htrip false
  · rfl

theorem reading_backInWindow (n : SlotId) (s : State) : ((backInWindow n s).rails[n]).reading = (s.rails[n]).reading := by
  unfold backInWindow
  dsimp only
  split_ifs
  · rw [onRail_same]
  · rfl

theorem slotConverted_reading {s : State} {n : SlotId} (code loop : U16) (hu : slotUsed s n = true) :
    ((slotConverted n code loop s).rails[n]).reading = readingOf s n code := by
  have hstep : ((marginStep n loop (withReading s n code)).rails[n]).reading = readingOf s n code := by
    have h := congrArg Prod.fst (converting_marginStep n loop (withReading s n code))
    exact h.trans (by rw [withReading_same]; rfl)
  rw [slotConverted_eq code loop hu]
  split_ifs
  · rw [reading_backInWindow, reading_evalTrips, hstep]
  · exact hstep

theorem slotConverted_other {s : State} {n m : SlotId} (code loop : U16) (hu : slotUsed s n = true) (h : m ≠ n) :
    (slotConverted n code loop s).rails[m] = s.rails[m] := by
  have hstep : (marginStep n loop (withReading s n code)).rails[m] = s.rails[m] := by
    rw [marginStep_other n m loop _ h, withReading, onRail_other n m _ s h]
  rw [slotConverted_eq code loop hu]
  split_ifs
  · rw [backInWindow_other n m _ h, evalTrips_other n m _ h, hstep]
  · exact hstep

/-- With a comparator that is not suspect a conversion is the reading and the margin loop's step. -/
theorem slotConverted_judged {s : State} {n : SlotId} (code loop : U16) (hu : slotUsed s n = true)
    (hk : ((s.rails[n]).cmpA.suspect && (s.rails[n]).cmpB.suspect) = false) :
    slotConverted n code loop s = marginStep n loop (withReading s n code) := by
  have hsame := converting_marginStep n loop (withReading s n code)
  rw [withReading_same] at hsame
  obtain ⟨-, hA, hB⟩ : _ ∧ _ ∧ _ := by simpa only [converting, Prod.mk.injEq] using hsame
  rw [slotConverted_eq code loop hu, hA, hB, hk, if_neg Bool.false_ne_true]

theorem scanOfSlots : Claims.ScanOfSlots := by
  intro s n code trim hp hu
  have hexec : exec (.adcConversion (.slot n code) trim) s = .next (slotConverted n code trim s) := by
    simp only [exec, execAdcConversion, Machine.converted, hp, Bool.not_true, Bool.false_eq_true, if_false]
  refine ⟨_, hexec, slotConverted_reading code trim hu, fun hk => ?_, fun m hm => slotConverted_other code trim hu hm, ?_⟩
  · have hruns := loopRuns_withReading s n code
    rw [slotConverted_judged code trim hu hk]
    refine ⟨fun hl => ?_, fun hl hw hne hin => ?_, fun hl hlim hat => ?_⟩
    · rw [marginStep_idle trim (hruns.trans hl)]
      exact ⟨rfl, withReading_same s n code⟩
    · have hslot := withReading_same s n code
      have hheld := held_same (withReading s n code) n trim
      have hstep : marginStep n trim (withReading s n code) = onRail n stepped (held (withReading s n code) n trim) := by
        have hbound : trimAtBound (withReading s n code) n trim = false := hin
        rw [marginStep_eq, hruns, hl, hslot, hw, hbound, hheld, hslot, hw]
        exact (if_pos hne)
      rw [hstep]
      refine ⟨rfl, ?_, ?_⟩
      · rw [onRail_same, hheld]
        exact heldTrim_inside (s := withReading s n code) hin
      · rw [onRail_same, hheld, hslot]
        rfl
    · have hslot := withReading_same s n code
      have hheld := held_same (withReading s n code) n trim
      have hstep : marginStep n trim (withReading s n code) = limited n (held (withReading s n code) n trim) := by
        have hbound : trimAtBound (withReading s n code) n trim = true := hat
        rw [marginStep_eq, hruns, hl, hslot, decide_eq_false hlim, hbound]
        rfl
      obtain ⟨hlow, hhigh⟩ := heldTrim_bounds (withReading s n code) n trim
      have hevent : gotEvent s (limited n (held (withReading s n code) n trim)) 21 := by
        rw [limited, count_silent n .marginLimit _ rfl]
        exact raise_gotEvent_after 21 (by decide) rfl
      rw [hstep, limited_same, hheld, hslot]
      exact ⟨rfl, rfl, rfl, hlow, hhigh, hstep ▸ hevent⟩
  · apply State.ext <;> simp

/-- Settles O22: a supply's conversion is stored, a slot's is stored and drives its margin loop. -/
theorem supplyScans : Obligations.SupplyScans := ⟨scanOfSupplies, scanOfSlots⟩

end Sys2Proof.Conversions
end

section
/-! PROOF. Latch clears, margin requests, log points and the clear of the counters (R145, R146, R158, R159). -/

namespace Sys2Proof.CounterLog

open Sys2Proof Sys2Proof.Machine Sys2Proof.Claims Sys2Proof.Families Sys2Proof.Slots Sys2Proof.DeviceStates
  Sys2Proof.TilePorts Sys2Proof.BusFrames Sys2Proof.Sequencing

/-! ## What the flash does when it looks for work -/

/-- The first operation that may start, tried in the order of R204. -/
theorem tryJob_waits {j : FlashJob} {s : State} (h : s.supply.aonLow = true) : tryJob j s = (false, s) := by
  simp [tryJob, mayStart, h]

theorem pump_waits (fuel : Nat) {s : State} (h : s.supply.aonLow = true) : pump fuel s = s := by
  have hround (l : List FlashJob) : l.foldl (fun (acc : Bool × State) j => if acc.1 then acc else tryJob j acc.2)
      (false, s) = (false, s) := by
    induction l with
    | nil => rfl
    | cons j l ih => simpa [tryJob_waits h] using ih
  cases fuel with
  | zero => rfl
  | succ fuel => simp [pump, hround]

theorem flashKick_waits {s : State} (h : s.supply.aonLow = true) : flashKick s = s := pump_waits _ h

theorem jobOrder_nil {s : State} (h : s.flash.jobs = []) : jobOrder s = [] := by simp [jobOrder, h]

theorem flashKick_nothing {s : State} (h : s.flash.jobs = []) : flashKick s = s := by
  simp [flashKick, pump, jobOrder_nil h]

/-- What each step of the search for work keeps, the whole search keeps. -/
structure KeptByWork (P : State → Prop) : Prop where
  ask : ∀ s, P s → P (askSuspend s)
  refuse : ∀ j a s, P s → P (refuseJob j a s)
  ready : ∀ j s, P s → P (prepare j s).2
  start : ∀ j op s, P s → P (startPrim j op s).2
  put : ∀ j s, P s → P (putJob j s)

section
variable {P : State → Prop}

theorem KeptByWork.tryJob (h : KeptByWork P) (j : FlashJob) {s : State} (hs : P s) : P (tryJob j s).2 := by
  have hready : P (if j.started then (j, s) else
      if decide (j.kind = .commit) && optionProtected s then (j, s) else prepare j s).2 := by
    split_ifs
    · exact hs
    · exact hs
    · exact h.ready j s hs
  unfold Machine.tryJob
  dsimp only
  generalize (if j.started then (j, s) else
    if decide (j.kind = .commit) && optionProtected s then (j, s) else prepare j s) = ready at hready ⊢
  split
  · exact hs
  split
  · exact h.refuse j _ s hs
  split
  · exact hs
  next op _ _ =>
    generalize (if decide (j.kind = .commit) then Abort.done else primRefused ready.2 op) = refused
    split
    · exact h.refuse _ _ _ hready
    · split
      · exact h.put _ _ (h.start _ _ _ hready)
      · cases op with
        | erase => exact hs
        | program => exact h.ask s hs

theorem KeptByWork.pump (h : KeptByWork P) (fuel : Nat) {s : State} (hs : P s) : P (pump fuel s) := by
  induction fuel generalizing s with
  | zero => exact hs
  | succ fuel ih =>
    have hround : ∀ (l : List FlashJob) (acc : Bool × State), P acc.2 → P (l.foldl (fun (acc : Bool × State) j =>
        if acc.1 then acc else Machine.tryJob j acc.2) acc).2 := by
      intro l
      induction l with
      | nil => exact fun _ hacc => hacc
      | cons j l ihl =>
        rintro ⟨started, t⟩ hacc
        refine ihl _ ?_
        cases started
        · exact h.tryJob j hacc
        · exact hacc
    unfold Machine.pump
    dsimp only
    split
    · exact ih (hround _ _ hs)
    · exact hround _ _ hs

theorem KeptByWork.flashKick (h : KeptByWork P) {s : State} (hs : P s) : P (flashKick s) := h.pump _ hs

end

/-- The job numbers given so far, and of each sector how far it is written and whether an erase was aborted. -/
def marks (s : State) : Nat × (Fin 32 → Nat × Option Nat) :=
  (s.flash.nextJob, fun k => ((s.flash.sectors[k]).wptr, (s.flash.sectors[k]).unerased))

theorem refuseJob_marks (j : FlashJob) (a : Abort) (s : State) : marks (refuseJob j a s) = marks s := by
  unfold refuseJob
  dsimp only
  cases j.kind
  case keys =>
    dsimp only
    split_ifs <;> simp [marks, dropJob]
  all_goals
    dsimp only
    split_ifs <;> simp [marks, dropJob, commitEnded]

theorem sector_upd_erases (v : Fam 32 FlashSector) (n k : Fin 32) (e : U32) :
    (((upd v n fun x => { x with erases := e })[k]).wptr, ((upd v n fun x => { x with erases := e })[k]).unerased) =
      ((v[k]).wptr, (v[k]).unerased) := by
  by_cases h : k = n
  · subst h
    rw [upd_same]
  · rw [upd_other _ _ _ _ (Ne.symm h)]

theorem startPrim_marks (j : FlashJob) (op : FlashPrim) (s : State) : marks (startPrim j op s).2 = marks s := by
  cases op with
  | erase sec =>
    simp only [startPrim]
    split_ifs
    · rfl
    all_goals
      refine Prod.ext (by simp [marks]) (funext fun k => ?_)
      simp only [marks, raise_keeps]
      exact sector_upd_erases s.flash.sectors sec k _
  | program sec page data =>
    simp only [startPrim]
    split_ifs <;> rfl

theorem marks_keptByWork (m : Nat × (Fin 32 → Nat × Option Nat)) : KeptByWork fun s => marks s = m where
  ask _ h := h
  refuse _ _ _ h := (refuseJob_marks _ _ _).trans h
  ready j _ h := by
    refine Eq.trans ?_ h
    unfold prepare
    cases j.kind <;> rfl
  start _ _ _ h := (startPrim_marks _ _ _).trans h
  put _ _ h := h

theorem flashKick_marks (s : State) : marks (flashKick s) = marks s := (marks_keptByWork _).flashKick rfl

theorem flashKick_nextJob (s : State) : (flashKick s).flash.nextJob = s.flash.nextJob :=
  congrArg Prod.fst (flashKick_marks s)

theorem flashKick_wptr (s : State) (k : Fin 32) : ((flashKick s).flash.sectors[k]).wptr = (s.flash.sectors[k]).wptr :=
  congrArg Prod.fst (congrFun (congrArg Prod.snd (flashKick_marks s)) k)

theorem flashKick_unerased (s : State) (k : Fin 32) :
    ((flashKick s).flash.sectors[k]).unerased = (s.flash.sectors[k]).unerased :=
  congrArg Prod.snd (congrFun (congrArg Prod.snd (flashKick_marks s)) k)

/-! ## Queued jobs and log points -/

/-- The jobs, and the number that the next one gets. -/
def queue (s : State) : List FlashJob × Nat := (s.flash.jobs, s.flash.nextJob)

theorem queued_flashKick {s u : State} (k : FlashKind) (ops : List FlashPrim) (hqueue : queue u = queue s)
    (hsupply : u.supply.aonLow = s.supply.aonLow) : queued s (flashKick (queueJob k ops u)) k ops := by
  obtain ⟨hjobs, hnext⟩ := Prod.mk.inj hqueue
  refine ⟨?_, fun hlow => ?_⟩
  · rw [flashKick_nextJob, ← hnext]
    rfl
  · rw [flashKick_waits (s := queueJob k ops u) (hsupply.trans hlow), ← hjobs, ← hnext]
    rfl

theorem queued_of_flash {s t u : State} {k : FlashKind} {ops : List FlashPrim} (hq : queued s u k ops)
    (h : t.flash = u.flash) : queued s t k ops := by
  unfold queued
  rw [h]
  exact hq

theorem logPoint_made {c : Byte} {s : State} (h1 : s.sys.st ≠ .expose) (h2 : s.sys.st ≠ .develop) :
    logPoint c s = flashKick (queueJob (.log c) [] s) := by
  simp [logPoint, h1, h2]

/-- What a search for work may change. -/
theorem flashKick_frame (s : State) : flashKick s = { s with
    flash := (flashKick s).flash, irq := (flashKick s).irq, bus := (flashKick s).bus, sec := (flashKick s).sec
    free := (flashKick s).free } := by
  apply State.ext <;> simp

theorem queueJob_frame (k : FlashKind) (ops : List FlashPrim) (s : State) : queueJob k ops s = { s with
    flash := (queueJob k ops s).flash } := rfl

/-- The answer to a request that was served changes nothing else but the bus. -/
theorem written_frame {a : Abort} {u : State} (h : u.bus.busy = false) : written (a, u) = { u with
    bus := (written (a, u)).bus } := by
  rw [written_eq_reply h]
  rfl

theorem row2410_1 : rowOf 0x2410 1 = some (wo 0x2410 1 1 1 .bool 1 0 1) := by rfl
theorem row2410_4 : rowOf 0x2410 4 = some (wo 0x2410 1 4 1 .bool 1 0 1) := by rfl

/-- A write of 1 is not the idle value of a trigger. -/
@[simp] theorem idleTrigger_one (i b : Nat) : idleTrigger i b [1#8] = false := by
  unfold idleTrigger
  split
  · simp
  · rfl

theorem checks2410_4 (s : State) : writeChecks s .bus 0x2410 4 [1] =
    if bootFault s then .deviceFault else if s.sys.st = .setup then .done else .deviceState := by
  have hrow : existence (small s) 0x2410 4 = .done := by cases small s <;> rfl
  cases hst : s.sys.st <;> cases hb : s.sys.mainOn <;>
    simp [writeChecks, firstOf, hrow, pathCheck, claimOnly, classCheck, accOf, row2410_4, wo, stateCheck, servedCheck,
      bootServes, faultServes, mainHolds, hst, hb, bootFault, writeState, sessionCheck, protectionCheck,
      valueCheck, leNat, rangeOk]

/-! ## Latch clears and margin requests -/

theorem row2100_4 : ∀ n : SlotId, rowOf (0x2100 + n.val) 4 = some (wo 0x2100 16 4 1 .bool 1 0 1) := by decide
theorem row2300 : ∀ n : SlotId, rowOf 0x2300 (n.val + 1) = some (vw 0x2300 1 1 16 .i16 2 (-32768) 32767) := by decide

theorem slotAt_add (n : SlotId) (base : Nat) : slotAt (base + n.val) base = n := by
  simp [slotAt, Fin.ofNat_eq_cast]

theorem writeEffect_latch (n : SlotId) (resp : List Byte) (s : State) :
    writeEffect (0x2100 + n.val) 4 [1] resp s = (.done, clearLatch n s) := by
  have h1 : (0x2100 + n.val = 0x1410) = False := by simp; omega
  have h2 : (0x2100 + n.val = 0x1420) = False := by simp; omega
  have h3 : (decide (0x2100 ≤ 0x2100 + n.val) && decide (0x2100 + n.val < 0x2110)) = true := by simp; omega
  simp only [writeEffect, h1, h2, h3, if_true, if_false, slotAt_add]
  rfl

theorem latchClear_taken {s : State} {n : SlotId} (h : takes s (0x2100 + n.val) 4 [1]) :
    exec (.latchClear n) s = .next (written (.done, clearLatch n (touch s))) ∧ s.sys.st ≠ .hold := by
  have hstate : writeState (touch s) (0x2100 + n.val) 4 = true := writeState_of_checks h.2 (idleTrigger_one _ _)
  have hindex : (decide (0x2100 ≤ 0x2100 + n.val) && decide (0x2100 + n.val < 0x2110) && decide (4 = 4)) = true := by
    simp; omega
  refine ⟨?_, fun hst => ?_⟩
  case refine_2 =>
    unfold writeState at hstate
    dsimp only at hstate
    rw [if_pos hindex] at hstate
    simp [inSRF, hst] at hstate
  simp only [exec, execLatchClear, hostWrite_takes _ _ _ s _ h.1 (by omega) h.2 (idleTrigger_one _ _) (row2100_4 n) rfl,
    writeEffect_latch]

theorem idleTrigger2300 (n : SlotId) (data : List Byte) : idleTrigger 0x2300 (n.val + 1) data = false := by
  simp [idleTrigger, row2300 n, vw]

theorem marginRequest_taken {s : State} {n : SlotId} {steps : U16} (h : takes s 0x2300 (n.val + 1) (leBytes 2 steps.toNat)) :
    exec (.marginRequest n steps) s = .next (written (hostMargin n steps (touch s))) ∧ s.sys.st ≠ .hold := by
  have hstate : writeState (touch s) 0x2300 (n.val + 1) = true := writeState_of_checks h.2 (idleTrigger2300 n _)
  have hslot : Fin.ofNat 16 (n.val + 1 - 1) = n := by simp
  refine ⟨?_, fun hst => by simp [writeState, inSRF, hst] at hstate⟩
  simp only [exec, execMarginRequest, hostWrite_takes _ _ _ s _ h.1 (by decide) h.2 (idleTrigger2300 n _) (row2300 n) rfl]
  simp [writeEffect, leNat_leBytes_two]

theorem latchClearAndMargin : Claims.LatchClearAndMargin := by
  intro s n steps
  refine ⟨fun h => ?_, fun h => ?_⟩
  · obtain ⟨hexec, hst⟩ := latchClear_taken h
    have hidle : (clearLatch n (touch s)).bus.busy = false := DeviceStates.touch_not_busy h.1
    have htouch := touch_of_not_hold s hst
    have hsame : (clearLatch n (touch s)).rails[n] =
        if (s.rails[n]).st = .latched then { s.rails[n] with st := .off } else s.rails[n] := by
      rw [clearLatch, onRail_same, htouch]
      rfl
    refine ⟨_, hexec, answered_written hidle, fun hl => ?_, fun hl => ?_, fun m hm => ?_, ?_⟩
    · rw [written_eq_reply hidle]; exact hsame.trans (if_pos hl)
    · rw [written_eq_reply hidle]; exact hsame.trans (if_neg hl)
    · rw [written_eq_reply hidle]
      exact (onRail_other n m _ _ hm).trans (by rw [htouch]; rfl)
    · rw [written_eq_reply hidle, htouch]; rfl
  · obtain ⟨hexec, hst⟩ := marginRequest_taken h
    have htouch := touch_of_not_hold s hst
    have hidle := DeviceStates.touch_not_busy h.1
    have hlimit : pv (touch s) 0x2320 (n.val + 1) = pv s 0x2320 (n.val + 1) := pv_reads (sameSettings_touch s) _ _
    have hused : slotUsed (touch s) n = slotUsed s n := slotUsed_reads (sameSettings_touch s) n
    refine ⟨_, hexec, fun hout => ?_, fun hin hu => ?_, fun hin hu => ?_⟩
    · have hm : hostMargin n steps (touch s) = (.valueRange, touch s) := by simp [hostMargin, hlimit, hout]
      rw [hm]
      exact ⟨answered_written hidle, by rw [written_eq_reply hidle]; exact reply_touch_outside_hold _ hst⟩
    · have hm : hostMargin n steps (touch s) = (.done, requestMargin n steps (touch s)) := by
        simp [hostMargin, hlimit, Nat.not_lt.mpr hin, hused, hu]
      have hdone : (requestMargin n steps (touch s)).bus.busy = false := hidle
      obtain ⟨margin, hrails⟩ := requestMargin_rails n steps (touch s)
      have hframe : requestMargin n steps (touch s) = { touch s with rails := (requestMargin n steps (touch s)).rails } := rfl
      rw [hm]
      refine ⟨answered_written hdone, ?_⟩
      rw [written_eq_reply hdone]
      have hother (m : SlotId) (hne : m ≠ n) : (requestMargin n steps (touch s)).rails[m] = s.rails[m] := by
        rw [hrails, upd_other _ _ _ _ hne.symm, htouch]
        rfl
      have hsame : (requestMargin n steps (touch s)).rails[n] =
          { s.rails[n] with request := steps, steady := 0, margin := margin s.rails[n] } := by
        rw [hrails, upd_same, htouch]
        rfl
      refine ⟨(congrArg RailSlot.request hsame :), (congrArg RailSlot.applied hsame :), hother, ?_⟩
      rw [hframe, htouch]
      rfl
    · have hm : hostMargin n steps (touch s) = (if steps = 0 then .done else .valueRange, touch s) := by
        simp [hostMargin, hlimit, Nat.not_lt.mpr hin, hused, hu]
      rw [hm]
      exact ⟨answered_written hidle, by rw [written_eq_reply hidle]; exact reply_touch_outside_hold _ hst⟩

/-! ## Log points -/

/-- Every slot's counters cleared and its alerts armed again. -/
def zeroed (s : State) : State := { s with
  rails := updAll s.rails (fun _ x => { x with counts := famAll 10 0, alerted := famAll 3 false }) }

theorem zeroed_queue (s : State) : queue (zeroed s) = queue s := by simp only [queue, zeroed]
theorem zeroed_supply (s : State) : (zeroed s).supply = s.supply := by simp only [zeroed]

theorem bootFault_touch (s : State) : bootFault (touch s) = bootFault s := by simp [bootFault]

theorem checks2410_taken {s : State} (hst : s.sys.st = .setup) : writeChecks (touch s) .bus 0x2410 4 [1] = .done := by
  rw [checks2410_4]
  simp [hst, bootFault]

theorem clearCounters_refused {s : State} {a : Abort} (hb : busFree s = true)
    (hc : writeChecks (touch s) .bus 0x2410 4 [1] = a) (ha : a ≠ .done) : ∃ t, exec .clearCounters s = .next t ∧
      answered t a ∧ t = { s with bus := t.bus, supply := t.supply } := by
  refine ⟨reply a [] (touch s), ?_, answered_reply _ _ (DeviceStates.touch_not_busy hb), reply_touch_frame _ s⟩
  simp only [exec, execClearCounters]
  rw [hostWrite_refused 0x2410 4 [1] s hb (by decide) (by rw [hc]; exact ha), hc]

theorem logPoints : Claims.LogPoints := by
  intro s
  refine ⟨fun h => ?_, fun hb hst => ?_, fun hb hst hf => ?_, fun hb hf => ?_, fun hst => ?_, fun hst => ?_, fun c id h => ?_,
    fun h => ?_⟩
  · have hw : writeState (touch s) 0x2410 1 = true := writeState_of_checks h.2 (idleTrigger_one _ _)
    have hst : s.sys.st = .setup ∨ s.sys.st = .run := by simpa [writeState] using hw
    have hidle := DeviceStates.touch_not_busy h.1
    have htouch := touch_of_not_hold s (by rcases hst with h | h <;> simp [h])
    have hpoint : logPoint 4 (touch s) = flashKick (queueJob (.log 4) [] (touch s)) :=
      logPoint_made (by rcases hst with h | h <;> simp [h]) (by rcases hst with h | h <;> simp [h])
    have hdone : (flashKick (queueJob (.log 4) [] (touch s))).bus.busy = false := flashKick_idle _ hidle
    have hexec : exec .logRequest s = .next (written (.done, flashKick (queueJob (.log 4) [] (touch s)))) := by
      simp only [exec, execLogRequest, hostWrite_takes 0x2410 1 [1] s _ h.1 (by decide) h.2 (idleTrigger_one _ _)
        row2410_1 rfl, ← hpoint]
      rfl
    refine ⟨_, hexec, answered_written hdone, ?_, ?_⟩
    · rw [written_eq_reply hdone, htouch]
      exact queued_of_flash (queued_flashKick (u := onBus (fun b => { b with ack := true }) s) (.log 4) [] rfl rfl) rfl
    · rw [written_eq_reply hdone, htouch]
      apply State.ext <;> simp
  · have hc := checks2410_taken hst
    have hidle := DeviceStates.touch_not_busy hb
    have htouch := touch_of_not_hold s (by simp [hst])
    have hexec : exec .clearCounters s = .next (written (.done, clearCounts (touch s))) := by
      simp only [exec, execClearCounters, hostWrite_takes 0x2410 4 [1] s _ hb (by decide) hc (idleTrigger_one _ _)
        row2410_4 rfl]
      rfl
    have hpoint : clearCounts (touch s) = flashKick (queueJob (.log 5) [] (zeroed (touch s))) :=
      logPoint_made (s := zeroed (touch s)) (by simp [zeroed, hst]) (by simp [zeroed, hst])
    have hdone : (clearCounts (touch s)).bus.busy = false := by rw [hpoint]; exact flashKick_idle _ hidle
    refine ⟨_, hexec, answered_written hdone, ?_, fun n => ?_, ?_⟩
    · rw [written_eq_reply hdone, hpoint, htouch]
      exact queued_of_flash (queued_flashKick (.log 5) [] (zeroed_queue (onBus (fun b => { b with ack := true }) s))
        (congrArg Supply.aonLow (zeroed_supply _))) rfl
    · have hrails : (reply .done [] (clearCounts (touch s))).rails = (zeroed s).rails := by
        rw [hpoint, htouch]
        change (flashKick (queueJob (.log 5) [] (zeroed (onBus (fun b => { b with ack := true }) s)))).rails = _
        simp only [flashKick_keeps]
        rfl
      rw [written_eq_reply hdone, hrails]
      exact updAll_get _ _ _
    · rw [written_eq_reply hdone, hpoint, htouch]
      apply State.ext <;> simp [zeroed]
  · exact clearCounters_refused hb (by rw [checks2410_4, bootFault_touch, hf]; simp [hst]) (by decide)
  · exact clearCounters_refused hb (by rw [checks2410_4, bootFault_touch, hf]; rfl) (by decide)
  · have hpoint : logPoint 3 s = flashKick (queueJob (.log 3) [] s) := logPoint_made (by simp [hst]) (by simp [hst])
    refine ⟨flashKick (queueJob (.log 3) [] s), ?_, queued_flashKick (.log 3) [] rfl rfl, ?_⟩
    · simp only [exec, execPeriodicLogPoint, hst, if_true, hpoint]
    · apply State.ext <;> simp
  · simp [exec, execPeriodicLogPoint, hst]
  · have hdone : logDone s = raise 23 (dropJob id s) := by
      have hjobs : (raise 23 (dropJob id s)).flash.jobs = [] := by simp [dropJob, h]
      simp only [logDone, h]
      exact flashKick_nothing hjobs
    refine ⟨logDone s, rfl, ?_, ?_, ?_, ?_⟩
    · rw [hdone]; simp [dropJob, h]
    · rw [hdone]; exact raise_gotEvent_after 23 (by decide) rfl
    · rw [hdone]; simp [dropJob]
    · rw [hdone]
      apply State.ext <;> simp
  · simp [exec, execLogWritten, logDone, h]

/-- Settles O24: the writes through the checks that pass them, the log points through the search for work. -/
theorem latchesMarginsAndLog : Obligations.LatchesMarginsAndLog := ⟨latchClearAndMargin, logPoints⟩

end Sys2Proof.CounterLog
end

section
/-! PROOF. The backup cell: phases, charge, faults, switch and guarantee (R165 to R176). -/

namespace Sys2Proof.BackupCell

open Sys2Proof Sys2Proof.Machine Sys2Proof.Claims Sys2Proof.Families Sys2Proof.Slots Sys2Proof.DeviceStates
  Sys2Proof.TilePorts Sys2Proof.BusFrames Sys2Proof.Sequencing Sys2Proof.CounterLog

/-! ## What the keeper's operations do to the cell -/

theorem setPhase_cell (p : KeeperPhase) (s : State) : (setPhase p s).cell = if s.cell.phase = p then s.cell else
    { s.cell with
      phase := p
      qRem := if p = .full then qFull s else s.cell.qRem
      chargeUs := if p = .full then 0 else s.cell.chargeUs
      fromFull := if p = .full then some 0 else if p = .discharging || p = .off || p = .suspended then s.cell.fromFull
        else none } := by
  unfold setPhase
  split_ifs <;> simp

theorem setPhase_phase (p : KeeperPhase) (s : State) : (setPhase p s).cell.phase = p := by
  by_cases h : s.cell.phase = p
  · rw [setPhase_cell, if_pos h, h]
  · rw [setPhase_cell, if_neg h]

theorem setPhase_faults (p : KeeperPhase) (s : State) : (setPhase p s).cell.faults = s.cell.faults := by
  by_cases h : s.cell.phase = p
  · rw [setPhase_cell, if_pos h]
  · rw [setPhase_cell, if_neg h]

/-- A phase other than FULL leaves the charge. -/
theorem setPhase_qRem {p : KeeperPhase} (s : State) (hp : p ≠ .full) : (setPhase p s).cell.qRem = s.cell.qRem := by
  by_cases h : s.cell.phase = p
  · rw [setPhase_cell, if_pos h]
  · rw [setPhase_cell, if_neg h, if_neg hp]

theorem setPhase_event {s : State} {p : KeeperPhase} (h : s.cell.phase ≠ p) : gotEvent s (setPhase p s) 25 := by
  rw [setPhase, if_neg h]
  exact raise_gotEvent_after 25 (by decide) rfl

theorem noteRest_cell (s : State) : (noteRest s).cell = { s.cell with rest := (noteRest s).cell.rest } := rfl

/-- Noting a period of rest is no event. -/
theorem noteRest_event {s t : State} {n : SourceId} (h : gotEvent s t n) : gotEvent s (noteRest t) n := h

/-- Every phase that charges, or that says the cell is full, needs the conditions of Table 5-4. -/
theorem mayCharge_of_phaseAllowed {s : State} {p : KeeperPhase} {k : KeeperSense} (h : phaseAllowed s p k = true)
    (hp : p ∈ [KeeperPhase.precharge, .cc, .cv, .full]) : mayCharge s k = true := by
  simp only [List.mem_cons, List.not_mem_nil, or_false] at hp
  rcases hp with rfl | rfl | rfl | rfl <;> simp only [phaseAllowed, Bool.and_eq_true] at h
  · exact h.2.1
  · exact h.2.1.1.1
  · exact h.2.1.1
  · exact h.2.1.1.1

theorem keeperPhases : Claims.KeeperPhases := by
  intro s p k
  refine ⟨fun h => ?_, fun h => by simp [exec, execKeeperPhaseChange, h]⟩
  refine ⟨noteRest (setPhase p s), by simp [exec, execKeeperPhaseChange, h], ?_, fun hp hne => ?_, fun hp => ?_,
    fun hne => noteRest_event (setPhase_event hne), ?_, fun hp => ?_, ?_⟩
  · rw [noteRest_cell]; exact setPhase_phase p s
  · rw [noteRest_cell]
    subst hp
    change (setPhase .full s).cell.qRem = _
    rw [setPhase_cell, if_neg hne]
    rfl
  · rw [noteRest_cell]; exact setPhase_qRem s hp
  · rw [noteRest_cell]; exact setPhase_faults p s
  · have hmay := mayCharge_of_phaseAllowed h hp
    simp only [mayCharge, vinInRange, chargeWarm, Bool.and_eq_true, decide_eq_true_eq] at hmay
    obtain ⟨⟨⟨⟨hlow, hhigh⟩, hcold, hhot⟩, hestimated⟩, -⟩ := hmay
    exact ⟨hlow, hhigh, hcold, hhot, hestimated⟩
  · apply State.ext <;> simp

/-! ## The charge counted -/

theorem qFull_reads {s t : State} (hs : sameSettings s t) (hm : t.cell.measured = s.cell.measured)
    (hq : t.cell.qFull = s.cell.qFull) : qFull t = qFull s := by
  simp only [qFull, hm, hq, pv_reads hs]

/-- The charge that a period of the counter leaves, where Q_full is not being measured. -/
def charged (full : Nat) (delta : Int) (c : Machine.Cell) : Machine.Cell := { c with
  qRem := min full ((c.qRem : Int) + delta).toNat
  cycles := if full ≤ c.drawn + (-delta).toNat && full ≠ 0 then
    c.cycles + BitVec.ofNat 32 ((c.drawn + (-delta).toNat) / full) else c.cycles
  drawn := if full = 0 then c.drawn + (-delta).toNat else (c.drawn + (-delta).toNat) % full }

theorem coulomb_eq {s : State} {delta : Int} (ha : s.supply.aon = true) (hc : s.cell.connected = true)
    (hk : clockRuns s = true) (hf : s.cell.fromFull = none) :
    coulomb delta s = noteRest (tenPercent (onCell (charged (qFull s) delta) (noteRest s))) := by
  have hfull : (noteRest s).cell.fromFull = none := hf
  have hnone : (if 0 < delta then none else Option.map (· + (-delta).toNat) (none : Option Nat)) = none := by
    split_ifs <;> rfl
  simp only [coulomb, ha, hc, hk, Bool.not_true, Bool.or_self, Bool.false_eq_true, if_false]
  simp only [onCell, hfull, hnone, charged]
  rfl

/-! ## Faults of the cell -/

/-- What a fault notes of itself. -/
def noted (code : Byte) (c : Machine.Cell) : Machine.Cell := { c with
  faults := code :: c.faults.filter fun f => f ≠ code
  faultCode := code
  faultCount := c.faultCount + 1
  switchOn := c.switchOn && decide (code ≠ 5)
  owed := c.owed || decide (code.toNat ≤ 4) }

/-- A fault that stops the charging. -/
theorem cellFault_stops {code : Byte} {s : State} (h : code.toNat ≤ 4) :
    cellFault code s = setPhase .off (raise 26 (onCell (noted code) s)) := if_pos h

theorem cellFault_other {code : Byte} {s : State} (h : ¬ code.toNat ≤ 4) :
    cellFault code s = cellPeriod (raise 26 (onCell (noted code) s)) := if_neg h

/-- What a period of running from the cell leaves of the cell: all but what it notes of the period itself. -/
theorem cellPeriod_rest (s : State) : (cellPeriod s).cell = { s.cell with
    onCell := (cellPeriod s).cell.onCell, low10 := (cellPeriod s).cell.low10, rest := (cellPeriod s).cell.rest } := by
  unfold cellPeriod
  split
  · rw [tenPercent_cell]; simp
  · simp

/-- What a fault shows, and the switch. -/
def shown (c : Machine.Cell) : Byte × List Byte × U32 × Bool := (c.faultCode, c.faults, c.faultCount, c.switchOn)

theorem setPhase_shown (p : KeeperPhase) (s : State) : shown (setPhase p s).cell = shown s.cell := by
  by_cases h : s.cell.phase = p
  · rw [setPhase_cell, if_pos h]
  · rw [setPhase_cell, if_neg h]
    rfl

theorem cellPeriod_shown (s : State) : shown (cellPeriod s).cell = shown s.cell := by
  rw [cellPeriod_rest]
  rfl

theorem cellFault_shown (code : Byte) (s : State) : shown (cellFault code s).cell = shown (noted code s.cell) := by
  have hraise : (raise 26 (onCell (noted code) s)).cell = noted code s.cell := by simp
  by_cases h : code.toNat ≤ 4
  · rw [cellFault_stops h, setPhase_shown, hraise]
  · rw [cellFault_other h, cellPeriod_shown, hraise]

theorem cellFault_sys (code : Byte) (s : State) : (cellFault code s).sys = s.sys := by
  by_cases h : code.toNat ≤ 4
  · simp [cellFault_stops h]
  · simp [cellFault_other h]

theorem cellFault_phase {code : Byte} (s : State) (h : code.toNat ≤ 4) : (cellFault code s).cell.phase = .off := by
  rw [cellFault_stops h]
  exact setPhase_phase _ _

theorem faultFound_run {code : Byte} {s : State} (ha : s.supply.aon = true) (hst : s.sys.st = .run)
    (hc : code.toNat ≤ 4) :
    faultFound code s = enterFault 5 0x0C (onCell (fun c => { c with owed := false }) (cellFault code s)) := by
  simp [faultFound, ha, hst, hc]

theorem faultFound_still {code : Byte} {s : State} (ha : s.supply.aon = true)
    (h : ¬ code.toNat ≤ 4 ∨ s.sys.st ≠ .run) : faultFound code s = cellFault code s := by
  rcases h with h | h <;> simp [faultFound, ha, h]

theorem faultFound_shown {code : Byte} {s : State} (ha : s.supply.aon = true) :
    shown (faultFound code s).cell = shown (noted code s.cell) := by
  by_cases h : s.sys.st = .run ∧ code.toNat ≤ 4
  · rw [faultFound_run ha h.1 h.2, (enterFault_keeps _ _ _).2.2.2.2.2.1]
    exact cellFault_shown code s
  · rw [faultFound_still ha (by tauto)]
    exact cellFault_shown code s

theorem faultFound_phase {code : Byte} {s : State} (ha : s.supply.aon = true) (hc : code.toNat ≤ 4) :
    (faultFound code s).cell.phase = .off := by
  by_cases h : s.sys.st = .run
  · rw [faultFound_run ha h hc, (enterFault_keeps _ _ _).2.2.2.2.2.1]
    exact cellFault_phase s hc
  · rw [faultFound_still ha (Or.inr h)]
    exact cellFault_phase s hc

/-- What a fault that is found leads to. -/
theorem faultFound_takes {code : Byte} {s : State} (ha : s.supply.aon = true) :
    (faultFound code s).cell.faultCode = code ∧ code ∈ (faultFound code s).cell.faults ∧
    (faultFound code s).cell.faultCount = s.cell.faultCount + 1 ∧
    (code = 5 → (faultFound code s).cell.switchOn = false) := by
  have h := faultFound_shown (code := code) ha
  simp only [shown, noted, Prod.mk.injEq] at h
  obtain ⟨hcode, hfaults, hcount, hswitch⟩ := h
  refine ⟨hcode, ?_, hcount, fun h5 => ?_⟩
  · rw [hfaults]
    exact List.mem_cons_self
  · rw [hswitch, h5]
    simp

/-! ## The estimate -/

/-- The estimate of the charge. -/
def estimate (v : U32) (full : Nat) (c : Machine.Cell) : Machine.Cell :=
  { c with estimated := true, rest := [], vcellUv := v, qRem := estimateOf full v.toNat }

theorem cellCharge : Claims.CellCharge := by
  intro s delta v ha
  refine ⟨fun hc hk hf => ?_, fun h => ?_, fun he => ?_, fun he => ?_⟩
  · have heq := coulomb_eq (delta := delta) ha hc hk hf
    refine ⟨coulomb delta s, rfl, ?_, ?_, ?_⟩
    · rw [heq, noteRest_cell, tenPercent_cell]; rfl
    · rw [heq, noteRest_cell, tenPercent_cell]; rfl
    · simp
  · rcases h with h | h <;> simp [exec, execCoulombUpdate, coulomb, h]
  · have hten : (tenPercent (onCell (estimate v (qFull s)) s)).cell = { estimate v (qFull s) s.cell with
        low10 := (tenPercent (onCell (estimate v (qFull s)) s)).cell.low10 } := tenPercent_cell _
    by_cases hv : v.toNat < 2500000
    · have hest : estimated v s = faultFound 6 (tenPercent (onCell (estimate v (qFull s)) s)) := by
        simp only [estimated, ha, he, hv, Bool.not_true, Bool.or_self, Bool.false_eq_true, if_true, if_false]
        rfl
      have haon : (tenPercent (onCell (estimate v (qFull s)) s)).supply.aon = true := by simpa using ha
      have hcell : (estimated v s).cell = { noted 6 (tenPercent (onCell (estimate v (qFull s)) s)).cell with
          onCell := (estimated v s).cell.onCell, low10 := (estimated v s).cell.low10, rest := (estimated v s).cell.rest } := by
        rw [hest, faultFound_still haon (Or.inl (by decide)), cellFault_other (by decide)]
        refine (cellPeriod_rest _).trans ?_
        simp
      refine ⟨estimated v s, rfl, ?_⟩
      rw [hcell, hten]
      exact ⟨rfl, rfl, rfl, fun _ => ⟨rfl, List.mem_cons_self⟩, fun h => absurd hv (Nat.not_lt.mpr h), by simp [hest],
        by simp [hest]⟩
    · have hest : estimated v s = tenPercent (onCell (estimate v (qFull s)) s) := by
        simp only [estimated, ha, he, hv, Bool.not_true, Bool.or_self, Bool.false_eq_true, if_false]
        rfl
      refine ⟨estimated v s, rfl, ?_⟩
      rw [hest, hten]
      exact ⟨rfl, rfl, rfl, fun h => absurd h hv, fun _ => rfl, by simp, by simp⟩
  · simp [exec, execCellEstimate, estimated, he]

/-- A row of the faults is the command that finds its fault where its condition holds. -/
theorem exec_cellFaultRow {s : State} {p : Instr × Byte × Bool} (hp : p ∈ cellFaultRows s) :
    exec p.1 s = .next (if p.2.2 then faultFound p.2.1 s else s) ∧ (p.2.1 ≠ 5 → p.2.1.toNat ≤ 4) := by
  simp only [cellFaultRows, List.mem_cons, List.not_mem_nil, or_false] at hp
  rcases hp with rfl | rfl | rfl | rfl | rfl
  case inl => exact ⟨by simp [exec, execCellAbsent], fun _ => (by decide : (1 : Byte).toNat ≤ 4)⟩
  case inr.inr.inr.inr => exact ⟨rfl, fun h => absurd rfl h⟩
  case inr.inl => exact ⟨rfl, fun _ => (by decide : (2 : Byte).toNat ≤ 4)⟩
  case inr.inr.inl => exact ⟨rfl, fun _ => (by decide : (3 : Byte).toNat ≤ 4)⟩
  case inr.inr.inr.inl => exact ⟨rfl, fun _ => (by decide : (4 : Byte).toNat ≤ 4)⟩

theorem cellFaults : Claims.CellFaults := by
  intro s p ha hp
  obtain ⟨hexec, hstops⟩ := exec_cellFaultRow hp
  refine ⟨fun h => by rw [hexec, h]; rfl, fun h => ?_⟩
  obtain ⟨hcode, hin, hcount, hswitch⟩ := faultFound_takes (code := p.2.1) ha
  refine ⟨faultFound p.2.1 s, by rw [hexec, h]; rfl, hcode, hin, hcount, fun h5 => faultFound_phase ha (hstops h5), hswitch,
    fun h5 hst => ?_, fun hno => ?_, ?_⟩
  · rw [faultFound_run ha hst (hstops h5), enterFault_sys]
    exact ⟨rfl, rfl, rfl, (congrArg Sys.st (cellFault_sys p.2.1 s)).trans hst⟩
  · have hstill : ¬ p.2.1.toNat ≤ 4 ∨ s.sys.st ≠ .run := by
      rcases hno with h5 | hst
      · exact Or.inl (by rw [h5]; decide)
      · exact Or.inr hst
    rw [faultFound_still ha hstill, cellFault_sys]
  · simp

/-! ## Switch, guarantee and the clear of the faults -/

theorem row2500_11 : rowOf 0x2500 0x11 = some (wo 0x2500 1 0x11 1 .bool 1 0 1) := by rfl

theorem switchAndGuarantee : Claims.SwitchAndGuarantee := by
  intro s ha
  refine ⟨fun hc hf => ?_, ?_, fun hst => ?_, fun hst => by simp [exec, execGuaranteeCheck, hst], fun h => ?_⟩
  · exact ⟨switchClose s, rfl, switchClose_closes s ha hc hf, by simp⟩
  · have hopen : switchOpen s = faultEnds 5 (cellPeriod (onCell (fun c => { c with switchOn := false }) s)) := by
      simp [switchOpen, ha]
    refine ⟨switchOpen s, rfl, ?_, ?_, fun f hf h5 => ?_, by simp⟩
    · rw [hopen]; simp [faultEnds]
    · rw [hopen]; simp [faultEnds]
    · rw [hopen]; simpa [faultEnds, hf] using h5
  · refine ⟨guaranteeNow s, by simp [exec, execGuaranteeCheck, hst], ?_, ?_⟩
    · unfold guaranteeNow
      dsimp only
      split_ifs <;> simp
    · apply State.ext <;> simp
  · have hw : writeState (touch s) 0x2500 0x11 = true := writeState_of_checks h.2 (idleTrigger_one _ _)
    have hst : s.sys.st = .setup := by simpa [writeState] using hw
    have hidle : (clearFaults (touch s)).bus.busy = false := DeviceStates.touch_not_busy h.1
    have hexec : exec .clearCellFault s = .next (written (.done, clearFaults (touch s))) := by
      simp only [exec, execClearCellFault, hostWrite_takes 0x2500 0x11 [1] s _ h.1 (by decide) h.2 (idleTrigger_one _ _)
        row2500_11 rfl]
      rfl
    refine ⟨_, hexec, answered_written hidle, ?_⟩
    rw [written_eq_reply hidle, touch_of_not_hold s (by simp [hst])]
    exact ⟨rfl, rfl, rfl, rfl⟩

/-- Settles O25: each operation of the keeper by what it does to the cell. -/
theorem cellAndKeeper : Obligations.CellAndKeeper := ⟨keeperPhases, cellCharge, cellFaults, switchAndGuarantee⟩

end Sys2Proof.BackupCell
end

section
/-! PROOF. The ends of option flash's operations, and its queued work (R178 to R191, R199 to R207, R463). -/

namespace Sys2Proof.OptionFlash

open Sys2Proof Sys2Proof.Machine Sys2Proof.Claims Sys2Proof.Families Sys2Proof.DeviceStates Sys2Proof.Sequencing
  Sys2Proof.TilePorts Sys2Proof.BusFrames Sys2Proof.CounterLog

/-! ## What a waiting read leaves of option flash -/

/-- The pages and the sectors. -/
def array (s : State) : Assoc FlashPage × Fam 32 FlashSector := (s.flash.pages, s.flash.sectors)

theorem flashReply_array (a : Abort) (s : State) : array (flashReply a s) = array s := by simp [array]

theorem countRead_array (errs : WordErrors) (addr len : Nat) (s : State) : array (countRead errs addr len s) = array s := by
  rw [array, countRead_flash]
  rfl

theorem takeArray_array (q : FlashRead) (s : State) : array (takeArray q s).2 = array s := by
  simp only [takeArray]
  split_ifs
  all_goals exact countRead_array _ _ _ s

theorem readSuspends_array (sec : Nat) (s : State) : array (readSuspends sec s) = array s := by
  rw [readSuspends_flash]
  rfl

theorem readArray_array (q : FlashRead) (s : State) : array (readArray q s).2 = array s := by
  simp only [readArray]
  split_ifs
  · rfl
  · rfl
  · exact readSuspends_array _ s
  · exact readSuspends_array _ s
  · exact (takeArray_array q _).trans (readSuspends_array _ s)

theorem serveWaiting_array (s : State) : array (serveWaiting s) = array s := by
  unfold serveWaiting
  split
  next => rfl
  next q _ =>
    have hread := readArray_array q (onFlash (fun f => { f with readWait := none }) s)
    dsimp only
    split
    · exact hread
    · exact (flashReply_array _ _).trans hread
    · exact (flashReply_array _ _).trans hread

/-! ## The end of an operation -/

theorem verifyUpdate_array (errs : WordErrors) (s : State) : array (verifyUpdate errs s).2 = array s := by
  have hcount : array (inactiveNow errs (countImage errs (updateImage s) s)) = array s := countRead_array _ _ _ s
  unfold verifyUpdate
  dsimp only
  split_ifs <;> exact Eq.trans (by simp [array]) hcount

theorem jobEnds_array (j : FlashJob) (errs : WordErrors) (s : State) : array (jobEnds j errs s) = array s := by
  unfold jobEnds
  cases j.kind
  case keys z => cases z <;> simp [array, dropJob]
  case image =>
    dsimp only
    split_ifs
    · exact (flashReply_array _ _).trans ((verifyUpdate_array errs _).trans rfl)
    · exact (flashReply_array _ _).trans rfl
  all_goals simp [array, dropJob]

/-- What follows the end of an operation, before the flash looks for work. -/
def jobGoesOn (id : Nat) (errs : WordErrors) (s : State) : State :=
  match jobOf s id with
  | none => s
  | some j =>
    let s := match j.kind, j.ops with
      | .commit, .erase 1 :: _ => onFlash (fun f => { f with copyOneDone := true }) s
      | _, _ => s
    if j.ops.isEmpty then jobEnds j errs s else s

theorem afterOp_eq (id : Nat) (errs : WordErrors) (s : State) :
    afterOp id errs s = flashKick (serveWaiting (jobGoesOn id errs (opEnded id s))) := rfl

theorem jobGoesOn_array (id : Nat) (errs : WordErrors) (s : State) : array (jobGoesOn id errs s) = array s := by
  unfold jobGoesOn
  split
  next => rfl
  next j _ =>
    have hnoted : ∀ u : State, array (match j.kind, j.ops with
      | .commit, .erase 1 :: _ => onFlash (fun f => { f with copyOneDone := true }) u
      | _, _ => u) = array u := fun u => by split <;> rfl
    dsimp only
    split
    · exact (jobEnds_array _ _ _).trans (hnoted s)
    · exact hnoted s

theorem afterOp_pages (id : Nat) (errs : WordErrors) (s : State) : (afterOp id errs s).flash.pages = s.flash.pages := by
  have h : array (serveWaiting (jobGoesOn id errs (opEnded id s))) = array s :=
    (serveWaiting_array _).trans (jobGoesOn_array _ _ _)
  rw [afterOp_eq]
  exact (congrArg Prod.fst (flashKick_contents _)).trans (congrArg Prod.fst h)

theorem afterOp_sector (id : Nat) (errs : WordErrors) (s : State) (k : Fin 32) :
    ((afterOp id errs s).flash.sectors[k]).wptr = (s.flash.sectors[k]).wptr ∧
    ((afterOp id errs s).flash.sectors[k]).unerased = (s.flash.sectors[k]).unerased := by
  have h : array (serveWaiting (jobGoesOn id errs (opEnded id s))) = array s :=
    (serveWaiting_array _).trans (jobGoesOn_array _ _ _)
  have hsectors : (serveWaiting (jobGoesOn id errs (opEnded id s))).flash.sectors = s.flash.sectors := congrArg Prod.snd h
  rw [afterOp_eq, flashKick_wptr, flashKick_unerased, hsectors]
  exact ⟨rfl, rfl⟩

/-- The bytes that a page holds once its program has ended. -/
def programmed (s : State) (p : FlashProg) : List Byte :=
  match jobOf s p.job with
  | some ⟨_, .keys _, _, _⟩ => keyPage s s.sec.writing
  | _ => p.data

theorem programmed_plain {s : State} {p : FlashProg} (h : ∀ j, jobOf s p.job = some j → ∀ z, j.kind ≠ .keys z) :
    programmed s p = p.data := by
  unfold programmed
  split
  next hj => exact absurd rfl (h _ hj _)
  next => rfl

theorem programmed_keys {s : State} {p : FlashProg} {j : FlashJob} {z : Bool} (hj : jobOf s p.job = some j)
    (hk : j.kind = .keys z) : programmed s p = keyPage s s.sec.writing := by
  obtain ⟨id, kind, ops, started⟩ := j
  subst hk
  simp [programmed, hj]

/-- A page listed with its bytes, and the write pointer behind it. -/
def listed (s : State) (b : Fin 2) (p : FlashProg) : State := onFlash (fun f => { f with
  pages := aput f.pages (pageKey p.sector.val p.page.val) ⟨programmed s p, true⟩
  sectors := upd f.sectors p.sector (fun x => { x with wptr := max x.wptr (p.page.val + 1) })
  prog := upd f.prog b (fun _ => none) }) s

/-- A page program that ends, of a key store's page or of another one. -/
theorem pageEnds_eq {s : State} {b : Fin 2} {p : FlashProg} (errs : WordErrors) (h : s.flash.prog[b] = some p) :
    pageEnds b errs s = afterOp p.job errs (copyWritten p.sector.val (listed s b p)) ∨
    pageEnds b errs s = afterOp p.job errs (listed s b p) := by
  unfold pageEnds listed programmed
  rw [h]
  dsimp only
  cases hj : jobOf s p.job with
  | none => exact Or.inr rfl
  | some j =>
    obtain ⟨id, kind, ops, started⟩ := j
    cases kind
    case keys => exact Or.inl rfl
    all_goals exact Or.inr rfl

theorem pageEnds_pages {s : State} {b : Fin 2} {p : FlashProg} (errs : WordErrors) (h : s.flash.prog[b] = some p) :
    (pageEnds b errs s).flash.pages = aput s.flash.pages (pageKey p.sector.val p.page.val) ⟨programmed s p, true⟩ := by
  rcases pageEnds_eq errs h with he | he <;> rw [he, afterOp_pages] <;> rfl

theorem pageEnds_wptr {s : State} {b : Fin 2} {p : FlashProg} (errs : WordErrors) (h : s.flash.prog[b] = some p)
    (k : Fin 32) : ((pageEnds b errs s).flash.sectors[k]).wptr =
      ((upd s.flash.sectors p.sector fun x => { x with wptr := max x.wptr (p.page.val + 1) })[k]).wptr := by
  rcases pageEnds_eq errs h with he | he <;> rw [he, (afterOp_sector _ _ _ k).1] <;> rfl

theorem pageProgramEnds : Claims.PageProgramEnds := by
  intro s b p errs h
  have hpages := pageEnds_pages errs h
  have hwptr := pageEnds_wptr errs h
  refine ⟨pageEnds b errs s, rfl, fun hj => ?_, fun j z hj hz => ?_, fun k hk => ?_, ?_, fun k hk => ?_, by simp⟩
  · rw [hpages, aget_aput_same, programmed_plain hj]
  · rw [hpages, aget_aput_same, programmed_keys hj hz]
  · rw [hpages, aget_aput_other _ _ _ _ hk]
  · rw [hwptr, upd_same]
  · rw [hwptr, upd_other _ _ _ _ (Ne.symm hk)]

/-! ## The end of an erase -/

/-- The two copies of the key store that option flash holds. -/
def copies (s : State) : Option KeyStore × Option KeyStore := (s.sec.copy0, s.sec.copy1)

theorem imageRejected_copies (s : State) : copies (imageRejected s) = copies s := by
  unfold imageRejected
  split_ifs <;> simp [copies]

theorem flashReply_copies (a : Abort) (s : State) : copies (flashReply a s) = copies s := by simp [copies]

theorem copies_keptByWork (c : Option KeyStore × Option KeyStore) : KeptByWork fun s => copies s = c where
  ask _ h := h
  refuse j a s h := by
    refine Eq.trans ?_ h
    unfold refuseJob
    dsimp only
    cases j.kind
    case keys =>
      dsimp only
      split_ifs <;> simp [copies, dropJob]
    case image =>
      dsimp only
      exact (flashReply_copies _ _).trans ((imageRejected_copies _).trans (by split_ifs <;> simp [copies, dropJob]))
    all_goals simp [copies, dropJob, commitEnded]
  ready j _ h := by
    refine Eq.trans ?_ h
    unfold prepare
    cases j.kind <;> rfl
  start j op s h := by
    refine Eq.trans ?_ h
    simp [copies]
  put _ _ h := h

theorem raise_copies (k : Nat) (s : State) : copies (raise k s) = copies s := by simp [copies]

theorem setUpdate_copies (v : Byte) (s : State) : copies (setUpdate v s) = copies s := by
  unfold setUpdate
  split_ifs <;> simp [copies]

theorem verifyUpdate_copies (errs : WordErrors) (s : State) : copies (verifyUpdate errs s).2 = copies s := by
  have hcount : copies (inactiveNow errs (countImage errs (updateImage s) s)) = copies s := by
    simp [copies, inactiveNow, countImage]
  unfold verifyUpdate
  dsimp only
  generalize (if !imageSound s (updateImage s) || !imageReads errs s (updateImage s) then Abort.signatureInvalid
    else if !imageRecent s (updateImage s) then .versionRollback else .done) = verdict
  split
  · exact (setUpdate_copies _ _).trans hcount
  · exact (raise_copies _ _).trans ((setUpdate_copies _ _).trans hcount)

theorem releaseBlocks_copies (s : State) : copies (releaseBlocks s) = copies s := by
  unfold releaseBlocks
  split_ifs <;> simp [copies]

theorem jobEnds_copies (j : FlashJob) (errs : WordErrors) (s : State) : copies (jobEnds j errs s) = copies s := by
  unfold jobEnds
  cases j.kind
  case keys z =>
    cases z
    · rfl
    · exact (releaseBlocks_copies _).trans rfl
  case image =>
    dsimp only
    split_ifs
    · exact (flashReply_copies _ _).trans ((verifyUpdate_copies errs _).trans rfl)
    · exact (flashReply_copies _ _).trans rfl
  all_goals simp [copies, dropJob]

theorem jobGoesOn_copies (id : Nat) (errs : WordErrors) (s : State) : copies (jobGoesOn id errs s) = copies s := by
  unfold jobGoesOn
  split
  next => rfl
  next j _ =>
    have hnoted : ∀ u : State, copies (match j.kind, j.ops with
      | .commit, .erase 1 :: _ => onFlash (fun f => { f with copyOneDone := true }) u
      | _, _ => u) = copies u := fun u => by split <;> rfl
    dsimp only
    split
    · exact (jobEnds_copies _ _ _).trans (hnoted s)
    · exact hnoted s

theorem afterOp_copies (id : Nat) (errs : WordErrors) (s : State) : copies (afterOp id errs s) = copies s := by
  have hwait : copies (serveWaiting (jobGoesOn id errs (opEnded id s))) = copies (jobGoesOn id errs (opEnded id s)) := by
    simp [copies]
  exact ((copies_keptByWork _).flashKick rfl).trans (hwait.trans (jobGoesOn_copies _ _ _))

/-- A sector erased. -/
def blankSector (s : State) (e : FlashErase) : State := copyErased e.sector.val (onFlash (fun f => { f with
  pages := f.pages.filter (fun p => decide (p.1 / 256 ≠ e.sector.val))
  sectors := upd f.sectors e.sector (fun x => { x with wptr := 0, unerased := none })
  erase := none }) s)

/-- An erase that is not the first one of the key store's wipe. -/
theorem eraseDone_eq {s : State} {e : FlashErase} (h : s.flash.erase = some e) (hs : e.suspended = false)
    (hj : ∀ j, jobOf s e.job = some j → j.kind ≠ .keys true) : eraseDone s = afterOp e.job [] (blankSector s e) := by
  unfold eraseDone
  rw [h]
  dsimp only
  rw [hs, if_neg Bool.false_ne_true]
  have hjob : jobOf (blankSector s e) e.job = jobOf s e.job := rfl
  change afterOp e.job [] (if (match jobOf (blankSector s e) e.job with
    | some j => (match j.kind with | .keys z => z && decide (e.sector = 26) | _ => false)
    | none => false) then sanitized (blankSector s e) else blankSector s e) = _
  rw [hjob]
  cases hfound : jobOf s e.job with
  | none => rfl
  | some j =>
    have hkind := hj j hfound
    obtain ⟨id, kind, ops, started⟩ := j
    cases kind
    case keys z =>
      cases z
      · rfl
      · exact absurd rfl hkind
    all_goals rfl

theorem eraseEnds : Claims.EraseEnds := by
  intro s e h
  refine ⟨fun hs => ?_, fun hs hj => ?_⟩
  · simp [exec, execEraseEnd, eraseDone, h, hs]
  · have hdone := eraseDone_eq h hs hj
    have hsector : (blankSector s e).flash.sectors = upd s.flash.sectors e.sector fun x => { x with
      wptr := 0, unerased := none } := rfl
    have hcopies := afterOp_copies e.job [] (blankSector s e)
    obtain ⟨hw, hu⟩ := afterOp_sector e.job [] (blankSector s e) e.sector
    rw [hsector, upd_same] at hw hu
    simp only [copies, Prod.mk.injEq] at hcopies
    refine ⟨eraseDone s, rfl, ?_⟩
    rw [hdone]
    refine ⟨(afterOp_pages _ _ _).trans rfl, hw, hu, fun h26 => ?_, fun h27 => ?_, ?_⟩
    · rw [hcopies.1]
      simp [blankSector, copyErased, h26]
    · rw [hcopies.2]
      simp [blankSector, copyErased, h27]
    · simp [blankSector]

/-! ## Suspension of an erase -/

/-- An erase that runs through its first millisecond after a resume: only a suspension can have been asked for. -/
def heldOff (e : FlashErase) (s : State) : Prop :=
  ∃ w, s.flash.erase = some { e with suspended := false, holdoff := true, programs := 0, wanted := w }

theorem refuseJob_erase (j : FlashJob) (a : Abort) (s : State) : (refuseJob j a s).flash.erase = s.flash.erase := by
  unfold refuseJob
  dsimp only
  cases j.kind
  case keys =>
    dsimp only
    split_ifs <;> simp [dropJob]
  all_goals
    dsimp only
    split_ifs <;> simp [dropJob, commitEnded]

theorem prepare_erase (j : FlashJob) (s : State) : (prepare j s).2.flash.erase = s.flash.erase := by
  unfold prepare
  cases j.kind <;> rfl

/-- No erase starts while one is under way. -/
theorem startPrim_erase {j : FlashJob} {sec : Fin 32} {s : State} {e : FlashErase} (h : s.flash.erase = some e) :
    startPrim j (.erase sec) s = (false, s) := by
  simp [startPrim, h]

theorem askSuspend_heldOff {e : FlashErase} {s : State} (h : heldOff e s) : heldOff e (askSuspend s) := by
  obtain ⟨w, hw⟩ := h
  exact ⟨true, by simp [askSuspend, hw]⟩

theorem heldOff_keptByWork (e : FlashErase) : KeptByWork (heldOff e) where
  ask _ h := askSuspend_heldOff h
  refuse _ _ _ h := h.imp fun _ hw => (refuseJob_erase _ _ _).trans hw
  ready _ _ h := h.imp fun _ hw => (prepare_erase _ _).trans hw
  start j op s h := by
    cases op with
    | erase sec =>
      obtain ⟨w, hw⟩ := h
      rw [startPrim_erase hw]
      exact ⟨w, hw⟩
    | program sec page data =>
      have hask := askSuspend_heldOff h
      obtain ⟨w, hw⟩ := hask
      simp only [startPrim, hw, Bool.false_and, Bool.false_eq_true, if_false]
      exact ⟨w, hw⟩
  put _ _ h := h

/-- An erase whose first millisecond is over; one that is suspended stays so. -/
def released (e : FlashErase) (wasWanted : Bool) (s : State) : Prop :=
  ∃ e', s.flash.erase = some e' ∧ e'.holdoff = false ∧ e'.sector = e.sector ∧ e'.job = e.job ∧
    (wasWanted = true → e'.suspended = true)

theorem askSuspend_released {e : FlashErase} {b : Bool} {s : State} (h : released e b s) :
    released e b (askSuspend s) := by
  obtain ⟨e', he, hh, hs, hj, hw⟩ := h
  cases hsus : e'.suspended
  · exact ⟨{ e' with suspended := true, programs := 0 }, by simp [askSuspend, he, hsus, hh], hh, hs, hj, fun _ => rfl⟩
  · exact ⟨e', by simp [askSuspend, he, hsus], hh, hs, hj, hw⟩

theorem released_of_erase {e : FlashErase} {b : Bool} {s t : State} (ht : t.flash.erase = s.flash.erase)
    (h : released e b s) : released e b t := by
  obtain ⟨e', he, hrest⟩ := h
  exact ⟨e', ht.trans he, hrest⟩

theorem released_keptByWork (e : FlashErase) (b : Bool) : KeptByWork (released e b) where
  ask _ h := askSuspend_released h
  refuse _ _ _ h := released_of_erase (refuseJob_erase _ _ _) h
  ready _ _ h := released_of_erase (prepare_erase _ _) h
  start j op s h := by
    cases op with
    | erase sec =>
      have hfound := h
      obtain ⟨e', he, -⟩ := hfound
      rw [startPrim_erase he]
      exact h
    | program sec page data =>
      have hask := askSuspend_released h
      simp only [startPrim]
      split_ifs
      · obtain ⟨e', he, hh, hs, hj, hw⟩ := hask
        exact ⟨{ e' with programs := e'.programs + 1 }, by simp [he], hh, hs, hj, hw⟩
      · exact hask
  put _ _ h := h

theorem countRead_erase (errs : WordErrors) (addr len : Nat) (s : State) :
    (countRead errs addr len s).flash.erase = s.flash.erase := by
  rw [countRead_flash]

theorem takeArray_erase (q : FlashRead) (s : State) : (takeArray q s).2.flash.erase = s.flash.erase := by
  simp only [takeArray]
  split_ifs
  all_goals exact countRead_erase _ _ _ s

theorem readSuspends_released {e : FlashErase} {b : Bool} (sec : Nat) {s : State} (h : released e b s) :
    released e b (readSuspends sec s) := by
  unfold readSuspends
  split
  · split_ifs
    · exact askSuspend_released h
    · exact h
  · exact h

theorem readArray_released {e : FlashErase} {b : Bool} (q : FlashRead) {s : State} (h : released e b s) :
    released e b (readArray q s).2 := by
  simp only [readArray]
  split_ifs
  · exact h
  · exact h
  · exact readSuspends_released _ h
  · exact readSuspends_released _ h
  · exact released_of_erase (takeArray_erase q _) (readSuspends_released _ h)

theorem flashReply_erase (a : Abort) (s : State) : (flashReply a s).flash.erase = s.flash.erase := by simp

theorem serveWaiting_released {e : FlashErase} {b : Bool} {s : State} (h : released e b s) :
    released e b (serveWaiting s) := by
  unfold serveWaiting
  split
  next => exact h
  next q _ =>
    have hread := readArray_released q (s := onFlash (fun f => { f with readWait := none }) s) h
    dsimp only
    split
    · exact hread
    · exact released_of_erase (flashReply_erase _ _) hread
    · exact released_of_erase (flashReply_erase _ _) hread

theorem eraseSuspension : Claims.EraseSuspension := by
  intro s e h
  refine ⟨fun hs h0 h1 hr => ?_, fun hs => ?_, fun hh => ?_, fun hh => ?_⟩
  · have hgo : eraseGoesOn s = flashKick (onFlash (fun f => { f with
        erase := some { e with suspended := false, holdoff := true, programs := 0 } }) s) := by
      simp only [eraseGoesOn, h, hs, h0, h1, hr, Option.isNone_none, Bool.and_self, if_true]
    refine ⟨eraseGoesOn s, rfl, ?_, ?_, ?_⟩
    · rw [hgo]
      exact (heldOff_keptByWork e).flashKick ⟨e.wanted, rfl⟩
    · rw [hgo]
      exact congrArg Prod.fst (flashKick_contents _)
    · rw [hgo]
      exact flashKick_frame _
  · simp [exec, execEraseResume, eraseGoesOn, h, hs]
  · have hover : holdoffOver s = flashKick (serveWaiting (onFlash (fun f => { f with
        erase := some { e with holdoff := false, wanted := false, suspended := e.suspended || e.wanted } }) s)) := by
      simp only [holdoffOver, h, hh, Bool.not_true, Bool.false_eq_true, if_false]
    refine ⟨holdoffOver s, rfl, ?_, ?_, ?_⟩
    · rw [hover]
      refine (released_keptByWork e e.wanted).flashKick (serveWaiting_released ⟨_, rfl, rfl, rfl, rfl, fun hw => ?_⟩)
      simp [hw]
    · rw [hover]
      exact (congrArg Prod.fst (flashKick_contents _)).trans (congrArg Prod.fst (serveWaiting_array _))
    · rw [hover]
      apply State.ext <;> simp
  · simp [exec, execSuspendHoldoffEnd, holdoffOver, h, hh]

/-- Settles O26: the array by what follows the end of an operation, the erase by what the search for work keeps of it. -/
theorem flashOperationsEnd : Obligations.FlashOperationsEnd := ⟨pageProgramEnds, eraseEnds, eraseSuspension⟩

end Sys2Proof.OptionFlash
end

section
/-! PROOF. Queued work of option flash: timeouts, commits, repairs (R188 to R191, R204, R463). -/

namespace Sys2Proof.OptionFlash

open Sys2Proof Sys2Proof.Machine Sys2Proof.Claims Sys2Proof.Families Sys2Proof.DeviceStates Sys2Proof.Sequencing
  Sys2Proof.TilePorts Sys2Proof.BusFrames Sys2Proof.CounterLog

/-! ## Timeouts of the queue -/

theorem flashReply_refused {a : Abort} {s : State} (ha : a ≠ .done) (h : s.bus.busy = true) :
    answered (flashReply a s) a := by
  simp [flashReply, h, answered, ha]

theorem flashReply_frame (a : Abort) (s : State) : flashReply a s = { s with bus := (flashReply a s).bus } := by
  unfold flashReply
  split_ifs <;> rfl

theorem flashQueueTimeout : Claims.FlashQueueTimeout := by
  refine ⟨fun s id j h => ⟨fun hs hk => ?_, fun hs => ?_, fun z hk => ?_⟩, fun s q h => ?_⟩
  · have hdrop : refuseJob j .flashBusy s = flashReply .flashBusy (onFlash (fun f => { f with rawResult := 3 })
        (dropJob j.id s)) := by simp only [refuseJob, hk, if_true]
    refine ⟨refuseJob j .flashBusy s, ?_, ?_, ?_, fun hb => ?_, ?_⟩
    · simp only [exec, execFlashQueueTimeout, queueTimeout, Option.bind_some, h, hs, hk, Bool.false_eq_true, if_false]
    · rw [hdrop, flashReply_frame]; rfl
    · rw [hdrop, flashReply_frame]; rfl
    · rw [hdrop]; exact flashReply_refused (by decide) hb
    · rw [hdrop, flashReply_frame]; rfl
  · simp only [exec, execFlashQueueTimeout, queueTimeout, Option.bind_some, h, hs, if_true]
  · simp only [exec, execFlashQueueTimeout, queueTimeout, Option.bind_some, h, hk, ite_self]
  · have hout : queueTimeout none s = flashReply .flashBusy (onFlash (fun f => { f with readWait := none }) s) := by
      simp [queueTimeout, readTimeout, h]
    refine ⟨queueTimeout none s, rfl, ?_, fun hb => ?_, ?_⟩
    · rw [hout, flashReply_frame]; rfl
    · rw [hout]; exact flashReply_refused (by decide) hb
    · rw [hout, flashReply_frame]; rfl

/-! ## Commits -/

theorem row4030_1 : rowOf 0x4030 1 = some (wo 0x4030 1 1 1 .bool 1 0 1) := by rfl

theorem protection4030 {s : State} (h : takes s 0x4030 1 [1]) : optionProtected (touch s) = false := by
  have hcheck : protectionCheck (touch s) 0x4030 1 [1] = .done := firstOf_done h.2 _ (by simp)
  cases hp : optionProtected (touch s)
  · rfl
  · simp [protectionCheck, hp] at hcheck

theorem commitRequest_taken {s : State} (h : takes s 0x4030 1 [1]) :
    exec .commitRequest s = .next (written (.done, requestCommit (touch s))) := by
  simp only [exec, execCommitRequest, hostWrite_takes 0x4030 1 [1] s _ h.1 (by decide) h.2 (idleTrigger_one _ _)
    row4030_1 rfl]
  simp [writeEffect, commitAsked, protection4030 h]

theorem requestCommit_held {s : State} (h : s.flash.commitRuns = true ∨ inSRF s = false) :
    requestCommit s = onFlash (fun f => { f with commitHeld := true }) s := by
  rcases h with h | h <;> simp [requestCommit, h]

theorem requestCommit_queues {s : State} (hr : s.flash.commitRuns = false) (hst : inSRF s = true)
    (hj : ∀ j ∈ s.flash.jobs, j.kind ≠ .commit) : requestCommit s = flashKick (queueJob .commit [] s) := by
  have hany : (s.flash.jobs.any fun j => decide (j.kind = .commit)) = false := by
    simpa using hj
  simp only [requestCommit, hr, hst, hany, Bool.not_true, Bool.or_self, Bool.false_eq_true, if_false]

theorem aonLow_touch (s : State) : (touch s).supply.aonLow = s.supply.aonLow := by
  unfold touch
  split_ifs <;> rfl

theorem inSRF_touch (s : State) : inSRF (touch s) = inSRF s := by simp [inSRF]

/-- What option flash reads as follows from its pages and its sectors. -/
theorem flashBytes_reads {s t : State} (ha : array t = array s) (addr len : Nat) :
    flashBytes t addr len = flashBytes s addr len := by
  obtain ⟨hpages, hsectors⟩ := Prod.mk.inj ha
  simp only [flashBytes, flashByte, hpages, hsectors]

/-- A commit that has ended, with nothing else queued. -/
theorem commitDone_only {s : State} {id : Nat} (h : s.flash.jobs = [⟨id, .commit, [], true⟩])
    (hh : s.flash.commitHeld = false) : commitDone s = blockInForce (commitEnded true (dropJob id s)) := by
  have hjobs : (blockInForce (commitEnded true (dropJob id s))).flash.jobs = [] := by
    simp [blockInForce, commitEnded, dropJob, h]
  have hheld : (blockInForce (commitEnded true (dropJob id s))).flash.commitHeld = false := by
    simp [blockInForce, commitEnded, dropJob, hh]
  have hnow : commitNow (blockInForce (commitEnded true (dropJob id s))) =
      blockInForce (commitEnded true (dropJob id s)) := by
    simp only [commitNow, hheld, Bool.false_and, Bool.false_eq_true, if_false]
  simp only [commitDone, h]
  exact (congrArg flashKick hnow).trans (flashKick_nothing hjobs)

theorem commits : Claims.Commits := by
  intro s
  refine ⟨fun h => ?_, fun h => ?_, fun h hr hst hj => ?_, fun id h hh => ?_, fun h => ?_⟩
  · have hidle : (requestCommit (touch s)).bus.busy = false := requestCommit_idle _ (DeviceStates.touch_not_busy h.1)
    refine ⟨_, commitRequest_taken h, answered_written hidle, fun hheld => ?_, fun hr hst hj => ?_⟩
    · rw [written_eq_reply hidle, requestCommit_held (s := touch s) (by simpa [inSRF_touch] using hheld)]
      apply State.ext <;> simp
    · rw [written_eq_reply hidle, requestCommit_queues (s := touch s) (by simpa using hr) (by simpa [inSRF_touch] using hst)
        (by simpa using hj)]
      exact queued_of_flash (queued_flashKick (s := s) (u := touch s) .commit [] (by simp [queue]) (aonLow_touch s)) rfl
  · simp [exec, execCommitTimer, commitTimed, h]
  · have hrequest := requestCommit_queues hr hst hj
    refine ⟨requestCommit s, by simp [exec, execCommitTimer, commitTimed, h], ?_, ?_⟩
    · rw [hrequest]; exact queued_flashKick .commit [] rfl rfl
    · rw [hrequest]; apply State.ext <;> simp
  · have hbytes (addr len : Nat) : flashBytes (commitEnded true (dropJob id s)) addr len = flashBytes s addr len :=
      flashBytes_reads (by simp [array, commitEnded, dropJob]) addr len
    have hdone := commitDone_only h hh
    refine ⟨commitDone s, rfl, ?_, ?_, ?_⟩
    · rw [hdone]
      simp only [blockInForce, hbytes]
      simp [commitEnded, dropJob, h]
    · rw [hdone]
      exact raise_gotEvent_after 154 (by decide) rfl
    · rw [hdone]
      apply State.ext <;> simp
  · simp [exec, execCommitEnd, commitDone, h]

/-! ## Repair of the option block -/

theorem optionBlockRepair : Claims.OptionBlockRepair := by
  intro s
  refine ⟨fun c hst hf hj hc => ?_, fun h => ?_⟩
  · have hgo : repairStarts s = flashKick (queueJob (.repair c) [] (onFlash (fun f => { f with repair := 1 }) s)) := by
      refine (if_neg ?_).trans (by rw [hc])
      simp only [hst, hf, Bool.not_true, Bool.or_self, Bool.false_or, List.any_eq_true, not_exists, not_and]
      intro j hin
      cases hk : j.kind with
      | repair k => exact absurd hk (hj j hin k)
      | _ => exact Bool.false_ne_true
    refine ⟨repairStarts s, rfl, ?_, fun hlow => ?_, ?_, ?_⟩
    · rw [hgo]; exact queued_flashKick (.repair c) [] rfl rfl
    · rw [hgo, flashKick_waits (by simpa using hlow)]
      rfl
    · rw [hgo]; exact congrArg Prod.fst (flashKick_contents _)
    · rw [hgo]; apply State.ext <;> simp
  · rcases h with h | h <;> simp [exec, execOptionBlockRepair, repairStarts, h]

/-- Settles O27: each by what it queues, drops or ends. -/
theorem flashJobs : Obligations.FlashJobs := ⟨flashQueueTimeout, commits, optionBlockRepair⟩

end Sys2Proof.OptionFlash
end

section
/-! PROOF. Raw access, and the segmented writes that reach option flash (R196, R197, R208, R209, R501). -/

namespace Sys2Proof.OptionFlash

open Sys2Proof Sys2Proof.Machine Sys2Proof.Claims Sys2Proof.Families Sys2Proof.DeviceStates Sys2Proof.Sequencing
  Sys2Proof.TilePorts Sys2Proof.BusFrames Sys2Proof.CounterLog

theorem hostRequest_served (f : State → State) {s : State} (h : busFree s = true) : hostRequest f s = f (touch s) := by
  simp only [busFree, Bool.and_eq_true, Bool.not_eq_true'] at h
  simp [hostRequest, h.1, h.2]

/-! ## Raw reads -/

theorem readArray_free {q : FlashRead} {s : State} (hoff : q.off ≤ (flashArea s q.index q.sub).2)
    (hlen : (flashArea s q.index q.sub).2 ≠ 0) (he : s.flash.erase = none) (hp : ∀ b : Fin 2, s.flash.prog[b] = none)
    (hu : (s.flash.sectors[sectorFin ((flashArea s q.index q.sub).1 / 65536)]).unerased = none) :
    readArray q s = takeArray q s := by
  have hbusy : readBusy s ((flashArea s q.index q.sub).1 / 65536) = false := by
    simp only [readBusy, sectorUnerased, hu, he, Option.isSome_none, Bool.or_self]
  have hwaits : readWaits s ((flashArea s q.index q.sub).1 / 65536) = false := by
    simp only [readWaits, hp, he, Option.isSome_none, Bool.or_self]
  simp only [readArray, readSuspends_none _ he, hbusy, hwaits, if_neg (Nat.not_lt.mpr hoff), if_neg hlen,
    Bool.false_eq_true, if_false]

theorem rawLeft_pos (s : State) : rawLeft s ≠ 0 := by
  unfold rawLeft
  omega

/-- A corrected word counted. -/
def counted (errs : WordErrors) (addr len : Nat) (s : State) : State := onFlash (fun f => { f with
  corrected := if readFinds errs false addr len then satInc f.corrected else f.corrected }) s

theorem counted_eq (errs : WordErrors) (addr len : Nat) (s : State) :
    (if readFinds errs false addr len then onFlash (fun f => { f with corrected := satInc f.corrected }) s else s) =
      counted errs addr len s := by
  cases h : readFinds errs false addr len <;> simp [counted, h, onFlash]

theorem countRead_quiet {errs : WordErrors} {addr len : Nat} {s : State} (h : readFinds errs true addr len = false) :
    countRead errs addr len s = counted errs addr len s := by
  simp only [countRead, h, Bool.false_eq_true, if_false, counted_eq]

theorem countRead_found {errs : WordErrors} {addr len : Nat} {s : State} (h : readFinds errs true addr len = true) :
    countRead errs addr len s = raise 164 (onFlash (fun f => { f with uncorrectable := satInc f.uncorrectable })
      (counted errs addr len s)) := by
  simp only [countRead, h, if_true, counted_eq]

theorem countRead_corrected (errs : WordErrors) (addr len : Nat) (s : State) : (countRead errs addr len s).flash.corrected =
    if readFinds errs false addr len then satInc s.flash.corrected else s.flash.corrected := by
  cases h : readFinds errs true addr len
  · rw [countRead_quiet h]
    rfl
  · rw [countRead_found h, (raise_keeps _ _).2.2.2.2.2.2.2.1]
    rfl

/-- The raw address moved past what was read, with the result of the read. -/
def rawMoved (s : State) (n : Nat) : State → State := onFlash fun f => { f with
  rawResult := if touchesInvalid s s.flash.rawAddr.toNat n then 1 else 0
  rawAddr := BitVec.ofNat 32 ((f.rawAddr.toNat + n) % 2097152) }

theorem rawReads : Claims.RawReads := by
  intro s len n errs hn hb hc hst
  have hidle := DeviceStates.touch_not_busy hb
  have hhold : s.sys.st ≠ .hold := by rintro h; simp [inSRF, h] at hst
  have htouch := touch_of_not_hold s hhold
  have hallowed : rawState (touch s) true = true := by simp [rawState, inSRF_touch, hst]
  have hexec : exec (.rawRead len errs) s = .next (serveSegRead 0x4020 2 0 len errs (touch s)) := by
    simp only [exec, execRawRead, hostSegRead, hostRequest_served _ hb]
  have hserved : odSegRead .bus 0x4020 2 0 len errs (touch s) = readRaw 0 len errs (touch s) := by
    simp only [odSegRead, hc, ne_eq, not_true, if_false, if_true]
  refine ⟨fun hno => ?_, fun hyes he hp hu => ?_⟩
  · have hraw : readRaw 0 len errs (touch s) = (.no (rawReadAllowed (rawSector s)), touch s) := by
      have hsector : rawSector (touch s) = rawSector s := by simp [rawSector]
      simp only [readRaw, hallowed, hsector, Bool.not_true, Bool.false_eq_true, Nat.not_lt_zero, if_false, if_pos hno]
    have hreply : serveSegRead 0x4020 2 0 len errs (touch s) = reply (rawReadAllowed (rawSector s)) [] (touch s) := by
      simp only [serveSegRead, hserved, hraw]
    refine ⟨_, hexec, ?_, ?_⟩
    · rw [hreply]; exact answered_reply _ _ hidle
    · rw [hreply]; exact reply_touch_outside_hold _ hhold
  · have harea : flashArea (touch s) 0x4020 2 = (s.flash.rawAddr.toNat, rawLeft s) := by rw [htouch]; rfl
    have hraw : readRaw 0 len errs (touch s) = takeArray ⟨0x4020, 2, 0, len, errs⟩ (touch s) := by
      have hsector : rawSector (touch s) = rawSector s := by simp [rawSector]
      simp only [readRaw, hallowed, hsector, hyes, Bool.not_true, Bool.false_eq_true, Nat.not_lt_zero, if_false, ne_eq,
        not_true]
      refine readArray_free (Nat.zero_le _) ?_ (by simpa using he) (by simpa using hp) ?_
      · rw [harea]; exact rawLeft_pos s
      · rw [htouch]; exact hu
    have hcorrected : (countRead errs s.flash.rawAddr.toNat n (touch s)).flash.corrected =
        if readFinds errs false s.flash.rawAddr.toNat n then satInc s.flash.corrected else s.flash.corrected := by
      rw [htouch, countRead_corrected]
      rfl
    cases hx : readFinds errs true s.flash.rawAddr.toNat n
    · have htake : takeArray ⟨0x4020, 2, 0, len, errs⟩ (touch s) = (.bytes (rawLeft s) (flashBytes s s.flash.rawAddr.toNat n),
          rawMoved s n (countRead errs s.flash.rawAddr.toNat n (touch s))) := by
        simp only [takeArray, harea, Nat.add_zero, Nat.sub_zero, ← hn, hx, Bool.false_eq_true, if_false, if_true]
        rw [htouch]
        rfl
      have hreply : serveSegRead 0x4020 2 0 len errs (touch s) = replySeg (rawLeft s)
          (flashBytes s s.flash.rawAddr.toNat n) (rawMoved s n (countRead errs s.flash.rawAddr.toNat n (touch s))) := by
        simp only [serveSegRead, hserved, hraw, htake]
      have hquiet := countRead_quiet (s := touch s) hx
      refine ⟨_, hexec, ?_, fun _ => ⟨?_, ?_, ?_⟩, fun h => absurd h Bool.false_ne_true⟩
      · rw [hreply]; exact hcorrected
      · rw [hreply]; rfl
      · rw [hreply, hquiet, htouch]
        rfl
      · rw [hreply, hquiet, htouch]
        rfl
    · have htake : takeArray ⟨0x4020, 2, 0, len, errs⟩ (touch s) = (.no .flashUncorrectable,
          countRead errs s.flash.rawAddr.toNat n (touch s)) := by
        simp only [takeArray, harea, Nat.add_zero, Nat.sub_zero, ← hn, hx, if_true]
      have hreply : serveSegRead 0x4020 2 0 len errs (touch s) = reply .flashUncorrectable []
          (countRead errs s.flash.rawAddr.toNat n (touch s)) := by
        simp only [serveSegRead, hserved, hraw, htake]
      have hfound := countRead_found (s := touch s) hx
      refine ⟨_, hexec, ?_, fun h => absurd h.symm Bool.false_ne_true, fun _ => ⟨?_, ?_, ?_, ?_⟩⟩
      · rw [hreply]; exact hcorrected
      · rw [hreply]
        refine answered_reply _ _ ?_
        rw [hfound]
        exact raise_idle _ _ hidle
      · rw [hreply, hfound, htouch]
        exact raise_gotEvent_after 164 (by decide) rfl
      · rw [hreply, hfound, htouch]
        simp [reply, onFlash, onBus, counted]
      · rw [hreply, hfound, htouch]
        apply State.ext <;> simp [counted]

/-! ## Segments that open a transfer -/

theorem opened_segment {s : State} {i b : Nat} (last : Bool) (data : List Byte) (h : opens s i b) :
    segmentWrite .bus i b 0 last data (touch s) =
      segTake .bus ⟨BitVec.ofNat 16 i, BitVec.ofNat 8 b, 0, []⟩ last data (touch s) := by
  obtain ⟨-, hchecks, hseg⟩ := h
  have hnone : abandon .bus (touch s) = touch s := by simp [abandon, segOf, hseg]
  simp only [segmentWrite, hchecks, ne_eq, not_true, if_false, if_true, hnone]

/-! ## Raw programs and erases -/

/-- A raw program's transfer that its one segment ends. -/
def rawSegment : OpenSeg := ⟨0x4020, 2, 0, []⟩

theorem segTake_raw {data : List Byte} {u : State} (hlen : data.length ≤ rawLeft u) :
    segTake .bus rawSegment true data u =
      if (programRaw data ([0, 0, 0] ++ leBytes 4 data.length) (setSeg .bus none u)).1 = .done then
        programRaw data ([0, 0, 0] ++ leBytes 4 data.length) (setSeg .bus none u)
      else ((programRaw data ([0, 0, 0] ++ leBytes 4 data.length) (setSeg .bus none u)).1, abandon .bus (setSeg .bus
        (some rawSegment) (programRaw data ([0, 0, 0] ++ leBytes 4 data.length) (setSeg .bus none u)).2)) := by
  have hlimit : domainLimit u 0x4020 = (rawLeft u, false) := rfl
  have htotal : rawSegment.taken + data.length = data.length := Nat.zero_add _
  have hindex : rawSegment.index.toNat = 0x4020 := rfl
  have hin : (decide (rawLeft u < data.length) || (true && false && decide (data.length < rawLeft u))) = false := by
    simpa using hlen
  simp only [segTake, hindex, hlimit, htotal, hin, Bool.false_eq_true, if_false]
  rfl

theorem programRaw_taken {data : List Byte} {resp : List Byte} {u : State} (hst : inSRF u = true)
    (halign : u.flash.rawAddr.toNat % 256 = 0) (hpos : 0 < data.length) (hlen : data.length ≤ rawLeft u) :
    programRaw data resp u = if rawWriteAllowed u (rawSector u) = .done then
      (.done, rawJob (programs (rawSector u) (u.flash.rawAddr.toNat % 65536 / 256) data) resp u)
    else rawRefused (rawWriteAllowed u (rawSector u)) u := by
  have hstate : rawState u false = true := by simp [rawState, hst]
  have hsize : (decide (data.length = 0) || decide (rawLeft u < data.length)) = false := by
    simp only [Bool.or_eq_false_iff, decide_eq_false_iff_not]
    omega
  by_cases ha : rawWriteAllowed u (rawSector u) = .done
  · simp only [programRaw, hstate, halign, hsize, ha, Bool.not_true, Bool.false_eq_true, if_false, if_true, ne_eq,
      not_true]
  · simp only [programRaw, hstate, halign, hsize, Bool.not_true, Bool.false_eq_true, if_false, ne_eq, not_true, if_neg ha,
      if_pos ha]

/-- A job of the host's raw access: its response waits for the job's end, and the job is queued. -/
theorem rawJob_queued (ops : List FlashPrim) (resp : List Byte) {s u : State} (hq : queue u = queue s)
    (hlow : s.supply.aonLow = true) (hu : u.supply.aonLow = s.supply.aonLow) :
    (rawJob ops resp u).bus.busy = true ∧ queued s (rawJob ops resp u) .raw ops := by
  refine ⟨?_, queued_flashKick .raw ops hq hu⟩
  have hwaits : rawJob ops resp u = queueJob .raw ops { u with bus := { u.bus with busy := true, resp := resp } } :=
    flashKick_waits (s := queueJob .raw ops { u with bus := { u.bus with busy := true, resp := resp } }) (hu.trans hlow)
  rw [hwaits]
  rfl

theorem rawJob_frame (ops : List FlashPrim) (resp : List Byte) (u : State) : rawJob ops resp u = { u with
    flash := (rawJob ops resp u).flash, irq := (rawJob ops resp u).irq, bus := (rawJob ops resp u).bus
    sec := (rawJob ops resp u).sec, free := (rawJob ops resp u).free } := by
  apply State.ext <;> simp

/-- The end of a transfer of 0x4020.02 that is refused: it is abandoned, and 0x4020.04 reads REFUSED. -/
theorem rawRefused_abandoned {a : Abort} {u : State} (h : u.bus.busy = false) :
    (abandon .bus (setSeg .bus (some rawSegment) (rawRefused a u).2)).bus.busy = false ∧
    (abandon .bus (setSeg .bus (some rawSegment) (rawRefused a u).2)).flash = { u.flash with rawResult := 3 } := by
  have heq : abandon .bus (setSeg .bus (some rawSegment) (rawRefused a u).2) = raise 156 (setSeg .bus none
      { setSeg .bus (some rawSegment) (rawRefused a u).2 with bus := {
          (setSeg .bus (some rawSegment) (rawRefused a u).2).bus with abandonedSegs := satInc u.bus.abandonedSegs } }) := rfl
  rw [heq]
  refine ⟨raise_idle _ _ h, ?_⟩
  rw [(raise_keeps _ _).2.2.2.2.2.2.2.1]
  rfl

/-- The state in which a raw program's one segment is taken: the transfer has met the bus, and none is open. -/
def segmentIn (s : State) : State := setSeg .bus none (onBus (fun b => { b with ack := true }) s)

theorem rawProgram_served {s : State} {data : List Byte} (h : opens s 0x4020 2) (hst : inSRF s = true)
    (halign : s.flash.rawAddr.toNat % 256 = 0) (hpos : 0 < data.length) (hlen : data.length ≤ rawLeft s) :
    exec (.rawProgram data) s = .next (serveSegWrite 0x4020 2 0 true data (touch s)) ∧
    odSegWrite .bus 0x4020 2 0 true data (touch s) = if rawWriteAllowed s (rawSector s) = .done then
      (.done, rawJob (programs (rawSector s) (s.flash.rawAddr.toNat % 65536 / 256) data)
        ([0, 0, 0] ++ leBytes 4 data.length) (segmentIn s))
    else rawRefused (rawWriteAllowed s (rawSector s)) (abandon .bus (setSeg .bus (some rawSegment)
      (rawRefused (rawWriteAllowed s (rawSector s)) (segmentIn s)).2)) := by
  have hhold : s.sys.st ≠ .hold := by rintro h; simp [inSRF, h] at hst
  have htouch := touch_of_not_hold s hhold
  have hprogram := programRaw_taken (data := data) (resp := [0, 0, 0] ++ leBytes 4 data.length) (u := segmentIn s) hst
    halign hpos hlen
  refine ⟨by simp only [exec, execRawProgram, hostSegWrite, hostRequest_served _ h.1], ?_⟩
  have hseg := opened_segment true data h
  have htake := segTake_raw (data := data) (u := onBus (fun b => { b with ack := true }) s) hlen
  rw [odSegWrite, hseg, htouch]
  refine (congrArg (rawNoted .bus 0x4020 2) htake).trans ?_
  change rawNoted .bus 0x4020 2 (if (programRaw data _ (segmentIn s)).1 = .done then programRaw data _ (segmentIn s) else
    ((programRaw data _ (segmentIn s)).1, abandon .bus (setSeg .bus (some rawSegment)
      (programRaw data _ (segmentIn s)).2))) = _
  rw [hprogram]
  by_cases ha : rawWriteAllowed s (rawSector s) = .done
  · have ha' : rawWriteAllowed (segmentIn s) (rawSector (segmentIn s)) = .done := ha
    rw [if_pos ha', if_pos ha]
    rfl
  · have ha' : ¬ rawWriteAllowed (segmentIn s) (rawSector (segmentIn s)) = .done := ha
    rw [if_neg ha', if_neg ha]
    have hfirst : (rawRefused (rawWriteAllowed (segmentIn s) (rawSector (segmentIn s))) (segmentIn s)).1 =
      rawWriteAllowed s (rawSector s) := rfl
    rw [hfirst, if_neg ha, rawNoted]
    simp only [ha, decide_true, Bool.true_and, Bool.true_or, ne_eq, not_false_eq_true, if_true]
    rfl

/-- A raw job that its sector's class lets the host start, once its request is in. -/
theorem rawJob_started {s u : State} (ops : List FlashPrim) (resp : List Byte) (hlow : s.supply.aonLow = true)
    (hu : u = { s with bus := u.bus }) : (rawJob ops resp u).bus.busy = true ∧ queued s (rawJob ops resp u) .raw ops ∧
    rawJob ops resp u = { s with flash := (rawJob ops resp u).flash, irq := (rawJob ops resp u).irq
                                 bus := (rawJob ops resp u).bus, sec := (rawJob ops resp u).sec
                                 free := (rawJob ops resp u).free } := by
  have hq : queue u = queue s := by rw [hu]; rfl
  have hsupply : u.supply.aonLow = s.supply.aonLow := by rw [hu]
  obtain ⟨hbusy, hqueued⟩ := rawJob_queued ops resp hq hlow hsupply
  refine ⟨hbusy, hqueued, ?_⟩
  refine (rawJob_frame ops resp u).trans ?_
  rw [hu]

theorem row4020_3 : rowOf 0x4020 3 = some (wo 0x4020 1 3 1 .u8 1 0 31) := by rfl

theorem rawErase_served {s : State} {sector : Byte} (h : takes s 0x4020 3 [sector]) (hst : inSRF s = true)
    (hsec : sector.toNat ≤ 31) : exec (.rawErase sector) s = .next (written
      (if rawWriteAllowed s sector.toNat = .done then
        (.done, rawJob [.erase (sectorFin sector.toNat)] [0, 0, 0] (onBus (fun b => { b with ack := true }) s))
      else rawRefused (rawWriteAllowed s sector.toNat) (rawRefused (rawWriteAllowed s sector.toNat)
        (onBus (fun b => { b with ack := true }) s)).2)) := by
  have hhold : s.sys.st ≠ .hold := by rintro h; simp [inSRF, h] at hst
  have htouch := touch_of_not_hold s hhold
  obtain ⟨hfree, hchecks⟩ := h
  have hidle : idleTrigger 0x4020 3 [sector] = false := by simp [idleTrigger, row4020_3, wo]
  have hobject : objectWrite .bus 0x4020 3 [sector] [0, 0, 0] (touch s) = eraseRaw sector [0, 0, 0] (touch s) := by
    simp only [objectWrite, hchecks, hidle, row4020_3, ne_eq, not_true, Bool.false_eq_true, if_false]
    simp [writeEffect, wo, leNat]
  have herase : eraseRaw sector [0, 0, 0] (touch s) = if rawWriteAllowed s sector.toNat = .done then
        (.done, rawJob [.erase (sectorFin sector.toNat)] [0, 0, 0] (onBus (fun b => { b with ack := true }) s))
      else rawRefused (rawWriteAllowed s sector.toNat) (onBus (fun b => { b with ack := true }) s) := by
    have hstate : rawState (onBus (fun b => { b with ack := true }) s) false = true := by
      simp [rawState, inSRF] at hst ⊢
      exact hst
    have hallow : rawWriteAllowed (onBus (fun b => { b with ack := true }) s) sector.toNat =
      rawWriteAllowed s sector.toNat := rfl
    rw [htouch]
    by_cases ha : rawWriteAllowed s sector.toNat = .done
    · simp only [eraseRaw, hstate, hallow, ha, Nat.not_lt.mpr hsec, Bool.not_true, Bool.false_eq_true, ne_eq, not_true,
        if_false, if_true]
    · simp only [eraseRaw, hstate, hallow, ha, Nat.not_lt.mpr hsec, Bool.not_true, Bool.false_eq_true, ne_eq,
        not_false_eq_true, if_false, if_true]
  simp only [exec, execRawErase, hostWrite, hostRequest_served _ hfree, odWrite, hobject, herase]
  by_cases ha : rawWriteAllowed s sector.toNat = .done
  · rw [if_pos ha, if_pos ha]
    rfl
  · rw [if_neg ha, if_neg ha, rawNoted]
    have hfirst : (rawRefused (rawWriteAllowed s sector.toNat) (onBus (fun b => { b with ack := true }) s)).1 =
      rawWriteAllowed s sector.toNat := rfl
    rw [hfirst]
    simp only [ha, decide_true, Bool.true_and, Bool.or_true, ne_eq, not_false_eq_true, if_true]

theorem written_rawRefused {a : Abort} {u : State} (h : u.bus.busy = false) :
    written (rawRefused a u) = reply a [] (rawRefused a u).2 := written_eq_reply h

theorem rawWrites : Claims.RawWrites := by
  intro s data sector hst hlow
  refine ⟨fun h hpos hlen halign => ⟨fun ha => ?_, fun ha => ?_⟩, fun h hsec => ⟨fun ha => ?_, fun ha => ?_⟩⟩
  · obtain ⟨hexec, hserved⟩ := rawProgram_served h hst halign hpos hlen
    have hstarted := rawJob_started (u := segmentIn s) (programs (rawSector s) (s.flash.rawAddr.toNat % 65536 / 256) data)
      ([0, 0, 0] ++ leBytes 4 data.length) hlow rfl
    rw [if_pos ha] at hserved
    refine ⟨_, hexec, ?_⟩
    simp only [serveSegWrite, hserved, hstarted.1, if_true]
    exact ⟨trivial, hstarted.2⟩
  · obtain ⟨hexec, hserved⟩ := rawProgram_served h hst halign hpos hlen
    have hidle : (segmentIn s).bus.busy = false := busFree_busy h.1
    obtain ⟨hbusy, hflash⟩ := rawRefused_abandoned (a := rawWriteAllowed s (rawSector s)) hidle
    rw [if_neg ha] at hserved
    generalize abandon .bus (setSeg .bus (some rawSegment) (rawRefused (rawWriteAllowed s (rawSector s))
      (segmentIn s)).2) = left at hserved hbusy hflash
    have hbusy' : (rawRefused (rawWriteAllowed s (rawSector s)) left).2.bus.busy = false := hbusy
    have hreply : serveSegWrite 0x4020 2 0 true data (touch s) = reply (rawWriteAllowed s (rawSector s)) []
        (rawRefused (rawWriteAllowed s (rawSector s)) left).2 := by
      simp only [serveSegWrite, hserved, hbusy', Bool.false_eq_true, if_false]
      exact if_neg ha
    refine ⟨_, hexec, ?_, ?_⟩
    · rw [hreply]; exact answered_reply _ _ hbusy'
    · rw [hreply]
      change { left.flash with rawResult := 3 } = _
      rw [hflash]
      rfl
  · rw [rawErase_served h hst hsec, if_pos ha]
    have hstarted := rawJob_started (u := onBus (fun b => { b with ack := true }) s)
      [.erase (sectorFin sector.toNat)] [0, 0, 0] hlow rfl
    refine ⟨_, rfl, ?_⟩
    simp only [written, hstarted.1, if_true]
    exact ⟨trivial, hstarted.2⟩
  · rw [rawErase_served h hst hsec, if_neg ha]
    have hidle : (rawRefused (rawWriteAllowed s sector.toNat) (onBus (fun b => { b with ack := true }) s)).2.bus.busy =
      false := busFree_busy h.1
    refine ⟨_, rfl, answered_written hidle, ?_⟩
    rw [written_rawRefused hidle]
    rfl

/-! ## The program store and firmware images -/

/-- What is done for a segment that brings work for the flash: its response waits. -/
theorem segmentJob_waits (kind : FlashKind) (op : FlashPrim) (ops : List FlashPrim) {u : State}
    (hlow : u.supply.aonLow = true) : segmentJob kind (op :: ops) u =
      queueJob kind (op :: ops) { u with bus := { u.bus with busy := true } } :=
  flashKick_waits (s := queueJob kind (op :: ops) { u with bus := { u.bus with busy := true } }) hlow

/-- What a first segment of the program store or of an image asks of the flash. -/
def firstSegment (i : Nat) (b : Nat) (data : List Byte) (u : State) : OpenSeg × State :=
  if i = 0x2200 then storeSegment ⟨BitVec.ofNat 16 i, BitVec.ofNat 8 b, 0, []⟩ data false u
  else imageSegment ⟨BitVec.ofNat 16 i, BitVec.ofNat 8 b, 0, []⟩ data false u

/-- The response of a segment that waits for its work is ready. -/
def responding (data : List Byte) (u : State) : State := { u with
  bus := { u.bus with resp := if u.bus.busy then [0, 0, 0] ++ leBytes 4 data.length else u.bus.resp } }

theorem serveSegWrite_first {s : State} {i b : Nat} {data : List Byte} (hi : i = 0x2200 ∨ i = 0xA030) (h : opens s i b)
    (hlen : data.length ≤ 256) (hbusy : (firstSegment i b data (touch s)).2.bus.busy = true) :
    serveSegWrite i b 0 false data (touch s) = setSeg .bus (some (firstSegment i b data (touch s)).1)
      (responding data (firstSegment i b data (touch s)).2) := by
  have hseg := opened_segment false data h
  have hfull : ∀ lim : Nat × Bool, 256 ≤ lim.1 →
      (decide (lim.1 < data.length) || (false && lim.2 && decide (data.length < lim.1))) = false := by
    intro lim hlim
    simp only [Bool.false_and, Bool.or_false, decide_eq_false_iff_not]
    omega
  have htake : segTake .bus ⟨BitVec.ofNat 16 i, BitVec.ofNat 8 b, 0, []⟩ false data (touch s) =
      (.done, setSeg .bus (some (firstSegment i b data (touch s)).1)
        (responding data (firstSegment i b data (touch s)).2)) := by
    rcases hi with rfl | rfl
    · have hindex : (BitVec.ofNat 16 0x2200).toNat = 0x2200 := rfl
      have hin := hfull (domainLimit (touch s) 0x2200) (by show 256 ≤ 32768; decide)
      simp only [segTake, hindex, Nat.zero_add, hin, Bool.false_eq_true, if_false]
      rfl
    · have hindex : (BitVec.ofNat 16 0xA030).toNat = 0xA030 := rfl
      have hin := hfull (domainLimit (touch s) 0xA030) (by show 256 ≤ 524288; decide)
      simp only [segTake, hindex, Nat.zero_add, hin, Bool.false_eq_true, if_false]
      rfl
  have hnoted : odSegWrite .bus i b 0 false data (touch s) = (.done, setSeg .bus (some (firstSegment i b data (touch s)).1)
      (responding data (firstSegment i b data (touch s)).2)) := by
    rw [odSegWrite, hseg, htake, rawNoted]
    simp
  have hwaits : (setSeg .bus (some (firstSegment i b data (touch s)).1)
      (responding data (firstSegment i b data (touch s)).2)).bus.busy = true := hbusy
  simp only [serveSegWrite, hnoted, hwaits, if_true]

/-- The first segment of the program store asks for the erase of the bank that does not run. -/
theorem firstSegment_store (b : Nat) (data : List Byte) {u : State} (hlow : u.supply.aonLow = true) :
    ∃ rest left, firstSegment 0x2200 b data u = (⟨0x2200, BitVec.ofNat 8 b, 0 + data.length, left⟩,
      queueJob (.store false) (.erase (sectorFin (if u.flash.progBank then 24 else 25)) :: rest)
        { storeOpened u with bus := { u.bus with busy := true } }) := by
  have hsector : storeSector (storeOpened u).flash.storeBank = if u.flash.progBank then 24 else 25 := by
    change storeSector (!u.flash.progBank) = _
    cases u.flash.progBank <;> rfl
  refine ⟨areaPrograms (if u.flash.progBank then 24 else 25) (segmentBase ⟨0x2200, BitVec.ofNat 8 b, 0, []⟩)
    (segmentPages ⟨0x2200, BitVec.ofNat 8 b, 0, []⟩ data false).1,
    (segmentPages ⟨0x2200, BitVec.ofNat 8 b, 0, []⟩ data false).2, ?_⟩
  have hjob := segmentJob_waits (.store false) (.erase (sectorFin (if u.flash.progBank then 24 else 25)))
    (areaPrograms (if u.flash.progBank then 24 else 25) (segmentBase ⟨0x2200, BitVec.ofNat 8 b, 0, []⟩)
      (segmentPages ⟨0x2200, BitVec.ofNat 8 b, 0, []⟩ data false).1) (u := storeOpened u) hlow
  simp only [firstSegment, if_true, storeSegment, hsector]
  exact Prod.ext rfl hjob

theorem setUpdate_sec (v : Byte) (u : State) : (setUpdate v u).sec.update = v ∧
    (setUpdate v u).sec.running = u.sec.running := by
  unfold setUpdate
  split_ifs with h
  · exact ⟨h, rfl⟩
  · simp

/-- An image's transfer begun: the image is no valid one from then on. -/
def imageOpened (u : State) : State := onSec (fun x => { x with inactiveVersion := 0 }) (setUpdate 1 u)

/-- The first segment of an image asks for the erase of the sectors of the image that does not run. -/
theorem firstSegment_image (b : Nat) (data : List Byte) {u : State} (hlow : u.supply.aonLow = true) :
    ∃ rest left, firstSegment 0xA030 b data u = (⟨0xA030, BitVec.ofNat 8 b, 0 + data.length, left⟩,
      queueJob .image (.erase (sectorFin (imageBase (updateImage u) / 65536)) :: rest)
        { imageOpened u with bus := { (imageOpened u).bus with busy := true } }) := by
  have hlow' : (imageOpened u).supply.aonLow = true := by simpa [imageOpened] using hlow
  refine ⟨(List.range' 1 7).map (fun i => FlashPrim.erase (sectorFin (imageBase (updateImage u) / 65536 + i))) ++
    areaPrograms (imageBase (updateImage u) / 65536) (segmentBase ⟨0xA030, BitVec.ofNat 8 b, 0, []⟩)
      (segmentPages ⟨0xA030, BitVec.ofNat 8 b, 0, []⟩ data false).1,
    (segmentPages ⟨0xA030, BitVec.ofNat 8 b, 0, []⟩ data false).2, ?_⟩
  rw [← segmentJob_waits .image _ _ hlow']
  rfl

theorem storeAndImageSegments : Claims.StoreAndImageSegments := by
  intro s data hlow hpos hlen
  have hlow' : (touch s).supply.aonLow = true := (aonLow_touch s).trans hlow
  have hflash : (touch s).flash = s.flash := by simp
  refine ⟨fun h => ?_, fun h => ?_⟩
  · obtain ⟨rest, left, hfirst⟩ := firstSegment_store 1 data hlow'
    have hserved := serveSegWrite_first (Or.inl rfl) h hlen (by rw [hfirst]; rfl)
    have hexec : exec (.programStoreWrite 0 false data) s = .next (serveSegWrite 0x2200 1 0 false data (touch s)) := by
      simp only [exec, execProgramStoreWrite, hostSegWrite, hostRequest_served _ h.1]
      rfl
    refine ⟨_, hexec, ?_⟩
    rw [hserved, hfirst]
    refine ⟨rfl, ⟨⟨0x2200, 1, 0 + data.length, left⟩, rfl, rfl, rfl, Nat.zero_add data.length⟩, rfl, ?_, ?_, rest, ?_, fun _ => ?_⟩
    · exact (congrArg Flash.progBank hflash :)
    · exact (congrArg Flash.pages hflash :)
    · exact (congrArg (fun f : Flash => f.nextJob + 1) hflash :)
    · rw [← hflash]
      rfl
  · obtain ⟨rest, left, hfirst⟩ := firstSegment_image 1 data hlow'
    have hserved := serveSegWrite_first (Or.inr rfl) h hlen (by rw [hfirst]; rfl)
    have hexec : exec (.firmwareImage 0 false data) s = .next (serveSegWrite 0xA030 1 0 false data (touch s)) := by
      simp only [exec, execFirmwareImage, hostSegWrite, hostRequest_served _ h.1]
      rfl
    have himage : updateImage (touch s) = updateImage s := by simp [updateImage]
    have hopened : (imageOpened (touch s)).flash = s.flash := by simp [imageOpened]
    refine ⟨_, hexec, ?_⟩
    rw [hserved, hfirst, himage]
    refine ⟨rfl, ⟨⟨0xA030, 1, 0 + data.length, left⟩, rfl, rfl, rfl, Nat.zero_add data.length⟩, ?_, rfl, ?_, ?_, rest, ?_, fun _ => ?_⟩
    · exact (setUpdate_sec 1 (touch s)).1
    · exact ((setUpdate_sec 1 (touch s)).2).trans (by simp)
    · exact (congrArg Flash.pages hopened :)
    · exact (congrArg (fun f : Flash => f.nextJob + 1) hopened :)
    · rw [← hopened]
      rfl

/-- Settles O28: reads through the array that is free, writes through the jobs that they queue. -/
theorem flashTransfers : Obligations.FlashTransfers := ⟨rawReads, rawWrites, storeAndImageSegments⟩

end Sys2Proof.OptionFlash
end

section
/-! PROOF. The host's commands at a rank as Safelight meets them (R221 to R228, R235): rows, self-refresh, power-down,
mode registers, training windows. -/

namespace Sys2Proof.Safelight

open Sys2Proof Sys2Proof.Machine Sys2Proof.Claims Sys2Proof.Families Sys2Proof.DeviceStates Sys2Proof.Sequencing
  Sys2Proof.TilePorts

/-! ## How a command is met -/

theorem subOfRank_rankIx (r : RankId) : subOfRank (rankIx r) = subIx r.side r.sub := by
  have := r.rank.isLt
  apply Fin.ext
  simp only [subOfRank, rankIx, subIx]
  omega

theorem veiled_subOfRank (s : State) (r : RankId) :
    (s.light.subs[subOfRank (rankIx r)]).veiled = (s.light.subs[subIx r.side r.sub]).veiled :=
  congrArg (fun k : Fin 8 => (s.light.subs[k]).veiled) (subOfRank_rankIx r)

theorem hostCommand_decoded {s : State} {r : RankId} {rowOk : Bool} (array f : State → State) (h : decodes s r rowOk) :
    hostCommand r rowOk array f s = f s := by
  rw [hostCommand, h]

theorem hostCommand_off {s : State} {r : RankId} {rowOk : Bool} (array f : State → State) (h : meets s r rowOk = .off) :
    hostCommand r rowOk array f s = if reaches s r rowOk then array s else s := by
  rw [hostCommand, h]

theorem hostCommand_held {s : State} {r : RankId} {rowOk : Bool} (array f : State → State)
    (h : meets s r rowOk = .held) : hostCommand r rowOk array f s = commandHeld s := by
  rw [hostCommand, h]

/-- A veil ends only where there is one. -/
theorem veilCheck_clear {s : State} {k : Fin 8} (h : (s.light.subs[k]).veiled = false) : veilCheck k s = s := by
  have hover : veilOver s k = false := by simp only [veilOver, h, Bool.false_and]
  simp only [veilCheck, hover, Bool.false_eq_true, if_false]

/-! ## One rank changed -/

theorem onRank_same (k : Fin 16) (f : RankModel → RankModel) (s : State) :
    (onRank k f s).light.ranks[k] = f s.light.ranks[k] := upd_same _ _ _

theorem onRank_other {k n : Fin 16} (f : RankModel → RankModel) (s : State) (h : n ≠ k) :
    (onRank k f s).light.ranks[n] = s.light.ranks[n] := upd_other _ _ _ _ h.symm

theorem onRank_onRank (k : Fin 16) (f g : RankModel → RankModel) (s : State) :
    onRank k f (onRank k g s) = onRank k (fun m => f (g m)) s := by
  simp only [onRank, onLight, upd_upd]

/-- Only one rank has changed, by a change of its model. -/
theorem onlyRank_onRank {s : State} {r : RankId} {f : RankModel → RankModel} {m : RankModel}
    (h : f s.light.ranks[rankIx r] = m) : onlyRank s (onRank (rankIx r) f s) r m := by
  simp only [onlyRank, onRank, onLight]
  rw [upd_congr _ _ (g := fun _ => m) h]

/-! ## Activate and precharge -/

/-- A row opened at a rank of which the rest of the model is as it was. -/
theorem activateRow_eq (k : Fin 16) (bank row : Nat) (s : State) : activateRow k bank row s =
    addHeat (groupOf (frameOf k bank row)) (onRank k (fun m => { m with
      rows := aput m.rows bank row, refreshing := false, st := .active }) s) := by
  rw [activateRow, openRow, onRank_onRank]
  rfl

/-- A rank whose banks are closed, on a sub-channel that is not veiled. -/
theorem prechargeBanks_some {k : Fin 16} {bank : Nat} {s : State} (hv : (s.light.subs[subOfRank k]).veiled = false) :
    prechargeBanks k (some bank) s = onRank k (fun m => { m with
      rows := adel m.rows bank, refreshing := false, st := settledState { m with rows := adel m.rows bank } }) s := by
  have hclear (f : RankModel → RankModel) : veilCheck (subOfRank k) (onRank k f s) = onRank k f s :=
    veilCheck_clear (s := onRank k f s) hv
  rw [prechargeBanks, closeRows, onRank_onRank, hclear]
  simp [decoded, settledState, bankState]

theorem prechargeBanks_none {k : Fin 16} {s : State} (hv : (s.light.subs[subOfRank k]).veiled = false) :
    prechargeBanks k none s = onRank k (fun m => { m with
      rows := [], refreshing := false, settled := true, st := .idle }) s := by
  have hclear (f : RankModel → RankModel) : veilCheck (subOfRank k) (onRank k f s) = onRank k f s :=
    veilCheck_clear (s := onRank k f s) hv
  rw [prechargeBanks, closeRows, onRank_onRank, hclear]
  simp [decoded]

theorem activateAndPrecharge : Claims.ActivateAndPrecharge := by
  rintro s r bank row m rfl
  refine ⟨fun h => ?_, fun h hv => ⟨?_, ?_⟩⟩
  · have hexec : exec (.activate r bank row) s = .next (activateRow (rankIx r) bank.val row.toNat s) := by
      simp only [exec, execActivate, hostCommand_decoded _ _ h]
    refine ⟨_, hexec, ?_⟩
    rw [activateRow_eq]
    refine ⟨onRank_same _ _ _, ?_, fun g hg => ?_, fun k hk => onRank_other _ _ hk, rfl⟩
    · simp [heatOf, addHeat, onLight, onRank]
    · simp [heatOf, addHeat, onLight, onRank, aget_aput_other _ _ _ _ hg]
  · have hv' : (s.light.subs[subOfRank (rankIx r)]).veiled = false := (veiled_subOfRank s r).trans hv
    refine ⟨prechargeBanks (rankIx r) (some bank.val) s, ?_, ?_⟩
    · simp only [exec, execPrecharge, hostCommand_decoded _ _ h, Option.map_some]
    · rw [prechargeBanks_some hv']
      exact onlyRank_onRank rfl
  · have hv' : (s.light.subs[subOfRank (rankIx r)]).veiled = false := (veiled_subOfRank s r).trans hv
    refine ⟨prechargeBanks (rankIx r) none s, ?_, ?_⟩
    · simp only [exec, execPrecharge, hostCommand_decoded _ _ h, Option.map_none]
    · rw [prechargeBanks_none hv']
      exact onlyRank_onRank rfl

/-! ## Writes to the array -/

/-- A frame that a write reached is remembered while a window or a veil is open; it holds what it holds. -/
theorem noteArray_frame (f : Nat) (s : State) : noteArray f s = { s with light := { s.light with
    suspect := (noteArray f s).light.suspect, writes := (noteArray f s).light.writes } } := by
  unfold noteArray
  split_ifs <;> rfl

/-- A write to the open row of a bank, as the array takes it. -/
theorem arrayWrite_open {k : Fin 16} {bank column row : Nat} {data : List Byte} {s : State}
    (h : aget (s.light.ranks[k]).rows bank = some row) : arrayWrite k bank column data s =
      noteArray (frameOf k bank row) (writeRow (frameOf k bank row) row column data s) := by
  rw [arrayWrite, h]

theorem arrayWrite_closed {k : Fin 16} {bank column : Nat} {data : List Byte} {s : State}
    (h : aget (s.light.ranks[k]).rows bank = none) : arrayWrite k bank column data s = s := by
  rw [arrayWrite, h]

/-- What a frame holds depends on the array alone. -/
theorem frameContent_reads {s t : State} (hd : t.light.dram = s.light.dram) (hf : t.light.fill = s.light.fill) (f : Nat) :
    frameContent t f = frameContent s f := by
  simp only [frameContent, hd, hf]

theorem frameContent_aput_same (f : Nat) (v : BitVec 32768) (s : State) :
    frameContent (onLight (fun l => { l with dram := aput l.dram f v }) s) f = v := by
  simp only [frameContent, onLight, aget_aput_same]

theorem frameContent_aput_other {f g : Nat} (v : BitVec 32768) (s : State) (h : g ≠ f) :
    frameContent (onLight (fun l => { l with dram := aput l.dram f v }) s) g = frameContent s g := by
  simp only [frameContent, onLight, aget_aput_other _ _ _ _ h]

/-- What a write to an open row leaves in the array, and what else it may change. -/
theorem arrayWrite_wrote {k : Fin 16} {bank column row : Nat} {data : List Byte} {s : State}
    (h : aget (s.light.ranks[k]).rows bank = some row) :
    frameContent (arrayWrite k bank column data s) (frameOf k bank row) =
      overwrite (frameContent s (frameOf k bank row)) (row % 2 * 2048 + column) (data.take (2048 - column)) ∧
    (∀ g, g ≠ frameOf k bank row → frameContent (arrayWrite k bank column data s) g = frameContent s g) ∧
    arrayWrite k bank column data s = { s with light := { s.light with
      dram := (arrayWrite k bank column data s).light.dram, suspect := (arrayWrite k bank column data s).light.suspect
      writes := (arrayWrite k bank column data s).light.writes } } := by
  have hnote (f : Nat) (u : State) (g : Nat) : frameContent (noteArray f u) g = frameContent u g :=
    frameContent_reads (by rw [noteArray_frame]) (by rw [noteArray_frame]) g
  rw [arrayWrite_open h]
  refine ⟨?_, fun g hg => ?_, ?_⟩
  · rw [hnote]; exact frameContent_aput_same _ _ s
  · rw [hnote]; exact frameContent_aput_other _ s hg
  · rw [noteArray_frame]
    rfl

theorem hostWrites : Claims.HostWrites := by
  intro s r bank column data h
  have hexec : exec (.hostWrite r bank column data) s = .next (writeOpen (rankIx r) bank.val column data s) := by
    simp only [exec, execHostWrite, hostCommand_decoded _ _ h]
  have hrows : ((onRank (rankIx r) (decoded id settledState) s).light.ranks[rankIx r]).rows =
      (s.light.ranks[rankIx r]).rows := by rw [onRank_same]; rfl
  refine ⟨fun hnone => ?_, fun row f hrow hf => ?_⟩
  · have hopen : writeOpen (rankIx r) bank.val column data s = onRank (rankIx r) (decoded id settledState) s := by
      rw [writeOpen, arrayWrite_closed (by rw [hrows]; exact hnone), hnone]
    refine ⟨_, hexec, ?_⟩
    rw [hopen]
    exact onlyRank_onRank rfl
  · subst hf
    have hopen : writeOpen (rankIx r) bank.val column data s = markDirty
        [(frameOf (rankIx r) bank.val row, frameOf (rankIx r) bank.val row + 1)]
        (arrayWrite (rankIx r) bank.val column data (onRank (rankIx r) (decoded id settledState) s)) := by
      rw [writeOpen, hrow]
    obtain ⟨hsame, hother, hframe⟩ := arrayWrite_wrote (column := column) (data := data)
      (s := onRank (rankIx r) (decoded id settledState) s) ((congrArg (fun m => aget m bank.val) hrows).trans hrow)
    refine ⟨_, hexec, ?_⟩
    rw [hopen]
    refine ⟨?_, ?_, fun g hg => ?_, ?_, ?_⟩
    · rw [hframe]; rfl
    · exact hsame
    · exact hother g hg
    · rw [hframe]; rfl
    · rw [hframe]; rfl

/-! ## A veil that begins -/

/-- Changes of several ranks, one after the other, are one change of the ranks. -/
theorem foldl_onRank (l : List (Fin 16)) (g : RankModel → RankModel) (s : State) :
    l.foldl (fun (s : State) r => onRank r g s) s =
      onLight (fun x => { x with ranks := l.foldl (fun w r => upd w r g) x.ranks }) s := by
  induction l generalizing s with
  | nil => rfl
  | cons r l ih => exact (ih _).trans rfl

/-- A rank under a veil that has just begun. -/
def unknown (m : RankModel) : RankModel := { m with settled := false, certainNot := [(0, 256)] }

/-- The sub-channel as the veil finds it; a command bus training that stays open is noted. -/
def veilCaused (cause : Nat) (x : SubModel) : SubModel := if cause = 3 then { x with training := true } else x

/-- Safelight once a veil has begun on a sub-channel that had none. -/
def veiledLight (k : Fin 8) (cause : Nat) (s : State) : Light := { s.light with
  suspect := (watchWrites s).light.suspect
  veilCause := BitVec.ofNat 8 cause
  ranks := (ranksOfSub s k).foldl (fun w r => upd w r unknown) s.light.ranks
  subs := upd s.light.subs k (fun m => { veilCaused cause m with veiled := true, veilAt := s.light.writes })
  veils := satInc s.light.veils
  quiet := false
  dirty := allFrames s }

theorem watchWrites_frame (s : State) : watchWrites s = { s with light := { s.light with
    suspect := (watchWrites s).light.suspect } } := by
  unfold watchWrites
  split_ifs <;> rfl

theorem veilBegins_eq {k : Fin 8} {s : State} (cause : Nat) (h : (s.light.subs[k]).veiled = false) :
    veilBegins k cause s = raise 128 { s with light := veiledLight k cause s } := by
  have hwas : ((s.light.subs[k]).veiled = true) = False := eq_false (by rw [h]; exact Bool.false_ne_true)
  have hframes (l : Light) : allFrames { s with light := l } = allFrames s := allFrames_reads ⟨rfl, rfl⟩
  have hranks (l : Light) : ranksOfSub { s with light := l } k = ranksOfSub s k := by
    simp only [ranksOfSub, ranksThere_reads (s := s) (t := { s with light := l }) ⟨rfl, rfl⟩]
  unfold veilBegins
  dsimp only
  rw [watchWrites_frame]
  by_cases h3 : cause = 3
  · simp only [h3, if_true, foldl_onRank, onSub, onLight, markAll, hranks, hframes, hwas, if_false, upd_upd, veiledLight,
      veilCaused]
    rfl
  · simp only [h3, foldl_onRank, onSub, onLight, markAll, hranks, hframes, hwas, if_false, veiledLight,
      veilCaused]
    rfl

/-- A cause that arises under a veil is recorded, and asks for certain states anew. -/
theorem veilBegins_again {k : Fin 8} {s : State} (cause : Nat) (h : (s.light.subs[k]).veiled = true) :
    veilBegins k cause s = { s with light := { s.light with
      suspect := (watchWrites s).light.suspect
      veilCause := BitVec.ofNat 8 cause
      ranks := (veiledLight k cause s).ranks
      subs := upd s.light.subs k (veilCaused cause) } } := by
  have hranks (l : Light) : ranksOfSub { s with light := l } k = ranksOfSub s k := by
    simp only [ranksOfSub, ranksThere_reads (s := s) (t := { s with light := l }) ⟨rfl, rfl⟩]
  unfold veilBegins
  dsimp only
  rw [if_pos h, watchWrites_frame]
  by_cases h3 : cause = 3
  · simp only [h3, if_true, foldl_onRank, onSub, onLight, hranks, veiledLight, veilCaused]
    rfl
  · have hsame : upd s.light.subs k (veilCaused cause) = s.light.subs := upd_fixed _ _ (if_neg h3)
    simp only [h3, foldl_onRank, onLight, hranks, if_false, veiledLight, hsame]
    rfl

theorem mem_ranksOfSub_nodup (s : State) (k : Fin 8) : (ranksOfSub s k).Nodup :=
  ((List.nodup_finRange 16).filter _).filter _

theorem veiledLight_rank {k : Fin 8} {s : State} (cause : Nat) (r : Fin 16) : (veiledLight k cause s).ranks[r] =
    if r ∈ ranksOfSub s k then unknown s.light.ranks[r] else s.light.ranks[r] :=
  foldl_upd_get (fun _ => unknown) _ (mem_ranksOfSub_nodup s k) _ r

theorem veiledLight_rows {k : Fin 8} {s : State} (cause : Nat) (r : Fin 16) :
    ((veiledLight k cause s).ranks[r]).rows = (s.light.ranks[r]).rows := by
  rw [veiledLight_rank]
  split_ifs <;> rfl

/-- A veil leaves the array and the rows that are open in it. -/
theorem veilBegins_array (k : Fin 8) (cause : Nat) (s : State) : (veilBegins k cause s).light.dram = s.light.dram ∧
    (veilBegins k cause s).light.fill = s.light.fill ∧
    ∀ r : Fin 16, ((veilBegins k cause s).light.ranks[r]).rows = (s.light.ranks[r]).rows := by
  cases hv : (s.light.subs[k]).veiled
  · rw [veilBegins_eq cause hv]
    have hlight := (raise_keeps 128 { s with light := veiledLight k cause s }).2.2.2.2.2.2.2.2.2.1
    rw [hlight]
    exact ⟨rfl, rfl, veiledLight_rows cause⟩
  · rw [veilBegins_again cause hv]
    exact ⟨rfl, rfl, veiledLight_rows cause⟩

/-! ## Writes that Safelight does not decode -/

theorem rankThere_sideThere {s : State} {r : RankId} (h : rankThere s (rankIx r) = true) :
    sideThere s r.side.val = true := by
  have hside : (rankIx r).val / 8 = r.side.val := by
    have := r.sub.isLt
    have := r.rank.isLt
    simp only [rankIx]
    omega
  simp only [rankThere, hside, Bool.and_eq_true] at h
  exact h.1

theorem undecodedWrites : Claims.UndecodedWrites := by
  intro s r bank column data row f hreach hrow hf hmeets
  subst hf
  rcases hmeets with hoff | hveil
  · have hexec : exec (.hostWrite r bank column data) s = .next (arrayWrite (rankIx r) bank.val column data s) := by
      simp only [exec, execHostWrite, hostCommand_off _ _ hoff, hreach, if_true]
    obtain ⟨hsame, hother, hframe⟩ := arrayWrite_wrote (column := column) (data := data) hrow
    refine ⟨_, hexec, hsame, hother, fun _ => ⟨?_, ?_⟩, fun h => ?_, ?_⟩
    · rw [hframe]
    · rw [hframe]
    · rw [hoff] at h; cases h
    · rw [hframe]
  · have hside : sideThere s r.side.val = true := by
      simp only [reaches, Bool.and_eq_true] at hreach
      exact rankThere_sideThere hreach.1.2
    have hexec : exec (.hostWrite r bank column data) s = .next (arrayWrite (rankIx r) bank.val column data
        (veilBegins (subIx r.side r.sub) 4 s)) := by
      simp [exec, execHostWrite, hostCommand, hveil, hreach, hside]
    obtain ⟨hdram, hfill, hrows⟩ := veilBegins_array (subIx r.side r.sub) 4 s
    obtain ⟨hsame, hother, hframe⟩ := arrayWrite_wrote (column := column) (data := data)
      (s := veilBegins (subIx r.side r.sub) 4 s) ((congrArg (fun m => aget m bank.val) (hrows _)).trans hrow)
    have hcontent := frameContent_reads hdram hfill
    refine ⟨_, hexec, hsame.trans (by rw [hcontent]), fun g hg => (hother g hg).trans (hcontent g), fun h => ?_,
      fun _ hv => ?_, ?_⟩
    · rw [hveil] at h; cases h
    · have hevent := raise_gotEvent_after (s := s) (u := { s with light := veiledLight (subIx r.side r.sub) 4 s }) 128
        (by decide) rfl
      have hlight := (raise_keeps 128 { s with light := veiledLight (subIx r.side r.sub) 4 s }).2.2.2.2.2.2.2.2.2.1
      rw [hframe, veilBegins_eq 4 hv, hlight]
      refine ⟨?_, rfl, rfl, hevent⟩
      exact congrArg SubModel.veiled (upd_same _ _ _)
    · rw [hframe]
      apply State.ext <;> simp

theorem refreshAndRead : Claims.RefreshAndRead := by
  rintro s r bank m rfl h
  refine ⟨⟨refreshRank (rankIx r) s, ?_, onlyRank_onRank rfl⟩, ⟨bankOnly (rankIx r) s, ?_, onlyRank_onRank rfl⟩⟩
  · simp only [exec, execRefresh, hostCommand_decoded _ _ h, refreshBank]
  · simp only [exec, execHostRead, hostCommand_decoded _ _ h]

/-- Settles O29: each command by what it does to its rank, to the array and to the maps. -/
theorem hostAccesses : Obligations.HostAccesses :=
  ⟨activateAndPrecharge, hostWrites, undecodedWrites, refreshAndRead⟩

end Sys2Proof.Safelight
end

section
/-! PROOF. Self-refresh, power-down, training windows, the relock, and mode-register writes (R221, R227, R229, R231,
R234, R235, R237). -/

namespace Sys2Proof.Safelight

open Sys2Proof Sys2Proof.Machine Sys2Proof.Claims Sys2Proof.Families Sys2Proof.DeviceStates Sys2Proof.Sequencing
  Sys2Proof.TilePorts

/-! ## Self-refresh and power-down -/

theorem onRank_ranks {k : Fin 16} {f : RankModel → RankModel} {m : RankModel} {s : State} (h : f s.light.ranks[k] = m) :
    (onRank k f s).light.ranks = upd s.light.ranks k (fun _ => m) := upd_congr _ _ h

theorem quiet_ranks (b : Bool) (s : State) : (onLight (fun l => { l with quiet := b }) s).light.ranks =
    s.light.ranks := rfl

theorem enterSelfRefresh_eq {k : Fin 16} {pd : Bool} {s : State} (hv : (s.light.subs[subOfRank k]).veiled = false) :
    enterSelfRefresh k pd s = onLight (fun l => { l with quiet := allParked (onRank k (fun m => { m with
      rows := [], srpd := pd, settled := true, refreshing := false, st := if pd then .srpd else .sr }) s) })
      (onRank k (fun m => { m with
        rows := [], srpd := pd, settled := true, refreshing := false, st := if pd then .srpd else .sr }) s) := by
  have hclear (f : RankModel → RankModel) : veilCheck (subOfRank k) (onRank k f s) = onRank k f s :=
    veilCheck_clear (s := onRank k f s) hv
  rw [enterSelfRefresh, closeRows, onRank_onRank, hclear]
  rfl

/-- Whether every rank is parked does not depend on the quiet window. -/
theorem allParked_quiet (b : Bool) (s : State) : allParked (onLight (fun l => { l with quiet := b }) s) = allParked s := by
  have hstate (r : Fin 16) : rankState (onLight (fun l => { l with quiet := b }) s) r = rankState s r := rfl
  have hthere : ranksThere (onLight (fun l => { l with quiet := b }) s) = ranksThere s := ranksThere_reads ⟨rfl, rfl⟩
  simp only [allParked, inSelfRefresh, hstate, hthere]

theorem selfRefreshAndPowerDown : Claims.SelfRefreshAndPowerDown := by
  rintro s r pd m rfl h
  refine ⟨fun hv => ?_, ?_, ?_, ?_⟩
  · have henter := enterSelfRefresh_eq (k := rankIx r) (pd := pd) ((veiled_subOfRank s r).trans hv)
    refine ⟨enterSelfRefresh (rankIx r) pd s, ?_, ?_, ?_, ?_⟩
    · simp only [exec, execSelfRefreshEntry, hostCommand_decoded _ _ h]
    · rw [henter, quiet_ranks]
      exact onRank_ranks rfl
    · rw [henter, allParked_quiet]
      rfl
    · rw [henter]
      rfl
  · have hexit : exitSelfRefresh (rankIx r) s = onLight (fun l => { l with quiet := false }) (onRank (rankIx r)
        (fun m => { m with rows := [], srpd := false, refreshing := false, st := .idle }) s) := by
      rw [exitSelfRefresh, closeRows, onRank_onRank]
      rfl
    refine ⟨exitSelfRefresh (rankIx r) s, ?_, rfl, ?_, ?_⟩
    · simp only [exec, execSelfRefreshExit, hostCommand_decoded _ _ h]
    · rw [hexit, quiet_ranks]
      exact onRank_ranks rfl
    · rw [hexit]
      rfl
  · refine ⟨enterPowerDown (rankIx r) s, ?_, fun hst => ?_, fun h1 h2 => ?_⟩
    · simp only [exec, execPowerDownEntry, hostCommand_decoded _ _ h]
    · exact onlyRank_onRank (if_pos (by simpa using hst))
    · exact onlyRank_onRank (if_neg (by simpa using ⟨h1, h2⟩))
  · refine ⟨exitPowerDown (rankIx r) s, ?_, fun hst => ?_, fun h1 h2 => ?_⟩
    · simp only [exec, execPowerDownExit, hostCommand_decoded _ _ h]
    · exact onlyRank_onRank (if_pos (by simpa using hst))
    · exact onlyRank_onRank (if_neg (by simpa using ⟨h1, h2⟩))

/-! ## Training windows and the relock -/

/-- The window that a multi-purpose command leaves. -/
def windowAfter (writes : Nat) (m : RankModel) : Option Bool → Option Nat
  | some true => some (m.trainAt.getD writes)
  | some false => none
  | none => m.trainAt

theorem mpc_eq (k : Fin 16) (window : Option Bool) (s : State) : mpc k window s = onRank k (fun m => { m with
    refreshing := false, st := settledState m, trainAt := windowAfter s.light.writes m window }) (watchWrites s) := by
  have hwrites : (watchWrites s).light.writes = s.light.writes := by rw [watchWrites_frame]
  rcases window with _ | _ | _ <;> simp only [mpc, hwrites] <;> rfl

/-- A rank reads TRAIN while a window is open, outside a veil. -/
theorem rankState_train {s : State} {k : Fin 16} (hv : (s.light.subs[subOfRank k]).veiled = false)
    (ht : ((s.light.ranks[k]).trainAt).isSome = true) : rankState s k = .train := by
  simp only [rankState, hv, ht, Bool.false_eq_true, if_false, if_true]

/-- A relock that ends with every rank of the veiled sub-channel certain ends the veil. -/
theorem relocked_over {s : State} {k : Fin 8} (hv : (s.light.subs[k]).veiled = true)
    (ht : (s.light.subs[k]).training = false) (hall : ∀ r ∈ ranksOfSub s k, (s.light.ranks[r]).settled = true) :
    relocked k s = raise 129 (onSub k (fun x => { x with relock := false, veiled := false }) s) := by
  have hsub : (onSub k (fun x => { x with relock := false }) s).light.subs[k] =
      { s.light.subs[k] with relock := false } := upd_same _ _ _
  have hranks : ranksOfSub (onSub k (fun x => { x with relock := false }) s) k = ranksOfSub s k := by
    simp only [ranksOfSub, ranksThere_reads (s := s) (t := onSub k (fun x => { x with relock := false }) s) ⟨rfl, rfl⟩]
  have hover : veilOver (onSub k (fun x => { x with relock := false }) s) k = true := by
    simp only [veilOver, hsub, hv, ht, hranks, Bool.not_false, Bool.and_true, Bool.true_and, List.all_eq_true]
    exact hall
  rw [relocked, veilCheck, if_pos hover]
  simp only [onSub, onLight, upd_upd]

theorem trainingAndRelock : Claims.TrainingAndRelock := by
  rintro s r m rfl
  refine ⟨fun h window => ?_, fun hr hv => ?_, fun hr hv ht hall => ?_, fun hr => ?_⟩
  · have hexec : exec (.multiPurposeCommand r window) s = .next (mpc (rankIx r) window s) := by
      simp only [exec, execMultiPurposeCommand, hostCommand_decoded _ _ h]
    refine ⟨_, hexec, ?_⟩
    rw [mpc_eq]
    refine ⟨?_, fun hw hv => ?_, fun hb => ?_, ?_⟩
    · rw [watchWrites_frame]
      refine onRank_ranks ?_
      rcases window with _ | _ | _ <;> rfl
    · subst hw
      rw [watchWrites_frame]
      exact rankState_train hv (by rw [onRank_same]; rfl)
    · have hwatch : watchWrites s = s := if_pos hb
      rw [hwatch]
      rfl
    · rw [watchWrites_frame]
      rfl
  · have hrelock : relocked (subIx r.side r.sub) s = onSub (subIx r.side r.sub) (fun x => { x with relock := false }) s := by
      refine veilCheck_clear ?_
      exact (congrArg SubModel.veiled (upd_same _ _ _)).trans hv
    refine ⟨relocked (subIx r.side r.sub) s, ?_, ?_⟩
    · simp only [exec, execSetpointRelock, relockEnds, hr, if_true]
    · rw [hrelock]
      rfl
  · have hrelock := relocked_over hv ht hall
    refine ⟨relocked (subIx r.side r.sub) s, ?_, ?_, ?_, ?_⟩
    · simp only [exec, execSetpointRelock, relockEnds, hr, if_true]
    · rw [hrelock]
      exact raise_gotEvent_after 129 (by decide) rfl
    · rw [hrelock, (raise_keeps _ _).2.2.2.2.2.2.2.2.2.1]
      rfl
    · rw [hrelock]
      apply State.ext <;> simp [onSub]
  · simp only [exec, execSetpointRelock, relockEnds, hr, Bool.false_eq_true, if_false]

/-- Settles O31: the rank's own change, and the veil that ends or was none. -/
theorem rankStates : Obligations.RankStates := ⟨selfRefreshAndPowerDown, trainingAndRelock⟩

/-! ## Mode-register writes -/

/-- A rank once a mode-register write is captured, outside a veil. -/
def capturedRank (addr op : Byte) (e : MrEffect) (writes : Nat) (bad : Bool) (m : RankModel) : RankModel :=
  applyEffect e writes { m with
    values := (captureKeys addr m.fspWr).foldl (fun v k => aput v k op) m.values
    written := radd addr.toNat (addr.toNat + 1) m.written
    certainNot := rcut addr.toNat (addr.toNat + 1) m.certainNot
    wroteSlot := m.wroteSlot || bad }

/-- What a mode-register write does to its sub-channel. -/
def effectSub (e : MrEffect) (x : SubModel) : SubModel :=
  match e with
  | .fspOp _ => { x with relock := true }
  | .trainClose => { x with training := false }
  | .plain => x | .fspWr _ => x | .trainOpen => x

/-- Safelight once a mode-register write is captured. -/
def capturedLight (k : Fin 16) (addr op : Byte) (e : MrEffect) (s : State) : Light := { s.light with
  suspect := (watchWrites s).light.suspect
  ranks := upd s.light.ranks k (capturedRank addr op e s.light.writes (violates s s.light.ranks[k] addr e))
  subs := upd s.light.subs (subOfRank k) (effectSub e)
  captures := s.light.captures + 1 }

theorem effectSub_veiled (e : MrEffect) (x : SubModel) : (effectSub e x).veiled = x.veiled := by cases e <;> rfl

theorem capturedLight_veiled (k : Fin 16) (addr op : Byte) (e : MrEffect) (s : State) :
    ((capturedLight k addr op e s).subs[subOfRank k]).veiled = (s.light.subs[subOfRank k]).veiled :=
  (congrArg SubModel.veiled (upd_same _ _ _)).trans (effectSub_veiled e _)

/-- A mode-register write that R234 forbids is reported besides. -/
theorem modeWrite_eq {k : Fin 16} {addr op : Byte} {e : MrEffect} {s : State}
    (hv : (s.light.subs[subOfRank k]).veiled = false) : modeWrite k addr op e s =
      if violates s s.light.ranks[k] addr e then
        raise 130 { s with light := { capturedLight k addr op e s with
          violations := satInc s.light.violations, slotTrained := false } }
      else { s with light := capturedLight k addr op e s } := by
  have hclear : veilCheck (subOfRank k) { s with light := capturedLight k addr op e s } =
      { s with light := capturedLight k addr op e s } :=
    veilCheck_clear ((capturedLight_veiled k addr op e s).trans hv)
  have hnot : ((s.light.subs[subOfRank k]).veiled = true) = False := eq_false (by rw [hv]; exact Bool.false_ne_true)
  have hsame (h : effectSub e s.light.subs[subOfRank k] = s.light.subs[subOfRank k]) :
      upd s.light.subs (subOfRank k) (effectSub e) = s.light.subs := upd_fixed _ _ h
  have hmode : modeWrite k addr op e s =
      if violates s s.light.ranks[k] addr e then
        raise 130 (onLight (fun l => { l with violations := satInc l.violations, slotTrained := false })
          (veilCheck (subOfRank k) { s with light := capturedLight k addr op e s }))
      else veilCheck (subOfRank k) { s with light := capturedLight k addr op e s } := by
    unfold modeWrite
    dsimp only
    rw [watchWrites_frame]
    cases e
    case fspOp => simp only [hnot, if_false]; rfl
    case trainClose => simp only [hnot, if_false]; rfl
    all_goals
      simp only [hnot, if_false, capturedLight, hsame rfl]
      rfl
  rw [hmode, hclear]
  rfl

theorem modeWrite_light {k : Fin 16} {addr op : Byte} {e : MrEffect} {s : State}
    (hv : (s.light.subs[subOfRank k]).veiled = false) : (modeWrite k addr op e s).light = { capturedLight k addr op e s with
      violations := if violates s s.light.ranks[k] addr e then satInc s.light.violations else s.light.violations
      slotTrained := if violates s s.light.ranks[k] addr e then false else s.light.slotTrained } := by
  rw [modeWrite_eq hv]
  cases violates s s.light.ranks[k] addr e
  · rfl
  · exact (raise_keeps _ _).2.2.2.2.2.2.2.2.2.1

theorem modeWrite_rank {k : Fin 16} {addr op : Byte} {e : MrEffect} {s : State}
    (hv : (s.light.subs[subOfRank k]).veiled = false) : (modeWrite k addr op e s).light.ranks[k] =
      capturedRank addr op e s.light.writes (violates s s.light.ranks[k] addr e) s.light.ranks[k] := by
  rw [modeWrite_light hv]
  exact upd_same _ _ _

/-- What is captured of the register itself, whatever the register does. -/
theorem capturedRank_values (addr op : Byte) (e : MrEffect) (writes : Nat) (bad : Bool) (m : RankModel) :
    (capturedRank addr op e writes bad m).values = (captureKeys addr m.fspWr).foldl (fun v k => aput v k op) m.values ∧
    (capturedRank addr op e writes bad m).written = radd addr.toNat (addr.toNat + 1) m.written ∧
    (capturedRank addr op e writes bad m).certainNot = rcut addr.toNat (addr.toNat + 1) m.certainNot := by
  cases e <;> exact ⟨rfl, rfl, rfl⟩

theorem effectSub_relock (e : MrEffect) (x : SubModel) :
    (effectSub e x).relock = true ↔ (∃ k, e = .fspOp k) ∨ x.relock = true := by
  cases e <;> simp [effectSub]

theorem modeWrite_sub {r : RankId} {addr op : Byte} {e : MrEffect} {s : State}
    (hv : (s.light.subs[subOfRank (rankIx r)]).veiled = false) :
    (modeWrite (rankIx r) addr op e s).light.subs[subIx r.side r.sub] = effectSub e s.light.subs[subIx r.side r.sub] := by
  have hindex : (fun k : Fin 8 => (modeWrite (rankIx r) addr op e s).light.subs[k]) (subIx r.side r.sub) =
      (fun k : Fin 8 => (modeWrite (rankIx r) addr op e s).light.subs[k]) (subOfRank (rankIx r)) := by
    rw [subOfRank_rankIx]
  have hold : (fun k : Fin 8 => effectSub e s.light.subs[k]) (subOfRank (rankIx r)) =
      (fun k : Fin 8 => effectSub e s.light.subs[k]) (subIx r.side r.sub) := by rw [subOfRank_rankIx]
  refine Eq.trans hindex (Eq.trans ?_ hold)
  dsimp only
  rw [modeWrite_light hv]
  exact upd_same _ _ _

/-- Settles O30: Safelight after the write, and the report of one that R234 forbids. -/
theorem modeRegisterWrites : Obligations.ModeRegisterWrites := by
  rintro s r addr op e m rfl h hv
  have hv' := (veiled_subOfRank s r).trans hv
  have hlight := modeWrite_light (addr := addr) (op := op) (e := e) hv'
  have hrank := modeWrite_rank (addr := addr) (op := op) (e := e) hv'
  have hveil : ((modeWrite (rankIx r) addr op e s).light.subs[subOfRank (rankIx r)]).veiled = false := by
    rw [hlight]
    exact (capturedLight_veiled _ addr op e s).trans hv'
  obtain ⟨hvalues, hwritten, hcertain⟩ := capturedRank_values addr op e s.light.writes
    (violates s s.light.ranks[rankIx r] addr e) s.light.ranks[rankIx r]
  refine ⟨modeWrite (rankIx r) addr op e s, ?_, ?_, ?_, ?_, fun k hk => ?_, fun k hk => ?_, fun ht => ?_, fun ht => ?_, ?_,
    fun hb => ⟨?_, ?_, ?_⟩, fun hb => ⟨?_, ?_, ?_⟩, ?_, fun k hk => ?_, ?_, ?_, ?_⟩
  · simp only [exec, execModeRegisterWrite, hostCommand_decoded _ _ h]
  · rw [hrank]; exact hvalues
  · rw [hrank]; exact hwritten
  · rw [hrank]; exact hcertain
  · rw [hrank]; subst hk; rfl
  · rw [hrank]; subst hk; rfl
  · refine rankState_train hveil ?_
    rw [hrank]
    subst ht
    rfl
  · rw [hrank]; subst ht; rfl
  · rw [hlight]; rfl
  · rw [hlight, hb]; rfl
  · rw [hlight, hb]; rfl
  · rw [modeWrite_eq hv', if_pos hb]
    exact raise_gotEvent_after 130 (by decide) rfl
  · rw [hlight, hb]; rfl
  · rw [hlight, hb]; rfl
  · rw [modeWrite_eq hv', if_neg (by rw [hb]; exact Bool.false_ne_true)]
  · rw [modeWrite_sub hv']
    exact effectSub_relock e _
  · rw [hlight]
    exact upd_other _ _ _ _ hk.symm
  · rw [hlight]; rfl
  · rw [hlight]; rfl
  · apply State.ext <;> simp

end Sys2Proof.Safelight
end

section
/-! PROOF. Commands that Safelight cannot follow, RESET_n, veils and the frame heat epoch (R28, R221, R225, R229 to R233,
R532). -/

namespace Sys2Proof.Safelight

open Sys2Proof Sys2Proof.Machine Sys2Proof.Claims Sys2Proof.Families Sys2Proof.DeviceStates Sys2Proof.Sequencing
  Sys2Proof.TilePorts

/-! ## Commands that are not decoded -/

/-- What a command that is not decoded can do: rows opened and closed, and writes to the array. -/
def rowsOnly (s t : State) : Prop :=
  (∀ k : Fin 16, t.light.ranks[k] = { s.light.ranks[k] with rows := (t.light.ranks[k]).rows }) ∧
  t = { s with light := { s.light with
    ranks := t.light.ranks, dram := t.light.dram, suspect := t.light.suspect, writes := t.light.writes } }

theorem rowsOnly_refl (s : State) : rowsOnly s s := ⟨fun _ => rfl, rfl⟩

theorem rowsOnly_onRank {s : State} (k : Fin 16) (rows : RankModel → Assoc Nat) :
    rowsOnly s (onRank k (fun m => { m with rows := rows m }) s) := by
  refine ⟨fun n => ?_, rfl⟩
  by_cases h : n = k
  · subst h
    rw [onRank_same]
  · rw [onRank_other _ _ h]

theorem rowsOnly_arrayWrite (k : Fin 16) (bank column : Nat) (data : List Byte) (s : State) :
    rowsOnly s (arrayWrite k bank column data s) := by
  cases h : aget (s.light.ranks[k]).rows bank with
  | none => rw [arrayWrite_closed h]; exact rowsOnly_refl s
  | some row =>
    obtain ⟨-, -, hframe⟩ := arrayWrite_wrote (column := column) (data := data) h
    refine ⟨fun n => ?_, ?_⟩
    · rw [hframe]
    · rw [hframe]

/-- What a command of the host does to the array where it is not decoded. -/
theorem exec_rankCommand {s : State} {r : RankId} {c : Instr} (hc : c ∈ rankCommands r) : ∃ array f : State → State,
    exec c s = .next (hostCommand r true array f s) ∧ rowsOnly s (array s) := by
  have hrow : rowInside s (0 : BitVec 18).toNat = true := by simp [rowInside]
  simp only [rankCommands, List.mem_cons, List.not_mem_nil, or_false] at hc
  rcases hc with rfl | rfl | rfl | rfl | rfl | rfl | rfl | rfl | rfl | rfl | rfl
  · refine ⟨openRow (rankIx r) 0 0, activateRow (rankIx r) 0 0, ?_, rowsOnly_onRank _ _⟩
    simp only [exec, execActivate, hrow]
    rfl
  · exact ⟨_, _, rfl, rowsOnly_arrayWrite _ _ _ _ s⟩
  · exact ⟨_, _, rfl, rowsOnly_refl s⟩
  · exact ⟨_, _, rfl, rowsOnly_onRank _ _⟩
  · exact ⟨_, _, rfl, rowsOnly_refl s⟩
  · exact ⟨_, _, rfl, rowsOnly_onRank _ _⟩
  · exact ⟨_, _, rfl, rowsOnly_onRank _ _⟩
  all_goals exact ⟨_, _, rfl, rowsOnly_refl s⟩

theorem commandsNotDecoded : Claims.CommandsNotDecoded := by
  intro s r c hc
  obtain ⟨array, f, hexec, hrows⟩ := exec_rankCommand (s := s) hc
  refine ⟨fun hoff => ?_, fun hheld => ?_⟩
  · rw [hexec, hostCommand_off _ _ hoff]
    refine ⟨_, rfl, fun hr => if_neg (by rw [hr]; exact Bool.false_ne_true), ?_⟩
    split_ifs
    · exact hrows
    · exact rowsOnly_refl s
  · rw [hexec, hostCommand_held _ _ hheld]
    refine ⟨_, rfl, ?_⟩
    cases hseen : s.light.heldSeen
    · have hraise : commandHeld s = raise 134 (onLight (fun l => { l with
          heldCmds := satInc l.heldCmds, heldSeen := true }) s) := by
        simp only [commandHeld, hseen, Bool.false_eq_true, if_false]
      rw [hraise]
      refine ⟨?_, fun _ => raise_gotEvent_after 134 (by decide) rfl, fun h => absurd h.symm (by decide), ?_⟩
      · rw [(raise_keeps _ _).2.2.2.2.2.2.2.2.2.1]; rfl
      · apply State.ext <;> simp
    · have hquiet : commandHeld s = onLight (fun l => { l with
          heldCmds := satInc l.heldCmds, heldSeen := true }) s := by
        simp only [commandHeld, hseen, if_true]
      rw [hquiet]
      exact ⟨rfl, fun h => absurd h.symm (by decide), fun _ => rfl, rfl⟩

/-! ## RESET_n of a side -/

/-- With no veil anywhere the reset of the sub-channels ends none. -/
theorem foldl_unveiled (side : Fin 2) (l : List (Fin 8)) (s : State) (h : ∀ k : Fin 8, (s.light.subs[k]).veiled = false) :
    ∃ subs : Fam 8 SubModel, (∀ k : Fin 8, (subs[k]).veiled = false) ∧
      l.foldl (fun (s : State) (k : Fin 8) => if sideOfSub k = side then
        veilCheck k (onSub k (fun x => { x with training := false, relock := false }) s) else s) s =
      { s with light := { s.light with subs := subs } } := by
  induction l generalizing s with
  | nil => exact ⟨s.light.subs, h, rfl⟩
  | cons k l ih =>
    rw [List.foldl_cons]
    by_cases hk : sideOfSub k = side
    · have hstill : ∀ n : Fin 8, ((onSub k (fun x => { x with training := false, relock := false }) s).light.subs[n]).veiled =
          false := by
        intro n
        by_cases hn : n = k
        · subst hn
          exact (congrArg SubModel.veiled (upd_same _ _ _)).trans (h n)
        · exact (congrArg SubModel.veiled (upd_other _ _ _ _ (Ne.symm hn))).trans (h n)
      rw [if_pos hk, veilCheck_clear (hstill k)]
      obtain ⟨subs, hsubs, hfold⟩ := ih _ hstill
      exact ⟨subs, hsubs, hfold.trans rfl⟩
    · rw [if_neg hk]
      exact ih s h

/-- The ranks of a side that the module has. -/
def ranksOfSide (s : State) (side : Fin 2) : List (Fin 16) := (ranksThere s).filter fun r => sideOfRank r = side

/-- Safelight after RESET_n of a side, with no veil in force. -/
def resetLight (side : Fin 2) (subs : Fam 8 SubModel) (s : State) : Light := { s.light with
  ranks := (ranksOfSide s side).foldl (fun w r => upd w r fun _ => { RankModel.init with settled := true }) s.light.ranks
  subs := subs
  dram := s.light.dram.filter fun p => p.1 / 2 ^ 24 ≠ side.val
  fill := upd s.light.fill side (fun _ => some s.free)
  dirty := runion s.light.dirty (framesOf s (ranksOfSide s side))
  captures := s.light.captures + 1
  quiet := false }

/-- The end of a reset: the side's frames are dirty, and what they hold is open. -/
def resetEnds (side : Fin 2) (rs : List (Fin 16)) (s : State) : State :=
  onLight (fun l => { l with captures := l.captures + 1, quiet := false })
    (markDirty (framesOf s rs) (scrambleSide side s))

theorem resetSide_eq {side : Fin 2} {s : State} (h : ∀ k : Fin 8, (s.light.subs[k]).veiled = false) :
    ∃ subs : Fam 8 SubModel, (∀ k : Fin 8, (subs[k]).veiled = false) ∧
      resetSide side s = { s with light := resetLight side subs s, free := s.free + 1 } := by
  have hframes (l : Light) : framesOf { s with light := l } (ranksOfSide s side) = framesOf s (ranksOfSide s side) := by
    simp only [framesOf, pv_reads (s := s) (t := { s with light := l }) ⟨rfl, rfl⟩]
  obtain ⟨subs, hsubs, hfold⟩ := foldl_unveiled side (List.finRange 8) (onLight (fun x => { x with
    ranks := (ranksOfSide s side).foldl (fun w r => upd w r fun _ => { RankModel.init with settled := true }) x.ranks }) s) h
  refine ⟨subs, hsubs, ?_⟩
  have hsteps : resetSide side s = resetEnds side (ranksOfSide s side) ((List.finRange 8).foldl
      (fun (s : State) (k : Fin 8) => if sideOfSub k = side then
        veilCheck k (onSub k (fun x => { x with training := false, relock := false }) s) else s)
      ((ranksOfSide s side).foldl (fun (s : State) r => onRank r (fun _ => { RankModel.init with settled := true }) s) s)) :=
    rfl
  rw [hsteps, foldl_onRank, hfold]
  simp only [resetEnds, onLight, markDirty, scrambleSide, drew, hframes]
  rfl

theorem mem_ranksOfSide {s : State} {side : Fin 2} {r : Fin 16} :
    r ∈ ranksOfSide s side ↔ rankThere s r = true ∧ sideOfRank r = side := by
  simp [ranksOfSide, ranksThere, and_comm]

theorem resetLight_rank (side : Fin 2) (subs : Fam 8 SubModel) (s : State) (r : Fin 16) :
    (resetLight side subs s).ranks[r] =
      if r ∈ ranksOfSide s side then { RankModel.init with settled := true } else s.light.ranks[r] :=
  foldl_upd_get (fun _ _ => ({ RankModel.init with settled := true } : RankModel)) (ranksOfSide s side)
    (((List.nodup_finRange 16).filter _).filter _) s.light.ranks r

theorem aget_filter_kept {α : Type} (m : Assoc α) (f : Nat × α → Bool) (k : Nat) (h : ∀ v, f (k, v) = true) :
    aget (m.filter f) k = aget m k := by
  induction m with
  | nil => rfl
  | cons p m ih =>
    obtain ⟨k', v⟩ := p
    by_cases hk : k = k'
    · subst hk
      simp [h, aget]
    · simp only [List.filter_cons]
      split_ifs <;> simp [aget, hk, ih]

theorem resetOfASide : Claims.ResetOfASide := by
  intro s side hsees hveils
  obtain ⟨subs, hsubs, hreset⟩ := resetSide_eq (side := side) hveils
  refine ⟨resetSide side s, by simp only [exec, execResetNAsserted, hsees, if_true], ?_⟩
  rw [hreset]
  refine ⟨fun r hr hside => ?_, fun r hr => ?_, rfl, fun f hf hlt => ?_, rfl, rfl, rfl⟩
  · have hrank := (resetLight_rank side subs s r).trans (if_pos (mem_ranksOfSide.mpr ⟨hr, hside⟩))
    refine ⟨hrank, ?_⟩
    have hunveiled : ((resetLight side subs s).subs[subOfRank r]).veiled = false := hsubs _
    simp only [rankState, hrank, hunveiled]
    rfl
  · exact (resetLight_rank side subs s r).trans (if_neg fun h => hr (mem_ranksOfSide.mp h).2)
  · have hne : f / 2 ^ 24 ≠ side.val := by
      intro heq
      exact hf (by rw [heq]; exact Fin.ext (Nat.mod_eq_of_lt side.isLt))
    have hdram : aget (s.light.dram.filter fun p => p.1 / 2 ^ 24 ≠ side.val) f = aget s.light.dram f :=
      aget_filter_kept _ _ _ fun _ => decide_eq_true hne
    have hfill : (upd s.light.fill side (fun _ => some s.free))[Fin.ofNat 2 (f / 2 ^ 24)] =
        s.light.fill[Fin.ofNat 2 (f / 2 ^ 24)] := upd_other _ _ _ _ (Ne.symm hf)
    simp only [frameContent, resetLight, hdram, hfill]

/-- Settles O32: rows and array where Safelight is off, the count where the controller holds the side, and the reset. -/
theorem commandsOutsideTheModel : Obligations.CommandsOutsideTheModel := ⟨commandsNotDecoded, resetOfASide⟩

/-! ## Veils -/

theorem veils : Claims.Veils := by
  intro s side sub
  refine ⟨fun cause hc hsees hv => ?_, fun hst hv => ?_, fun h => ?_⟩
  · have hbegins := veilBegins_eq cause.val hv
    have hlight := (raise_keeps 128 { s with light := veiledLight (subIx side sub) cause.val s }).2.2.2.2.2.2.2.2.2.1
    have hexec : exec (.veilBegin side sub cause) s = .next (veilBegins (subIx side sub) cause.val s) := by
      have hcause : cause.val ≠ 0 := fun h => hc (Fin.ext h)
      simp only [exec, execVeilBegin, veilStarts, hsees, hcause, ne_eq, not_false_eq_true, decide_true, Bool.and_self,
        if_true]
    refine ⟨_, hexec, ?_⟩
    rw [hbegins]
    refine ⟨?_, ?_, ?_, ?_, ?_, raise_gotEvent_after 128 (by decide) rfl, fun r hr => ⟨?_, ?_, ?_⟩, ?_, ?_⟩
    · rw [hlight]; exact congrArg SubModel.veiled (upd_same _ _ _)
    · rw [hlight]; rfl
    · rw [hlight]; rfl
    · rw [hlight]; rfl
    · rw [hlight]; rfl
    · rw [rankState, hlight]
      refine if_pos ?_
      have hsub : subOfRank r = subIx side sub := by simpa using (List.mem_filter.mp hr).2
      have hindex : (fun k : Fin 8 => ((veiledLight (subIx side sub) cause.val s).subs[k]).veiled) (subOfRank r) =
          (fun k : Fin 8 => ((veiledLight (subIx side sub) cause.val s).subs[k]).veiled) (subIx side sub) := by rw [hsub]
      exact Eq.trans hindex (congrArg SubModel.veiled (upd_same _ _ _))
    · rw [hlight, veiledLight_rank, if_pos hr]; rfl
    · rw [hlight, veiledLight_rank, if_pos hr]; rfl
    · rw [hlight]; rfl
    · apply State.ext <;> simp
  · refine ⟨enterFault 3 0x0C s, ?_, ?_⟩
    · simp only [exec, execVeilTimeout, veilTooLong, hst, hv, decide_true, Bool.and_self, if_true]
    · simp [hst]
  · have hcond : (decide (s.sys.st = .run) && (s.light.subs[subIx side sub]).veiled) = false := by
      rcases h with h | h <;> simp only [h, decide_false, Bool.false_and, Bool.and_false]
    simp only [exec, execVeilTimeout, veilTooLong, hcond, Bool.false_eq_true, if_false]

/-! ## The heat epoch -/

/-- Heats halved, those of 0 left out. -/
def halved (m : Assoc U16) : Assoc U16 := (m.map (fun (p : Nat × U16) => (p.1, p.2 >>> 1))).filter fun p => p.2 ≠ 0

theorem aget_below {α : Type} {m : Assoc α} {k : Nat} (h : ∀ p ∈ m, k < p.1) : aget m k = none := by
  induction m with
  | nil => rfl
  | cons p m ih =>
    obtain ⟨hp, hm⟩ := List.forall_mem_cons.mp h
    obtain ⟨k', v⟩ := p
    simp only [aget, if_neg (Nat.ne_of_lt hp)]
    exact ih hm

theorem halved_keys {m : Assoc U16} {k : Nat} (h : ∀ p ∈ m, k < p.1) : ∀ p ∈ halved m, k < p.1 := by
  intro p hp
  obtain ⟨hp, -⟩ := List.mem_filter.mp hp
  obtain ⟨q, hq, rfl⟩ := List.mem_map.mp hp
  exact h q hq

theorem halved_heat {m : Assoc U16} (g : Nat) (h : rising m = true) :
    (aget (halved m) g).getD 0 = ((aget m g).getD 0) >>> 1 := by
  induction m with
  | nil => simp [halved, aget]
  | cons p m ih =>
    obtain ⟨k, v⟩ := p
    obtain ⟨hkeys, hm⟩ := (rising_cons k v m).mp h
    have hcons : halved ((k, v) :: m) = if v >>> 1 ≠ 0 then (k, v >>> 1) :: halved m else halved m := by
      simp only [halved, List.map_cons, List.filter_cons, decide_eq_true_eq]
    by_cases hg : g = k
    · subst hg
      have hnone : aget (halved m) g = none := aget_below (halved_keys hkeys)
      by_cases hz : v >>> 1 = 0
      · rw [hcons, if_neg (not_not.mpr hz), hnone]
        simp [aget, hz]
      · rw [hcons, if_pos hz]
        simp [aget]
    · by_cases hz : v >>> 1 = 0
      · rw [hcons, if_neg (not_not.mpr hz), ih hm]
        simp [aget, hg]
      · rw [hcons, if_pos hz]
        simp only [aget, if_neg hg]
        exact ih hm

theorem heatEpoch : Claims.HeatEpoch := by
  intro s hon hmain
  refine ⟨halveHeat s, by simp [exec, execFrameHeatEpoch, hon, hmain], fun g hr => halved_heat g hr, rfl⟩

/-- Settles O33: the light after a veil, the FAULT of a long one, and the heats halved. -/
theorem veilsAndHeat : Obligations.VeilsAndHeat := ⟨veils, heatEpoch⟩

end Sys2Proof.Safelight
end

section
/-! PROOF. Anchor records read back: what a header and a mark list of a generation (Table 8-9; R257, R268, R291). -/

namespace Sys2Proof.Records

open Sys2Proof Sys2Proof.Machine Sys2Proof.Claims

/-! ## Fields of a record -/

theorem leNat_leBytes (n v : Nat) : leNat (leBytes n v) = v % 256 ^ n := by
  induction n generalizing v with
  | zero => simp [leBytes, leNat, Nat.mod_one]
  | succ n ih =>
    simp only [leBytes, leNat, ih, BitVec.toNat_ofNat]
    rw [Nat.pow_succ 256 n, Nat.mul_comm (256 ^ n) 256, Nat.mod_mul]

theorem leNat_byte (b : Byte) : leNat [b] = b.toNat := by simp [leNat]

theorem recordType_recordOf (key body : List Byte) (type : Byte) : recordType (recordOf key type body) = type.toNat := by
  show leNat [type] = _
  simp [leNat]

theorem getD_slice (off len j : Nat) (bs : List Byte) (h : j < len) : (slice off len bs).getD j 0 = bs.getD (off + j) 0 := by
  simp [slice, List.getD, h]

theorem getD_recordOf (key body : List Byte) (type : Byte) (j : Nat) (h : j < 90) :
    (recordOf key type body).getD (6 + j) 0 = body.getD j 0 := by
  have hhead : (leBytes 4 0x5647454E ++ [type, 0x01]).length = 6 := rfl
  have hbody : (slice 0 90 body).length = 90 := by simp [slice]
  have hlen : (leBytes 4 0x5647454E ++ [type, 0x01] ++ slice 0 90 body).length = 96 := by
    rw [List.length_append, hhead, hbody]
  rw [recordOf, List.getD_append _ _ _ _ (by rw [hlen]; omega), List.getD_append_right _ _ _ _ (by rw [hhead]; omega),
    hhead, Nat.add_sub_cancel_left, getD_slice _ _ _ _ h, Nat.zero_add]

/-- The fields of a record are those of its body. -/
theorem fieldAt_recordOf (key body : List Byte) (type : Byte) (off len : Nat) (h : off + len ≤ 90) :
    fieldAt (6 + off) len (recordOf key type body) = fieldAt off len body := by
  rw [fieldAt, fieldAt]
  congr 1
  refine List.map_congr_left fun i hi => ?_
  rw [List.mem_range] at hi
  rw [Nat.add_assoc, getD_recordOf _ _ _ _ (by omega)]

/-! ## Headers -/

theorem header_flags (key : List Byte) (g : Gen) : fieldAt 6 2 (recordOf key 1 (headerBody g)) =
    flagWord [g.base, g.consolidation, g.partialGen, g.powerFail, g.degraded] % 65536 :=
  (fieldAt_recordOf key _ 1 0 2 (by decide)).trans (leNat_leBytes 2 _)

theorem header_gen (key : List Byte) (g : Gen) : fieldAt 8 4 (recordOf key 1 (headerBody g)) = g.gen % 2 ^ 32 :=
  leNat_leBytes 4 _

theorem header_parent (key : List Byte) (g : Gen) : fieldAt 0xC 4 (recordOf key 1 (headerBody g)) =
    g.parent.getD 0xFFFFFFFF % 2 ^ 32 :=
  (fieldAt_recordOf key _ 1 6 4 (by decide)).trans (leNat_leBytes 4 _)

theorem header_cause (key : List Byte) (g : Gen) : fieldAt 0x10 1 (recordOf key 1 (headerBody g)) = g.cause.toNat :=
  (fieldAt_recordOf key _ 1 10 1 (by decide)).trans (leNat_byte g.cause)

theorem header_target (key : List Byte) (g : Gen) : fieldAt 0x11 1 (recordOf key 1 (headerBody g)) = g.target.toNat :=
  (fieldAt_recordOf key _ 1 11 1 (by decide)).trans (leNat_byte g.target)

theorem header_width (key : List Byte) (g : Gen) : fieldAt 0x12 1 (recordOf key 1 (headerBody g)) = g.width % 256 :=
  leNat_leBytes 1 _

theorem header_deadCh (key : List Byte) (g : Gen) : fieldAt 0x13 1 (recordOf key 1 (headerBody g)) = g.deadCh.toNat :=
  (fieldAt_recordOf key _ 1 13 1 (by decide)).trans (leNat_byte g.deadCh)

theorem header_geometry (key : List Byte) (g : Gen) : fieldAt 0x14 4 (recordOf key 1 (headerBody g)) =
    g.geometry.toNat % 2 ^ 32 :=
  (fieldAt_recordOf key _ 1 14 4 (by decide)).trans (leNat_leBytes 4 _)

theorem header_onTime (key : List Byte) (g : Gen) : fieldAt 0x18 8 (recordOf key 1 (headerBody g)) =
    g.onTime.toNat % 2 ^ 64 :=
  (fieldAt_recordOf key _ 1 18 8 (by decide)).trans (leNat_leBytes 8 _)

theorem header_keyId (key : List Byte) (g : Gen) : fieldAt 0x20 4 (recordOf key 1 (headerBody g)) =
    g.keyId.toNat % 2 ^ 32 :=
  (fieldAt_recordOf key _ 1 26 4 (by decide)).trans (leNat_leBytes 4 _)

theorem header_mask (key : List Byte) (g : Gen) : fieldAt 0x24 1 (recordOf key 1 (headerBody g)) = g.mask.toNat :=
  (fieldAt_recordOf key _ 1 30 1 (by decide)).trans (leNat_byte g.mask)

theorem flagWord_bits : ∀ a b c d e : Bool, flagWord [a, b, c, d, e] % 65536 = flagWord [a, b, c, d, e] ∧
    (flagWord [a, b, c, d, e]).testBit 0 = a ∧ (flagWord [a, b, c, d, e]).testBit 1 = b ∧
    (flagWord [a, b, c, d, e]).testBit 2 = c ∧ (flagWord [a, b, c, d, e]).testBit 3 = d ∧
    (flagWord [a, b, c, d, e]).testBit 4 = e := by decide

/-- A generation that a header can name. -/
structure Nameable (g : Gen) : Prop where
  gen : g.gen < 2 ^ 32
  parent : ∀ p, g.parent = some p → p < 2 ^ 32 - 1
  width : g.width < 256

/-- A header read back lists its generation, with no commit record and no mark. -/
theorem headerGen_recordOf (key : List Byte) {g : Gen} (h : Nameable g) : headerGen (recordOf key 1 (headerBody g)) =
    { g with commit := none, developed := false, superseded := false, staleAccepted := false, losses := [] } := by
  obtain ⟨hword, h0, h1, h2, h3, h4⟩ := flagWord_bits g.base g.consolidation g.partialGen g.powerFail g.degraded
  have hparent : genAt 0xC (recordOf key 1 (headerBody g)) = g.parent := by
    rw [genAt, header_parent]
    cases hp : g.parent with
    | none => rfl
    | some p =>
      have := h.parent p hp
      simp only [Option.getD_some]
      rw [Nat.mod_eq_of_lt (by omega), if_neg (by omega)]
  have hgeometry : BitVec.ofNat 32 (g.geometry.toNat % 2 ^ 32) = g.geometry := by
    rw [Nat.mod_eq_of_lt g.geometry.isLt, BitVec.ofNat_toNat, BitVec.setWidth_eq]
  have honTime : BitVec.ofNat 64 (g.onTime.toNat % 2 ^ 64) = g.onTime := by
    rw [Nat.mod_eq_of_lt g.onTime.isLt, BitVec.ofNat_toNat, BitVec.setWidth_eq]
  have hkey : BitVec.ofNat 32 (g.keyId.toNat % 2 ^ 32) = g.keyId := by
    rw [Nat.mod_eq_of_lt g.keyId.isLt, BitVec.ofNat_toNat, BitVec.setWidth_eq]
  have hbyte (b : Byte) : BitVec.ofNat 8 b.toNat = b := by rw [BitVec.ofNat_toNat, BitVec.setWidth_eq]
  simp only [headerGen, header_flags, header_gen, header_cause, header_target, header_width, header_deadCh,
    header_geometry, header_onTime, header_keyId, header_mask, hparent, hword, h0, h1, h2, h3, h4, hgeometry, honTime, hkey,
    hbyte, Nat.mod_eq_of_lt h.gen, Nat.mod_eq_of_lt h.width]

/-! ## What a record does to the generations -/

theorem noteRecord_gens (gen : Nat) (type : Byte) (body : List Byte) (s : State) :
    (noteRecord gen type body s).neg = { s.neg with
      gens := takeRecord s.neg.gens (recordOf (recordKey s) type body) } := by
  simp [noteRecord]

/-- A header puts its generation in its place. -/
theorem putHeader_neg {g : Gen} (s : State) (h : Nameable g) : (putHeader g s).neg = { s.neg with
    gens := listGen { g with commit := none, developed := false, superseded := false, staleAccepted := false, losses := [] }
      s.neg.gens } := by
  rw [putHeader, noteRecord_gens]
  simp only [takeRecord, recordType_recordOf]
  rw [← headerGen_recordOf (recordKey s) h]
  rfl

theorem mark_fields (key : List Byte) (gen code : Nat) :
    fieldAt 8 4 (recordOf key 3 (markBody gen code)) = gen % 2 ^ 32 ∧
    fieldAt 0xC 4 (recordOf key 3 (markBody gen code)) = code % 2 ^ 32 :=
  ⟨(fieldAt_recordOf key _ 3 2 4 (by decide)).trans (leNat_leBytes 4 _),
    (fieldAt_recordOf key _ 3 6 4 (by decide)).trans (leNat_leBytes 4 _)⟩

/-- The mark DEVELOPED of a generation. -/
theorem mark_developed {gen : Nat} (s : State) (h : gen < 2 ^ 32) : (mark gen 1 s).neg = { s.neg with
    gens := changeGens (fun g => decide (g.gen = gen)) (fun g => { g with developed := true }) s.neg.gens } := by
  obtain ⟨hgen, hcode⟩ := mark_fields (recordKey s) gen 1
  rw [mark, noteRecord_gens]
  simp only [takeRecord, recordType_recordOf, hgen, hcode, Nat.mod_eq_of_lt h]
  rfl

/-- The mark SUPERSEDED of a generation, which reaches those before it. -/
theorem mark_superseded {gen : Nat} (s : State) (h : gen < 2 ^ 32) : (mark gen 2 s).neg = { s.neg with
    gens := changeGens (fun g => decide (g.gen ≤ gen)) (fun g => { g with superseded := true }) s.neg.gens } := by
  obtain ⟨hgen, hcode⟩ := mark_fields (recordKey s) gen 2
  rw [mark, noteRecord_gens]
  simp only [takeRecord, recordType_recordOf, hgen, hcode, Nat.mod_eq_of_lt h]
  rfl

/-- The mark STALE ACCEPTED of a generation. -/
theorem mark_stale {gen : Nat} (s : State) (h : gen < 2 ^ 32) : (mark gen 3 s).neg = { s.neg with
    gens := changeGens (fun g => decide (g.gen = gen)) (fun g => { g with staleAccepted := true }) s.neg.gens } := by
  obtain ⟨hgen, hcode⟩ := mark_fields (recordKey s) gen 3
  rw [mark, noteRecord_gens]
  simp only [takeRecord, recordType_recordOf, hgen, hcode, Nat.mod_eq_of_lt h]
  rfl

end Sys2Proof.Records
end

section
/-! PROOF. Takeovers of the bus and the generation that begins with them (R69, R239 to R241, R257, R263). -/

namespace Sys2Proof.Handover

open Sys2Proof Sys2Proof.Machine Sys2Proof.Claims Sys2Proof.Families Sys2Proof.DeviceStates Sys2Proof.Records

/-! ## The numbers of generations -/

theorem gen_lt_nextGen {s : State} {g : Gen} (h : g ∈ s.neg.gens) : g.gen < nextGen s := by
  have hfold : ∀ (l : List Gen) (m : Nat), m ≤ l.foldl (fun m g => max m g.gen) m ∧
      ∀ g ∈ l, g.gen ≤ l.foldl (fun m g => max m g.gen) m := by
    intro l
    induction l with
    | nil => exact fun m => ⟨Nat.le_refl m, fun g hg => absurd hg List.not_mem_nil⟩
    | cons a l ih =>
      intro m
      obtain ⟨hm, hl⟩ := ih (max m a.gen)
      rw [List.foldl_cons]
      exact ⟨by omega, List.forall_mem_cons.mpr ⟨by omega, hl⟩⟩
  exact Nat.lt_succ_of_le ((hfold s.neg.gens 0).2 g h)

theorem listGen_newest {g : Gen} {gs : List Gen} (h : ∀ x ∈ gs, x.gen < g.gen) : listGen g gs = g :: gs := by
  cases gs with
  | nil => rfl
  | cons x gs => exact if_pos (h x List.mem_cons_self)

theorem reclaim_gens (d : Nat) (l : List Gen) (s : State) : (reclaim d l s).neg.gens = s.neg.gens := by
  induction l generalizing s with
  | nil => rfl
  | cons g l ih =>
    unfold reclaim
    split_ifs
    · rfl
    · rw [ih, freeGens_neg]

theorem newestC_mem {s : State} {c : Gen} (h : newestC s = some c) : c ∈ s.neg.gens := List.mem_of_find?_eq_some h

/-- Room made for a base changes marks of generations, and no number. -/
theorem makeRoom_numbers (d : Nat) {s : State} (hn : nextGen s ≤ 2 ^ 32) :
    ∀ x ∈ (makeRoom d s).neg.gens, x.gen < nextGen s := by
  unfold makeRoom
  split_ifs
  · exact fun x hx => gen_lt_nextGen hx
  · cases hc : newestC s with
    | none => exact fun x hx => gen_lt_nextGen hx
    | some c =>
      have hlt : c.gen < 2 ^ 32 := (gen_lt_nextGen (newestC_mem hc)).trans_le hn
      dsimp only
      rw [reclaim_gens, mark_superseded s hlt]
      intro x hx
      obtain ⟨g, hg, rfl⟩ := List.mem_map.mp hx
      have hsame : (if decide (g.gen ≤ c.gen) = true then { g with superseded := true } else g).gen = g.gen := by
        split_ifs <;> rfl
      exact hsame.trans_lt (gen_lt_nextGen hg)

/-! ## A generation begins -/

/-- The header of a generation that begins with an Exposure. -/
def begunGen (s : State) (e : Expo) : Gen :=
  newHeader s (needsBase s (dirtyFrames s)) (if needsBase s (dirtyFrames s) then none else (newestC s).map (·.gen))
    e.cause e.target e.powerFail 0

/-- The Exposure once its generation has begun. -/
def begunExpo (s : State) (e : Expo) : Expo := { e with
  gen := nextGen s
  frames := if needsBase s (dirtyFrames s) then allFrames s else dirtyFrames s
  heat := s.light.heat
  uncRanks := s.light.uncertain
  since := s.sys.aonTime.toNat }

/-- The pages' worth of entries that the generation brings. -/
def begunEntries (s : State) : Nat :=
  (entriesOf (needsBase s (dirtyFrames s)) (if needsBase s (dirtyFrames s) then allFrames s else dirtyFrames s)
    fun f => some (frameKind s.light.uncertain f (frameContent s f), frameContent s f)).length

/-- The state in which the header is put: a base that does not fit makes its room first. -/
def roomFor (s : State) : State := if needsBase s (dirtyFrames s) then makeRoom (begunEntries s) s else s

theorem begunGen_nameable {s : State} (e : Expo) (hn : nextGen s < 2 ^ 32 - 1) : Nameable (begunGen s e) where
  gen := show nextGen s < 2 ^ 32 by omega
  parent p hp := by
    have hparent : (begunGen s e).parent = if needsBase s (dirtyFrames s) then none else (newestC s).map (·.gen) := rfl
    rw [hparent] at hp
    split_ifs at hp
    obtain ⟨c, hc, rfl⟩ := Option.map_eq_some_iff.mp hp
    exact (gen_lt_nextGen (newestC_mem hc)).trans hn
  width := s.nand.width.isLt

theorem beginGeneration_neg {s : State} {e : Expo} (he : s.neg.exp = some e) (ht : e.target ≠ 2) (hk : e.kept = false)
    (hn : nextGen s < 2 ^ 32 - 1) : ∃ gens, (beginGeneration s).neg.gens = begunGen s e :: gens ∧
      (beginGeneration s).neg.exp = some (begunExpo s e) ∧ (beginGeneration s).neg.lastGen = some (nextGen s) ∧
      (beginGeneration s).neg.captured = BitVec.ofNat 32 (rcount (dirtyFrames s)) := by
  have hset : captureSet s e 0 = dirtyFrames s := by
    simp only [captureSet, hk, ht, Bool.false_eq_true, if_false]
  have hall : baseFrames s e 0 = allFrames s := by simp only [baseFrames, ht, if_false]
  have hbegin : beginGeneration s = onNeg (fun n => { n with
      exp := some (begunExpo s e), lastGen := some (nextGen s)
      captured := BitVec.ofNat 32 (rcount (dirtyFrames s)) }) (putHeader (begunGen s e) (roomFor s)) := by
    simp only [beginGeneration, he, if_neg ht, hset, hall]
    rfl
  have hnumbers : ∀ x ∈ (roomFor s).neg.gens, x.gen < (begunGen s e).gen := by
    unfold roomFor
    split_ifs
    · exact makeRoom_numbers _ (by omega)
    · exact fun x hx => gen_lt_nextGen hx
  have hput := putHeader_neg (roomFor s) (begunGen_nameable e hn)
  refine ⟨(roomFor s).neg.gens, ?_, ?_, ?_, ?_⟩
  · rw [hbegin]
    refine (congrArg Neg.gens hput).trans ?_
    exact listGen_newest hnumbers
  · rw [hbegin]; rfl
  · rw [hbegin]; rfl
  · rw [hbegin]; rfl

/-- A takeover that leaves what a generation is made of: the Exposure and the generations, the maps, the settings. -/
structure Taken (s u : State) : Prop where
  settings : sameSettings s u
  neg : u.neg = s.neg
  sec : u.sec = s.sec
  dirty : u.light.dirty = s.light.dirty
  heat : u.light.heat = s.light.heat
  trained : u.light.slotTrained = s.light.slotTrained

theorem afterTakeover_begun {s u : State} {e : Expo} (h : Taken s u) (he : s.neg.exp = some e) (ht : e.target ≠ 2)
    (hk : e.kept = false) (hn : nextGen s < 2 ^ 32 - 1) (hlight : (afterTakeover u).light = u.light) :
    begun s (afterTakeover u) e (begunGen u e) := by
  have hdirty : dirtyFrames u = dirtyFrames s := by simp only [dirtyFrames, allFrames_reads h.settings, h.dirty]
  have hall : allFrames u = allFrames s := allFrames_reads h.settings
  have hnext : nextGen u = nextGen s := by simp only [nextGen, h.neg]
  have hnewest : newestC u = newestC s := by simp only [newestC, h.neg]
  have heu : u.neg.exp = some e := by rw [h.neg]; exact he
  obtain ⟨gens, hgens, hexp, hlast, hcaptured⟩ := beginGeneration_neg heu ht hk (hnext ▸ hn)
  have hafter : (afterTakeover u).neg = { (beginGeneration u).neg with
      exp := some { begunExpo u e with phase := if s.light.slotTrained then .writing else .training } } := by
    simp only [afterTakeover, heu, onNeg, hexp, Option.map_some, h.trained]
  have hbase : (begunGen u e).base = needsBase u (dirtyFrames s) := by rw [← hdirty]; rfl
  rw [begun, hafter, hlight]
  refine ⟨by rw [hgens]; rfl, hnext, rfl, rfl, rfl, rfl, rfl, rfl, congrArg Sec.keyId h.sec, ?_, ?_, ?_, ?_, _, rfl,
    rfl, ?_, h.heat, rfl, rfl, rfl⟩
  · have hparent : (begunGen u e).parent = if needsBase u (dirtyFrames u) then none else (newestC u).map (·.gen) := rfl
    rw [hparent, hbase, hdirty, hnewest]
  · intro hnone
    simp only [hbase, needsBase, hnewest, hnone, Option.isNone_none, Bool.true_or]
  · exact hlast
  · exact hcaptured.trans (by rw [hdirty])
  · have hframes : (begunExpo u e).frames = if needsBase u (dirtyFrames u) then allFrames u else dirtyFrames u := rfl
    rw [hbase]
    exact hframes.trans (by rw [hdirty, hall])

/-! ## The voluntary takeover -/

theorem takeVoluntary_taken (s : State) : Taken s (takeVoluntary s) where
  settings := by simp [sameSettings]
  neg := by simp
  sec := by simp
  dirty := by simp [takeVoluntary, bothTaken]
  heat := by simp [takeVoluntary, bothTaken]
  trained := by simp [takeVoluntary, bothTaken]

theorem takeVoluntary_light (s : State) : (takeVoluntary s).light = { s.light with
    ctrl := updAll s.light.ctrl (fun side _ => side = 0 || !small s), takeovers := satInc s.light.takeovers
    heldSeen := false, quiet := false, returning := famAll 2 false, lastTakeover := 1, uncertain := 0
    afterForced := false } := by
  simp [takeVoluntary, bothTaken, onLight]

theorem afterTakeover_light (s : State) : (afterTakeover s).light = s.light := by simp

theorem voluntaryTakeover : Claims.VoluntaryTakeover := by
  intro s
  refine ⟨fun e he hd hp ht hk hq hall hn => ?_, fun he hd => ?_, fun hd hall => ?_⟩
  · have hexec : quietEnds s = afterTakeover (takeVoluntary s) := by
      simp only [quietEnds, he, hd, hp, hq, hall, decide_true, Bool.or_false, Bool.and_self, Bool.false_or, if_true]
    have hlight := (afterTakeover_light (takeVoluntary s)).trans (takeVoluntary_light s)
    refine ⟨quietEnds s, begunGen (takeVoluntary s) e, rfl, ?_⟩
    rw [hexec, hlight]
    refine ⟨afterTakeover_begun (takeVoluntary_taken s) he ht hk hn (afterTakeover_light _), rfl, ?_, ?_, rfl, rfl, rfl,
      rfl, ?_⟩
    · exact updAll_get _ _ _
    · exact updAll_get _ _ _
    · apply State.ext
      case light => exact hlight
      all_goals simp
  · simp [exec, execQuietWindowEnd, quietEnds, he, hd]
  · have hstill : quietEnds s = s := by
      cases hdev : s.neg.dev with
      | none => simp only [quietEnds, hdev, hall, Bool.and_false, Bool.false_or, Bool.false_eq_true, if_false]
      | some d =>
        simp only [quietEnds, hdev, hall, hd d hdev, Bool.and_false, Bool.false_or, Bool.false_eq_true, if_false]
    exact congrArg _ hstill

/-! ## The forced takeover -/

/-- What an uncertain write may have changed is open: the array alone changes. -/
theorem blurSuspects_light (s : State) : (blurSuspects s).light = { s.light with
    suspect := [], dram := (blurSuspects s).light.dram } := by
  unfold blurSuspects
  split <;> rfl

theorem blurSuspects_dram {s : State} (h : blindSince s = none) : (blurSuspects s).light.dram = s.light.dram := by
  simp [blurSuspects, h, onLight]

theorem takeForced_light (c : Byte) (s : State) : (takeForced c s).light = { s.light with
    suspect := [], dram := (blurSuspects s).light.dram
    ctrl := updAll s.light.ctrl (fun side _ => side = 0 || !small s), takeovers := satInc s.light.takeovers
    heldSeen := false, quiet := false, returning := famAll 2 false
    lastTakeover := 2, forcedCause := c, fenceTime := s.sys.aonTime, forced := satInc s.light.forced
    uncertain := uncertainRanks s, afterForced := true, fence := none
    subs := updAll s.light.subs (fun _ m => { m with training := false })
    ranks := updAll s.light.ranks (fun _ m => { m with
      st := .sr, trainAt := none, rows := [], refreshing := false, srpd := false }) } := by
  have hsmall : small (blurSuspects s) = small s := by simp [small]
  simp only [takeForced, raise_keeps, bothTaken, onLight]
  rw [blurSuspects_light, hsmall, (blurSuspects_keeps s).2.2.1]

theorem takeForced_taken (c : Byte) (s : State) : Taken s (takeForced c s) where
  settings := by simp [sameSettings]
  neg := by simp
  sec := by simp
  dirty := by rw [takeForced_light]
  heat := by rw [takeForced_light]
  trained := by rw [takeForced_light]

theorem forcedTakeover : Claims.ForcedTakeover := by
  intro s
  refine ⟨fun e c hst he hd hf ht hk hn => ?_, fun hf => ?_⟩
  · have hexec : fenceFalls s = afterTakeover (takeForced c s) := by simp only [fenceFalls, hf, hst, if_true]
    have hlight := (afterTakeover_light (takeForced c s)).trans (takeForced_light c s)
    refine ⟨fenceFalls s, begunGen (takeForced c s) e, rfl, ?_⟩
    rw [hexec, hlight]
    refine ⟨afterTakeover_begun (takeForced_taken c s) he ht hk hn (afterTakeover_light _), rfl, fun r => ?_, rfl, rfl, rfl,
      rfl, rfl, rfl, rfl, blurSuspects_dram, ?_⟩
    · rw [updAll_get]
      exact ⟨rfl, rfl⟩
    · apply State.ext
      case light => exact hlight
      all_goals simp
  · simp [exec, execFence, fenceFalls, hf]

/-- Settles O34: what a takeover leaves of the Exposure, and the generation that begins then. -/
theorem busTakeovers : Obligations.BusTakeovers := ⟨voluntaryTakeover, forcedTakeover⟩

end Sys2Proof.Handover
end

section
/-! PROOF. Parking, slot training and the return of the bus (R69, R236, R242, R243), and the phases of a Development
(R277 to R282). -/

namespace Sys2Proof.Handover

open Sys2Proof Sys2Proof.Machine Sys2Proof.Claims Sys2Proof.Families Sys2Proof.DeviceStates Sys2Proof.Records

/-! ## A host that does not park -/

theorem parkTimeout : Claims.ParkTimeout := by
  intro s e he
  refine ⟨fun hp => ?_, fun hp => ?_⟩
  · show Host.Outcome.next (parkEnds s) = _
    simp only [parkEnds, he, hp, if_true]
    rfl
  · show Host.Outcome.next (parkEnds s) = _
    simp only [parkEnds, he, hp, if_false]

/-! ## Slot training -/

theorem exposureEnds_exp (result : Byte) (s : State) : (exposureEnds result s).neg.exp = none := by
  unfold exposureEnds
  cases he : s.neg.exp with
  | none => exact he
  | some e =>
    dsimp only
    split_ifs
    · simp [onNeg]
    · simp [onNeg]

theorem developmentFails_exp (s : State) : (developmentFails s).neg.exp = s.neg.exp := by
  unfold developmentFails
  cases hd : s.neg.dev with
  | none => rfl
  | some d => simp [onNeg]

/-- A persistence fault leads to FAULT, ends the Exposure, and leaves the tiers and the shadow registers. -/
theorem persistenceFault_faults (code : Byte) (s : State) : (persistenceFault code s).sys.st = .fault ∧
    (persistenceFault code s).sys.faultCause = code ∧ (persistenceFault code s).sys.cause = 0x0C ∧
    (persistenceFault code s).neg.exp = none := by
  have hsys : (persistenceFault code s).sys =
      (enterFault code 0x0C (workEnds opTrigger (developmentFails (exposureEnds 3 s)))).sys := by
    simp only [persistenceFault]
    split_ifs <;> simp
  have hneg : (persistenceFault code s).neg = (developmentFails (exposureEnds 3 s)).neg := by
    simp only [persistenceFault]
    split_ifs <;> simp [enterFault]
  rw [hsys, hneg, enterFault_sys, developmentFails_exp]
  exact ⟨rfl, rfl, rfl, exposureEnds_exp 3 s⟩

theorem slotTraining : Claims.SlotTraining := by
  intro s e he hd
  have hstate : training s = decide (e.phase = .training) := by simp [training, he, hd]
  refine ⟨fun hp hpll => ⟨?_, fun hf => ?_, fun hf => ?_⟩, fun h pass => ?_⟩
  · refine ⟨trainingEnds true s, rfl, ?_⟩
    have hrun : trainingEnds true s = { s with
        neg := { s.neg with exp := some { e with phase := .writing } }
        light := { s.light with trainings := satInc s.light.trainings, slotTrained := true, trainFails := 0 } } := by
      simp [trainingEnds, hstate, hp, hpll, he, hd, onNeg, onLight]
    rw [hrun]
    exact ⟨rfl, rfl, rfl⟩
  · refine ⟨trainingEnds false s, rfl, ?_⟩
    have hrun : trainingEnds false s = { s with light := { s.light with
        trainings := satInc s.light.trainings, slotTrained := false, trainFails := 1
        trainingFailures := satInc s.light.trainingFailures } } := by
      simp [trainingEnds, hstate, hp, hpll, hf, onLight]
    rw [hrun]
    exact ⟨rfl, rfl⟩
  · refine ⟨trainingEnds false s, rfl, ?_⟩
    have hrun : ∃ u : State, u.tiers = s.tiers ∧ u.shadow = s.shadow ∧ trainingEnds false s = persistenceFault 8 u := by
      refine ⟨onLight (fun l => { l with trainFails := 0 }) (onLight (fun l => { l with
        trainings := satInc l.trainings, slotTrained := false, trainFails := l.trainFails + 1
        trainingFailures := satInc l.trainingFailures }) s), rfl, rfl, ?_⟩
      simp [trainingEnds, hstate, hp, hpll, hf, onLight]
    obtain ⟨u, htiers, hshadow, hrun⟩ := hrun
    rw [hrun]
    obtain ⟨hst, hfc, hc, hexp⟩ := persistenceFault_faults 8 u
    exact ⟨hst, hfc, hc, hexp, by simp [htiers], by simp [hshadow]⟩
  · have hnot : (!training s || !pllRuns s) = true := by
      rcases h with h | h
      · simp [hstate, h]
      · simp [h]
    show Host.Outcome.next (trainingEnds pass s) = _
    simp only [trainingEnds, hnot, if_true]

/-! ## The return of the bus -/

/-- Safelight and the switches once a side is back. -/
def returnedLight (side : SideId) (us : U32) (quiet unc : Bool) (l : Light) : Light := { l with
  ctrl := upd l.ctrl side (fun _ => false), returning := upd l.returning side (fun _ => false), returnTime := us
  quiet := quiet, mrUncertain := unc
  ranks := updAll l.ranks (fun r m =>
    if sideOfRank r = side then { m with st := if m.srpd then .srpd else .sr, rows := [], refreshing := false } else m) }

theorem sideReturned_light (side : SideId) (us : U32) (s : State) :
    ∃ quiet unc, (sideReturned side us s).light = returnedLight side us quiet unc s.light := by
  have hkept : ∀ (c : Bool) (k m : Nat) (u : State), (if c then raise k (raise m u) else raise m u).light = u.light := by
    intro c k m u
    split_ifs <;> simp
  exact ⟨_, _, hkept _ 135 132 _⟩

theorem putHeader_gens (g : Gen) (s : State) : (putHeader g s).neg = { s.neg with gens := (putHeader g s).neg.gens } := by
  rw [putHeader, noteRecord_gens]

/-- A consolidation that starts changes the list of generations and its own marks. -/
theorem autoCons_neg (s : State) : (autoCons s).neg = { s.neg with
    cons := (autoCons s).neg.cons, consWanted := (autoCons s).neg.consWanted, gens := (autoCons s).neg.gens } := by
  unfold autoCons startCons
  split
  · dsimp only
    split
    · split
      · rw [(workBegins_keeps _ _ _).2.2.2.2.2.2.2.2.2.2.1, onNeg_neg, putHeader_gens]
        rfl
      · rfl
    · rfl
  · rfl

theorem returnedLight_rank {side : SideId} (us : U32) (quiet unc : Bool) (l : Light) {r : Fin 16}
    (h : sideOfRank r = side) : ((returnedLight side us quiet unc l).ranks[r]).rows = [] ∧
      ((returnedLight side us quiet unc l).ranks[r]).st = if (l.ranks[r]).srpd then .srpd else .sr := by
  simp only [returnedLight, updAll_get, if_pos h, and_self]

/-- Where neither a FAULT is owed nor two channels are dead, the entry of RUN holds, and a consolidation may start. -/
theorem enterRun_rests (cause : Byte) (s : State) (ho : s.cell.owed = false) (hd : (deadChans s).length < 2) :
    ∃ u : State, enterRun cause s = autoCons u ∧ u.neg = s.neg ∧
      u.sys.st = .run ∧ u.sys.prev = s.sys.st ∧ u.sys.cause = cause := by
  have howed : ∀ u : State, (guaranteeNow u).cell.owed = u.cell.owed := by
    intro u
    simp only [guaranteeNow]
    split_ifs <;> simp [onCell]
  have hdead : ∀ u : State, u.nand = s.nand → ¬ 2 ≤ (deadChans u).length := by
    intro u hu
    simp only [deadChans, chanDead, hu] at hd ⊢
    omega
  refine ⟨guaranteeNow (commitNow (logDeferred (enter .run cause
      (onSupply (fun p => { p with triggered := false }) s)))), ?_, by simp [onSupply], ?_⟩
  · simp only [enterRun]
    rw [if_neg (by simp [howed, onSupply, ho]), if_neg (hdead _ (by simp [onSupply]))]
  · simp [onSupply]

theorem enterRun_quiet (cause : Byte) (s : State) (ho : s.cell.owed = false) (hd : (deadChans s).length < 2) :
    (enterRun cause s).sys.st = .run ∧ (enterRun cause s).sys.prev = s.sys.st ∧ (enterRun cause s).sys.cause = cause ∧
    (enterRun cause s).neg.exp = s.neg.exp := by
  obtain ⟨u, hrun, hneg, hst, hprev, hcause⟩ := enterRun_rests cause s ho hd
  rw [hrun, autoCons_neg, ← hneg]
  simp [hst, hprev, hcause]

theorem returnEnds_light (side : SideId) (us : U32) (s : State)
    (h : (s.light.returning[side] && s.light.ctrl[side]) = true) :
    (returnEnds side us s).light = (sideReturned side us s).light := by
  simp only [returnEnds, h, Bool.not_true, Bool.false_eq_true, if_false]
  split_ifs
  · rfl
  · split
    · split_ifs
      · simp [onNeg]
      · rfl
    · split_ifs <;> rfl
    · rfl

theorem busReturn : Claims.BusReturn := by
  intro s side us
  refine ⟨fun h => ?_, fun h => ⟨returnEnds side us s, rfl, ?_⟩⟩
  · show Host.Outcome.next (returnEnds side us s) = _
    simp only [returnEnds, h, Bool.not_false, if_true]
  obtain ⟨quiet, unc, hlight⟩ := sideReturned_light side us s
  have hother : ∀ k : SideId, k ≠ side → (sideReturned side us s).light.returning[k] = s.light.returning[k] := by
    intro k hk
    rw [hlight]
    exact upd_other s.light.returning side k _ (Ne.symm hk)
  have hthis : (sideReturned side us s).light.returning[side] = false := by
    rw [hlight]
    exact upd_same s.light.returning side _
  rw [returnEnds_light side us s h]
  refine ⟨?_, hthis, ?_, fun r hr => ?_, fun k hk => ?_, ?_, ?_, fun e he hp hk ho hd => ?_, fun k hk hr => ?_⟩
  · rw [hlight]
    exact upd_same s.light.ctrl side _
  · rw [hlight]; rfl
  · rw [hlight]
    exact returnedLight_rank us quiet unc s.light hr
  · rw [hlight]
    exact upd_other s.light.ctrl side k _ (Ne.symm hk)
  · rw [hlight]; rfl
  · rw [hlight]; rfl
  · have hlast : ((List.finRange 2).any fun k => (sideReturned side us s).light.returning[k]) = false := by
      simp only [List.any_eq_false, Bool.not_eq_true]
      intro k _
      by_cases hks : k = side
      · rw [hks]; exact hthis
      · rw [hother k hks]; exact hk k hks
    have hneg : (sideReturned side us s).neg = s.neg := by simp
    have hrun : returnEnds side us s = enterRun 0x0A (onNeg (fun n => { n with exp := none }) (sideReturned side us s)) := by
      simp only [returnEnds, h, Bool.not_true, Bool.false_eq_true, if_false, hlast, hneg, he, hp, if_true]
    obtain ⟨hst, hprev, hcause, hexp⟩ := enterRun_quiet 0x0A
      (onNeg (fun n => { n with exp := none }) (sideReturned side us s)) (by simp [onNeg, ho])
      (by simpa [deadChans, chanDead, onNeg] using hd)
    rw [hrun]
    exact ⟨hst, hprev.trans (by simp [onNeg]), hcause, hexp⟩
  · have hmore : ((List.finRange 2).any fun k => (sideReturned side us s).light.returning[k]) = true :=
      List.any_eq_true.mpr ⟨k, List.mem_finRange k, by rw [hother k hk]; exact hr⟩
    have hrun : returnEnds side us s = sideReturned side us s := by
      simp only [returnEnds, h, Bool.not_true, Bool.false_eq_true, if_false, hmore, if_true]
    rw [hrun]
    simp

/-- Settles O35: a host that does not park, slot training, and the return of the bus. -/
theorem busReturns : Obligations.BusReturns := ⟨parkTimeout, slotTraining, busReturn⟩

end Sys2Proof.Handover
end

section
/-! PROOF. The channels of the NAND under the operations that schedule, program and free: what each leaves of a channel
(R292 to R302). -/

namespace Sys2Proof.Channels

open Sys2Proof Sys2Proof.Machine Sys2Proof.Families Sys2Proof.Sequencing

/-! ## A relation of every channel -/

/-- Each channel of a NAND is related to that of another. -/
def Each (R : ChanId → Channel → Channel → Prop) (m n : Nand) : Prop := ∀ k : ChanId, R k m.chans[k] n.chans[k]

/-- A relation that is kept along operations. -/
structure Chains (R : ChanId → Channel → Channel → Prop) : Prop where
  refl : ∀ c a, R c a a
  trans : ∀ c a b d, R c a b → R c b d → R c a d

variable {R : ChanId → Channel → Channel → Prop}

theorem Each.refl (h : Chains R) (n : Nand) : Each R n n := fun k => h.refl k _

theorem Each.trans (h : Chains R) {l m n : Nand} (a : Each R l m) (b : Each R m n) : Each R l n :=
  fun k => h.trans k _ _ _ (a k) (b k)

theorem Each.of_chans (h : Chains R) {m n : Nand} (e : n.chans = m.chans) : Each R m n := by
  intro k
  rw [e]
  exact h.refl k _

theorem setChan_same (c : ChanId) (f : Channel → Channel) (n : Nand) : (setChan c f n).chans[c] = f n.chans[c] :=
  upd_same n.chans c f

theorem setChan_other {c k : ChanId} (f : Channel → Channel) (n : Nand) (h : c ≠ k) :
    (setChan c f n).chans[k] = n.chans[k] := upd_other n.chans c k f h

theorem Each.setChan (h : Chains R) {c : ChanId} {f : Channel → Channel} {n : Nand} (hf : R c n.chans[c] (f n.chans[c])) :
    Each R n (setChan c f n) := by
  intro k
  by_cases hk : c = k
  · subst hk
    rw [setChan_same]
    exact hf
  · rw [setChan_other f n hk]
    exact h.refl k _

theorem Each.foldl (h : Chains R) {α : Type} {g : State → α → State} (hg : ∀ s a, Each R s.nand (g s a).nand)
    (l : List α) (s : State) : Each R s.nand (l.foldl g s).nand := by
  induction l generalizing s with
  | nil => exact Each.refl h _
  | cons a l ih => exact Each.trans h (hg s a) (ih (g s a))

/-! ## What the scheduler changes -/

/-- Only the scheduler's part of a channel has changed: queue, erases, the cache-sequential read and the commands given. -/
def Rescheduled (_ : ChanId) (a b : Channel) : Prop :=
  b = { a with queue := b.queue, erases := b.erases, cacheLun := b.cacheLun, issued := b.issued }

theorem chains_rescheduled : Chains Rescheduled where
  refl _ _ := rfl
  trans c a b d hb hd := by
    unfold Rescheduled at *
    rw [hd, hb]

theorem startOp_rescheduled (c : ChanId) (ch : Channel) (o : NandOp) : Rescheduled c ch (startOp ch o) := by
  unfold startOp
  split
  · rfl
  · split
    · rfl
    · split <;> rfl

theorem startOps_rescheduled (c : ChanId) (ch : Channel) : Rescheduled c ch (startOps ch) := by
  unfold startOps
  generalize inOrder ch.queue = ops
  induction ops generalizing ch with
  | nil => rfl
  | cons o ops ih => exact chains_rescheduled.trans c _ _ _ (startOp_rescheduled c ch o) (ih _)

theorem onQueue_each (h : Chains R) (hs : ∀ c a b, Rescheduled c a b → R c a b) {c : ChanId} {f : Channel → Channel}
    {s : State} (hf : R c s.nand.chans[c] (f s.nand.chans[c])) : Each R s.nand (onQueue c f s).nand :=
  Each.setChan h (h.trans c _ _ _ hf (hs c _ _ (startOps_rescheduled c _)))

theorem endSequence_rescheduled (c : ChanId) (ch : Channel) : Rescheduled c ch (endSequence ch) := by
  unfold endSequence
  split_ifs <;> rfl

theorem meetSequence_rescheduled (c : ChanId) (o : NandOp) (ch : Channel) : Rescheduled c ch (meetSequence o ch) := by
  unfold meetSequence
  split_ifs
  · exact endSequence_rescheduled c ch
  · rfl

theorem arrive_rescheduled (c : ChanId) (o : NandOp) (s : State) : Each Rescheduled s.nand (arrive c o s).nand := by
  unfold arrive
  split_ifs
  · exact Each.refl chains_rescheduled _
  · refine onQueue_each chains_rescheduled (fun _ _ _ h => h) ?_
    split_ifs
    · rfl
    · exact chains_rescheduled.trans c _ _ _ (meetSequence_rescheduled c o _) rfl

theorem depart_rescheduled (c : ChanId) (id : Nat) (s : State) : Each Rescheduled s.nand (depart c id s).nand :=
  onQueue_each chains_rescheduled (fun _ _ _ h => h) rfl

theorem workBegins_rescheduled (id cls : Nat) (s : State) : Each Rescheduled s.nand (workBegins id cls s).nand :=
  Each.foldl chains_rescheduled (fun s c => arrive_rescheduled c _ s) _ s

theorem workEnds_rescheduled (id : Nat) (s : State) : Each Rescheduled s.nand (workEnds id s).nand :=
  Each.foldl chains_rescheduled (fun s c => depart_rescheduled c id s) _ s

/-! ## What programs and frees change of the blocks -/

/-- A block's use and its owner stay. -/
def sameHolder (c : ChanId) (a b : Channel) (n : Nat) : Prop :=
  (blockAt b c n).use = (blockAt a c n).use ∧ (blockAt b c n).owner = (blockAt a c n).owner

/-- The channel is as alive as it was, and a block is in its old use or free. -/
def Loosened (c : ChanId) (a b : Channel) : Prop :=
  b.state = a.state ∧ ∀ n, (blockAt b c n).use = 0 ∨ (blockAt b c n).use = (blockAt a c n).use

/-- The channel is as alive as it was, and a block in use stays with its owner. -/
def Filled (c : ChanId) (a b : Channel) : Prop :=
  b.state = a.state ∧ ∀ n, (blockAt a c n).use ≠ 0 → sameHolder c a b n

/-- The channel is as alive as it was, and every block stays with its owner. -/
def Programmed (c : ChanId) (a b : Channel) : Prop := b.state = a.state ∧ ∀ n, sameHolder c a b n

theorem Programmed.loosened {c : ChanId} {a b : Channel} (h : Programmed c a b) : Loosened c a b :=
  ⟨h.1, fun n => Or.inr (h.2 n).1⟩

theorem Programmed.filled {c : ChanId} {a b : Channel} (h : Programmed c a b) : Filled c a b := ⟨h.1, fun n _ => h.2 n⟩

theorem chains_programmed : Chains Programmed where
  refl _ _ := ⟨rfl, fun _ => ⟨rfl, rfl⟩⟩
  trans _ _ _ _ h k := ⟨k.1.trans h.1, fun n => ⟨(k.2 n).1.trans (h.2 n).1, (k.2 n).2.trans (h.2 n).2⟩⟩

theorem chains_loosened : Chains Loosened where
  refl c a := (chains_programmed.refl c a).loosened
  trans c a b d h k := by
    refine ⟨k.1.trans h.1, fun n => ?_⟩
    rcases k.2 n with hk | hk
    · exact Or.inl hk
    · exact (h.2 n).imp hk.trans hk.trans

theorem chains_filled : Chains Filled where
  refl c a := (chains_programmed.refl c a).filled
  trans c a b d h k := by
    refine ⟨k.1.trans h.1, fun n hn => ?_⟩
    obtain ⟨huse, howner⟩ := h.2 n hn
    obtain ⟨huse', howner'⟩ := k.2 n (huse ▸ hn)
    exact ⟨huse'.trans huse, howner'.trans howner⟩

/-- A change that leaves the blocks and the channel's state. -/
theorem programmed_of_blocks {c : ChanId} {a b : Channel} (hs : b.state = a.state) (hb : b.blocks = a.blocks) :
    Programmed c a b := by
  refine ⟨hs, fun n => ?_⟩
  simp only [sameHolder, blockAt, hb, and_self]

theorem Rescheduled.programmed {c : ChanId} {a b : Channel} (h : Rescheduled c a b) : Programmed c a b :=
  by
  unfold Rescheduled at h
  rw [h]
  exact programmed_of_blocks rfl rfl

/-- A block's entry is what the channel's list of blocks makes it. -/
theorem blockAt_of_blocks {c : ChanId} {a b : Channel} (h : b.blocks = a.blocks) (n : Nat) : blockAt b c n = blockAt a c n := by
  simp only [blockAt, h]

theorem blockAt_onBlock_same (c : ChanId) (b : Nat) (f : NandBlock → NandBlock) (ch : Channel) :
    blockAt (onBlock c b f ch) c b = f (blockAt ch c b) := by
  simp [blockAt, onBlock]

theorem blockAt_onBlock_other (c : ChanId) {b n : Nat} (f : NandBlock → NandBlock) (ch : Channel) (h : n ≠ b) :
    blockAt (onBlock c b f ch) c n = blockAt ch c n := by
  simp only [blockAt, onBlock, aget_aput_other _ _ _ _ h]

/-- A block's entry changed with its use and its owner kept. -/
theorem onBlock_programmed {c : ChanId} {b : Nat} {f : NandBlock → NandBlock} (ch : Channel)
    (h : ∀ x, (f x).use = x.use ∧ (f x).owner = x.owner) : Programmed c ch (onBlock c b f ch) := by
  refine ⟨rfl, fun n => ?_⟩
  unfold sameHolder
  by_cases hn : n = b
  · subst hn
    rw [blockAt_onBlock_same]
    exact h _
  · rw [blockAt_onBlock_other c f ch hn]
    exact ⟨rfl, rfl⟩

theorem onBlock_loosened {c : ChanId} {b : Nat} {f : NandBlock → NandBlock} (ch : Channel)
    (h : ∀ x, (f x).use = 0 ∨ (f x).use = x.use) : Loosened c ch (onBlock c b f ch) := by
  refine ⟨rfl, fun n => ?_⟩
  by_cases hn : n = b
  · subst hn
    rw [blockAt_onBlock_same]
    exact h _
  · rw [blockAt_onBlock_other c f ch hn]
    exact Or.inr rfl

theorem programNext_programmed (c : ChanId) (b : Nat) (data : List Byte) (ch : Channel) :
    Programmed c ch (programNext c b data ch) :=
  chains_programmed.trans c _ _ _ (programmed_of_blocks rfl rfl) (onBlock_programmed _ fun _ => ⟨rfl, rfl⟩)

/-! ## Records in the anchors -/

theorem countPage_chans (use : Fin 4) (n : Nand) : (countPage use n).chans = n.chans := by
  unfold countPage
  split_ifs <;> rfl

theorem anchorPut_programmed {c : ChanId} {r : List Byte} {n m : Nand} (h : anchorPut c r n = some m) :
    Each Programmed n m := by
  have hput : ∀ b copying, Each Programmed n
      (countPage 3 (setChan c (fun ch => { programNext c b r ch with copying := copying }) n)) := by
    intro b copying
    refine Each.trans chains_programmed (Each.setChan chains_programmed ?_)
      (Each.of_chans chains_programmed (countPage_chans 3 _))
    exact chains_programmed.trans c _ _ _ (programNext_programmed c b r _) (programmed_of_blocks rfl rfl)
  unfold anchorPut at h
  dsimp only at h
  split at h
  · exact absurd h nofun
  · split at h
    · split at h
      · exact Option.some.inj h ▸ hput _ _
      · split at h
        · exact Option.some.inj h ▸ hput _ _
        · exact absurd h nofun
    · exact absurd h nofun

theorem anchorWrite_programmed (c : ChanId) (r : List Byte) (s : State) : Each Programmed s.nand (anchorWrite c r s).2.nand := by
  unfold anchorWrite
  cases hput : anchorPut c r s.nand with
  | none => exact Each.refl chains_programmed _
  | some n =>
    refine Each.trans chains_programmed (anchorPut_programmed hput) ?_
    dsimp only
    split_ifs
    · exact fun k => (arrive_rescheduled c _ _ k).programmed
    · exact Each.refl chains_programmed _

theorem putCopies_programmed (gen : Nat) (r : List Byte) (s : State) : Each Programmed s.nand (putCopies gen r s).2.nand := by
  unfold putCopies
  generalize pairChannels s gen = cs, false = done
  induction cs generalizing s done with
  | nil => exact Each.refl chains_programmed _
  | cons c cs ih => exact Each.trans chains_programmed (anchorWrite_programmed c r s) (ih _ _)

theorem noteRecord_programmed (gen : Nat) (type : Byte) (body : List Byte) (s : State) :
    Each Programmed s.nand (noteRecord gen type body s).nand := putCopies_programmed gen _ s

/-! ## Blocks freed -/

theorem blockAt_erased_same (c : ChanId) (b : Nat) (ch : Channel) : blockAt (erased c b ch) c b = { blockAt ch c b with
    erases := min ((blockAt ch c b).erases + 1) (2 ^ 28 - 1), closed := false, next := 0, owner := 0 } :=
  blockAt_onBlock_same c b _ _

theorem blockAt_erased_other (c : ChanId) {b n : Nat} (ch : Channel) (h : n ≠ b) :
    blockAt (erased c b ch) c n = blockAt ch c n := blockAt_onBlock_other c _ _ h

theorem erased_loosened (c : ChanId) (b : Nat) (ch : Channel) : Loosened c ch (erased c b ch) :=
  chains_loosened.trans c _ _ _ (programmed_of_blocks rfl rfl).loosened (onBlock_loosened _ fun _ => Or.inr rfl)

/-- A block table written anew on a channel. -/
structure TableWritten (c : ChanId) (a b : Channel) : Prop where
  frame : b = { a with
    pages := b.pages, blocks := b.blocks, tables := b.tables, issued := b.issued, sinceTable := 0, tableSeq := a.tableSeq + 1 }
  use : ∀ k, (blockAt b c k).use = (blockAt a c k).use
  kept : ∀ k, k ∉ a.tables → blockAt b c k = blockAt a c k

/-- Pages of one block programmed: that block alone has changed, and its use has not. -/
structure BlockFilled (c : ChanId) (old : Nat) (a b : Channel) : Prop where
  frame : b = { a with pages := b.pages, blocks := b.blocks, issued := b.issued }
  use : ∀ k, (blockAt b c k).use = (blockAt a c k).use
  kept : ∀ k, k ≠ old → blockAt b c k = blockAt a c k

theorem programNext_fills (c : ChanId) (old : Nat) (data : List Byte) (ch : Channel) :
    BlockFilled c old ch (programNext c old data ch) where
  frame := rfl
  use k := ((programNext_programmed c old data ch).2 k).1
  kept _ hk := blockAt_onBlock_other c _ _ hk

theorem BlockFilled.trans {c : ChanId} {old : Nat} {x y z : Channel} (h : BlockFilled c old x y)
    (g : BlockFilled c old y z) : BlockFilled c old x z where
  frame := by
    rw [g.frame, h.frame]
  use k := (g.use k).trans (h.use k)
  kept k hk := (g.kept k hk).trans (h.kept k hk)

theorem countPage_three (n : Nand) : countPage 3 n = { n with bytesP := n.bytesP + 16384 } := rfl

theorem setChan_const (c : ChanId) (f : Channel → Channel) (n : Nand) :
    setChan c f n = { n with chans := upd n.chans c fun _ => f n.chans[c] } := rfl

/-- The pages of a table programmed one after the other. -/
theorem tablePages_fill (c : ChanId) (old : Nat) (page : Nand → List Nat → List Byte) (groups : List (List Nat)) (n : Nand) :
    ∃ x y, groups.foldl (fun n bs => countPage 3 (setChan c (fun ch => programNext c old (page n bs) ch) n)) n =
      { n with chans := upd n.chans c fun _ => x, bytesP := y } ∧ BlockFilled c old n.chans[c] x := by
  induction groups generalizing n with
  | nil =>
    refine ⟨n.chans[c], n.bytesP, ?_, rfl, fun _ => rfl, fun _ _ => rfl⟩
    rw [List.foldl_nil, upd_fixed n.chans c rfl]
  | cons bs groups ih =>
    obtain ⟨x, y, heq, hx⟩ := ih (countPage 3 (setChan c (fun ch => programNext c old (page n bs) ch) n))
    have hchans : (countPage 3 (setChan c (fun ch => programNext c old (page n bs) ch) n)).chans[c] =
        programNext c old (page n bs) n.chans[c] := by
      rw [countPage_chans]
      exact setChan_same c _ n
    rw [hchans] at hx
    refine ⟨x, y, ?_, (programNext_fills c old _ _).trans hx⟩
    rw [List.foldl_cons, heq]
    simp only [countPage_three, setChan, TilePorts.upd_upd]

/-- The block of the pair that a table goes to, erased for it. -/
theorem erased_writes (c : ChanId) {old : Nat} (tables : List Nat) {ch : Channel} (h : old ∈ ch.tables) :
    TableWritten c ch { erased c old { ch with tableSeq := ch.tableSeq + 1, sinceTable := 0 } with
      tables := tables, sinceTable := 0 } := by
  have hblock : ∀ k, blockAt { erased c old { ch with tableSeq := ch.tableSeq + 1, sinceTable := 0 } with
      tables := tables, sinceTable := 0 } c k = blockAt (erased c old { ch with
        tableSeq := ch.tableSeq + 1, sinceTable := 0 }) c k := blockAt_of_blocks rfl
  refine ⟨rfl, fun k => ?_, fun k hk => ?_⟩
  · rw [hblock]
    by_cases hk : k = old
    · subst hk
      rw [blockAt_erased_same]
      rfl
    · rw [blockAt_erased_other c _ hk]
      rfl
  · have hne : k ≠ old := fun e => hk (e.symm ▸ h)
    rw [hblock, blockAt_erased_other c _ hne]
    rfl

theorem TableWritten.fill {c : ChanId} {old : Nat} {x y z : Channel} (h : TableWritten c x y) (g : BlockFilled c old y z)
    (hold : old ∈ x.tables) : TableWritten c x z where
  frame := by
    rw [g.frame, h.frame]
  use k := (g.use k).trans (h.use k)
  kept k hk := (g.kept k fun e => hk (e ▸ hold)).trans (h.kept k hk)

theorem rewriteTable_writes (ids : List Nat) (c : ChanId) (n : Nand) :
    ∃ x y, rewriteTable ids c n = { n with chans := upd n.chans c fun _ => x, bytesP := y } ∧ TableWritten c n.chans[c] x := by
  have hnext : ∀ f : Channel → Channel, (setChan c f n).chans[c] = f n.chans[c] := fun f => setChan_same c f n
  unfold rewriteTable
  dsimp only
  rw [hnext]
  dsimp only
  split
  · next old new ht =>
    obtain ⟨x, y, heq, hx⟩ := tablePages_fill c old (fun m bs => tablePage m c ((n.chans[c]).tableSeq + 1) bs)
      (tableGroups ids.length ids) (setChan c (fun ch => { erased c old ch with tables := [new, old], sinceTable := 0 })
        (setChan c (fun ch => { ch with tableSeq := (n.chans[c]).tableSeq + 1, sinceTable := 0 }) n))
    refine ⟨x, y, ?_, ?_⟩
    · refine heq.trans ?_
      simp only [setChan, TilePorts.upd_upd]
    · rw [setChan_same, setChan_same] at hx
      have hold : old ∈ (n.chans[c]).tables := by rw [ht]; exact List.mem_cons_self
      exact (erased_writes c [new, old] hold).fill hx hold
  · refine ⟨{ n.chans[c] with tableSeq := (n.chans[c]).tableSeq + 1, sinceTable := 0 }, n.bytesP, rfl, rfl, fun _ => rfl,
      fun _ _ => rfl⟩

theorem TableWritten.loosened {c : ChanId} {a b : Channel} (h : TableWritten c a b) : Loosened c a b :=
  ⟨by rw [h.frame], fun k => Or.inr (h.use k)⟩

theorem rewriteTable_loosened (ids : List Nat) (c : ChanId) (n : Nand) : Each Loosened n (rewriteTable ids c n) := by
  obtain ⟨x, y, heq, hx⟩ := rewriteTable_writes ids c n
  rw [heq]
  exact Each.setChan (f := fun _ => x) chains_loosened hx.loosened

/-! ## Blocks freed -/

theorem retired_loosened (ids : List Nat) (c : ChanId) (b : Nat) (ch : Channel) : Loosened c ch (retired ids c b ch) :=
  chains_loosened.trans c _ _ _ (programmed_of_blocks rfl rfl).loosened (onBlock_loosened _ fun _ => Or.inl rfl)

theorem raise_nand (k : Nat) (s : State) : (raise k s).nand = s.nand := by simp

/-- A channel with a block retired, before its table is written anew. -/
def afterRetiring (c : ChanId) (b : Nat) (s : State) : Nand :=
  { setChan c (fun ch => startOps (retired (blocksOf s) c b ch)) s.nand with grownCount := satInc s.nand.grownCount }

theorem retire_nand (c : ChanId) (b : Nat) (s : State) :
    (retire c b s).nand = rewriteTable (blocksOf s) c (afterRetiring c b s) := raise_nand _ _

theorem afterRetiring_loosened (c : ChanId) (b : Nat) (s : State) : Each Loosened s.nand (afterRetiring c b s) :=
  Each.setChan chains_loosened (chains_loosened.trans c _ _ _ (retired_loosened _ c b _)
    (startOps_rescheduled c _).programmed.loosened)

theorem afterRetiring_frees (c : ChanId) (b : Nat) (s : State) : (blockAt (afterRetiring c b s).chans[c] c b).use = 0 := by
  have hchan : (afterRetiring c b s).chans[c] = startOps (retired (blocksOf s) c b s.nand.chans[c]) := setChan_same c _ s.nand
  rw [hchan, ((startOps_rescheduled c _).programmed.2 b).1]
  exact congrArg NandBlock.use (blockAt_onBlock_same c b _ _)

theorem retire_loosened (c : ChanId) (b : Nat) (s : State) : Each Loosened s.nand (retire c b s).nand := by
  rw [retire_nand]
  exact Each.trans chains_loosened (afterRetiring_loosened c b s) (rewriteTable_loosened _ c _)

theorem letGo_loosened (c : ChanId) (b : Nat) (s : State) : Each Loosened s.nand (letGo c b s).nand := by
  unfold letGo
  split_ifs
  · exact retire_loosened c b s
  · exact Each.setChan chains_loosened (onBlock_loosened _ fun _ => Or.inl rfl)

/-- A block that later changes loosen stays free. -/
theorem free_of_loosened {m n : Nand} {c : ChanId} {b : Nat} (h : Each Loosened m n)
    (hfree : (blockAt m.chans[c] c b).use = 0) : (blockAt n.chans[c] c b).use = 0 :=
  ((h c).2 b).elim id fun hsame => hsame.trans hfree

/-- A block let go is in no use. -/
theorem letGo_frees (c : ChanId) (b : Nat) (s : State) : (blockAt (letGo c b s).nand.chans[c] c b).use = 0 := by
  by_cases hclosed : (blockAt s.nand.chans[c] c b).closed = true
  · have hgo : (letGo c b s).nand = rewriteTable (blocksOf s) c (afterRetiring c b s) :=
      (congrArg State.nand (if_pos hclosed)).trans (retire_nand c b s)
    rw [hgo]
    exact free_of_loosened (rewriteTable_loosened _ c _) (afterRetiring_frees c b s)
  · have hgo : (letGo c b s).nand = setChan c (onBlock c b fun x => { x with use := 0, owner := 0 }) s.nand :=
      congrArg State.nand (if_neg hclosed)
    rw [hgo, setChan_same, blockAt_onBlock_same]

theorem beginErase_programmed (c : ChanId) (b : Nat) (ch : Channel) : Programmed c ch (beginErase b ch) := by
  unfold beginErase
  split_ifs
  · exact chains_programmed.refl c ch
  · exact programmed_of_blocks rfl rfl

theorem beginErases_programmed (c : ChanId) (ch : Channel) : Programmed c ch (beginErases c ch) := by
  unfold beginErases
  generalize ch.blocks.filter _ = bs
  induction bs generalizing ch with
  | nil => exact chains_programmed.refl c ch
  | cons p bs ih =>
    refine chains_programmed.trans c _ _ _ ?_ (ih _)
    exact beginErase_programmed c p.1 ch

theorem letGoes_free (c : ChanId) (l : List (Nat × NandBlock)) (s : State) :
    Each Loosened s.nand (l.foldl (fun s p => letGo c p.1 s) s).nand ∧
    ∀ p ∈ l, (blockAt (l.foldl (fun s p => letGo c p.1 s) s).nand.chans[c] c p.1).use = 0 := by
  induction l generalizing s with
  | nil => exact ⟨Each.refl chains_loosened _, fun p hp => absurd hp List.not_mem_nil⟩
  | cons q l ih =>
    obtain ⟨hrest, hfree⟩ := ih (letGo c q.1 s)
    refine ⟨Each.trans chains_loosened (letGo_loosened c q.1 s) hrest, List.forall_mem_cons.mpr ⟨?_, hfree⟩⟩
    rcases (hrest c).2 q.1 with h | h
    · exact h
    · exact h.trans (letGo_frees c q.1 s)

theorem freeBlocks_loosened (c : ChanId) (test : Nat → NandBlock → Bool) (s : State) :
    Each Loosened s.nand (freeBlocks c test s).nand := by
  unfold freeBlocks
  dsimp only
  have hlet := (letGoes_free c ((s.nand.chans[c]).blocks.filter fun p => test p.1 p.2) s).1
  split_ifs
  · exact hlet
  · exact Each.trans chains_loosened hlet (Each.setChan chains_loosened (beginErases_programmed c _).loosened)

theorem mem_of_aget {α : Type} {m : Assoc α} {k : Nat} {v : α} (h : aget m k = some v) : (k, v) ∈ m := by
  induction m with
  | nil => exact absurd h nofun
  | cons p m ih =>
    obtain ⟨j, x⟩ := p
    simp only [aget] at h
    split at h
    · next hk =>
      rw [hk, Option.some.inj h]
      exact List.mem_cons_self
    · exact List.mem_cons_of_mem _ (ih h)

/-- A block in use is listed. -/
theorem listed_of_use {c : ChanId} {b : Nat} {ch : Channel} (h : (blockAt ch c b).use ≠ 0) :
    (b, blockAt ch c b) ∈ ch.blocks := by
  cases hb : aget ch.blocks b with
  | none =>
    refine absurd ?_ h
    simp only [blockAt, hb, Option.getD_none]
  | some x =>
    have hx : blockAt ch c b = x := by simp only [blockAt, hb, Option.getD_some]
    rw [hx]
    exact mem_of_aget hb

/-- A block in use that a test names is freed. -/
theorem freeBlocks_frees {c : ChanId} {test : Nat → NandBlock → Bool} {s : State} {b : Nat}
    (huse : (blockAt s.nand.chans[c] c b).use ≠ 0) (htest : test b (blockAt s.nand.chans[c] c b) = true) :
    (blockAt (freeBlocks c test s).nand.chans[c] c b).use = 0 := by
  have hfree := (letGoes_free c ((s.nand.chans[c]).blocks.filter fun p => test p.1 p.2) s).2 _
    (List.mem_filter.mpr ⟨listed_of_use huse, htest⟩)
  unfold freeBlocks
  dsimp only
  split_ifs
  · exact hfree
  · have hchan := setChan_same c (beginErases c)
      (((s.nand.chans[c]).blocks.filter fun p => test p.1 p.2).foldl (fun s p => letGo c p.1 s) s).nand
    refine (congrArg (fun ch => (blockAt ch c b).use) hchan).trans ?_
    exact ((beginErases_programmed c _).2 b).1.trans hfree

theorem freeBlocksAll_loosened (test : ChanId → Nat → NandBlock → Bool) (s : State) :
    Each Loosened s.nand (freeBlocksAll test s).nand :=
  Each.foldl chains_loosened (fun s c => freeBlocks_loosened c (test c) s) _ s

/-- Every channel but one stays as it is. -/
def Elsewhere (c k : ChanId) (a b : Channel) : Prop := k ≠ c → b = a

theorem chains_elsewhere (c : ChanId) : Chains (Elsewhere c) where
  refl _ _ _ := rfl
  trans _ _ _ _ h g hk := (g hk).trans (h hk)

theorem elsewhere_setChan (c : ChanId) (f : Channel → Channel) (n : Nand) : Each (Elsewhere c) n (setChan c f n) :=
  Each.setChan (chains_elsewhere c) fun h => absurd rfl h

theorem elsewhere_rewriteTable (ids : List Nat) (c : ChanId) (n : Nand) : Each (Elsewhere c) n (rewriteTable ids c n) := by
  obtain ⟨x, y, heq, -⟩ := rewriteTable_writes ids c n
  rw [heq]
  exact elsewhere_setChan c (fun _ => x) n

theorem elsewhere_retire (c : ChanId) (b : Nat) (s : State) : Each (Elsewhere c) s.nand (retire c b s).nand := by
  rw [retire_nand]
  have hretired : Each (Elsewhere c) s.nand (afterRetiring c b s) :=
    Each.trans (chains_elsewhere c) (elsewhere_setChan c (fun ch => startOps (retired (blocksOf s) c b ch)) s.nand)
      (Each.of_chans (chains_elsewhere c) rfl)
  exact Each.trans (chains_elsewhere c) hretired (elsewhere_rewriteTable _ c _)

theorem elsewhere_letGo (c : ChanId) (b : Nat) (s : State) : Each (Elsewhere c) s.nand (letGo c b s).nand := by
  unfold letGo
  split
  · exact elsewhere_retire c b s
  · exact elsewhere_setChan c (onBlock c b fun x => { x with use := 0, owner := 0 }) s.nand

theorem elsewhere_freeBlocks (c : ChanId) (test : Nat → NandBlock → Bool) (s : State) :
    Each (Elsewhere c) s.nand (freeBlocks c test s).nand := by
  unfold freeBlocks
  dsimp only
  have hlet := Each.foldl (chains_elsewhere c) (fun s (p : Nat × NandBlock) => elsewhere_letGo c p.1 s)
    ((s.nand.chans[c]).blocks.filter fun p => test p.1 p.2) s
  split_ifs
  · exact hlet
  · exact Each.trans (chains_elsewhere c) hlet (elsewhere_setChan c _ _)

/-- The blocks that a test names, freed on some channels one after the other. -/
theorem freeBlocksAlong_loosened (test : ChanId → Nat → NandBlock → Bool) (l : List ChanId) (s : State) :
    Each Loosened s.nand (l.foldl (fun (s : State) c => freeBlocks c (test c) s) s).nand :=
  Each.foldl chains_loosened (fun s c => freeBlocks_loosened c (test c) s) l s

theorem freeBlocksAlong_frees {c : ChanId} {test : ChanId → Nat → NandBlock → Bool} {b : Nat} {l : List ChanId}
    (hc : c ∈ l) {s : State} (huse : (blockAt s.nand.chans[c] c b).use ≠ 0)
    (htest : test c b (blockAt s.nand.chans[c] c b) = true) :
    (blockAt (l.foldl (fun (s : State) c => freeBlocks c (test c) s) s).nand.chans[c] c b).use = 0 := by
  induction l generalizing s with
  | nil => exact absurd hc List.not_mem_nil
  | cons k l ih =>
    rw [List.foldl_cons]
    by_cases hk : c = k
    · subst hk
      exact free_of_loosened (freeBlocksAlong_loosened test l _) (freeBlocks_frees huse htest)
    · have hchan : (freeBlocks k (test k) s).nand.chans[c] = s.nand.chans[c] := elsewhere_freeBlocks k (test k) s c hk
      exact ih ((List.mem_cons.mp hc).resolve_left hk) (by rw [hchan]; exact huse) (by rw [hchan]; exact htest)

/-- A block in use that a test names is freed on its channel, whichever channels come before it. -/
theorem freeBlocksAll_frees {c : ChanId} {test : ChanId → Nat → NandBlock → Bool} {s : State} {b : Nat}
    (huse : (blockAt s.nand.chans[c] c b).use ≠ 0) (htest : test c b (blockAt s.nand.chans[c] c b) = true) :
    (blockAt (freeBlocksAll test s).nand.chans[c] c b).use = 0 := by
  unfold freeBlocksAll
  exact freeBlocksAlong_frees (List.mem_finRange c) huse htest

theorem updateFits_nand (s : State) : (updateFits s).nand = s.nand := by
  unfold updateFits
  dsimp only
  split_ifs
  · rfl
  · rw [raise_nand]; rfl

/-- The blocks of generations that are freed are no longer a Negative's. -/
theorem freeGens_frees {c : ChanId} {test : Nat → Bool} {s : State} {b : Nat} (huse : (blockAt s.nand.chans[c] c b).use = 1)
    (htest : test (blockAt s.nand.chans[c] c b).owner = true) :
    (blockAt (freeGens test s).nand.chans[c] c b).use = 0 := by
  rw [freeGens, updateFits_nand]
  refine freeBlocksAll_frees ?_ ?_
  · rw [huse]; decide
  · rw [huse, htest]; rfl

theorem freeGens_loosened (test : Nat → Bool) (s : State) : Each Loosened s.nand (freeGens test s).nand := by
  rw [freeGens, updateFits_nand]
  exact freeBlocksAll_loosened _ s

/-! ## Dead channels -/

/-- Where no channel's state has changed, the same channels are dead. -/
theorem deadChans_of_state {s t : State} (h : ∀ c : ChanId, (t.nand.chans[c]).state = (s.nand.chans[c]).state) :
    deadChans t = deadChans s := by
  simp only [deadChans, chanDead, h]

end Sys2Proof.Channels
end

section
/-! PROOF. The phases of a Development: the maps, the last frame, the DEVELOPED mark (R277 to R282). -/

namespace Sys2Proof.Developments

open Sys2Proof Sys2Proof.Machine Sys2Proof.Claims Sys2Proof.Families Sys2Proof.DeviceStates Sys2Proof.Records
open Sys2Proof.Handover Sys2Proof.Channels

/-! ## The chain's maps -/

/-- Reads in sequence begin on some channels: only the channels' cache-sequential reads and commands change. -/
def Sequenced (_ : ChanId) (a b : Channel) : Prop := b = { a with cacheLun := b.cacheLun, issued := b.issued }

theorem chains_sequenced : Chains Sequenced where
  refl _ _ := rfl
  trans c a b d h g := by
    unfold Sequenced at *
    rw [g, h]

theorem onChan_nand (c : ChanId) (f : Channel → Channel) (s : State) :
    (onChan c f s).nand = { s.nand with chans := upd s.nand.chans c f } := rfl

theorem readsInSequence_sequenced (s : State) : Each Sequenced s.nand (readsInSequence s).nand := by
  unfold readsInSequence
  refine Each.foldl chains_sequenced (fun u c => ?_) _ s
  split
  · exact Each.setChan chains_sequenced rfl
  · exact Each.refl chains_sequenced _

theorem readsInSequence_chansOnly (s : State) : TilePorts.chansOnly s (readsInSequence s) := by
  unfold readsInSequence
  refine TilePorts.foldl_chansOnly _ (fun u c => ?_) _ s
  split
  · rfl
  · rfl

theorem developmentFails_neg {s : State} {d : Devel} (h : s.neg.dev = some d) : (developmentFails s).neg = { s.neg with
    dev := none, devResult := 3, report := failedReport s d } := by
  simp [developmentFails, h, onNeg]

/-- An Exposure that ends leaves the generations and a Development. -/
theorem exposureEnds_neg (result : Byte) (s : State) :
    (exposureEnds result s).neg.dev = s.neg.dev ∧ (exposureEnds result s).neg.gens = s.neg.gens := by
  unfold exposureEnds
  cases he : s.neg.exp with
  | none => exact ⟨rfl, rfl⟩
  | some e =>
    dsimp only
    split_ifs <;> simp [onNeg]

theorem chainMaps : Claims.ChainMaps := by
  intro s d hd
  refine ⟨fun hp hpll => ⟨fun hr hdead => ?_, fun hbad => ?_⟩, fun h => ?_⟩
  · let u : State := onNeg (fun n => { n with dev := some { d with phase := .writing } }) s
    have hrun : mapsLoaded s = readsInSequence u := by
      simp only [mapsLoaded, hd, hp, hpll, hr, hdead, decide_true, Bool.and_true, if_true]
      rfl
    refine ⟨readsInSequence u, congrArg Host.Outcome.next hrun, by simp [u, onNeg], fun c => ?_, ?_⟩
    · exact readsInSequence_sequenced u c
    · apply State.ext
      case nand => exact readsInSequence_chansOnly u
      all_goals simp [u, onNeg]
  · have hrun : mapsLoaded s = persistenceFault 7 s := by
      have hcond : (chainReadable s && decide ((deadChans s).length < 2)) = false := by
        rcases hbad with h | h
        · rw [h, Bool.false_and]
        · rw [decide_eq_false (by omega), Bool.and_false]
      simp only [mapsLoaded, hd, hp, hpll, hcond]
      rfl
    have hneg : (persistenceFault 7 s).neg = (developmentFails (exposureEnds 3 s)).neg := by
      simp only [persistenceFault]
      split_ifs <;> simp [enterFault]
    obtain ⟨hst, hfc, hc, -⟩ := persistenceFault_faults 7 s
    obtain ⟨hdev, hgens⟩ := exposureEnds_neg 3 s
    refine ⟨persistenceFault 7 s, congrArg Host.Outcome.next hrun, hst, hfc, hc, ?_, ?_, ?_, by simp⟩
    all_goals rw [hneg, developmentFails_neg (hdev.trans hd)]
    exact hgens
  · show Host.Outcome.next (mapsLoaded s) = _
    have hstill : mapsLoaded s = s := by
      simp only [mapsLoaded, hd]
      exact if_pos (by rcases h with h | h <;> simp [h])
    rw [hstill]

/-! ## The last frame -/

theorem aget_filterMap_written {α : Type} (g : Nat → α) (p : α → Prop) [DecidablePred p] {l : List Nat} {f : Nat} (h : f ∈ l) :
    aget (l.filterMap fun f => if p (g f) then none else some (f, g f)) f = if p (g f) then none else some (g f) := by
  have hall : ∀ (l : List Nat), aget (l.filterMap fun f => if p (g f) then none else some (f, g f)) f =
      if f ∈ l then (if p (g f) then none else some (g f)) else none := by
    intro l
    induction l with
    | nil => rfl
    | cons k l ih =>
      by_cases hk : f = k
      · subst hk
        by_cases hp : p (g f)
        · simp [hp, ih]
        · simp [hp, aget]
      · by_cases hp : p (g k)
        · simp [hp, ih, hk]
        · simp [hp, aget, ih, hk]
  rw [hall, if_pos h]

/-- What a Development leaves in a frame. -/
def leftIn (s : State) (d : Devel) (f : Nat) : BitVec 32768 :=
  if rmem f (developTargets s d) then developed s (chainViews s) d f else frameContent s f

theorem sequencesEnd_chansOnly (s : State) : TilePorts.chansOnly s (sequencesEnd s) :=
  TilePorts.foldl_chansOnly (fun s c => onChan c endSequence s) (fun _ _ => rfl) (liveChans s) s

/-- The ranks' masks once the frames are written: open after a Hold-Partial wake. -/
def unmasked (s : State) (d : Devel) : Fam 16 RankModel :=
  if d.partialWake then updAll s.light.ranks fun _ x => { x with masked := 0 } else s.light.ranks

theorem unmasked_light (s : State) (d : Devel) :
    (if d.partialWake then maskSegments 0 s else s).light = { s.light with ranks := unmasked s d } := by
  unfold unmasked
  split <;> rfl

/-- A Development's frames written. -/
theorem developFrames_light (s : State) (d : Devel) : (developFrames s d).light = { s.light with
    dram := (rlist (allFrames s)).filterMap fun f => if leftIn s d f = 0 then none else some (f, leftIn s d f)
    fill := famAll 2 none, ranks := unmasked s d } := by
  simp only [developFrames, onNand, onLight, unmasked_light, leftIn]
  rfl

theorem developFrames_nand (s : State) (d : Devel) : (developFrames s d).nand = { s.nand with
    rebuilds := (developFrames s d).nand.rebuilds } := by
  have hmask : (if d.partialWake then maskSegments 0 s else s).nand = s.nand := by split <;> rfl
  simp only [developFrames, onNand, onLight, hmask]

theorem lastFrame_phase : Claims.LastFrame := by
  intro s d hd
  refine ⟨fun hp hpll => ?_, fun h => ?_⟩
  · have hrun : lastFrame s = beginReturn (sequencesEnd (onNeg (fun n => { n with
        dev := some { d with phase := .returning } }) (developFrames s d))) := by
      simp only [lastFrame, hd, hp, hpll]
      rfl
    have hlight : (lastFrame s).light = { s.light with
        dram := (rlist (allFrames s)).filterMap fun f => if leftIn s d f = 0 then none else some (f, leftIn s d f)
        fill := famAll 2 none, ranks := unmasked s d, returning := s.light.ctrl, fence := none } := by
      rw [hrun]
      simp only [beginReturn, onLight, sequencesEnd_keeps, onNeg, developFrames_light]
    have hneg : (lastFrame s).neg = { s.neg with dev := some { d with phase := .returning } } := by
      rw [hrun]
      simp only [beginReturn_keeps, sequencesEnd_keeps, onNeg, developFrames_keeps]
    have hnand : (lastFrame s).nand = { s.nand with
        chans := (lastFrame s).nand.chans, rebuilds := (developFrames s d).nand.rebuilds } := by
      rw [hrun]
      simp only [beginReturn_keeps]
      rw [sequencesEnd_chansOnly (onNeg _ _)]
      simp only [onNeg]
      rw [developFrames_nand]
    refine ⟨lastFrame s, rfl, fun f hf => ?_, hneg, ?_, fun hw r => ?_, ?_, ?_, ?_⟩
    · have hdram : aget (lastFrame s).light.dram f = if leftIn s d f = 0 then none else some (leftIn s d f) := by
        rw [hlight]
        exact aget_filterMap_written (leftIn s d) (· = 0) hf
      have hfill : (lastFrame s).light.fill = famAll 2 none := by rw [hlight]
      have hleft : frameContent (lastFrame s) f = leftIn s d f := by
        by_cases hzero : leftIn s d f = 0
        · rw [if_pos hzero] at hdram
          simp only [frameContent, hdram, hfill, Fin.getElem_fin, famAll_get, hzero]
        · rw [if_neg hzero] at hdram
          simp only [frameContent, hdram]
      exact hleft
    · rw [hlight]
    · rw [hlight]
      simp only [unmasked, hw, if_true]
      rw [updAll_get]
    · rw [hlight]
    · rw [hlight]
    · apply State.ext
      case nand => rw [hnand]
      all_goals simp
  · show Host.Outcome.next (lastFrame s) = _
    have hstill : lastFrame s = s := by
      simp only [lastFrame, hd]
      exact if_pos (by rcases h with h | h <;> simp [h])
    rw [hstill]

/-! ## The DEVELOPED mark -/

/-- The numbers of the generations after a Development's end are those before. -/
theorem developmentEnds_neg {s : State} {c : Gen} (d : Devel) (hc : newestC s = some c) (hlt : c.gen < 2 ^ 32) :
    (developmentEnds d s).neg = { s.neg with
      gens := changeGens (fun g => decide (g.gen = c.gen)) (fun g => { g with developed := true }) s.neg.gens
      dev := none, devResult := (completeReport s d).result, report := completeReport s d } := by
  simp only [developmentEnds, hc]
  simp [onNeg, onLight, mark_developed s hlt]

theorem developmentEnds_light {s : State} {c : Gen} (d : Devel) (hc : newestC s = some c) :
    (developmentEnds d s).light = { s.light with
      dirty := rinter s.light.dirty
        ((completeReport s d).ranges.foldl (fun acc l => radd l.first (l.first + l.count) acc) [])
      baseline := true, heat := (((chainViews s).head?).bind (snapshotOf s)).getD s.light.heat } := by
  simp only [developmentEnds, hc]
  simp [onNeg, onLight]

theorem developmentEnds_programmed (d : Devel) (s : State) : Each Programmed s.nand (developmentEnds d s).nand := by
  cases hc : newestC s with
  | none =>
    have hsame : developmentEnds d s = s := by simp only [developmentEnds, hc]
    rw [hsame]
    exact Each.refl chains_programmed _
  | some c =>
    have hnand : (developmentEnds d s).nand = (workEnds opDevelop (mark c.gen 1 s)).nand := by
      simp only [developmentEnds, hc]
      simp [onNeg, onLight]
    rw [hnand]
    exact Each.trans chains_programmed (noteRecord_programmed c.gen 3 _ s)
      fun k => (workEnds_rescheduled opDevelop _ k).programmed

theorem developmentEnds_dead (d : Devel) (s : State) : deadChans (developmentEnds d s) = deadChans s :=
  deadChans_of_state fun k => (developmentEnds_programmed d s k).1

/-- The header of a consolidation of a chain. -/
def consHeader (s : State) (c : Gen) : Gen :=
  { newHeader s true none c.cause c.target c.powerFail c.mask with
    consolidation := true
    partialGen := c.partialGen
    onTime := c.onTime
    geometry := c.geometry }

theorem consHeader_nameable (s : State) (c : Gen) (hn : nextGen s < 2 ^ 32 - 1) : Nameable (consHeader s c) where
  gen := show nextGen s < 2 ^ 32 by omega
  parent _ hp := absurd hp nofun
  width := s.nand.width.isLt

/-- A header with the next number goes in front of the list. -/
theorem putHeader_newest {g : Gen} {s : State} (hg : Nameable g) (hnext : g.gen = nextGen s) (hcommit : g.commit = none)
    (hmarks : g.developed = false ∧ g.superseded = false ∧ g.staleAccepted = false ∧ g.losses = []) :
    (putHeader g s).neg.gens = g :: s.neg.gens := by
  obtain ⟨hd, hs, ha, hl⟩ := hmarks
  have hsame : { g with
      commit := none, developed := false, superseded := false, staleAccepted := false, losses := [] } = g := by
    cases g
    simp only at hcommit hd hs ha hl
    subst hcommit hd hs ha hl
    rfl
  rw [putHeader_neg s hg, hsame]
  exact listGen_newest fun x hx => hnext ▸ gen_lt_nextGen hx

/-- A consolidation that starts lists at most its own generation, in front. -/
theorem startCons_gens (s : State) (hn : nextGen s < 2 ^ 32 - 1) : (startCons s).neg.gens = s.neg.gens ∨
    ∃ c, (startCons s).neg.gens = consHeader s c :: s.neg.gens := by
  unfold startCons
  dsimp only
  split
  · next c _ _ =>
    split
    · refine Or.inr ⟨c, ?_⟩
      rw [(workBegins_keeps _ _ _).2.2.2.2.2.2.2.2.2.2.1]
      exact putHeader_newest (consHeader_nameable (onNeg (fun n => { n with consWanted := false }) s) c hn) rfl rfl
        ⟨rfl, rfl, rfl, rfl⟩
    · exact Or.inl rfl
  · exact Or.inl rfl

theorem autoCons_gens (s : State) (hn : nextGen s < 2 ^ 32 - 1) : (autoCons s).neg.gens = s.neg.gens ∨
    ∃ c, (autoCons s).neg.gens = consHeader s c :: s.neg.gens := by
  unfold autoCons
  split
  · exact startCons_gens s hn
  · exact Or.inl rfl

theorem nextGen_of_changed (p : Gen → Bool) {f : Gen → Gen} (hf : ∀ g, (f g).gen = g.gen) (gs : List Gen) (m : Nat) :
    (changeGens p f gs).foldl (fun m g => max m g.gen) m = gs.foldl (fun m g => max m g.gen) m := by
  rw [changeGens, List.foldl_map]
  congr 1
  funext m g
  split
  · rw [hf]
  · rfl

theorem developedMark : Claims.DevelopedMark := by
  intro s d hd
  refine ⟨fun c hp hc ho hdead hn => ?_, fun hp => ?_⟩
  · have hmem := newestC_mem hc
    have hlt : c.gen < nextGen s := gen_lt_nextGen hmem
    have hneg := developmentEnds_neg d hc (by omega)
    have hlight := developmentEnds_light d hc
    have hnext : nextGen (developmentEnds d s) = nextGen s := by
      simp only [nextGen, hneg]
      exact congrArg (· + 1) (nextGen_of_changed _ (f := fun g => { g with developed := true }) (fun _ => rfl) _ 0)
    obtain ⟨u, hrun, huneg, hst, hprev, hcause⟩ := enterRun_rests 0x0B (developmentEnds d s) (by simpa using ho)
      (by rw [developmentEnds_dead]; exact hdead)
    have hexec : markWritten s = enterRun 0x0B (developmentEnds d s) := by
      simp only [markWritten, hd]
      exact if_neg (by simp [hp])
    have hgens : (autoCons u).neg.gens = u.neg.gens ∨ ∃ x, (autoCons u).neg.gens = consHeader u x :: u.neg.gens :=
      autoCons_gens u (by rw [nextGen, huneg, ← nextGen, hnext]; exact hn)
    refine ⟨enterRun 0x0B (developmentEnds d s), congrArg Host.Outcome.next hexec, ?_⟩
    have hsys := (autoCons_keeps u).2.2.1
    have hkept := autoCons_neg u
    rw [hrun, hsys, ← hrun]
    have hmarked : u.neg.gens =
        changeGens (fun g => decide (g.gen = c.gen)) (fun g => { g with developed := true }) s.neg.gens := by
      rw [huneg, hneg]
    have hunext : nextGen u = nextGen s := by rw [nextGen, huneg, ← nextGen, hnext]
    refine ⟨hst, by simpa using hprev, hcause, ?_, ?_, ?_, ?_, ?_, ?_, ?_, ?_, ?_, ?_, ?_⟩
    · have hin : { c with developed := true } ∈ u.neg.gens := by
        rw [hmarked]
        exact List.mem_map.mpr ⟨c, hmem, if_pos (decide_eq_true rfl)⟩
      refine ⟨{ c with developed := true }, ?_, rfl⟩
      rw [hrun]
      rcases hgens with h | ⟨x, h⟩
      · rw [h]; exact hin
      · rw [h]; exact List.mem_cons_of_mem _ hin
    · intro g hg hgen
      have hin : g ∈ u.neg.gens := by
        rw [hrun] at hg
        rcases hgens with h | ⟨x, h⟩
        · exact h ▸ hg
        · rw [h] at hg
          refine (List.mem_cons.mp hg).resolve_left fun hx => ?_
          have hnew : (consHeader u x).gen = nextGen u := rfl
          rw [hx, hnew, hunext] at hgen
          omega
      rw [hmarked] at hin
      obtain ⟨y, -, rfl⟩ := List.mem_map.mp hin
      by_cases hy : y.gen = c.gen
      · rw [if_pos (decide_eq_true hy)]
      · rw [if_neg (by simpa using hy)] at hgen
        exact absurd hgen hy
    · rw [hrun, hkept, huneg, hneg]
    · rw [hrun, hkept, huneg, hneg]
    · rw [hrun, hkept, huneg, hneg]
    all_goals simp [hlight]
  · have hstill : markWritten s = s := by
      simp only [markWritten, hd]
      exact if_pos hp
    exact congrArg Host.Outcome.next hstill

/-- Settles O37: the maps, the last frame and the mark of a Development. -/
theorem developmentPhases : Obligations.DevelopmentPhases := ⟨chainMaps, lastFrame_phase, developedMark⟩

end Sys2Proof.Developments
end

section
/-! PROOF. A stale Negative accepted, consolidations, the module geometry and the reserved slot (R258, R261, R285, R286,
R484 to R486). -/

namespace Sys2Proof.NegativeCare

open Sys2Proof Sys2Proof.Machine Sys2Proof.Claims Sys2Proof.Families Sys2Proof.DeviceStates Sys2Proof.Records
open Sys2Proof.Handover Sys2Proof.Channels Sys2Proof.Developments Sys2Proof.Sequencing Sys2Proof.CounterLog

/-! ## A stale Negative accepted -/

theorem row3020_2 : rowOf 0x3020 2 = some (wo 0x3020 1 2 1 .u32 4 0 u32Max) := by rfl
theorem idle3020 (data : List Byte) : idleTrigger 0x3020 2 data = false := by simp [idleTrigger, row3020_2, wo]

theorem ofNat_leNat_leBytes (v : U32) : BitVec.ofNat 32 (leNat (leBytes 4 v.toNat)) = v := by
  rw [leNat_leBytes, Nat.mod_eq_of_lt (by simpa using v.isLt), BitVec.ofNat_toNat, BitVec.setWidth_eq]

theorem acceptStale_taken {s : State} {v : U32} (h : takes s 0x3020 2 (leBytes 4 v.toNat)) :
    exec (.acceptStale v) s = .next (written (acceptStale v (touch s))) ∧ s.sys.st = .setup := by
  have hstate : writeState (touch s) 0x3020 2 = true := writeState_of_checks h.2 (idle3020 _)
  refine ⟨?_, ?_⟩
  · simp only [exec, execAcceptStale, hostWrite_takes 0x3020 2 _ s _ h.1 (by decide) h.2 (idle3020 _) row3020_2 rfl]
    simp [writeEffect, ofNat_leNat_leBytes]
  · simp only [writeState] at hstate
    simp at hstate
    exact hstate.1

/-- The mark STALE ACCEPTED marks the generations whose number its record holds. -/
theorem mark_stale_marks (gen : Nat) (s : State) : (mark gen 3 s).neg = { s.neg with
    gens := changeGens (fun g => decide (g.gen = gen % 2 ^ 32)) (fun g => { g with staleAccepted := true }) s.neg.gens } := by
  obtain ⟨hgen, hcode⟩ := mark_fields (recordKey s) gen 3
  rw [mark, noteRecord_gens]
  simp only [takeRecord, recordType_recordOf, hgen, hcode]
  rfl

theorem find_map_isSome {α : Type} (p : α → Bool) (f : α → α) (h : ∀ a, p (f a) = p a) (l : List α) :
    ((l.map f).find? p).isSome = (l.find? p).isSome := by
  induction l with
  | nil => rfl
  | cons a l ih =>
    simp only [List.map_cons, List.find?_cons, h]
    cases p a with
    | true => rfl
    | false => exact ih

/-- Marks of a stale acceptance leave whether there is a committed Negative. -/
theorem newestC_marked (gen : Nat) (s : State) : (newestC (mark gen 3 s)).isSome = (newestC s).isSome := by
  rw [newestC, mark_stale_marks]
  refine find_map_isSome _ _ (fun g => ?_) _
  split <;> rfl

theorem acceptStaleNow_neg {s : State} {h : Gen} (hh : newestH s = some h) :
    (acceptStaleNow s).neg.gens = (mark h.gen 3 s).neg.gens ∧
    (acceptStaleNow s).neg.status = if (newestC s).isSome then 1 else 0 := by
  have hfree : ∀ u : State, newestC (freeGens (fun k => decide (k = h.gen)) u) = newestC u := by
    intro u
    simp only [newestC]
    rw [freeGens_neg]
  simp only [acceptStaleNow, hh, onNeg_neg, hfree, newestC_marked, and_true]
  rw [freeGens_neg]

theorem mark_programmed (gen code : Nat) (s : State) : Each Programmed s.nand (mark gen code s).nand :=
  noteRecord_programmed gen 3 (markBody gen code) s

/-- The blocks of an accepted Negative are free. -/
theorem acceptStaleNow_frees {s : State} {h : Gen} (hh : newestH s = some h) {c : ChanId} {b : Nat}
    (huse : (blockAt s.nand.chans[c] c b).use = 1) (howner : (blockAt s.nand.chans[c] c b).owner = h.gen) :
    (blockAt (acceptStaleNow s).nand.chans[c] c b).use = 0 := by
  have hnand : (acceptStaleNow s).nand = (freeGens (fun k => decide (k = h.gen)) (mark h.gen 3 s)).nand := by
    simp only [acceptStaleNow, hh, onNeg]
  obtain ⟨huse', howner'⟩ := (mark_programmed h.gen 3 s c).2 b
  rw [hnand]
  exact freeGens_frees (huse'.trans huse) (decide_eq_true (howner'.trans howner))

theorem acceptStale_holds : Claims.AcceptStale := by
  intro s v ht
  obtain ⟨hexec, hst⟩ := acceptStale_taken ht
  have hout : s.sys.st ≠ .hold := by rw [hst]; nofun
  have hvalue : staleValue (touch s) = staleValue s := by simp [staleValue, newestC]
  refine ⟨_, hexec, fun hv => ?_, fun h hv hh => ?_⟩
  · have heffect : acceptStale v (touch s) = (.valueRange, touch s) := by simp [acceptStale, hvalue, hv]
    have hidle := DeviceStates.touch_not_busy ht.1
    rw [heffect]
    refine ⟨answered_written hidle, ?_⟩
    rw [written_eq_reply hidle]
    exact reply_touch_outside_hold _ hout
  · have heffect : acceptStale v (touch s) = (.done, acceptStaleNow (touch s)) := by simp [acceptStale, hvalue, hv]
    have hidle : (acceptStaleNow (touch s)).bus.busy = false := acceptStaleNow_idle _ (DeviceStates.touch_not_busy ht.1)
    have htouch := touch_of_not_hold s hout
    have hnewest : newestH (touch s) = some h := by rw [htouch]; exact hh
    obtain ⟨hgens, hstatus⟩ := acceptStaleNow_neg hnewest
    have hreply : ∀ u : State, (reply .done [] u).neg = u.neg ∧ (reply .done [] u).nand = u.nand := fun _ => ⟨rfl, rfl⟩
    rw [heffect]
    refine ⟨answered_written hidle, fun hlt g hg hgen => ?_, fun c b huse howner => ?_, ?_, ?_, ?_, ?_⟩
    · rw [written_eq_reply hidle, (hreply _).1, hgens, mark_stale _ hlt] at hg
      obtain ⟨x, -, rfl⟩ := List.mem_map.mp hg
      by_cases hx : x.gen = h.gen
      · rw [if_pos (decide_eq_true hx)]
      · rw [if_neg (by simpa using hx)] at hgen
        exact absurd hgen hx
    · have hnand : (touch s).nand = s.nand := by simp
      rw [← hnand] at huse howner
      rw [written_eq_reply hidle, (hreply _).2, acceptStaleNow_frees hnewest huse howner]
      decide
    · rw [written_eq_reply hidle, (hreply _).1, hstatus, htouch]
      rfl
    all_goals
      rw [written_eq_reply hidle, htouch]
      simp [reply, onBus]

/-! ## The module geometry and the reserved slot -/

/-- A geometry or slot setting is an object that SETUP alone stores. -/
theorem setup_of_takes {s : State} {i b : Nat} {data : List Byte} (h : takes s i b data) (hrow : accOf i b = .rws) :
    s.sys.st = .setup := by
  have hstate : stateCheck (touch s) i b data = .done := firstOf_done h.2 _ (by simp)
  simp only [stateCheck, hrow, decide_true, Bool.true_or, Bool.true_and, decide_eq_true_eq] at hstate
  split_ifs at hstate with h1 h2 h3 h4
  · exact absurd hstate h2
  all_goals simpa using h3

/-- A write of a persistent object whose guard does not hold ends with VALUE_RANGE. -/
theorem hostWrite_declined {i b : Nat} {data : List Byte} {s : State} {r : Row} (h : takes s i b data) (h4 : i ≠ 0x4020)
    (hi : idleTrigger i b data = false) (hr : rowOf i b = some r) (hp : r.pers = true)
    (ho : persistentOk (touch s) i b (leNat data) = false) : hostWrite i b data s = written (.valueRange, touch s) := by
  obtain ⟨hb, hc⟩ := h
  simp only [busFree, Bool.and_eq_true, Bool.not_eq_true'] at hb
  simp [hostWrite, hostRequest, hb.1, hb.2, odWrite, rawNoted, objectWrite, h4, hc, hi, hr, hp, ho]

/-- A persistent object reads what was written to it. -/
theorem pv_writeP {i b v : Nat} (s : State) (h : keepFields (okey i b) v = v) : pv (writeP (okey i b) v s) i b = v := by
  have hsmall : small (writeP (okey i b) v s) = small s := by simp [small, writeP]
  simp only [pv, hsmall]
  simp only [writeP, onFlash, pset, h]
  split
  · next hd => rw [aget_adel_same, Option.getD_none, hd]
  · rw [aget_aput_same, Option.getD_some]

theorem row9000 : ∀ b, 1 ≤ b → b ≤ 3 → ∃ r, rowOf 0x9000 b = some r ∧ r.pers = true ∧ r.acc = .rws ∧ r.ty = .u8 := by
  intro b h1 h3
  obtain rfl | rfl | rfl : b = 1 ∨ b = 2 ∨ b = 3 := by omega
  all_goals exact ⟨_, rfl, rfl, rfl, rfl⟩
theorem row9030 : rowOf 0x9030 1 = some (ps 0x9030 1 1 1 .u8 1 2 0 2) := by rfl

theorem idleTrigger_stored {i b : Nat} {r : Row} (data : List Byte) (hr : rowOf i b = some r) (ht : r.ty = .u8) :
    idleTrigger i b data = false := by
  simp [idleTrigger, hr, ht]

theorem leNat_one (v : Byte) : leNat [v] = v.toNat := by simp [leNat]

/-- The frames marked after a geometry change are those of the new geometry. -/
theorem geometryChanged_light (s : State) : (geometryChanged s).light = { s.light with
    baseline := false, heat := [], dirty := allFrames s } := by
  have hframes : ∀ u : State, (updateFits (setStatus (markAll u))).light = { u.light with dirty := allFrames u } := by
    intro u
    simp [markAll, onLight]
  have hsame : allFrames (onLight (fun l => { l with baseline := false, heat := [] }) s) = allFrames s :=
    allFrames_reads (by simp [sameSettings, onLight])
  rw [geometryChanged, hframes, hsame]
  rfl

theorem geometryWrite_taken {s : State} {sub v : Byte} (h1 : 1 ≤ sub.toNat) (h3 : sub.toNat ≤ 3)
    (h : takes s 0x9000 sub.toNat [v]) (hok : geometryOk s sub.toNat v.toNat = true) :
    exec (.geometryWrite sub v) s = .next (written (.done, storePersistent 0x9000 sub.toNat v.toNat (touch s))) ∧
      s.sys.st = .setup := by
  obtain ⟨r, hr, hp, hacc, hty⟩ := row9000 sub.toNat h1 h3
  have hkept : geometryOk (touch s) sub.toNat v.toNat = true := by
    rw [← hok]
    simp [geometryOk, after, pv_reads (sameSettings_touch s)]
  refine ⟨?_, setup_of_takes h (by simp [accOf, hr, hacc]; omega)⟩
  simp only [exec, execGeometryWrite, decide_eq_true h1, decide_eq_true h3, Bool.and_self, if_true]
  rw [hostWrite_stores 0x9000 sub.toNat [v] s r h.1 (by decide) h.2 (idleTrigger_stored _ hr hty) hr hp
    (by rw [leNat_one]; simpa [persistentOk] using hkept), leNat_one]

/-- What a stored setting changes before its effect: the shadow registers and option flash's marks. -/
theorem writeP_frame (key v : Nat) (s : State) : writeP key v s = { s with
    shadow := (writeP key v s).shadow
    flash := { s.flash with dirty := true, dirtySince := true } } := rfl

theorem keepFields_settings {b v : Nat} (h1 : 1 ≤ b) (h3 : b ≤ 3) : keepFields (okey 0x9000 b) v = v ∧
    keepFields (okey 0x9030 1) v = v := by
  have hkey : okey 0x9000 b / 256 = 0x9000 := by simp only [okey]; omega
  refine ⟨?_, rfl⟩
  unfold keepFields
  rw [if_neg (by simp only [okey]; omega), if_neg (by rw [hkey]; decide), if_neg (by rw [hkey]; decide)]

theorem geometryStored (s : State) {b v : Nat} : storePersistent 0x9000 b v s =
    if v = pv s 0x9000 b then writeP (okey 0x9000 b) v s else geometryChanged (writeP (okey 0x9000 b) v s) := rfl

theorem sameSettings_reply (a : Abort) (s : State) : sameSettings s (reply a [] s) := by
  simp [sameSettings, reply, onBus]

theorem sameSettings_geometryChanged (s : State) : sameSettings s (geometryChanged s) := by simp [sameSettings]

theorem slotWrite_taken {s : State} {v : Byte} (h : takes s 0x9030 1 [v]) :
    ((slotOperates s v.toNat = false →
      exec (.reservedSlotWrite v) s = .next (written (.done, storePersistent 0x9030 1 v.toNat (touch s)))) ∧
    (slotOperates s v.toNat = true → exec (.reservedSlotWrite v) s = .next (written (.valueRange, touch s)))) ∧
    s.sys.st = .setup := by
  have hslot : slotOperates (touch s) v.toNat = slotOperates s v.toNat := by
    simp [slotOperates, ranksThere_reads (sameSettings_touch s)]
  have hguard : persistentOk (touch s) 0x9030 1 v.toNat = !slotOperates s v.toNat := by
    rw [← hslot]
    rfl
  have hidle := idleTrigger_stored [v] row9030 rfl
  refine ⟨⟨fun hfree => ?_, fun hused => ?_⟩, setup_of_takes h rfl⟩
  · simp only [exec, execReservedSlotWrite]
    rw [hostWrite_stores 0x9030 1 [v] s _ h.1 (by decide) h.2 hidle row9030 rfl
      (by rw [leNat_one, hguard, hfree]; rfl), leNat_one]
  · simp only [exec, execReservedSlotWrite]
    rw [hostWrite_declined h (by decide) hidle row9030 rfl (by rw [leNat_one, hguard, hused]; rfl)]

theorem geometryAndSlot : Claims.GeometryAndSlot := by
  intro s sub v h1 h3
  refine ⟨fun h hok => ?_, fun h hfree => ?_, fun h hused => ?_⟩
  · obtain ⟨hexec, hst⟩ := geometryWrite_taken h1 h3 h hok
    have hout : s.sys.st ≠ .hold := by rw [hst]; nofun
    have hidle : (storePersistent 0x9000 sub.toNat v.toNat (touch s)).bus.busy = false :=
      storePersistent_idle _ _ _ _ (DeviceStates.touch_not_busy h.1)
    have hvalue : pv (touch s) 0x9000 sub.toNat = pv s 0x9000 sub.toNat := pv_reads (sameSettings_touch s) _ _
    have hread := pv_writeP (touch s) (keepFields_settings (v := v.toNat) h1 h3).1
    refine ⟨_, hexec, answered_written hidle, ?_⟩
    rw [written_eq_reply hidle, geometryStored, hvalue]
    by_cases hv : v.toNat = pv s 0x9000 sub.toNat
    · rw [if_pos hv]
      refine ⟨?_, rfl, fun hne => absurd hv hne, fun _ => ?_, ?_⟩
      · exact (pv_reads (sameSettings_reply .done _) _ _).trans hread
      · simp [reply, onBus]
      · simp [reply, onBus]
    · rw [if_neg hv]
      refine ⟨?_, ?_, fun _ => ⟨?_, ?_, ?_⟩, fun he => absurd he hv, ?_⟩
      · refine (pv_reads (sameSettings_reply .done _) _ _).trans ?_
        exact (pv_reads (sameSettings_geometryChanged _) _ _).trans hread
      · simp [reply, onBus, writeP, onFlash]
      · refine Eq.trans ?_ (allFrames_reads (sameSettings_reply .done _)).symm
        refine Eq.trans ?_ (allFrames_reads (sameSettings_geometryChanged _)).symm
        exact congrArg Light.dirty (geometryChanged_light _)
      · exact congrArg Light.baseline (geometryChanged_light _)
      · exact congrArg Light.heat (geometryChanged_light _)
      · simp [reply, onBus, geometryChanged, updateFits_neg, setStatus, onNeg, onLight]
  · obtain ⟨hexec, hst⟩ := slotWrite_taken h
    have hout : s.sys.st ≠ .hold := by rw [hst]; nofun
    have hstored : storePersistent 0x9030 1 v.toNat (touch s) =
        onLight (fun l => { l with slotTrained := false }) (writeP (okey 0x9030 1) v.toNat (touch s)) := rfl
    have hidle : (storePersistent 0x9030 1 v.toNat (touch s)).bus.busy = false :=
      storePersistent_idle _ _ _ _ (DeviceStates.touch_not_busy h.1)
    have hread := pv_writeP (touch s) (keepFields_settings (v := v.toNat) h1 h3).2
    refine ⟨_, hexec.1 hfree, answered_written hidle, ?_⟩
    rw [written_eq_reply hidle, hstored]
    refine ⟨?_, ?_⟩
    · refine (pv_reads (sameSettings_reply .done _) _ _).trans ?_
      exact (pv_reads (s := writeP (okey 0x9030 1) v.toNat (touch s)) (by simp [sameSettings, onLight]) _ _).trans hread
    · simp [reply, onBus, onLight]
  · obtain ⟨hexec, hst⟩ := slotWrite_taken h
    have hidle := DeviceStates.touch_not_busy h.1
    refine ⟨_, hexec.2 hused, answered_written hidle, ?_⟩
    rw [written_eq_reply hidle]
    exact reply_touch_outside_hold _ (by rw [hst]; nofun)

end Sys2Proof.NegativeCare
end

section
/-! PROOF. Events among other events: a source that operations leave alone, and an event that later ones leave (R418). -/

namespace Sys2Proof.Events

open Sys2Proof Sys2Proof.Machine Sys2Proof.Claims Sys2Proof.Families Sys2Proof.DeviceStates

/-- What decides whether the event of one source is heard, and the state of that source, are as before. -/
structure Untold (n : SourceId) (s u : State) : Prop where
  aon : u.supply.aon = s.supply.aon
  mainOn : u.sys.mainOn = s.sys.mainOn
  shadow : u.shadow = s.shadow
  ident : u.ident = s.ident
  src : u.irq.src[n] = s.irq.src[n]

theorem Untold.hears {n : SourceId} {s u : State} (h : Untold n s u) : hears u n = hears s n := by
  have hhear : hearing { u with irq := s.irq } = hearing s := by
    simp only [hearing, h.aon, h.mainOn, h.shadow, h.ident]
  exact hears_of_hearing hhear n

/-- An event after changes that leave its source alone. -/
theorem gotEvent_raised {s u : State} (k : Nat) (hk : k < 192) (h : Untold (Fin.ofNat 192 k) s u) :
    gotEvent s (raise k u) (Fin.ofNat 192 k) := by
  intro hheard
  rw [← h.src]
  exact TilePorts.raise_gotEvent k hk u (h.hears.trans hheard)

/-- An event that later changes leave as it is. -/
theorem gotEvent_kept {s u v : State} {n : SourceId} (h : gotEvent s u n) (hsrc : v.irq.src[n] = u.irq.src[n]) :
    gotEvent s v n := by
  intro hheard
  rw [hsrc]
  exact h hheard

/-! ## Sources that the freeing of blocks leaves alone -/

theorem writeTable_src (c : ChanId) (s : State) : (writeTable c s).irq = s.irq := rfl

theorem retire_src {n : SourceId} (hn : ∀ c : ChanId, n.val ≠ 50 + 4 * c.val) (c : ChanId) (b : Nat) (s : State) :
    (retire c b s).irq.src[n] = s.irq.src[n] := by
  unfold retire
  exact raise_src_other _ _ n (hn c)

theorem letGo_src {n : SourceId} (hn : ∀ c : ChanId, n.val ≠ 50 + 4 * c.val) (c : ChanId) (b : Nat) (s : State) :
    (letGo c b s).irq.src[n] = s.irq.src[n] := by
  unfold letGo
  split
  · exact retire_src hn c b s
  · rfl

theorem foldl_src {α : Type} {n : SourceId} {g : State → α → State} (hg : ∀ s a, (g s a).irq.src[n] = s.irq.src[n])
    (l : List α) (s : State) : (l.foldl g s).irq.src[n] = s.irq.src[n] := by
  induction l generalizing s with
  | nil => rfl
  | cons a l ih => exact (ih _).trans (hg s a)

theorem freeBlocks_src {n : SourceId} (hn : ∀ c : ChanId, n.val ≠ 50 + 4 * c.val) (c : ChanId)
    (test : Nat → NandBlock → Bool) (s : State) : (freeBlocks c test s).irq.src[n] = s.irq.src[n] := by
  have hlet := foldl_src (fun s (p : Nat × NandBlock) => letGo_src hn c p.1 s)
    ((s.nand.chans[c]).blocks.filter fun p => test p.1 p.2) s
  unfold freeBlocks
  dsimp only
  split
  · exact hlet
  · exact hlet

theorem updateFits_src {n : SourceId} (hn : n.val ≠ 39) (s : State) : (updateFits s).irq.src[n] = s.irq.src[n] := by
  unfold updateFits
  dsimp only
  split
  · rfl
  · exact raise_src_other 39 _ n hn

theorem freeBlocksAll_src {n : SourceId} (hn : ∀ c : ChanId, n.val ≠ 50 + 4 * c.val)
    (test : ChanId → Nat → NandBlock → Bool) (s : State) : (freeBlocksAll test s).irq.src[n] = s.irq.src[n] := by
  unfold freeBlocksAll
  exact foldl_src (g := fun (s : State) c => freeBlocks c (test c) s) (fun s c => freeBlocks_src hn c (test c) s)
    (List.finRange 8) s

theorem freeGens_src {n : SourceId} (h39 : n.val ≠ 39) (hn : ∀ c : ChanId, n.val ≠ 50 + 4 * c.val) (test : Nat → Bool)
    (s : State) : (freeGens test s).irq.src[n] = s.irq.src[n] := by
  unfold freeGens
  exact (updateFits_src h39 _).trans (freeBlocksAll_src hn _ s)

theorem updateLife_src {n : SourceId} (hn : ∀ c : ChanId, n.val ≠ 51 + 4 * c.val) (s : State) :
    (updateLife s).irq.src[n] = s.irq.src[n] := by
  unfold updateLife
  dsimp only
  split
  · exact foldl_src (fun s (c : ChanId) => raise_src_other _ s n (hn c)) _ _
  · rfl

theorem updateLife_chans (s : State) : (updateLife s).nand.chans = s.nand.chans := by
  unfold updateLife
  dsimp only
  split
  · rw [fold_nand _ fun s c => Channels.raise_nand _ s]
    rfl
  · rfl

end Sys2Proof.Events
end

section
/-! PROOF. What the writing of a generation leaves of the blocks in use, and its commit record read back (R247 to R258). -/

namespace Sys2Proof.Records

open Sys2Proof Sys2Proof.Machine Sys2Proof.Families Sys2Proof.Channels

/-! ## Blocks taken -/

theorem leastErased_mem {ch : Channel} {c : ChanId} {bs : List Nat} {b : Nat} (h : leastErased ch c bs = some b) : b ∈ bs := by
  have hfold : ∀ (l : List Nat) (best : Option Nat) (b : Nat), l.foldl (fun best b => match best with
      | none => some b
      | some a => if (blockAt ch c b).erases < (blockAt ch c a).erases then some b else some a) best = some b →
      b ∈ l ∨ best = some b := by
    intro l
    induction l with
    | nil => exact fun best b h => Or.inr h
    | cons x l ih =>
      intro best b h
      rw [List.foldl_cons] at h
      rcases ih _ _ h with hb | hb
      · exact Or.inl (List.mem_cons_of_mem _ hb)
      · cases best with
        | none => exact Or.inl (Option.some.inj hb ▸ List.mem_cons_self)
        | some a =>
          dsimp only at hb
          split at hb
          · exact Or.inl (Option.some.inj hb ▸ List.mem_cons_self)
          · exact Or.inr hb
  exact (hfold bs none b h).resolve_right nofun

theorem takeBlock_filled (c : ChanId) (use : Fin 4) (owner : Nat) (cands : List Nat) (ch : Channel) :
    Filled c ch (takeBlock c use owner cands ch).2 := by
  unfold takeBlock
  cases hb : leastErased ch c (cands.filter (freeBlock ch c)) with
  | none => exact chains_filled.refl c ch
  | some b =>
    have hfree : freeBlock ch c b = true := (List.mem_filter.mp (leastErased_mem hb)).2
    have hzero : (blockAt ch c b).use = 0 := by
      simp only [freeBlock, Bool.and_eq_true, decide_eq_true_eq] at hfree
      exact hfree.1.2
    refine ⟨?_, fun n hn => ?_⟩
    · dsimp only
      split <;> rfl
    · have hne : n ≠ b := fun he => hn (he ▸ hzero)
      unfold sameHolder
      dsimp only
      rw [blockAt_onBlock_other c _ _ hne]
      split
      · exact ⟨rfl, rfl⟩
      · rw [blockAt_erased_other c ch hne]
        exact ⟨rfl, rfl⟩

theorem blockFor_filled (c : ChanId) (use : Fin 4) (owner n : Nat) (cands : List Nat) (ch : Channel) :
    Filled c ch (blockFor c use owner n cands ch).2 := by
  unfold blockFor
  split
  · exact chains_filled.refl c ch
  · exact takeBlock_filled c use owner cands ch

theorem programUnit_filled (c : ChanId) (use : Fin 4) (owner : Nat) (cands : List Nat) (data : Nat → List Byte) (n : Nand) :
    Each Filled n (programUnit c use owner cands data n).2 := by
  unfold programUnit
  have hblock := blockFor_filled c use owner 1 cands n.chans[c]
  generalize blockFor c use owner 1 cands n.chans[c] = r at hblock
  obtain ⟨_ | b, ch⟩ := r
  · exact Each.refl chains_filled n
  · refine Each.trans chains_filled (Each.setChan chains_filled ?_) (Each.of_chans chains_filled (countPage_chans _ _))
    exact chains_filled.trans c _ _ _ hblock (programNext_programmed c b _ ch).filled

theorem writeUnit_filled (owner : Nat) (cands : Channel → List Nat) (c : ChanId) (data : List Byte) (w : GenWrite) :
    Each Filled w.nand (writeUnit owner cands c data w).nand := by
  unfold writeUnit
  split
  · exact Each.refl chains_filled _
  · have hunit := programUnit_filled c 1 owner (cands w.nand.chans[c]) (fun _ => data) w.nand
    generalize programUnit c 1 owner (cands w.nand.chans[c]) (fun _ => data) w.nand = r at hunit
    obtain ⟨_ | a, n⟩ := r
    · exact Each.refl chains_filled _
    · exact hunit

theorem foldl_filled {α : Type} {g : GenWrite → α → GenWrite} (hg : ∀ w a, Each Filled w.nand (g w a).nand)
    (l : List α) (w : GenWrite) : Each Filled w.nand (l.foldl g w).nand := by
  induction l generalizing w with
  | nil => exact Each.refl chains_filled _
  | cons a l ih => exact Each.trans chains_filled (hg w a) (ih _)

theorem writeStripe_filled (live : List ChanId) (owner : Nat) (cands : Channel → List Nat) (w : GenWrite)
    (p : List (List Byte) × Nat) : Each Filled w.nand (writeStripe live owner cands w p).nand := by
  unfold writeStripe
  exact Each.trans chains_filled (writeUnit_filled _ _ _ _ w) (foldl_filled (fun w u => writeUnit_filled _ _ _ _ w) _ _)

theorem writeExtents_filled (owner : Nat) (cands : Channel → List Nat) (us : List (List Byte)) (c : ChanId) (w : GenWrite) :
    Each Filled w.nand (writeExtents owner cands us c w).2.nand := by
  unfold writeExtents
  have hblock := blockFor_filled c 1 owner us.length (cands w.nand.chans[c]) w.nand.chans[c]
  generalize blockFor c 1 owner us.length (cands w.nand.chans[c]) w.nand.chans[c] = r at hblock
  obtain ⟨_ | b, ch⟩ := r
  · exact Each.refl chains_filled _
  · refine Each.trans chains_filled (Each.setChan (f := fun _ => ch) chains_filled hblock) ?_
    have hpages : ∀ (us : List (List Byte)) (n : Nand), Each Filled n
        (us.foldl (fun n u => countPage 1 (setChan c (programNext c b u) n)) n) := by
      intro us
      induction us with
      | nil => exact fun n => Each.refl chains_filled n
      | cons u us ih =>
        intro n
        refine Each.trans chains_filled (Each.trans chains_filled
          (Each.setChan (f := programNext c b u) chains_filled (programNext_programmed c b u _).filled)
          (Each.of_chans chains_filled (countPage_chans _ _))) (ih _)
    exact hpages us _

/-- A generation written leaves every block in use with its owner, and what its commit record says of the chain. -/
theorem writeGeneration_filled {key : List Byte} {g : Gen} {cands : Channel → List Nat} {pair : List ChanId} {d : GenData}
    {base k : Commit} {n m : Nand} (h : writeGeneration key g cands pair d base n = some (k, m)) :
    Each Filled n m ∧ k.uncertain = base.uncertain ∧ k.uncRanks = base.uncRanks ∧ k.source = base.source ∧
      k.heatPresent = base.heatPresent ∧ k.degraded = base.degraded := by
  unfold writeGeneration at h
  dsimp only at h
  split at h
  · exact absurd h nofun
  · obtain ⟨rfl, rfl⟩ := Prod.mk.inj (Option.some.inj h)
    refine ⟨?_, rfl, rfl, rfl, rfl, rfl⟩
    have hpair : ∀ (f : GenWrite → ChanId → Nat × GenWrite), (∀ w c, Each Filled w.nand (f w c).2.nand) →
        ∀ (l : List ChanId) (e : List Nat × GenWrite), Each Filled e.2.nand
          (l.foldl (fun (e : List Nat × GenWrite) c => (e.1 ++ [(f e.2 c).1], (f e.2 c).2)) e).2.nand := by
      intro f hf l
      induction l with
      | nil => exact fun e => Each.refl chains_filled _
      | cons c l ih => exact fun e => Each.trans chains_filled (hf e.2 c) (ih _)
    exact Each.trans chains_filled (foldl_filled (fun w p => writeStripe_filled _ _ _ w p) _ ⟨n, famAll 8 [], false⟩)
      (hpair (fun w c => writeExtents g.gen cands _ c w) (fun w c => writeExtents_filled _ _ _ _ w) pair ([], _))

end Sys2Proof.Records
end

section
/-! PROOF. Consolidations: their start, their commit, and when one is given up (R285, R286). -/

namespace Sys2Proof.Records

open Sys2Proof Sys2Proof.Machine Sys2Proof.Families Sys2Proof.Channels

/-! ## A commit record read back -/

theorem commitFlags_bits : ∀ a b c : Bool, flagWord [a, b, c] % 65536 = flagWord [a, b, c] ∧
    (flagWord [a, b, c]).testBit 0 = a := by decide

theorem length_leBytes (n v : Nat) : (leBytes n v).length = n := by
  induction n generalizing v with
  | zero => rfl
  | succ n ih => simp [leBytes, ih]

/-- A field behind a part of known length. -/
theorem fieldAt_behind {a b : List Byte} {off len : Nat} (h : a.length ≤ off) :
    fieldAt off len (a ++ b) = fieldAt (off - a.length) len b := by
  rw [fieldAt, fieldAt]
  congr 1
  refine List.map_congr_left fun i _ => ?_
  rw [List.getD_append_right _ _ _ _ (by omega)]
  congr 1
  omega

theorem fieldAt_behind_leBytes {n v off len : Nat} {b : List Byte} (h : n ≤ off) :
    fieldAt off len (leBytes n v ++ b) = fieldAt (off - n) len b := by
  rw [fieldAt_behind (by rw [length_leBytes]; exact h), length_leBytes]

/-- A field at the front. -/
theorem fieldAt_front (len v : Nat) (b : List Byte) : fieldAt 0 len (leBytes len v ++ b) = v % 256 ^ len := by
  rw [← leNat_leBytes, fieldAt]
  congr 1
  refine List.ext_getElem (by simp [slice, length_leBytes]) fun i h _ => ?_
  have hi : i < (leBytes len v).length := by simpa [slice, length_leBytes] using h
  simp only [slice, List.getElem_map, List.getElem_range, Nat.zero_add]
  rw [List.getD_append _ _ _ _ hi, List.getD_eq_getElem _ _ hi]

theorem fieldAt_whole (len v : Nat) : fieldAt 0 len (leBytes len v) = v % 256 ^ len := by
  have h := fieldAt_front len v []
  rwa [List.append_nil] at h

theorem commit_gen (key : List Byte) (g : Gen) (k : Commit) :
    fieldAt 8 4 (recordOf key 2 (commitBody g k)) = g.gen % 2 ^ 32 := by
  refine (fieldAt_recordOf key _ 2 2 4 (by decide)).trans ?_
  simp only [commitBody, List.append_assoc]
  rw [fieldAt_behind_leBytes (by decide)]
  exact fieldAt_front 4 _ _

theorem commit_flags (key : List Byte) (g : Gen) (k : Commit) :
    fieldAt 6 2 (recordOf key 2 (commitBody g k)) = flagWord [k.uncertain, k.heatPresent, k.degraded] := by
  refine (fieldAt_recordOf key _ 2 0 2 (by decide)).trans ?_
  simp only [commitBody, List.append_assoc]
  exact (fieldAt_front 2 _ _).trans (commitFlags_bits _ _ _).1

theorem commit_uncRanks (key : List Byte) (g : Gen) (k : Commit) :
    fieldAt 0x36 2 (recordOf key 2 (commitBody g k)) = k.uncRanks.toNat % 2 ^ 16 := by
  refine (fieldAt_recordOf key _ 2 48 2 (by decide)).trans ?_
  simp only [commitBody, genField, List.append_assoc]
  iterate 13 rw [fieldAt_behind_leBytes (by decide)]
  exact fieldAt_front 2 _ _

theorem commit_source (key : List Byte) (g : Gen) (k : Commit) :
    fieldAt 0x38 4 (recordOf key 2 (commitBody g k)) = k.source % 2 ^ 32 := by
  refine (fieldAt_recordOf key _ 2 50 4 (by decide)).trans ?_
  simp only [commitBody, genField, List.append_assoc]
  iterate 14 rw [fieldAt_behind_leBytes (by decide)]
  exact fieldAt_whole 4 _

/-- What a commit record says of the uncertain ranks and of its source, read back. -/
theorem recordCommit_recordOf (key : List Byte) (g : Gen) {k : Commit} (h : k.source < 2 ^ 32) :
    (recordCommit (recordOf key 2 (commitBody g k))).source = k.source ∧
    (recordCommit (recordOf key 2 (commitBody g k))).uncertain = k.uncertain ∧
    (recordCommit (recordOf key 2 (commitBody g k))).uncRanks = k.uncRanks := by
  simp only [recordCommit, commit_source, commit_uncRanks, commit_flags, (commitFlags_bits _ _ _).2,
    Nat.mod_eq_of_lt h, Nat.mod_eq_of_lt k.uncRanks.isLt, BitVec.ofNat_toNat, BitVec.setWidth_eq, and_self]

theorem commitRecord_neg {g : Gen} {k : Commit} {s t : State} (h : commitRecord g k s = some t) : t.neg = { s.neg with
    gens := changeGens (fun x => decide (x.gen = g.gen % 2 ^ 32))
      (fun x => { x with commit := some (recordCommit (recordOf (recordKey s) 2 (commitBody g k))) }) s.neg.gens } ∧
    Each Programmed s.nand t.nand := by
  unfold commitRecord at h
  dsimp only at h
  split at h
  · rw [← Option.some.inj h]
    refine ⟨?_, putCopies_programmed g.gen _ s⟩
    simp only [onNeg_neg, putCopies_keeps, takeRecord, recordType_recordOf, commit_gen]
    rfl
  · exact absurd h nofun

/-- A generation's number and its commit record. -/
def committedAs (g : Gen) : Nat × Option Commit := (g.gen, g.commit)

/-- Loss records leave the numbers and the commit records. -/
theorem noteLosses_committed (gen : Nat) (ls : List Loss) (s : State) :
    (noteLosses gen ls s).neg.gens.map committedAs = s.neg.gens.map committedAs ∧
    (noteLosses gen ls s).neg = { s.neg with gens := (noteLosses gen ls s).neg.gens } ∧
    Each Programmed s.nand (noteLosses gen ls s).nand := by
  unfold noteLosses
  generalize inGroups 9 ls = groups
  induction groups generalizing s with
  | nil => exact ⟨rfl, rfl, Each.refl chains_programmed _⟩
  | cons l groups ih =>
    obtain ⟨hgens, hneg, hnand⟩ := ih (noteRecord gen 4 (lossBody gen l) s)
    have hrecord := noteRecord_gens gen 4 (lossBody gen l) s
    rw [List.foldl_cons]
    refine ⟨hgens.trans ?_, ?_, Each.trans chains_programmed (noteRecord_programmed gen 4 _ s) hnand⟩
    · rw [hrecord]
      have htype : recordType (recordOf (recordKey s) 4 (lossBody gen l)) = 4 := recordType_recordOf _ _ 4
      simp only [takeRecord, htype, changeGens, List.map_map]
      refine List.map_congr_left fun x _ => ?_
      simp only [Function.comp_apply]
      split <;> rfl
    · rw [hneg, hrecord]

/-! ## A consolidation written -/

/-- A consolidation written: its number carries a commit record with the chain's source, no other number's record changes,
and every block in use stays with its owner. -/
theorem writtenCons_written {g c : Gen} {k : Commit} {s u : State} (h : writtenCons g c k s = some u) (hg : g.gen < 2 ^ 32)
    (hc : c.gen < 2 ^ 32) : (∃ r : Commit, r.source = c.gen ∧ r.uncertain = k.uncertain ∧ r.uncRanks = k.uncRanks ∧
      u.neg.gens.map committedAs = s.neg.gens.map fun x => if x.gen = g.gen then (x.gen, some r) else committedAs x) ∧
    u.neg = { s.neg with gens := u.neg.gens } ∧ Each Filled s.nand u.nand := by
  unfold writtenCons at h
  split at h
  · exact absurd h nofun
  · next k' n hw =>
    obtain ⟨hfilled, huncertain, huncRanks, hsource, -, -⟩ := writeGeneration_filled hw
    obtain ⟨v, hv, rfl⟩ := Option.map_eq_some_iff.mp h
    obtain ⟨hneg, hprogrammed⟩ := commitRecord_neg hv
    obtain ⟨hgens, hlneg, hlnand⟩ := noteLosses_committed g.gen (chainLost s c) v
    obtain ⟨hrs, hru, hrr⟩ := recordCommit_recordOf (recordKey (onNand (fun _ => n) s)) g (k := k') (by rw [hsource]; exact hc)
    refine ⟨⟨recordCommit (recordOf (recordKey (onNand (fun _ => n) s)) 2 (commitBody g k')), hrs.trans hsource,
      hru.trans huncertain, hrr.trans huncRanks, ?_⟩, ?_, ?_⟩
    · rw [hgens, hneg, Nat.mod_eq_of_lt hg]
      simp only [changeGens, List.map_map]
      refine List.map_congr_left fun x _ => ?_
      simp only [Function.comp_apply, decide_eq_true_eq]
      split
      · next hx => simp only [committedAs, hx]
      · rfl
    · rw [hlneg, hneg]
      rfl
    · refine Each.trans chains_filled hfilled ?_
      exact Each.trans chains_filled (fun i => (hprogrammed i).filled) fun i => (hlnand i).filled

end Sys2Proof.Records
end

section
/-! PROOF. The chain of generations depends on the generations, the NAND, the keys and the settings alone (R257 to R260). -/

namespace Sys2Proof.Records

open Sys2Proof Sys2Proof.Machine

/-- All that the chain is read from is as it was. -/
structure SameChain (s t : State) : Prop where
  settings : sameSettings s t
  gens : t.neg.gens = s.neg.gens
  nand : t.nand = s.nand
  sec : t.sec = s.sec

variable {s t : State}

theorem genOf_reads (h : SameChain s t) (n : Nat) : genOf t n = genOf s n := by simp only [genOf, h.gens]
theorem newestC_reads (h : SameChain s t) : newestC t = newestC s := by simp only [newestC, h.gens]
theorem nextGen_reads (h : SameChain s t) : nextGen t = nextGen s := by simp only [nextGen, h.gens]

theorem chainFrom_reads (h : SameChain s t) (n : Nat) (g : Option Gen) : chainFrom t n g = chainFrom s n g := by
  induction n generalizing g with
  | zero => rfl
  | succ n ih =>
    cases g with
    | none => rfl
    | some g => simp only [chainFrom, ih, genOf_reads h]

theorem liveChain_reads (h : SameChain s t) : liveChain t = liveChain s := by
  simp only [liveChain, chainOf, newestC_reads h, chainFrom_reads h, h.gens]

theorem negKey_reads (h : SameChain s t) : negKey t = negKey s := by
  simp only [negKey, prkB, kRoot, h.sec, h.settings.2]

theorem viewOf_reads (h : SameChain s t) (g : Gen) : viewOf t g = viewOf s g := by
  simp only [viewOf, negKey_reads h, h.nand]

theorem chainViews_reads (h : SameChain s t) : chainViews t = chainViews s := by
  have hview : viewOf t = viewOf s := funext (viewOf_reads h)
  simp only [chainViews, liveChain_reads h, hview]

theorem chainReadable_reads (h : SameChain s t) : chainReadable t = chainReadable s := by
  simp only [chainReadable, chainViews_reads h, liveChain_reads h]

theorem found_reads (h : SameChain s t) (vs : List GenView) (f : Nat) : found t vs f = found s vs f := by
  have hin : ∀ v, foundIn t v f = foundIn s v f := by
    intro v
    simp only [foundIn, slotContent, h.nand, negKey_reads h]
  induction vs with
  | nil => rfl
  | cons v vs ih => simp only [found, hin, ih]

theorem groupsOf_reads (h : SameChain s t) : groupsOf t = groupsOf s := by
  simp only [groupsOf, allFrames_reads h.settings]

theorem snapshotOf_reads (h : SameChain s t) (v : GenView) : snapshotOf t v = snapshotOf s v := by
  simp only [snapshotOf, groupsOf_reads h, negKey_reads h, h.nand]

theorem consData_reads (h : SameChain s t) (c : Gen) : consData t c = consData s c := by
  have hcontent : ∀ vs, chainContent t vs = chainContent s vs := by
    intro vs
    funext f
    simp only [chainContent, found_reads h]
  have hsnapshot : snapshotOf t = snapshotOf s := funext (snapshotOf_reads h)
  simp only [consData, chainViews_reads h, hcontent, hsnapshot, allFrames_reads h.settings, keptFrames,
    segmentFrames_reads h.settings, groupsOf_reads h]

theorem consFits_reads (h : SameChain s t) (d : Nat) : consFits t d = consFits s d := by
  simp only [consFits, liveChans, chanDead, h.nand, frameCount_reads h.settings]

end Sys2Proof.Records
end

section
namespace Sys2Proof.NegativeCare

open Sys2Proof Sys2Proof.Machine Sys2Proof.Claims Sys2Proof.Families Sys2Proof.DeviceStates Sys2Proof.Records
open Sys2Proof.Handover Sys2Proof.Channels Sys2Proof.Developments Sys2Proof.Sequencing Sys2Proof.CounterLog Sys2Proof.Events

/-! ## A consolidation asked for -/

theorem row3010_8 : rowOf 0x3010 8 = some (wo 0x3010 1 8 1 .bool 1 0 1) := by rfl

theorem consolidate_taken {s : State} (h : takes s 0x3010 8 [1]) :
    exec .consolidate s = .next (written (.done, startCons (touch s))) ∧ s.sys.st = .run := by
  have hstate : writeState (touch s) 0x3010 8 = true := writeState_of_checks h.2 (idleTrigger_one _ _)
  refine ⟨?_, by simpa [writeState] using hstate⟩
  simp only [exec, execConsolidate, hostWrite_takes 0x3010 8 [1] s _ h.1 (by decide) h.2 (idleTrigger_one _ _) row3010_8 rfl]
  rfl

theorem startCons_neg (s : State) : (startCons s).neg = { s.neg with
    consWanted := false, cons := (startCons s).neg.cons, gens := (startCons s).neg.gens } := by
  unfold startCons
  dsimp only
  split
  · split
    · rw [(workBegins_keeps _ _ _).2.2.2.2.2.2.2.2.2.2.1, onNeg_neg, putHeader_gens]
      rfl
    · rfl
  · rfl

/-- A consolidation that may start begins with the header of its base. -/
theorem startCons_begins {s : State} {c : Gen} (hw : s.neg.consWanted = false) (hc : newestC s = some c)
    (hnone : s.neg.cons = none) (hst : s.sys.st = .run) (hr : chainReadable s = true)
    (hf : consFits s (consData s c).entries.length = true) (hn : nextGen s < 2 ^ 32 - 1) :
    (startCons s).neg.cons = some (nextGen s) ∧ (startCons s).neg.gens = consHeader s c :: s.neg.gens := by
  have hsame : onNeg (fun n => { n with consWanted := false }) s = s := by
    have hneg : ({ s.neg with consWanted := false } : Neg) = s.neg := by rw [← hw]
    rw [onNeg, hneg]
  have hrun : startCons s = workBegins opCons 6 (onNeg (fun n => { n with cons := some (consHeader s c).gen })
      (putHeader (consHeader s c) s)) := by
    simp only [startCons, hsame, hc, hnone, hst, hr, hf, decide_true, Bool.and_self, if_true]
    rfl
  rw [hrun, (workBegins_keeps _ _ _).2.2.2.2.2.2.2.2.2.2.1]
  exact ⟨rfl, putHeader_newest (consHeader_nameable s c hn) rfl rfl ⟨rfl, rfl, rfl, rfl⟩⟩

theorem startCons_nothing {s : State} (hw : s.neg.consWanted = false) (hc : newestC s = none) : startCons s = s := by
  have hneg : ({ s.neg with consWanted := false } : Neg) = s.neg := by rw [← hw]
  have hsame : onNeg (fun n => { n with consWanted := false }) s = s := by rw [onNeg, hneg]
  simp only [startCons, hsame, hc]

theorem consolidationAsked {s : State} (h : takes s 0x3010 8 [1]) (hw : s.neg.consWanted = false) :
    ∃ t, exec .consolidate s = .next t ∧ answered t .done ∧
      (∀ c, newestC s = some c → s.neg.cons = none → s.sys.st = .run → chainReadable s = true →
        consFits s (consData s c).entries.length = true → nextGen s < 2 ^ 32 - 1 →
        t.neg.cons = some (nextGen s) ∧ ∃ g, t.neg.gens.head? = some g ∧ g.gen = nextGen s ∧ g.base = true ∧
          g.consolidation = true ∧ g.parent = none ∧ g.commit = none) ∧
      (newestC s = none → t.neg = s.neg ∧ t.nand = s.nand) ∧
      t = { s with neg := { s.neg with cons := t.neg.cons, gens := t.neg.gens }, nand := t.nand, bus := t.bus } := by
  obtain ⟨hexec, hst⟩ := consolidate_taken h
  have htouch := touch_of_not_hold s (by rw [hst]; nofun)
  have hidle : (startCons (touch s)).bus.busy = false := by simpa using DeviceStates.touch_not_busy h.1
  have hwanted : (touch s).neg.consWanted = false := by rw [htouch]; exact hw
  refine ⟨_, hexec, answered_written hidle, ?_⟩
  rw [written_eq_reply hidle]
  refine ⟨fun c hc hnone _ hr hf hn => ?_, fun hc => ?_, ?_⟩
  · have hchain : SameChain s (touch s) := ⟨sameSettings_touch s, by simp, by simp, by simp⟩
    have hnext := nextGen_reads hchain
    obtain ⟨hcons, hgens⟩ := startCons_begins (s := touch s) hwanted ((newestC_reads hchain).trans hc) (by simpa using hnone)
      (by simpa using hst) ((chainReadable_reads hchain).trans hr)
      (by rw [consFits_reads hchain, consData_reads hchain]; exact hf) (hnext ▸ hn)
    refine ⟨hcons.trans (congrArg some hnext), consHeader (touch s) c, ?_, hnext, rfl, rfl, rfl, rfl⟩
    exact congrArg List.head? hgens
  · rw [startCons_nothing hwanted (by rw [htouch]; exact hc), htouch]
    exact ⟨rfl, rfl⟩
  · have hneg := startCons_neg (touch s)
    have hkept : (touch s).neg = s.neg := by simp
    apply State.ext
    case neg =>
      rw [hkept] at hneg
      refine hneg.trans ?_
      rw [← hw]
      rfl
    all_goals simp [reply, onBus, htouch]

/-! ## A consolidation's commit -/

theorem consolidationWritten {s : State} {n : Nat} {g c : Gen} (hn : s.neg.cons = some n) (hpll : pllRuns s = true)
    (hheld : ∀ c : ChanId, heldBack s.nand.chans[c] 6 = false) (hg : genOf s n = some g) (hc : newestC s = some c)
    (hr : chainReadable s = true) (hlt : n < 2 ^ 32) (hclt : c.gen < 2 ^ 32)
    (hw : (writtenCons g c (consRecord s g c) s).isSome = true) :
    ∃ t, exec .consolidationCommitted s = .next t ∧ t.neg.cons = none ∧
      (∃ h ∈ t.neg.gens, h.gen = n) ∧
      (∀ h ∈ t.neg.gens, h.gen = n → ∃ k, h.commit = some k ∧ k.source = c.gen ∧
        k.uncertain = (consRecord s g c).uncertain ∧ k.uncRanks = (consRecord s g c).uncRanks) ∧
      (∀ (k : ChanId) (b : Nat), (blockAt s.nand.chans[k] k b).use = 1 → (blockAt s.nand.chans[k] k b).owner ≠ n →
        (blockAt t.nand.chans[k] k b).use ≠ 1) ∧
      gotEvent s t 40 ∧
      t = { s with neg := t.neg, nand := t.nand, irq := t.irq, bus := t.bus, free := t.free } := by
  obtain ⟨u, hu⟩ := Option.isSome_iff_exists.mp hw
  have hgn : g.gen = n := by simpa using List.find?_some hg
  obtain ⟨⟨r, hsource, huncertain, huncRanks, hgens⟩, hneg, hfilled⟩ := writtenCons_written hu (hgn ▸ hlt) hclt
  rw [hgn] at hgens
  have hfree : (List.finRange 8).any (fun ch => heldBack s.nand.chans[ch] 6) = false := by
    simp only [List.any_eq_false, Bool.not_eq_true]
    exact fun ch _ => hheld ch
  have hrun : consCommitted s = updateLife (raise 40 (freeGens (fun k => decide (k ≠ n)) (workEnds opCons
      (onNeg (fun x => { x with cons := none }) u)))) := by
    simp only [consCommitted, hn, hfree, hg, hc, hr, hu, Bool.false_eq_true, Bool.not_true, if_false]
  have hexec : exec .consolidationCommitted s = .next (consCommitted s) := by
    show Host.Outcome.next (if pllRuns s then consCommitted s else s) = _
    rw [hpll]
    rfl
  have htgens : (consCommitted s).neg.gens = u.neg.gens := by
    rw [hrun]
    simp only [updateLife_keeps, raise_keeps]
    rw [freeGens_neg]
    simp only [workEnds_keeps, onNeg_neg]
  have hlisted : ∀ h ∈ u.neg.gens, h.gen = n → h.commit = some r := by
    intro h hh hgen
    have hmem : committedAs h ∈ u.neg.gens.map committedAs := List.mem_map_of_mem hh
    rw [hgens] at hmem
    obtain ⟨x, -, hx⟩ := List.mem_map.mp hmem
    split at hx
    · exact (congrArg Prod.snd hx).symm
    · next hne => exact absurd ((congrArg Prod.fst hx).trans hgen) hne
  refine ⟨consCommitted s, hexec, ?_, ?_, fun h hh hgen => ?_, fun k b huse howner => ?_, ?_, ?_⟩
  · rw [hrun]
    simp only [updateLife_keeps, raise_keeps]
    rw [freeGens_neg]
    simp only [workEnds_keeps, onNeg_neg]
  · have hg' : g ∈ s.neg.gens := List.mem_of_find?_eq_some hg
    have hmem : (n, some r) ∈ u.neg.gens.map committedAs := by
      rw [hgens]
      exact List.mem_map.mpr ⟨g, hg', by rw [if_pos hgn, hgn]⟩
    obtain ⟨h, hh, heq⟩ := List.mem_map.mp hmem
    exact ⟨h, htgens ▸ hh, congrArg Prod.fst heq⟩
  · rw [htgens] at hh
    exact ⟨r, hlisted h hh hgen, hsource, huncertain, huncRanks⟩
  · obtain ⟨huse', howner'⟩ := (hfilled k).2 b (by rw [huse]; decide)
    have hended := (workEnds_rescheduled opCons (onNeg (fun x => { x with cons := none }) u) k).programmed.2 b
    have hchans : (consCommitted s).nand.chans = (freeGens (fun k => decide (k ≠ n)) (workEnds opCons
        (onNeg (fun x => { x with cons := none }) u))).nand.chans := by
      rw [hrun, updateLife_chans, raise_nand]
    rw [hchans, freeGens_frees (hended.1.trans (huse'.trans huse)) (by
      rw [hended.2]
      exact decide_eq_true (howner'.symm ▸ howner))]
    decide
  · have hkeep := writtenCons_keeps _ _ _ _ _ hu
    rw [hrun]
    refine gotEvent_kept (gotEvent_raised 40 (by decide) ?_) (updateLife_src (by decide) _)
    refine ⟨?_, ?_, ?_, ?_, ?_⟩
    · simp [hkeep]
    · simp [hkeep]
    · simp [hkeep]
    · simp [hkeep]
    · rw [freeGens_src (by decide) (by decide)]
      simp [hkeep]
  · apply State.ext <;> simp

theorem dropCons_frame (s : State) : (dropCons s).neg.gens = s.neg.gens ∧
    dropCons s = { s with neg := (dropCons s).neg, nand := (dropCons s).nand, irq := (dropCons s).irq, bus := (dropCons s).bus, free := (dropCons s).free } := by
  refine ⟨?_, ?_⟩
  · unfold dropCons
    split
    · rw [freeGens_neg]
      simp [onNeg]
    · rfl
  · apply State.ext <;> simp

theorem consolidationDropped {s : State} {n : Nat} (hn : s.neg.cons = some n) (hpll : pllRuns s = true)
    (hheld : ∀ c : ChanId, heldBack s.nand.chans[c] 6 = false)
    (hbad : chainReadable s = false ∨ ∀ g c, genOf s n = some g → newestC s = some c →
      writtenCons g c (consRecord s g c) s = none) :
    ∃ t, exec .consolidationCommitted s = .next t ∧ t.neg.cons = none ∧ t.neg.gens = s.neg.gens ∧
      t = { s with neg := t.neg, nand := t.nand, irq := t.irq, bus := t.bus, free := t.free } := by
  have hfree : (List.finRange 8).any (fun ch => heldBack s.nand.chans[ch] 6) = false := by
    simp only [List.any_eq_false, Bool.not_eq_true]
    exact fun ch _ => hheld ch
  have hdrop : consCommitted s = dropCons s := by
    simp only [consCommitted, hn, hfree, Bool.false_eq_true, if_false]
    split
    · next g c hg hc =>
      rcases hbad with h | h
      · rw [h]
        rfl
      · rw [h g c hg hc]
        exact ite_self _
    · rfl
  have hexec : exec .consolidationCommitted s = .next (dropCons s) := by
    show Host.Outcome.next (if pllRuns s then consCommitted s else s) = _
    rw [hpll, hdrop]
    rfl
  exact ⟨dropCons s, hexec, dropCons_cons s, (dropCons_frame s).1, (dropCons_frame s).2⟩

theorem consolidation : Claims.Consolidation := by
  intro s
  refine ⟨fun h hw => consolidationAsked h hw, fun n hn hpll hheld => ⟨fun g c hg hc hr hlt hclt hw =>
    consolidationWritten hn hpll hheld hg hc hr hlt hclt hw, fun hbad => consolidationDropped hn hpll hheld hbad⟩,
    fun hno => ?_⟩
  show Host.Outcome.next (if pllRuns s then consCommitted s else s) = _
  rcases hno with hno | hno
  · simp only [consCommitted, hno, ite_self]
  · rw [hno]
    rfl

/-- Settles O38: a stale Negative accepted, consolidation, the geometry and the reserved slot. -/
theorem negativeUpkeep : Obligations.NegativeUpkeep := ⟨acceptStale_holds, consolidation, geometryAndSlot⟩

end Sys2Proof.NegativeCare
end

section
/-! PROOF. The second look at a deadline (R350), tile heat (R336), curator cores (R356) and the tier state load (R345). -/

namespace Sys2Proof.TierCare

open Sys2Proof Sys2Proof.Machine Sys2Proof.Claims Sys2Proof.Families Sys2Proof.DeviceStates Sys2Proof.Events Sys2Proof.Channels

/-! ## The second look at a deadline -/

theorem workEnds_chansOnly (id : Nat) (s : State) : TilePorts.chansOnly s (workEnds id s) :=
  TilePorts.foldl_chansOnly (fun s c => depart c id s) (fun _ _ => rfl) (List.finRange 8) s

theorem onReq_chansOnly (p : PortId) (order : Nat) (f : Req → Req) (s : State) : TilePorts.chansOnly s (onReq p order f s) :=
  rfl

theorem switchCheck_eq {s : State} {p : PortId} {tag : U16} {r : Req} {e : List Byte} (hr : reqOf s p tag = some r)
    (he : r.entry = some e) : switchCheck p tag s =
      if r.op = 1 && r.ended.isNone && !r.sent && !r.proof && decide (r.deadline ≠ 0)
          && mayProve s r.stream (r.flags.getLsbD 1) e
          && proofBetter s r.stream r.tile (min r.deadline (pv s 0x6050 2)) e then
        queueRead (tileKey (eProof e) r.tile) 3 (dueOf r)
          (unqueueRead (tileKey r.stream r.tile) (onReq p r.order (fun r => { r with proof := true }) s))
      else s := by
  simp only [switchCheck, hr, he]

/-- Settles O48: a READ that its proof tile serves earlier changes its request and the queues, any other nothing. -/
theorem proofSwitch : Obligations.ProofSwitch := by
  intro s p tag r e hr he
  have hexec : exec (.proofSwitchCheck p tag) s = .next (switchCheck p tag s) := rfl
  rw [hexec, switchCheck_eq hr he]
  refine ⟨fun hop hend hsent hproof hdue hmay hbetter => ?_, fun hno => ?_⟩
  · have hcond : (decide (r.op = 1) && r.ended.isNone && !r.sent && !r.proof && decide (r.deadline ≠ 0)
        && mayProve s r.stream (r.flags.getLsbD 1) e
        && proofBetter s r.stream r.tile (min r.deadline (pv s 0x6050 2)) e) = true := by
      rw [hmay, hbetter]
      simp [hop, hend, hsent, hproof, hdue]
    rw [if_pos hcond]
    have hnamed := onReq_chansOnly p r.order (fun r => { r with proof := true }) s
    have hends := workEnds_chansOnly (opRead (tileKey r.stream r.tile)) (onReq p r.order (fun r => { r with proof := true }) s)
    have hqueued := TilePorts.queueRead_chansOnly (tileKey (eProof e) r.tile) 3 (dueOf r)
      (unqueueRead (tileKey r.stream r.tile) (onReq p r.order (fun r => { r with proof := true }) s))
    refine ⟨_, rfl, ?_, ?_⟩
    · simp [unqueueRead, onReq, onPort]
    · apply State.ext
      case nand => exact TilePorts.chansOnly_trans (TilePorts.chansOnly_trans hnamed hends) hqueued
      all_goals simp [unqueueRead, onReq, onPort]
  · have hcond : ¬ (decide (r.op = 1) && r.ended.isNone && !r.sent && !r.proof && decide (r.deadline ≠ 0)
        && mayProve s r.stream (r.flags.getLsbD 1) e
        && proofBetter s r.stream r.tile (min r.deadline (pv s 0x6050 2)) e) = true := by
      intro hall
      simp only [Bool.and_eq_true, decide_eq_true_eq, Bool.not_eq_true'] at hall
      obtain ⟨⟨⟨⟨⟨⟨hop, -⟩, hsent⟩, hproof⟩, hdue⟩, hmay⟩, hbetter⟩ := hall
      rcases hno with h | h | h | h | h | h
      · exact h hop
      · exact hdue h
      · rw [h] at hsent; exact absurd hsent (by decide)
      · rw [h] at hproof; exact absurd hproof (by decide)
      · rw [h] at hmay; exact absurd hmay (by decide)
      · rw [h] at hbetter; exact absurd hbetter (by decide)
    rw [if_neg hcond]

/-! ## Tile heat -/

/-- Every tile's heat is as it was. -/
def SameHeat (s t : State) : Prop := ∀ k, (tileAt t k).heat = (tileAt s k).heat

theorem SameHeat.trans {s t u : State} (h : SameHeat s t) (g : SameHeat t u) : SameHeat s u := fun k => (g k).trans (h k)

theorem sameHeat_of_tiers {s t : State} (h : t.tiers = s.tiers) : SameHeat s t := by
  intro k
  rw [TilePorts.tileAt_of_tiles (congrArg Tiers.tiles h) k]

theorem sameHeat_onTile {k : Nat} {f : Tile → Tile} {s : State} (hf : (f (tileAt s k)).heat = (tileAt s k).heat) :
    SameHeat s (onTile k f s) := by
  intro j
  by_cases hj : j = k
  · subst hj
    rw [onTile, TilePorts.tileAt_setTile_same, hf]
  · rw [onTile, TilePorts.tileAt_setTile_other k j _ s hj]

theorem sameHeat_foldl {α : Type} {g : State → α → State} (hg : ∀ s a, SameHeat s (g s a)) (l : List α) (s : State) :
    SameHeat s (l.foldl g s) := by
  induction l generalizing s with
  | nil => exact fun _ => rfl
  | cons a l ih => exact (hg s a).trans (ih _)

theorem SameHeat.workEnds {s t : State} (h : SameHeat s t) (id : Nat) : SameHeat s (workEnds id t) :=
  h.trans (sameHeat_of_tiers (by simp))
theorem SameHeat.queueProgram {s t : State} (h : SameHeat s t) (k cls : Nat) (f : CopyF) :
    SameHeat s (queueProgram k cls f t) := h.trans (sameHeat_of_tiers (by simp))
theorem SameHeat.raise {s t : State} (h : SameHeat s t) (k : Nat) : SameHeat s (raise k t) :=
  h.trans (sameHeat_of_tiers (by simp))
theorem SameHeat.collectF {s t : State} (h : SameHeat s t) : SameHeat s (collectF t) :=
  h.trans (sameHeat_of_tiers (by simp))

theorem sameHeat_programF (k : Nat) (bs : List Byte) (save cls : Nat) (ended : Bool) (brings left : Option Nat) (s : State) :
    SameHeat s (programF k bs save cls ended brings left s) := by
  have hplaced : (placeUnits bs s).2.tiers = s.tiers := by simp
  unfold programF
  dsimp only
  refine (sameHeat_of_tiers hplaced).trans ?_
  split
  · refine SameHeat.workEnds ?_ _
    exact sameHeat_onTile rfl
  · refine SameHeat.queueProgram ?_ _ _ _
    exact sameHeat_onTile rfl

theorem sameHeat_unitLost (k : Nat) (s : State) : SameHeat s (unitLost k s) := by
  unfold unitLost
  dsimp only
  split
  · exact fun _ => rfl
  · split
    · exact sameHeat_programF _ _ _ _ _ _ _ s
    · split
      · exact fun _ => rfl
      · refine SameHeat.raise (SameHeat.collectF ?_) _
        exact sameHeat_onTile rfl

theorem sameHeat_takeD (k : Nat) (e : List Byte) (s : State) : SameHeat s (takeD k e s).2 := by
  unfold takeD
  split
  · exact fun _ => rfl
  · split
    · exact fun _ => rfl
    · exact SameHeat.trans (fun _ => rfl) (sameHeat_onTile rfl)

theorem sameHeat_liftS (k : Nat) (s : State) : SameHeat s (liftS k s) := by
  unfold liftS
  dsimp only
  split
  · exact fun _ => rfl
  · split
    · have htake := sameHeat_takeD k (entryNow s (keyStream k)) s
      generalize takeD k (entryNow s (keyStream k)) s = r at htake
      obtain ⟨_ | bs, u⟩ := r
      · dsimp only
        split
        · exact htake
        · exact htake.trans (sameHeat_unitLost k u)
      · exact htake.trans (sameHeat_onTile rfl)
    · split
      · split
        · exact sameHeat_onTile rfl
        · exact fun _ => rfl
      · exact fun _ => rfl

theorem sameHeat_liftD (k : Nat) (s : State) : SameHeat s (liftD k s) := by
  unfold liftD
  dsimp only
  split
  · exact fun _ => rfl
  · split
    · split
      · exact sameHeat_onTile rfl
      · exact fun _ => rfl
    · exact fun _ => rfl

theorem sameHeat_placeAccount (a : Nat) (s : State) : SameHeat s (placeAccount a s) := by
  unfold placeAccount
  dsimp only
  refine SameHeat.trans (SameHeat.trans (SameHeat.trans (sameHeat_foldl (fun u p => ?_) _ s)
    (sameHeat_foldl (fun u k => sameHeat_liftS k u) _ _)) (sameHeat_foldl (fun u p => ?_) _ _))
    (sameHeat_foldl (fun u k => sameHeat_liftD k u) _ _)
  · split
    · exact fun _ => rfl
    · exact sameHeat_onTile rfl
  · split
    · exact fun _ => rfl
    · exact sameHeat_onTile rfl

/-- With no tile listed there is nothing to place. -/
theorem placeAccount_empty {s : State} (a : Nat) (h : s.tiers.tiles = []) : placeAccount a s = s := by
  have hnone : tilesOf s a = [] := by simp only [tilesOf, h, List.filter_nil]
  have hS : wantedS s a = [] := by simp only [wantedS, hnone, List.filter_nil, byHeat, List.foldl_nil, List.map_nil,
    List.append_nil, List.take_nil]
  have hslots : slotTiles s a false = [] := by simp only [slotTiles, hnone, List.filter_nil]
  have hD : wantedD s a = [] := by simp only [wantedD, hnone, List.filter_nil, byHeat, List.foldl_nil, List.map_nil,
    List.append_nil, takeFitting]
  have hevict : evictableD s a = [] := by simp only [evictableD, hnone, List.filter_nil]
  simp only [placeAccount, hS, hslots, List.foldl_nil, hD, hevict]

/-- A member of a map whose members were changed in their places. -/
theorem aget_map {α : Type} (f : Nat → α → α) (l : Assoc α) (k : Nat) :
    aget (l.map fun p => (p.1, f p.1 p.2)) k = (aget l k).map (f k) := by
  induction l with
  | nil => rfl
  | cons p l ih =>
    simp only [List.map_cons, aget]
    split
    · next hk => rw [hk]; rfl
    · exact ih

theorem decayHeat_heat (s : State) (k : Nat) :
    (tileAt (decayHeat s) k).heat = (tileAt s k).heat - ((tileAt s k).heat >>> pv s 0x6040 2) := by
  simp only [tileAt, decayHeat, onTiers]
  rw [aget_map fun _ (x : Tile) => { x with heat := x.heat - (x.heat >>> pv s 0x6040 2) }]
  cases aget s.tiers.tiles k with
  | none => simp [Tile.none]
  | some x => rfl

theorem tileHeatAndSweep : Claims.TileHeatAndSweep := by
  refine ⟨fun s hmain hready => ?_, fun s => rfl⟩
  have hexec : exec .tileHeatEpoch s = .next (tileEpoch s) := by
    show Host.Outcome.next (if s.sys.mainOn && s.tiers.ready then tileEpoch s else s) = _
    rw [hmain, hready]
    rfl
  refine ⟨tileEpoch s, hexec, fun hempty => ?_, fun k => ?_, ?_⟩
  · have hdecay : decayHeat s = s := by
      simp only [decayHeat, hempty, onTiers, List.map_nil]
      rw [← hempty]
    have hplace : ∀ (l : List Nat) (u : State), u.tiers.tiles = [] →
        l.foldl (fun (s : State) a => placeAccount a s) u = u := by
      intro l
      induction l with
      | nil => exact fun _ _ => rfl
      | cons a l ih =>
        intro u hu
        rw [List.foldl_cons, placeAccount_empty a hu]
        exact ih u hu
    unfold tileEpoch
    rw [hdecay]
    exact hplace _ _ hempty
  · exact (sameHeat_foldl (fun u a => sameHeat_placeAccount a u) _ _ k).trans (decayHeat_heat s k)
  · apply State.ext <;> simp

/-! ## Curator cores -/

theorem nextCore_live {s : State} {d : Fin 4} (h : nextCore s = some d) : liveCore s d.val = true := by
  have hfold : ∀ (load : Fin 4 → Nat) (l : List (Fin 4)) (b : Option (Fin 4)), l.foldl (fun b c => match b with
      | none => some c
      | some d => if load c < load d then some c else some d) b = some d → d ∈ l ∨ b = some d := by
    intro load l
    induction l with
    | nil => exact fun b h => Or.inr h
    | cons x l ih =>
      intro b h
      rw [List.foldl_cons] at h
      rcases ih _ h with hb | hb
      · exact Or.inl (List.mem_cons_of_mem _ hb)
      · cases b with
        | none => exact Or.inl (Option.some.inj hb ▸ List.mem_cons_self)
        | some a =>
          dsimp only at hb
          split at hb
          · exact Or.inl (Option.some.inj hb ▸ List.mem_cons_self)
          · exact Or.inr hb
  have hmem := (hfold _ _ none h).resolve_right nofun
  exact (List.mem_filter.mp hmem).2

theorem nextCore_some {s : State} {d : Fin 4} (h : liveCore s d.val = true) : ∃ c, nextCore s = some c := by
  have hfold : ∀ (load : Fin 4 → Nat) (l : List (Fin 4)) (b : Option (Fin 4)), (l ≠ [] ∨ b.isSome) →
      (l.foldl (fun b c => match b with
        | none => some c
        | some d => if load c < load d then some c else some d) b).isSome := by
    intro load l
    induction l with
    | nil => exact fun b h => h.resolve_left fun hne => hne rfl
    | cons x l ih =>
      intro b _
      rw [List.foldl_cons]
      refine ih _ (Or.inr ?_)
      cases b with
      | none => rfl
      | some a =>
        dsimp only
        split <;> rfl
  have hne : (List.finRange 4).filter (fun c => liveCore s c.val) ≠ [] :=
    List.ne_nil_of_mem (List.mem_filter.mpr ⟨List.mem_finRange d, h⟩)
  exact Option.isSome_iff_exists.mp (hfold _ _ none (Or.inl hne))

/-- What the moves of a failed core's ports change: only where it served, and to a live core. -/
theorem moves_cores {c : Fin 4} (l : List (Fin 4)) {s : State} (hc : liveCore s c.val = false) :
    ∃ x, (l.foldl (moveAccount c) s).tiers = { s.tiers with coreOf := x } ∧
      (∀ p : Fin 4, s.tiers.coreOf[p] ≠ c → x[p] = s.tiers.coreOf[p]) ∧
      ((∃ d : Fin 4, liveCore s d.val = true) → ∀ p ∈ l, x[p] ≠ c) := by
  induction l generalizing s with
  | nil => exact ⟨s.tiers.coreOf, rfl, fun _ _ => rfl, fun _ p hp => absurd hp List.not_mem_nil⟩
  | cons q l ih =>
    have hone : ∃ x, (moveAccount c s q).tiers = { s.tiers with coreOf := x } ∧
        (∀ p : Fin 4, s.tiers.coreOf[p] ≠ c → x[p] = s.tiers.coreOf[p]) ∧
        ((∃ d : Fin 4, liveCore s d.val = true) → x[q] ≠ c) := by
      unfold moveAccount
      by_cases hq : s.tiers.coreOf[q] = c
      · rw [if_pos hq]
        cases hnext : nextCore s with
        | none =>
          refine ⟨s.tiers.coreOf, rfl, fun _ _ => rfl, fun ⟨d, hd⟩ => ?_⟩
          obtain ⟨e, he⟩ := nextCore_some hd
          exact absurd (hnext.symm.trans he) nofun
        | some d =>
          refine ⟨upd s.tiers.coreOf q (fun _ => d), rfl, fun p hp => ?_, fun _ => ?_⟩
          · exact upd_other _ _ _ _ fun he => hp (he ▸ hq)
          · rw [upd_same]
            intro hdc
            have hlive := nextCore_live hnext
            rw [hdc, hc] at hlive
            exact absurd hlive (by decide)
      · rw [if_neg hq]
        exact ⟨s.tiers.coreOf, rfl, fun _ _ => rfl, fun _ => hq⟩
    obtain ⟨x, hx, hkeep, hmoved⟩ := hone
    have hlive : ∀ d, liveCore (moveAccount c s q) d = liveCore s d := fun d => by simp only [liveCore, hx]
    obtain ⟨y, hy, hkeep', hmoved'⟩ := ih (s := moveAccount c s q) ((hlive _).trans hc)
    rw [hx] at hy hkeep'
    refine ⟨y, hy, fun p hp => (hkeep' p ((hkeep p hp).symm ▸ hp)).trans (hkeep p hp), fun hsome p hp => ?_⟩
    rcases List.mem_cons.mp hp with rfl | hp
    · rw [hkeep' p (hmoved hsome)]
      exact hmoved hsome
    · obtain ⟨d, hd⟩ := hsome
      exact hmoved' ⟨d, (hlive _).trans hd⟩ p hp

theorem coreBit : ∀ c d : Fin 4, (BitVec.ofNat 8 (2 ^ c.val)).getLsbD d.val = decide (c = d) := by decide

/-- The cores once one of them has failed, before its ports move. -/
def coreLost (c : Fin 4) (s : State) : State := onTiers (fun t => { t with
  curators := t.curators &&& ~~~(BitVec.ofNat 8 (2 ^ c.val)), failures := satInc t.failures }) s

theorem curatorsFail : Claims.CuratorsFail := by
  intro s c hmain hlive
  have hbits : ∀ d : Fin 4, liveCore (coreLost c s) d.val = (s.tiers.curators.getLsbD d.val && !decide (c = d)) := by
    intro d
    have hlt : d.val < 8 := by omega
    simp only [coreLost, liveCore, onTiers, BitVec.getLsbD_and, BitVec.getLsbD_not, coreBit, hlt, decide_true, Bool.true_and]
  have hdead : liveCore (coreLost c s) c.val = false := by rw [hbits, decide_eq_true rfl, Bool.not_true, Bool.and_false]
  obtain ⟨x, htiers, hkeep, hmoved⟩ := moves_cores (List.finRange 4) hdead
  have hrun : coreFails c s = raise 100 ((List.finRange 4).foldl (moveAccount c) (coreLost c s)) := by
    simp only [coreFails, liveCore, hlive, Bool.not_true, Bool.false_eq_true, if_false]
    rfl
  have hexec : exec (.curatorFailed c) s = .next (raise 100 ((List.finRange 4).foldl (moveAccount c) (coreLost c s))) := by
    show Host.Outcome.next (if s.sys.mainOn then coreFails c s else s) = _
    rw [if_pos hmain, hrun]
  have hafter : (raise 100 ((List.finRange 4).foldl (moveAccount c) (coreLost c s))).tiers = { s.tiers with
      curators := s.tiers.curators &&& ~~~(BitVec.ofNat 8 (2 ^ c.val)), failures := satInc s.tiers.failures, coreOf := x } := by
    rw [(raise_keeps _ _).2.2.2.2.2.2.2.2.2.2.2.2.1, htiers]
    rfl
  refine ⟨_, hexec, ?_, ?_, ?_, fun p hp => ?_, fun d hd hbit p => ?_, ?_⟩
  · rw [hafter]
  · rw [hafter]
  · exact raise_gotEvent_after 100 (by decide) (by simp [hearing, coreLost, onTiers])
  · rw [hafter]
    exact hkeep p hp
  · rw [hafter]
    refine hmoved ⟨d, ?_⟩ p (List.mem_finRange p)
    rw [hbits, hbit, decide_eq_false (Ne.symm hd)]
    rfl
  · apply State.ext
    case tiers => rw [hafter]
    all_goals simp [coreLost, onTiers]

/-! ## The tier state load -/

/-- The heat of a complete save. -/
def savedHeat (s : State) : Assoc U16 := (s.tiers.save.map (·.heat)).getD []

/-- The tier state as a load without a cut finds it. -/
def loadedTiers (s : State) : State := onTiers (fun t => { t with
  table := (t.save.map (·.table)).getD [], ready := true, curators := 0x0F, coreOf := Vector.ofFn (fun p => p)
  loaded := if t.save.isSome then 1 else 0
  tiles := t.tiles.map fun (p : Nat × Tile) => (p.1, { p.2 with heat := (aget (savedHeat s) p.1).getD 0 }) }) s

theorem tierLoad_uncut {s : State} (hcut : s.tiers.cut = none) : tierLoad s = raise 103 (loadedTiers s) := by
  have hnothing : ∀ (l : List Nat) (v : State), l.foldl (fun (s : State) a =>
      if ([] : List Nat).any (fun k => decide (accountOf (keyStream k) = a)) then raise (84 + a) s else s) v = v := by
    intro l
    induction l with
    | nil => exact fun _ => rfl
    | cons a l ih => exact fun v => ih v
  simp only [tierLoad, hcut, List.foldl_nil, hnothing, onTiers, loadedTiers, savedHeat, Option.isSome_none,
    Bool.false_eq_true, if_false]

theorem loadedTiers_tile {s : State} {k : Nat} (hk : aget s.tiers.tiles k ≠ none) :
    tileAt (loadedTiers s) k = { tileAt s k with heat := (aget (savedHeat s) k).getD 0 } := by
  obtain ⟨x, hx⟩ := Option.ne_none_iff_exists'.mp hk
  simp only [tileAt, loadedTiers, onTiers]
  rw [aget_map fun j (x : Tile) => { x with heat := (aget (savedHeat s) j).getD 0 }, hx]
  rfl

theorem tierStateLoads : Claims.TierStateLoads := by
  intro s hmain hready hcut
  have hexec : exec .tierStateLoad s = .next (tierLoad s) := by
    show Host.Outcome.next (if s.sys.mainOn && !s.tiers.ready then tierLoad s else s) = _
    rw [hmain, hready]
    rfl
  have hrun := tierLoad_uncut hcut
  have htiers : (raise 103 (loadedTiers s)).tiers = (loadedTiers s).tiers := by simp
  rw [hexec, hrun]
  refine ⟨raise 103 (loadedTiers s), rfl, ?_, ?_, fun p => ?_, ?_, ?_, fun k hk => ?_, ?_, ?_⟩
  · rw [htiers]; rfl
  · rw [htiers]; rfl
  · rw [htiers]
    exact Vector.getElem_ofFn _
  · rw [htiers]; rfl
  · rw [htiers]; rfl
  · rw [TilePorts.tileAt_of_tiles (congrArg Tiers.tiles htiers)]
    exact loadedTiers_tile hk
  · exact raise_gotEvent_after 103 (by decide) (by simp [hearing, loadedTiers, onTiers])
  · apply State.ext <;> simp [loadedTiers, onTiers]

/-- Settles O43: the heat epoch, the sweep, a core that fails, and the load of the tier state. -/
theorem tierUpkeep : Obligations.TierUpkeep := ⟨tileHeatAndSweep, curatorsFail, tierStateLoads⟩

end Sys2Proof.TierCare
end

section
/-! PROOF. The completion of a request (R348 to R354). -/

namespace Sys2Proof.Completing

open Sys2Proof Sys2Proof.Machine Sys2Proof.Claims Sys2Proof.Families

theorem onPort_other {p q : PortId} (f : TilePort → TilePort) (s : State) (h : q ≠ p) : (onPort p f s).ports[q] = s.ports[q] :=
  upd_other s.ports p q f (Ne.symm h)

theorem onPort_same (p : PortId) (f : TilePort → TilePort) (s : State) : (onPort p f s).ports[p] = f s.ports[p] :=
  upd_same s.ports p f

/-- The bytes left in the buffer change what the port sends, and no more. -/
theorem bufferLeft_sends (p : PortId) (r : Req) (d : Done) (s : State) : ∃ out free, bufferLeft p r d s =
    { s with ports := upd s.ports p (fun x => { x with out := out }), free := free } := by
  unfold bufferLeft
  split
  · exact ⟨_, _, rfl⟩
  · refine ⟨(s.ports[p]).out, s.free, ?_⟩
    rw [Sequencing.upd_fixed s.ports p rfl]

/-- The port once a completion is written. -/
def completedPort (r : Req) (d : Done) (st : Byte) (x : TilePort) : TilePort :=
  let active := x.active.filter fun y => decide (y.order ≠ r.order)
  let tail := ringNext x.cq x.cq.tail
  let left := x.enable && !(x.closing && active.isEmpty)
  { x with
    active := active
    cqOut := x.cqOut ++ [completionOf x r d st]
    completed := x.completed + 1
    cq := { x.cq with tail := tail }
    phase := if tail = 0 then !x.phase else x.phase
    enable := left
    closing := x.closing && left }

theorem missed_reads {s t : State} (h : t.sys = s.sys) (r : Req) (d : Done) : missed t r d = missed s r d := by
  simp only [missed, h]

/-- The count of deadlines missed, one more for a READ that is late. -/
def missCounted (r : Req) (d : Done) (s : State) : State :=
  if missed s r d then onTiers (fun t => { t with misses := upd t.misses (acc4 (accountOf r.stream)) satInc }) s else s

theorem missCounted_frame (r : Req) (d : Done) (s : State) : missCounted r d s = { s with
    tiers := { s.tiers with misses := (missCounted r d s).tiers.misses } } := by
  unfold missCounted
  split <;> rfl

/-- The completion written, before what the tile holds of the reserve goes back. -/
def completionPut (p : PortId) (r : Req) (d : Done) (s : State) : State :=
  onPort p (completedPort r d (if missed s r d then statusCode .deadlineMissed else d.status)) (missCounted r d s)

theorem writeCompletion_eq (p : PortId) (r : Req) (d : Done) (s : State) : writeCompletion p r d s =
    if namesTile r then returnReserve (sourceKey r) (completionPut p r d s) else completionPut p r d s := rfl

theorem inRequest_of_ports {s t : State} (h : t.ports = s.ports) (k : Nat) : inRequest t k = inRequest s k := by
  simp only [inRequest, h]

/-- What a tile holds of the reserve goes back, unless a request names it. -/
theorem returnReserve_tiles (k : Nat) (s : State) : (∀ j, j ≠ k → tileAt (returnReserve k s) j = tileAt s j) ∧
    tileAt (returnReserve k s) k = (if inRequest s k then tileAt s k else withoutReserve (tileAt s k)) ∧
    returnReserve k s = { s with tiers := { s.tiers with tiles := (returnReserve k s).tiers.tiles } } := by
  unfold returnReserve
  by_cases h : inRequest s k = true
  · rw [if_pos h, if_pos h]
    exact ⟨fun _ _ => rfl, rfl, rfl⟩
  · rw [if_neg h, if_neg h]
    exact ⟨fun j hj => TilePorts.tileAt_setTile_other k j _ s hj, TilePorts.tileAt_setTile_same k _ s, rfl⟩

theorem completionPut_frame (p : PortId) (r : Req) (d : Done) (s : State) : completionPut p r d s = { s with
    ports := upd s.ports p (completedPort r d (if missed s r d then statusCode .deadlineMissed else d.status))
    tiers := { s.tiers with misses := (missCounted r d s).tiers.misses } } := by
  unfold completionPut
  rw [missCounted_frame]
  rfl

/-- A completion changes its port, a count of misses, and what its tile holds of the reserve. -/
theorem writeCompletion_writes (p : PortId) (r : Req) (d : Done) (s : State) :
    (writeCompletion p r d s).ports = upd s.ports p
      (completedPort r d (if missed s r d then statusCode .deadlineMissed else d.status)) ∧
    (writeCompletion p r d s).tiers.deleting = s.tiers.deleting ∧
    (∀ k, (namesTile r = false ∨ k ≠ sourceKey r) → tileAt (writeCompletion p r d s) k = tileAt s k) ∧
    (namesTile r = true → reserveBack s (writeCompletion p r d s) (sourceKey r)) := by
  have htile : ∀ k, tileAt (completionPut p r d s) k = tileAt s k := by
    intro k
    rw [completionPut_frame]
    rfl
  rw [writeCompletion_eq]
  by_cases hn : namesTile r = true
  · obtain ⟨hother, hsame, hframe⟩ := returnReserve_tiles (sourceKey r) (completionPut p r d s)
    rw [if_pos hn]
    refine ⟨?_, ?_, fun k hk => ?_, fun _ => ?_⟩
    · rw [hframe, completionPut_frame]
    · rw [hframe, completionPut_frame]
    · rw [hother k (hk.resolve_left (by rw [hn]; decide)), htile]
    · have hports : (returnReserve (sourceKey r) (completionPut p r d s)).ports = (completionPut p r d s).ports := by simp
      rw [reserveBack, hsame, inRequest_of_ports hports, htile]
  · rw [if_neg hn]
    refine ⟨?_, ?_, fun k _ => htile k, fun h => absurd h hn⟩
    · rw [completionPut_frame]
    · rw [completionPut_frame]

/-- Settles O47: the completion of the request that ended first, where the CQ has room for it. -/
theorem completions : Obligations.Completions := by
  intro s p r d hfind hended hlink
  have hmay : mayComplete s r = true := List.find?_some hfind
  have hstep : ∀ tag, complete p tag s = if r.tag ≠ tag || !cqFree s.ports[p] || (s.ports[p]).link ≠ 3 then s
      else deleteNow r.stream (writeCompletion p r d (bufferLeft p r d s)) := by
    intro tag
    simp only [complete, hfind, hended]
  refine ⟨?_, fun tag htag => ?_, fun hfull => ?_, fun hroom => ?_⟩
  · simpa [mayComplete, hended] using hmay
  · refine congrArg Host.Outcome.next ((hstep tag).trans (if_pos ?_))
    simp [Ne.symm htag]
  · refine congrArg Host.Outcome.next ((hstep r.tag).trans (if_pos ?_))
    rw [hfull, Bool.not_false, Bool.or_true, Bool.true_or]
  · have hrun : complete p r.tag s = deleteNow r.stream (writeCompletion p r d (bufferLeft p r d s)) :=
      (hstep r.tag).trans (if_neg (by rw [hroom, hlink]; simp))
    refine ⟨complete p r.tag s, rfl, ?_⟩
    obtain ⟨out, free, hbuffer⟩ := bufferLeft_sends p r d s
    obtain ⟨hports, hdeleting, hkept, hback⟩ := writeCompletion_writes p r d (bufferLeft p r d s)
    have hmissed : missed (bufferLeft p r d s) r d = missed s r d := by rw [hbuffer]; rfl
    have hport : (complete p r.tag s).ports[p] = completedPort r d
        (if missed s r d then statusCode .deadlineMissed else d.status) { s.ports[p] with out := out } := by
      have hall : (complete p r.tag s).ports = (writeCompletion p r d (bufferLeft p r d s)).ports := by
        rw [hrun]
        simp
      rw [hall, hports, upd_same, hmissed, hbuffer, upd_same]
    have hothers : ∀ q, q ≠ p → (complete p r.tag s).ports[q] = s.ports[q] := by
      intro q hq
      have hall : (complete p r.tag s).ports = (writeCompletion p r d (bufferLeft p r d s)).ports := by
        rw [hrun]
        simp
      rw [hall, hports, upd_other _ _ _ _ (Ne.symm hq), hbuffer, upd_other _ _ _ _ (Ne.symm hq)]
    rw [hport]
    refine ⟨rfl, rfl, rfl, rfl, ?_, fun hclosing hempty => ?_, hothers, ?_, fun hnone => ?_⟩
    · simp only [completedPort]
      split
      · next h => rw [decide_eq_true h, Bool.xor_true]
      · next h => rw [decide_eq_false h, Bool.xor_false]
    · simp only [completedPort] at hempty ⊢
      rw [hclosing, hempty]
      simp
    · rw [hrun]
      apply State.ext
      all_goals simp [hbuffer]
    · have hstill : complete p r.tag s = writeCompletion p r d (bufferLeft p r d s) := by
        rw [hrun]
        have hkeep : deletedAt (writeCompletion p r d (bufferLeft p r d s)) r.stream = none := by
          simp only [deletedAt, hdeleting] at hnone ⊢
          rw [hbuffer]
          exact hnone
        simp only [deleteNow, hkeep, Bool.false_eq_true, if_false]
      have htile : ∀ k, tileAt (bufferLeft p r d s) k = tileAt s k := fun k => by
        rw [hbuffer]
        rfl
      rw [hstill]
      refine ⟨by simp [hbuffer], by simp [hbuffer], fun k hk => (hkept k hk).trans (htile k), fun hn => ?_⟩
      have hgone := hback hn
      rw [reserveBack, htile] at hgone
      exact hgone

end Sys2Proof.Completing
end

section
/-! PROOF. What the delivery of events leaves of a target: its DISABLE and its COAL (R428, R431). -/

namespace Sys2Proof.Delivery

open Sys2Proof Sys2Proof.Machine Sys2Proof.Claims Sys2Proof.Families

/-- Every target has the settings that it had. -/
def SettingsKept (s t : State) : Prop := ∀ k : TargetId,
  (t.irq.tgt[k]).disable = (s.irq.tgt[k]).disable ∧ (t.irq.tgt[k]).coal = (s.irq.tgt[k]).coal

theorem SettingsKept.refl (s : State) : SettingsKept s s := fun _ => ⟨rfl, rfl⟩

theorem SettingsKept.trans {s t u : State} (h : SettingsKept s t) (g : SettingsKept t u) : SettingsKept s u :=
  fun k => ⟨(g k).1.trans (h k).1, (g k).2.trans (h k).2⟩

theorem settingsKept_onTgt {t : TargetId} {f : Target → Target} (hf : ∀ g, (f g).disable = g.disable ∧ (f g).coal = g.coal)
    (s : State) : SettingsKept s (onTgt t f s) := by
  intro k
  by_cases hk : t = k
  · subst hk
    rw [onTgt_tgt, upd_same]
    exact hf _
  · rw [onTgt_tgt, upd_other _ _ _ _ hk]
    exact ⟨rfl, rfl⟩

theorem settingsKept_ite {c : Prop} [Decidable c] {s a b : State} (ha : SettingsKept s a) (hb : SettingsKept s b) :
    SettingsKept s (if c then a else b) := by
  split
  · exact ha
  · exact hb

theorem settingsKept_ibiAttempt (s : State) : SettingsKept s (ibiAttempt s) := by
  unfold ibiAttempt
  exact settingsKept_ite (SettingsKept.refl s) fun _ => ⟨rfl, rfl⟩

theorem settingsKept_issue (t : TargetId) (fast : Bool) (s : State) : SettingsKept s (issue t fast s) := by
  have hfirst := settingsKept_onTgt (t := t) (f := fun g => if fast then { g with outF := true, notified := satInc g.notified }
    else { g with outN := true, windowOpen := false, notified := satInc g.notified })
    (fun g => by cases fast <;> exact ⟨rfl, rfl⟩) s
  unfold issue
  dsimp only
  generalize onTgt t _ s = u at hfirst ⊢
  cases portOfTarget t with
  | some p =>
    refine settingsKept_ite (hfirst.trans (settingsKept_onTgt (f := fun g => if fast then { g with pbaF := true }
      else { g with pbaN := true }) (fun g => ?_) u)) hfirst
    cases fast <;> exact ⟨rfl, rfl⟩
  | none =>
    exact settingsKept_ite ((hfirst.trans fun _ => ⟨rfl, rfl⟩).trans
      (settingsKept_ibiAttempt { u with bus := { u.bus with ibi := .wanted } })) hfirst

theorem settingsKept_notifyNow (t : TargetId) (fast : Bool) (s : State) : SettingsKept s (notifyNow t fast s) := by
  unfold notifyNow
  exact settingsKept_ite (SettingsKept.refl s) (settingsKept_issue t fast s)

theorem settingsKept_lines (s : State) : SettingsKept s (lines s) := by
  unfold lines
  dsimp only
  refine SettingsKept.trans (settingsKept_ite (settingsKept_onTgt (t := 0) (f := fun g => { g with
    notified := satInc g.notified }) (fun _ => ⟨rfl, rfl⟩) s) (SettingsKept.refl s)) fun _ => ⟨rfl, rfl⟩

theorem settingsKept_release (t : TargetId) (s : State) : SettingsKept s (release t s) :=
  ((settingsKept_notifyNow t false s).trans (settingsKept_notifyNow t true _)).trans (settingsKept_lines _)

theorem settingsKept_reenter (n : SourceId) (s : State) : SettingsKept s (reenter n s) := by
  have hfirst : SettingsKept s (onSrc n (fun x => { x with st := .pending }) s) := fun _ => ⟨rfl, rfl⟩
  unfold reenter
  dsimp only
  generalize onSrc n (fun x => { x with st := .pending }) s = u at hfirst ⊢
  cases route u n.val with
  | none => exact SettingsKept.trans (hfirst.trans fun _ => ⟨rfl, rfl⟩) (settingsKept_lines (onSrc n (fun x => { x with
      st := .inactive }) u))
  | some r => exact (hfirst.trans (settingsKept_notifyNow r.2 r.1 u)).trans (settingsKept_lines _)

theorem settingsKept_foldl {α : Type} {g : State → α → State} (hg : ∀ s a, SettingsKept s (g s a)) (l : List α) (s : State) :
    SettingsKept s (l.foldl g s) := by
  induction l generalizing s with
  | nil => exact SettingsKept.refl s
  | cons a l ih => exact (hg s a).trans (ih _)

/-- A target after its reset, before its sources are released (R431). -/
def clearedTarget (g : Target) : Target := { g with
  disable := false
  outN := false
  outF := false
  windowOpen := false
  coal := none
  pbaN := false
  pbaF := false }

theorem settingsKept_resetTarget (t : TargetId) (s : State) : SettingsKept (onTgt t clearedTarget s) (resetTarget t s) := by
  unfold resetTarget
  refine SettingsKept.trans (settingsKept_lines _) (settingsKept_foldl (fun u n => ?_) _ _)
  exact settingsKept_ite (fun _ => ⟨rfl, rfl⟩) (settingsKept_ite (settingsKept_reenter n u) (SettingsKept.refl u))

/-- A target that is reset has no DISABLE and no COAL. -/
theorem resetTarget_settings (t : TargetId) (s : State) : ((resetTarget t s).irq.tgt[t]).disable = false ∧
    ((resetTarget t s).irq.tgt[t]).coal = none := by
  obtain ⟨hdisable, hcoal⟩ := settingsKept_resetTarget t s t
  rw [onTgt_tgt, upd_same] at hdisable hcoal
  exact ⟨hdisable, hcoal⟩

end Sys2Proof.Delivery
end
section
/-! PROOF. A port's link, its resets, MSI-X and PCIe errors (R366 to R371, R382). -/

namespace Sys2Proof.PortCare

open Sys2Proof Sys2Proof.Machine Sys2Proof.Claims Sys2Proof.Families Sys2Proof.Completing Sys2Proof.Events

/-! ## What a reset returns of the reserve -/

theorem withoutReserve_again (x : Tile) : withoutReserve (withoutReserve x) = withoutReserve x := by
  have hf : inTierF (withoutReserve x) = inTierF x := rfl
  have hd : (withoutReserve x).d = x.d.bind fun c =>
    if c.reserve && decide (c.dirty = 0) && inTierF x then none else some c := rfl
  have hs : (withoutReserve x).s = x.s.bind fun c =>
    if c.reserve && decide (c.dirty = 0) && (x.d.isSome || inTierF x) then none else some c := rfl
  have hparts : (withoutReserve (withoutReserve x)).s = (withoutReserve x).s ∧
      (withoutReserve (withoutReserve x)).d = (withoutReserve x).d := by
    constructor
    · show (withoutReserve x).s.bind _ = _
      rw [hf, hd, hs]
      cases x.s <;> cases x.d <;> cases inTierF x <;> simp <;> split <;> simp_all
    · show (withoutReserve x).d.bind _ = _
      rw [hf, hd]
      cases x.d with
      | none => rfl
      | some c =>
        simp only [Option.bind_some]
        split
        · rfl
        · next h => simp only [Option.bind_some, if_neg h]
  obtain ⟨hs2, hd2⟩ := hparts
  calc withoutReserve (withoutReserve x)
      = { withoutReserve x with s := (withoutReserve (withoutReserve x)).s, d := (withoutReserve (withoutReserve x)).d } := rfl
    _ = withoutReserve x := by rw [hs2, hd2]

/-- What the tiles of these requests hold of the reserve goes back. -/
def givenBack (l : List Req) (s : State) : State := l.foldl (fun u r => returnReserve (sourceKey r) u) s

theorem givenBack_frame (l : List Req) (s : State) : givenBack l s = { s with
    tiers := { s.tiers with tiles := (givenBack l s).tiers.tiles } } := by
  induction l generalizing s with
  | nil => rfl
  | cons r l ih =>
    refine (ih (returnReserve (sourceKey r) s)).trans ?_
    show _ = { s with tiers := { s.tiers with tiles := (givenBack l (returnReserve (sourceKey r) s)).tiers.tiles } }
    generalize (givenBack l (returnReserve (sourceKey r) s)).tiers.tiles = x
    rw [(returnReserve_tiles (sourceKey r) s).2.2]

theorem givenBack_ports (l : List Req) (s : State) : (givenBack l s).ports = s.ports := by
  rw [givenBack_frame]

theorem givenBack_other (l : List Req) (s : State) (k : Nat) (h : ∀ r ∈ l, sourceKey r ≠ k) :
    tileAt (givenBack l s) k = tileAt s k := by
  induction l generalizing s with
  | nil => rfl
  | cons r l ih =>
    refine (ih _ fun x hx => h x (List.mem_cons_of_mem r hx)).trans ?_
    exact (returnReserve_tiles (sourceKey r) s).1 k (Ne.symm (h r List.mem_cons_self))

theorem givenBack_named (l : List Req) (s : State) (k : Nat) (h : ∃ r ∈ l, sourceKey r = k) :
    tileAt (givenBack l s) k = if inRequest s k then tileAt s k else withoutReserve (tileAt s k) := by
  induction l generalizing s with
  | nil => simp at h
  | cons r l ih =>
    obtain ⟨hother, hsame, hframe⟩ := returnReserve_tiles (sourceKey r) s
    have hports : (returnReserve (sourceKey r) s).ports = s.ports := by simp
    show tileAt (givenBack l (returnReserve (sourceKey r) s)) k = _
    by_cases hl : ∃ x ∈ l, sourceKey x = k
    · rw [ih _ hl, inRequest_of_ports hports]
      by_cases hk : k = sourceKey r
      · rw [hk, hsame]
        by_cases hin : inRequest s (sourceKey r) = true
        · simp only [if_pos hin]
        · simp only [if_neg hin, withoutReserve_again]
      · rw [hother k hk]
    · rw [givenBack_other l _ k fun x hx hxk => hl ⟨x, hx, hxk⟩]
      have hk : sourceKey r = k := by
        obtain ⟨x, hx, hxk⟩ := h
        rcases List.mem_cons.mp hx with rfl | hx
        · exact hxk
        · exact absurd ⟨x, hx, hxk⟩ hl
      rw [← hk, hsame]

/-! ## The reset of a port -/

/-- The port after a reset of this kind, taken with the link up. -/
def portReset (kind : ResetKind) (t : TilePort) : TilePort := { TilePort.init with
  link := if dropsLink kind then 1 else t.link
  speed := if dropsLink kind then 0 else t.speed
  width := if dropsLink kind then 0 else t.width
  admissions := t.admissions
  cqOut := []
  completed := t.completed
  gone := satOf 32 (t.gone.toNat + t.active.length)
  losses := if dropsLink kind then satInc t.losses else t.losses
  halts := t.halts
  lastQerr := t.lastQerr
  correctable := t.correctable
  uncorrectable := t.uncorrectable
  dropped := t.dropped
  inval := t.inval
  msix := if kind = .d3 then t.msix else MsixState.init
  table := if kind = .d3 then t.table else []
  out := [] }

/-- The reads of a port's READs leave the queues of the channels. -/
def readsLeft (p : PortId) (s : State) : State :=
  (((s.ports[p]).active.filter fun r => decide (r.op = 1) && r.ended.isNone).foldl (fun u r => unqueueRead (sourceKey r) u) s)

theorem readsLeft_frame (p : PortId) (s : State) : readsLeft p s = { s with
    nand := { s.nand with chans := (readsLeft p s).nand.chans } } := by
  have hchans : TilePorts.chansOnly s (readsLeft p s) :=
    TilePorts.foldl_chansOnly (fun u r => unqueueRead (sourceKey r) u) (fun u r => TierCare.workEnds_chansOnly (opRead (sourceKey r)) u) _ s
  have hkeep : ∀ {β : Type} (view : State → β), (∀ u r, view (unqueueRead (sourceKey r) u) = view u) →
      view (readsLeft p s) = view s := fun view h => DeviceStates.foldl_keeps view _ h _ s
  apply State.ext
  case nand => exact hchans
  all_goals exact hkeep _ (fun u r => by simp)

/-- The sources of a reset (R369). -/
def resetSignalled (p : PortId) (lost busy : Bool) (s : State) : State :=
  let s := if lost then raise (112 + 4 * p.val) s else s
  if busy then raise (114 + 4 * p.val) s else s

theorem resetSignalled_frame (p : PortId) (lost busy : Bool) (s : State) : resetSignalled p lost busy s = { s with
    irq := (resetSignalled p lost busy s).irq, bus := (resetSignalled p lost busy s).bus
    free := (resetSignalled p lost busy s).free } := by
  cases lost <;> cases busy
  · rfl
  · exact TilePorts.raise_frame _ s
  · exact TilePorts.raise_frame _ s
  · exact (TilePorts.raise_frame _ _).trans (by simp only [resetSignalled, if_true]; rw [TilePorts.raise_frame (112 + 4 * p.val) s])

theorem resetPort_eq {s : State} {p : PortId} (kind : ResetKind) (hmain : s.sys.mainOn = true) (hthere : portThere s p = true)
    (hlink : (s.ports[p]).link = 3) : resetPort p kind s = resetTarget (targetOfPort p)
      (resetSignalled p (dropsLink kind) (!(s.ports[p]).active.isEmpty)
        (givenBack ((s.ports[p]).active.filter namesTile) (onPort p (portReset kind) (readsLeft p s)))) := by
  have hgoes : ¬((!s.sys.mainOn || !portThere s p || (!decide ((s.ports[p]).link = 3) && decide (kind ≠ .perst))) = true) := by
    rw [hmain, hthere, hlink]
    simp
  refine (if_neg hgoes).trans ?_
  rw [hlink]
  simp only [decide_true, Bool.and_true]
  rfl

/-- What a reset of a port leaves: the parts that change, and the port, its target and the tiles. -/
theorem resetPort_leaves {s : State} {p : PortId} (kind : ResetKind) (hmain : s.sys.mainOn = true)
    (hthere : portThere s p = true) (hlink : (s.ports[p]).link = 3) :
    (resetPort p kind s).ports = upd s.ports p (portReset kind) ∧
    (resetPort p kind s).tiers.tiles =
      (givenBack ((s.ports[p]).active.filter namesTile) (onPort p (portReset kind) (readsLeft p s))).tiers.tiles ∧
    resetPort p kind s = { s with
      ports := (resetPort p kind s).ports, tiers := { s.tiers with tiles := (resetPort p kind s).tiers.tiles }
      nand := { s.nand with chans := (resetPort p kind s).nand.chans }
      irq := (resetPort p kind s).irq, bus := (resetPort p kind s).bus, free := (resetPort p kind s).free } := by
  have hback := givenBack_frame ((s.ports[p]).active.filter namesTile) (onPort p (portReset kind) (readsLeft p s))
  have hput : onPort p (portReset kind) (readsLeft p s) = { s with
      ports := upd s.ports p (portReset kind)
      nand := { s.nand with chans := (readsLeft p s).nand.chans } } := by
    rw [readsLeft_frame]
    rfl
  rw [resetPort_eq kind hmain hthere hlink]
  generalize givenBack _ (onPort p (portReset kind) (readsLeft p s)) = u at hback ⊢
  rw [hput] at hback
  have hsignal := resetSignalled_frame p (dropsLink kind) (!(s.ports[p]).active.isEmpty) u
  generalize resetSignalled p (dropsLink kind) (!(s.ports[p]).active.isEmpty) u = v at hsignal ⊢
  have hkeeps := resetTarget_keeps (targetOfPort p) v
  refine ⟨?_, ?_, ?_⟩
  · rw [hkeeps.2.2.2.2.2.2.2.2.2.2.2.2.2.1, hsignal, hback]
  · rw [hkeeps.2.2.2.2.2.2.2.2.2.2.2.2.1, hsignal]
  · apply State.ext
    all_goals simp
    all_goals rw [hsignal, hback]

theorem namesTile_filtered {l : List Req} {k : Nat} (h : ∀ r ∈ l, namesTile r = false ∨ sourceKey r ≠ k) :
    ∀ r ∈ l.filter namesTile, sourceKey r ≠ k := by
  intro r hr
  obtain ⟨hmem, hnames⟩ := List.mem_filter.mp hr
  exact (h r hmem).resolve_left (by rw [hnames]; decide)

theorem linksAndResets : LinksAndResets := by
  intro s p hmain hthere
  refine ⟨fun speed width hlink => ?_, fun kind hlink => ?_⟩
  · have hrun : linkComesUp p speed width s = release (targetOfPort p) (raise (112 + 4 * p.val) (onPort p (fun t => { t with
        link := 3
        speed := BitVec.ofNat 8 (min (max 1 speed.toNat) (pv s (0x7000 + p.val) 2))
        width := BitVec.ofNat 8 (min (max 1 width.toNat) (pv s (0x7000 + p.val) 3)) }) s)) := by
      refine if_neg ?_
      rw [hmain, hthere, hlink]
      decide
    refine ⟨_, congrArg Host.Outcome.next hrun, by simp [onPort], ?_, ?_⟩
    · have hevent := gotEvent_raised (s := s) (112 + 4 * p.val) (by omega) (u := onPort p (fun t => { t with
        link := 3
        speed := BitVec.ofNat 8 (min (max 1 speed.toNat) (pv s (0x7000 + p.val) 2))
        width := BitVec.ofNat 8 (min (max 1 width.toNat) (pv s (0x7000 + p.val) 3)) }) s) ⟨rfl, rfl, rfl, rfl, rfl⟩
      exact gotEvent_kept hevent (by rw [DeviceStates.release_src])
    · apply State.ext
      all_goals simp [onPort]
  · obtain ⟨hports, htiles, hframe⟩ := resetPort_leaves kind hmain hthere hlink
    obtain ⟨hdisable, hcoal⟩ : ((resetPort p kind s).irq.tgt[targetOfPort p]).disable = false ∧
        ((resetPort p kind s).irq.tgt[targetOfPort p]).coal = none := by
      rw [resetPort_eq kind hmain hthere hlink]
      exact Delivery.resetTarget_settings _ _
    have hport : (resetPort p kind s).ports[p] = portReset kind s.ports[p] := by
      rw [hports, upd_same]
    have hkept : ∀ k, tileAt (onPort p (portReset kind) (readsLeft p s)) k = tileAt s k := by
      intro k
      rw [readsLeft_frame]
      rfl
    refine ⟨_, rfl, ?_, ?_, ?_, ?_, ?_, ?_, ?_, hdisable, hcoal, fun q hq => ?_, fun k hk => ?_, fun r hr hnames => ?_, hframe⟩
    · rw [hport]
      rfl
    · rw [hport]
      rfl
    · rw [hport]
      rfl
    · rw [hport]
      rfl
    · rw [hport]
      rfl
    · rw [hport]
      simp only [portReset, hlink]
    · rw [hport]
      rfl
    · rw [hports, upd_other _ _ _ _ (Ne.symm hq)]
    · rw [TilePorts.tileAt_of_tiles htiles, givenBack_other _ _ k (namesTile_filtered hk), hkept]
    · have hports' : (onPort p (portReset kind) (readsLeft p s)).ports = (resetPort p kind s).ports := by
        rw [hports, readsLeft_frame]
        rfl
      rw [reserveBack, TilePorts.tileAt_of_tiles htiles, givenBack_named _ _ (sourceKey r) ⟨r, List.mem_filter.mpr ⟨hr, hnames⟩, rfl⟩,
        hkept, inRequest_of_ports hports']

/-! ## MSI-X and errors -/

theorem portOfTarget_port (p : PortId) : portOfTarget (targetOfPort p) = some p := by
  have hrange : 1 ≤ (targetOfPort p).val ∧ (targetOfPort p).val ≤ 4 := by
    have := p.isLt
    simp only [targetOfPort]
    omega
  rw [portOfTarget, dif_pos hrange]
  simp [targetOfPort]

/-- Without MSI-X the target of a port holds its notifications. -/
theorem held_of_msixOff {s : State} {p : PortId} (h : (s.ports[p]).msix.enable = false) : held s (targetOfPort p) = true := by
  simp only [held, portOfTarget_port, h, Bool.not_false, Bool.true_or, Bool.or_true]

/-- The state with the port's MSI-X written, before anything is released. -/
def msixWritten (p : PortId) (m : MsixState) (s : State) : State :=
  let u := onPort p (fun x => { x with msix := m }) s
  if !m.enable then onTgt (targetOfPort p) (fun g => { g with
    outN := false
    outF := false
    pbaN := false
    pbaF := false }) u
  else onTgt (targetOfPort p) (fun g => { g with
    pbaN := g.pbaN && (m.functionMask || m.maskN)
    pbaF := g.pbaF && (m.functionMask || m.maskF) }) u

theorem msixWritten_frame (p : PortId) (m : MsixState) (s : State) : (msixWritten p m s).irq.src = s.irq.src ∧
    (msixWritten p m s).ports = upd s.ports p (fun x => { x with msix := m }) := by
  unfold msixWritten
  dsimp only
  split
  · exact ⟨rfl, rfl⟩
  · exact ⟨rfl, rfl⟩

theorem msixWritten_off {m : MsixState} (p : PortId) (s : State) (h : m.enable = false) :
    ((msixWritten p m s).irq.tgt[targetOfPort p]).outN = false ∧ ((msixWritten p m s).irq.tgt[targetOfPort p]).outF = false := by
  have hoff : (!m.enable) = true := by rw [h]; rfl
  have hwritten : msixWritten p m s = onTgt (targetOfPort p) _ _ := if_pos hoff
  rw [hwritten, onTgt_tgt, upd_same]
  exact ⟨rfl, rfl⟩

theorem setMsix_eq {s : State} {p : PortId} (m : MsixState) (hlink : (s.ports[p]).link = 3) : setMsix p m s =
    if held s (targetOfPort p) && !held (msixWritten p m s) (targetOfPort p) then release (targetOfPort p) (msixWritten p m s)
    else msixWritten p m s := by
  have hgoes : ¬((s.ports[p]).link ≠ 3) := fun h => h hlink
  exact if_neg hgoes

theorem setMsix_leaves {s : State} {p : PortId} (m : MsixState) (hlink : (s.ports[p]).link = 3) :
    (setMsix p m s).ports = upd s.ports p (fun x => { x with msix := m }) ∧ (setMsix p m s).irq.src = s.irq.src := by
  rw [setMsix_eq m hlink]
  obtain ⟨hsrc, hports⟩ := msixWritten_frame p m s
  generalize msixWritten p m s = u at hports hsrc ⊢
  split
  · exact ⟨by simp [hports], by rw [DeviceStates.release_src, hsrc]⟩
  · exact ⟨hports, hsrc⟩

theorem setMsix_off {s : State} {p : PortId} {m : MsixState} (hlink : (s.ports[p]).link = 3) (hoff : m.enable = false) :
    setMsix p m s = msixWritten p m s := by
  have hheld : held (msixWritten p m s) (targetOfPort p) = true := by
    refine held_of_msixOff ?_
    rw [(msixWritten_frame p m s).2, upd_same]
    exact hoff
  rw [setMsix_eq m hlink, hheld]
  simp

theorem msiXAndErrors : MsiXAndErrors := by
  intro s p hlink
  have hgoes : ¬((s.ports[p]).link ≠ 3) := fun h => h hlink
  refine ⟨fun hready m => ?_, fun m hready => ?_, ?_, ?_, fun hmain hthere => ?_⟩
  · show Host.Outcome.next _ = _
    rw [hready]
    rfl
  · have hrun : exec (.msiXEnable p m) s = .next (setMsix p m s) := by
      show Host.Outcome.next _ = _
      rw [hready]
      rfl
    obtain ⟨hports, hsrc⟩ := setMsix_leaves m hlink
    refine ⟨_, hrun, hports, hsrc, fun hoff => ?_, ?_⟩
    · rw [setMsix_off hlink hoff]
      exact msixWritten_off p s hoff
    · apply State.ext
      all_goals simp
  · refine ⟨_, congrArg Host.Outcome.next (if_neg hgoes), ?_⟩
    show _ = { s with ports := _ }
    refine congrArg (fun x => { s with ports := x }) ?_
    exact Sequencing.upd_congr _ p rfl
  · refine ⟨_, congrArg Host.Outcome.next (if_neg hgoes), ?_, ?_, ?_⟩
    · simp [onPort]
    · exact gotEvent_raised (115 + 4 * p.val) (by omega) ⟨rfl, rfl, rfl, rfl, rfl⟩
    · apply State.ext
      all_goals simp [onPort]
  · obtain ⟨u, hu⟩ : ∃ u, raise (115 + 4 * p.val) (onPort p (fun t => { t with uncorrectable := satInc t.uncorrectable }) s) = u :=
      ⟨_, rfl⟩
    have hframe : u.ports = upd s.ports p (fun t => { t with uncorrectable := satInc t.uncorrectable }) ∧ u.sys = s.sys ∧
        u.ident = s.ident := by
      subst hu
      exact ⟨by simp [onPort], by simp [onPort], by simp [onPort]⟩
    obtain ⟨hports, hsys, hident⟩ := hframe
    have hrun : exec (.aerEvent p true false) s = .next (resetPort p .hot u) := by
      rw [← hu]
      exact congrArg Host.Outcome.next (if_neg hgoes)
    have hup : (u.ports[p]).link = 3 := by
      rw [hports, upd_same]
      exact hlink
    have hthere' : portThere u p = true := by
      rw [← hthere]
      simp only [portThere, small, hident]
    obtain ⟨hreset, -, -⟩ := resetPort_leaves .hot ((congrArg Sys.mainOn hsys).trans hmain) hthere' hup
    refine ⟨_, hrun, ?_, ?_, ?_, fun q hq => ?_⟩
    · rw [hreset, upd_same, hports, upd_same]
      rfl
    · rw [hreset, upd_same]
      rfl
    · rw [hreset, upd_same]
      rfl
    · rw [hreset, upd_other _ _ _ _ (Ne.symm hq), hports, upd_other _ _ _ _ (Ne.symm hq)]

/-- Settles O50: a link that comes up, a port's resets, MSI-X and PCIe errors. -/
theorem portLinks : Obligations.PortLinks := ⟨linksAndResets, msiXAndErrors⟩

end Sys2Proof.PortCare
end

section
/-! PROOF. The object tunnel of a port (Table 14-8, R437). -/

namespace Sys2Proof.ObjectTunnels

open Sys2Proof Sys2Proof.Machine Sys2Proof.Claims Sys2Proof.Families Sys2Proof.Completing Sys2Proof.Events

/-! ## What a port's tunnel reaches -/

/-- A list of checks that all pass. -/
theorem firstOf_pass {l : List Abort} (h : ∀ a ∈ l, a = .done) : firstOf l = .done := by
  induction l with
  | nil => rfl
  | cons a l ih =>
    obtain ⟨ha, hl⟩ := List.forall_mem_cons.mp h
    rw [firstOf, if_pos ha, ih hl]

theorem served_in_run {s : State} (write : Bool) (i b : Nat) (hrun : s.sys.st = .run) (hmain : s.sys.mainOn = true)
    (hraw : i ≠ 0x4020) : servedCheck s write i b = .done := by
  simp [servedCheck, hrun, hmain, bootFault, hraw]

theorem deviceState_in_tunnel (p : PortId) : pathCheck (.tunnel p) false 0x1400 1 = .done := by
  revert p
  decide

/-- The state's code, read through a port. -/
theorem odRead_deviceState {s : State} (p : PortId) (hrun : s.sys.st = .run) (hmain : s.sys.mainOn = true) :
    odRead (.tunnel p) 0x1400 1 s = (.done, [3], s) := by
  have hchecks : readChecks s (.tunnel p) 0x1400 1 false = .done := by
    refine firstOf_pass ?_
    have hthere : existence (small s) 0x1400 1 = .done := by cases small s <;> rfl
    simp only [List.forall_mem_cons]
    exact ⟨hthere, deviceState_in_tunnel p, rfl, served_in_run false 0x1400 1 hrun hmain (by decide), rfl, by simp⟩
  have hbytes : objectBytes s 0x1400 1 = [3] := by
    show leBytes 1 (stCode s.sys.st).toNat = _
    rw [hrun]
    rfl
  simp only [odRead, hchecks, hbytes]
  rfl

/-- A port's own DISABLE. -/
def disableOf (p : PortId) : Nat := 0x8101 + p.val

theorem row_disableOf : ∀ p : PortId, rowOf (disableOf p) 1 = some (vw 0x8100 6 1 1 .bool 1 0 1) := by decide +kernel

theorem disableOf_address : ∀ p : PortId,
    bits 23 8 (BitVec.ofNat 32 (0x810101 + 0x100 * p.val)).toNat = disableOf p ∧
    bits 7 0 (BitVec.ofNat 32 (0x810101 + 0x100 * p.val)).toNat = 1 := by decide

theorem disableOf_exists : ∀ (b : Bool) (p : PortId), (b = true → p.val < 2) → existence b (disableOf p) 1 = .done := by
  decide +kernel

theorem disableOf_reached : ∀ p : PortId, pathCheck (.tunnel p) true (disableOf p) 1 = .done := by decide +kernel

theorem writeEffect_disableOf (p : PortId) (data resp : List Byte) (s : State) : writeEffect (disableOf p) 1 data resp s =
    (.done, setDisable (targetOfPort p) (decide (leNat data = 1)) s) := by
  match p with
  | 0 => rfl
  | 1 => rfl
  | 2 => rfl
  | 3 => rfl

theorem writeState_disableOf (p : PortId) (s : State) : writeState s (disableOf p) 1 = true :=
  match p with
  | 0 => rfl
  | 1 => rfl
  | 2 => rfl
  | 3 => rfl

theorem idleTrigger_disableOf (p : PortId) (data : List Byte) : idleTrigger (disableOf p) 1 data = false := by
  simp only [idleTrigger, row_disableOf]
  rfl

/-- A port may write its own DISABLE in RUN. -/
theorem writeChecks_disableOf {s : State} {p : PortId} (b : Byte) (hb : b.toNat ≤ 1) (hrun : s.sys.st = .run)
    (hmain : s.sys.mainOn = true) (hthere : portThere s p = true) : writeChecks s (.tunnel p) (disableOf p) 1 [b] = .done := by
  have hfar : disableOf p ≠ 0x4020 ∧ disableOf p ≠ 0x2230 ∧ disableOf p ≠ 0xA040 ∧ disableOf p ≠ 0xA030 ∧
      disableOf p ≠ 0x4030 ∧ disableOf p ≠ 0x2200 := by
    simp only [disableOf]
    omega
  obtain ⟨hraw, hprogram, hsanitize, himage, hcommit, hstore⟩ := hfar
  have hexists : existence (small s) (disableOf p) 1 = .done := by
    refine disableOf_exists _ p fun hsmall => ?_
    simp only [portThere, hsmall, Bool.true_and, Bool.not_eq_true', decide_eq_false_iff_not] at hthere
    omega
  have hstate : stateCheck s (disableOf p) 1 [b] = .done := by
    simp [stateCheck, hprogram, served_in_run true (disableOf p) 1 hrun hmain hraw, accOf, row_disableOf, vw,
      writeState_disableOf]
  have hvalue : valueCheck s (disableOf p) 1 [b] = .done := by
    have hle : leNat [b] ≤ 1 := (NegativeCare.leNat_one b).trans_le hb
    simp [valueCheck, row_disableOf, vw, idleTrigger_disableOf, rangeOk, hle, Nat.not_lt.mpr hle]
  refine firstOf_pass ?_
  simp only [List.forall_mem_cons]
  refine ⟨hexists, disableOf_reached p, ?_, hstate, ?_, ?_, hvalue, by simp⟩
  · simp [classCheck, accOf, row_disableOf, vw]
  · simp [sessionCheck, accOf, row_disableOf, vw, hsanitize, himage]
  · simp [protectionCheck, row_disableOf, vw, hcommit, himage, hstore]

theorem odWrite_disableOf {s : State} {p : PortId} (b : Byte) (hb : b.toNat ≤ 1) (hrun : s.sys.st = .run)
    (hmain : s.sys.mainOn = true) (hthere : portThere s p = true) :
    odWrite (.tunnel p) (disableOf p) 1 [b] [] s = (.done, setDisable (targetOfPort p) (decide (b = 1)) s) := by
  have hone : decide (leNat [b] = 1) = decide (b = 1) := by
    refine decide_eq_decide.mpr ?_
    rw [NegativeCare.leNat_one, ← BitVec.toNat_inj]
    rfl
  have hraw : (decide (Path.tunnel p = .bus) && decide (disableOf p = 0x4020)) = false := by simp
  simp only [odWrite, rawNoted, objectWrite, writeChecks_disableOf b hb hrun hmain hthere, idleTrigger_disableOf, row_disableOf,
    writeEffect_disableOf, hone, hraw, Bool.false_and]
  rfl

theorem setDisable_leaves (t : TargetId) (on : Bool) (s : State) : ((setDisable t on s).irq.tgt[t]).disable = on ∧
    (setDisable t on s).irq.src = s.irq.src := by
  have hput : (onTgt t (fun g => { g with disable := on, windowOpen := g.windowOpen && !on }) s).irq.src = s.irq.src ∧
      ((onTgt t (fun g => { g with disable := on, windowOpen := g.windowOpen && !on }) s).irq.tgt[t]).disable = on :=
    ⟨rfl, by rw [onTgt_tgt, upd_same]⟩
  unfold setDisable
  dsimp only
  generalize onTgt t _ s = u at hput ⊢
  obtain ⟨hsrc, hon⟩ := hput
  split
  · exact ⟨((Delivery.settingsKept_release t u) t).1.trans hon, by rw [DeviceStates.release_src, hsrc]⟩
  · exact ⟨((Delivery.settingsKept_lines u) t).1.trans hon, by rw [TilePorts.lines_src, hsrc]⟩

/-! ## Commands of the tunnel -/

theorem tunnelCommand_overrun {s : State} {p : PortId} (cmd : Nat) (hlink : (s.ports[p]).link = 3)
    (hbusy : (s.ports[p]).tunnel.busy = true) :
    tunnelCommand p cmd s = onTunnel p (fun t => { t with overrun := true }) s := by
  have hgoes : ¬((s.ports[p]).link ≠ 3) := fun h => h hlink
  exact (if_neg hgoes).trans (if_pos hbusy)

/-- A command that passes the checks of the tunnel itself. -/
theorem tunnelCommand_goes {s : State} {p : PortId} (hlink : (s.ports[p]).link = 3) (hfree : (s.ports[p]).tunnel.busy = false)
    (hpos : 0 < (s.ports[p]).tunnel.len.toNat) (hlen : (s.ports[p]).tunnel.len.toNat ≤ 1024) :
    tunnelCommand p 1 s = (let r := tunnelFetch p (s.ports[p]).tunnel s
      onTunnel p (fun t => { t with
        busy := true
        abort := BitVec.ofNat 32 (abortCode r.1).toNat
        len := if r.1 = .done then BitVec.ofNat 32 r.2.1.length else t.len
        data := if r.1 = .done then mergeAt 0 r.2.1 (slice 0 1024 t.data) else t.data }) r.2.2) ∧
    tunnelCommand p 2 s = (let t := (s.ports[p]).tunnel
      let r := odWrite (.tunnel p) (tunnelIndex t) (tunnelSub t) (slice 0 t.len.toNat t.data) [] s
      onTunnel p (fun t => { t with
        busy := true
        abort := BitVec.ofNat 32 (abortCode r.1).toNat }) r.2) := by
  have hgoes : ¬((s.ports[p]).link ≠ 3) := fun h => h hlink
  have hidle : ¬((s.ports[p]).tunnel.busy = true) := by rw [hfree]; decide
  have hin : ¬(((decide ((s.ports[p]).tunnel.len = 0)) || decide (1024 < (s.ports[p]).tunnel.len.toNat)) = true) := by
    have hzero : (s.ports[p]).tunnel.len ≠ 0 := fun h => by rw [h] at hpos; exact absurd hpos (by decide)
    rw [decide_eq_false hzero, decide_eq_false (Nat.not_lt.mpr hlen)]
    decide
  exact ⟨(if_neg hgoes).trans ((if_neg hidle).trans ((if_neg hin))), (if_neg hgoes).trans ((if_neg hidle).trans ((if_neg hin)))⟩

theorem tunnelCommand_refused {s : State} {p : PortId} {cmd : Nat} (hcmd : cmd = 1 ∨ cmd = 2)
    (hlink : (s.ports[p]).link = 3) (hfree : (s.ports[p]).tunnel.busy = false)
    (hlen : (s.ports[p]).tunnel.len = 0 ∨ 1024 < (s.ports[p]).tunnel.len.toNat) :
    tunnelCommand p cmd s = tunnelRefused p s := by
  have hgoes : ¬((s.ports[p]).link ≠ 3) := fun h => h hlink
  have hidle : ¬((s.ports[p]).tunnel.busy = true) := by rw [hfree]; decide
  refine (if_neg hgoes).trans ((if_neg hidle).trans ((if_neg ?_).trans (if_pos ?_)))
  · rcases hcmd with rfl | rfl <;> decide
  · simpa using hlen

theorem onTunnel_ports (p : PortId) (f : Tunnel → Tunnel) (s : State) :
    (onTunnel p f s).ports = upd s.ports p (fun x => { x with tunnel := f (s.ports[p]).tunnel }) := by
  have hrun : (onTunnel p f s).ports = upd s.ports p (fun x => { x with tunnel := f x.tunnel }) := rfl
  rw [hrun]
  refine Sequencing.upd_congr s.ports p ?_
  rfl

theorem onTunnel_only (p : PortId) (f : Tunnel → Tunnel) (s : State) :
    onlyPort s (onTunnel p f s) p { s.ports[p] with tunnel := f (s.ports[p]).tunnel } := by
  have hport : (onTunnel p f s).ports = upd s.ports p (fun _ => { s.ports[p] with tunnel := f (s.ports[p]).tunnel }) := by
    rw [onTunnel_ports]
    refine Sequencing.upd_congr s.ports p ?_
    rfl
  rw [onlyPort, ← hport]
  rfl

/-- A change of a tunnel with source 115 + 4p. -/
theorem tunnelSignal_leaves (p : PortId) (f : Tunnel → Tunnel) (s : State) :
    (raise (115 + 4 * p.val) (onTunnel p f s)).ports = upd s.ports p (fun x => { x with tunnel := f (s.ports[p]).tunnel }) ∧
    gotEvent s (raise (115 + 4 * p.val) (onTunnel p f s)) (Fin.ofNat 192 (115 + 4 * p.val)) ∧
    raise (115 + 4 * p.val) (onTunnel p f s) = { s with
      ports := (raise (115 + 4 * p.val) (onTunnel p f s)).ports, irq := (raise (115 + 4 * p.val) (onTunnel p f s)).irq
      bus := (raise (115 + 4 * p.val) (onTunnel p f s)).bus, free := (raise (115 + 4 * p.val) (onTunnel p f s)).free } := by
  refine ⟨?_, gotEvent_raised (115 + 4 * p.val) (by omega) ⟨rfl, rfl, rfl, rfl, rfl⟩, ?_⟩
  · simp only [raise_keeps]
    exact onTunnel_ports p f s
  · apply State.ext
    all_goals simp [onTunnel, onPort]

/-- Settles O51: the object tunnel of a port, by the command and the state of the tunnel. -/
theorem objectTunnel : Obligations.ObjectTunnel := by
  rintro s p u rfl hlink
  have hgoes : ¬((s.ports[p]).link ≠ 3) := fun h => h hlink
  refine ⟨fun hfree hpos hlen hrun hmain => ⟨fun haddr => ?_, fun b hb haddr hthere hone hdata => ?_⟩,
    fun hfree hlen c hc => ?_, fun hbusy => ⟨fun c hc => ?_, ?_⟩⟩
  · have hindex : tunnelIndex (s.ports[p]).tunnel = 0x1400 ∧ tunnelSub (s.ports[p]).tunnel = 1 := by
      rw [tunnelIndex, tunnelSub, haddr]
      decide
    have hfetch : tunnelFetch p (s.ports[p]).tunnel s = (.done, [3], s) := by
      simp only [tunnelFetch, hindex]
      exact odRead_deviceState p hrun hmain
    refine ⟨_, congrArg Host.Outcome.next (tunnelCommand_goes hlink hfree hpos hlen).1, ?_⟩
    rw [hfetch]
    exact onTunnel_only p _ s
  · have hindex : tunnelIndex (s.ports[p]).tunnel = disableOf p ∧ tunnelSub (s.ports[p]).tunnel = 1 := by
      rw [tunnelIndex, tunnelSub, haddr]
      exact disableOf_address p
    have hslice : slice 0 (s.ports[p]).tunnel.len.toNat (s.ports[p]).tunnel.data = [b] := by
      have hhead : (s.ports[p]).tunnel.data[0]? = some b := by rw [← List.head?_eq_getElem?]; exact hdata
      rw [hone]
      show [(s.ports[p]).tunnel.data.getD 0 0] = [b]
      rw [List.getD_eq_getElem?_getD, hhead]
      rfl
    obtain ⟨hdisable, hsrc⟩ := setDisable_leaves (targetOfPort p) (decide (b = 1)) s
    refine ⟨_, congrArg Host.Outcome.next (tunnelCommand_goes hlink hfree hpos hlen).2, ?_⟩
    simp only [hindex, hslice, odWrite_disableOf b hb hrun hmain hthere]
    refine ⟨?_, hdisable, hsrc, ?_⟩
    · rw [onTunnel_ports]
      simp only [setDisable_keeps]
      rfl
    · apply State.ext
      all_goals simp [onTunnel, onPort]
  · have hcommand : exec c s = .next (tunnelRefused p s) := by
      rcases List.mem_cons.mp hc with rfl | hc
      · exact congrArg Host.Outcome.next (tunnelCommand_refused (.inl rfl) hlink hfree hlen)
      · rw [List.mem_singleton.mp hc]
        exact congrArg Host.Outcome.next (tunnelCommand_refused (.inr rfl) hlink hfree hlen)
    exact ⟨_, hcommand, tunnelSignal_leaves p _ s⟩
  · have hcommand : exec c s = .next (onTunnel p (fun t => { t with overrun := true }) s) := by
      rcases List.mem_cons.mp hc with rfl | hc
      · exact congrArg Host.Outcome.next (tunnelCommand_overrun 1 hlink hbusy)
      · rw [List.mem_singleton.mp hc]
        exact congrArg Host.Outcome.next (tunnelCommand_overrun 2 hlink hbusy)
    exact ⟨_, hcommand, onTunnel_only p _ s⟩
  · have hstill : ¬((!(s.ports[p]).tunnel.busy) = true) := by rw [hbusy]; decide
    exact ⟨_, congrArg Host.Outcome.next (if_neg hstill), tunnelSignal_leaves p _ s⟩

end Sys2Proof.ObjectTunnels
end

section
/-! PROOF. What the delivery of events leaves of the distributor (R427 to R434), and which source a claim returns (R426). -/

namespace Sys2Proof.Delivery

open Sys2Proof Sys2Proof.Machine Sys2Proof.Claims Sys2Proof.Families Sys2Proof.TilePorts

/-! ## Deliveries -/

/-- What deliveries leave alone: the sources, the counts of merged events and of spurious completions. -/
structure Delivered (s t : State) : Prop where
  src : t.irq.src = s.irq.src
  merged : t.irq.merged = s.irq.merged
  spurious : ∀ k : TargetId, (t.irq.tgt[k]).spurious = (s.irq.tgt[k]).spurious

theorem Delivered.refl (s : State) : Delivered s s := ⟨rfl, rfl, fun _ => rfl⟩

theorem Delivered.trans {s t u : State} (h : Delivered s t) (g : Delivered t u) : Delivered s u :=
  ⟨g.src.trans h.src, g.merged.trans h.merged, fun k => (g.spurious k).trans (h.spurious k)⟩

theorem Delivered.ite {c : Prop} [Decidable c] {s a b : State} (ha : Delivered s a) (hb : Delivered s b) :
    Delivered s (if c then a else b) := by
  split
  · exact ha
  · exact hb

theorem delivered_onTgt {t : TargetId} {f : Target → Target} (hf : ∀ g, (f g).spurious = g.spurious) (s : State) :
    Delivered s (onTgt t f s) := by
  refine ⟨rfl, rfl, fun k => ?_⟩
  by_cases hk : t = k
  · subst hk
    rw [onTgt_tgt, upd_same]
    exact hf _
  · rw [onTgt_tgt, upd_other _ _ _ _ hk]

theorem delivered_ibiAttempt (s : State) : Delivered s (ibiAttempt s) := by
  unfold ibiAttempt
  exact Delivered.ite (Delivered.refl s) ⟨rfl, rfl, fun _ => rfl⟩

theorem delivered_issue (t : TargetId) (fast : Bool) (s : State) : Delivered s (issue t fast s) := by
  have hfirst := delivered_onTgt (t := t) (f := fun g => if fast then { g with outF := true, notified := satInc g.notified }
    else { g with outN := true, windowOpen := false, notified := satInc g.notified }) (fun g => by cases fast <;> rfl) s
  unfold issue
  dsimp only
  generalize onTgt t _ s = u at hfirst ⊢
  cases portOfTarget t with
  | some p =>
    refine Delivered.ite (hfirst.trans (delivered_onTgt (f := fun g => if fast then { g with pbaF := true }
      else { g with pbaN := true }) (fun g => ?_) u)) hfirst
    cases fast <;> rfl
  | none =>
    have hwanted : Delivered u { u with bus := { u.bus with ibi := .wanted } } := ⟨rfl, rfl, fun _ => rfl⟩
    exact Delivered.ite ((hfirst.trans hwanted).trans (delivered_ibiAttempt _)) hfirst

theorem delivered_notifyNow (t : TargetId) (fast : Bool) (s : State) : Delivered s (notifyNow t fast s) := by
  unfold notifyNow
  exact Delivered.ite (Delivered.refl s) (delivered_issue t fast s)

/-- The notification of a fall of FAST_n. -/
def fastFell (s : State) : State :=
  if (!held s 0 && !(pendingAt s true 0).isEmpty) && !s.irq.fastLow then
    onTgt 0 (fun g => { g with notified := satInc g.notified }) s
  else s

theorem lines_irq (s : State) : ∃ low wake, lines s = { fastFell s with
    irq := { (fastFell s).irq with fastLow := low, wakeLow := wake } } := ⟨_, _, rfl⟩

theorem delivered_lines (s : State) : Delivered s (lines s) := by
  have hfirst : Delivered s (fastFell s) := by
    unfold fastFell
    exact Delivered.ite (delivered_onTgt (f := fun g => { g with notified := satInc g.notified }) (fun _ => rfl) s) (Delivered.refl s)
  obtain ⟨low, wake, hlines⟩ := lines_irq s
  rw [hlines]
  exact ⟨hfirst.src, hfirst.merged, hfirst.spurious⟩

theorem delivered_testWindow (t : TargetId) (expired : Bool) (s : State) : Delivered s (testWindow t expired s) := by
  unfold testWindow
  exact Delivered.ite (Delivered.refl s) (Delivered.ite (Delivered.ite (Delivered.refl s) (delivered_issue t false s))
    (Delivered.refl s))

theorem delivered_becamePending (fast : Bool) (t : TargetId) (s : State) : Delivered s (becamePending fast t s) := by
  unfold becamePending
  dsimp only
  refine Delivered.ite (Delivered.refl s) (Delivered.ite (delivered_notifyNow t true s) (Delivered.ite ?_
    (Delivered.ite (Delivered.refl s) ?_)))
  · exact (delivered_onTgt (f := fun g => { g with windowCount := g.windowCount + 1 }) (fun _ => rfl) s).trans
      (delivered_testWindow t false _)
  · exact (delivered_onTgt (f := fun g => { g with windowOpen := true, windowCount := 1, windowAt := s.sys.aonTime.toNat })
      (fun _ => rfl) s).trans (delivered_testWindow t false _)

/-- The lines leave every target but the host's. -/
theorem lines_tgt_other (s : State) {k : TargetId} (hk : k ≠ 0) : (lines s).irq.tgt[k] = s.irq.tgt[k] := by
  have hfirst : (fastFell s).irq.tgt[k] = s.irq.tgt[k] := by
    by_cases hfell : ((!held s 0 && !(pendingAt s true 0).isEmpty) && !s.irq.fastLow) = true
    · rw [show fastFell s = _ from if_pos hfell, onTgt_tgt, upd_other _ _ _ _ (Ne.symm hk)]
    · rw [show fastFell s = s from if_neg hfell]
  obtain ⟨low, wake, hlines⟩ := lines_irq s
  rw [hlines]
  exact hfirst

/-- What an event does by the state of its source (Table 13-2). -/
theorem raise_heard {s : State} {n : SourceId} (h : hears s n = true) :
    (∃ fast t, (s.irq.src[n]).st = .inactive ∧
      raise n.val s = lines (becamePending fast t (onSrc n (fun x => { x with st := .pending }) s))) ∨
    ((s.irq.src[n]).st = .active ∧ raise n.val s = lines (onSrc n (fun x => { x with st := .activePending }) s)) ∨
    (((s.irq.src[n]).st = .pending ∨ (s.irq.src[n]).st = .activePending) ∧
      raise n.val s = { s with irq := { s.irq with merged := satInc s.irq.merged } }) := by
  simp only [hears, Bool.and_eq_true, Bool.or_eq_true, Option.isSome_iff_exists] at h
  obtain ⟨⟨haon, hdie⟩, ⟨fast, t⟩, hroute⟩ := h
  have hpowered : (!s.supply.aon || (!s.sys.mainOn && !aonSource n.val)) = false := by
    rcases hdie with h | h <;> simp [haon, h]
  obtain ⟨k, hk⟩ := n
  generalize hu : raise k s = u
  cases hst : (s.irq.src[(⟨k, hk⟩ : SourceId)]).st <;>
    simp only [raise, hk, dif_pos, hroute, hpowered, Bool.false_eq_true, if_false, hst] at hu <;> subst hu
  case inactive => exact .inl ⟨fast, t, rfl, rfl⟩
  case active => exact .inr (.inl ⟨rfl, rfl⟩)
  case pending => exact .inr (.inr ⟨.inl rfl, rfl⟩)
  case activePending => exact .inr (.inr ⟨.inr rfl, rfl⟩)

theorem raise_unheard {s : State} {n : SourceId} (h : hears s n = false) : raise n.val s = s := by
  obtain ⟨k, hk⟩ := n
  simp only [raise, hk, dif_pos]
  cases hroute : route s k with
  | none => rfl
  | some r =>
    have hoff : (!s.supply.aon || (!s.sys.mainOn && !aonSource k)) = true := by
      simp only [hears, hroute, Option.isSome_some, Bool.and_true, Bool.and_eq_false_iff, Bool.or_eq_false_iff] at h
      rcases h with h | ⟨h, g⟩
      · simp [h]
      · simp [h, g]
    simp only [hoff, if_true]

/-- An event leaves the counts of spurious completions. -/
theorem raise_spurious (n : SourceId) (s : State) (g : TargetId) :
    ((raise n.val s).irq.tgt[g]).spurious = (s.irq.tgt[g]).spurious := by
  cases hheard : hears s n with
  | false => rw [raise_unheard hheard]
  | true =>
    rcases raise_heard hheard with ⟨fast, t, -, hrun⟩ | ⟨-, hrun⟩ | ⟨-, hrun⟩
    · rw [hrun]
      exact ((delivered_becamePending fast t _).trans (delivered_lines _)).spurious g
    · rw [hrun]
      exact (delivered_lines _).spurious g
    · rw [hrun]

/-! ## Which source a claim returns -/

/-- The rank of a source in a claim. -/
def claimRank (s : State) (fast : Bool) (n : SourceId) : Nat :=
  if fast then 15 - ((fastOf s n.val).map (·.val)).getD 15 else entryPrio (entryOf s n.val)

/-- The better of two candidates, the first where they rank alike. -/
def better (s : State) (fast : Bool) (best : Option SourceId) (n : SourceId) : Option SourceId :=
  match best with
  | none => some n
  | some b => if claimRank s fast b < claimRank s fast n then some n else some b

theorem bestOf_eq (s : State) (fast : Bool) (t : TargetId) :
    bestOf s fast t = (pendingAt s fast t).foldl (better s fast) none := rfl

/-- A best candidate stays the best where no later one ranks above it. -/
theorem foldl_better_stays {s : State} {fast : Bool} {n : SourceId} {l : List SourceId}
    (h : ∀ k ∈ l, claimRank s fast k ≤ claimRank s fast n) : l.foldl (better s fast) (some n) = some n := by
  induction l with
  | nil => rfl
  | cons a l ih =>
    have hstays : better s fast (some n) a = some n := if_neg (Nat.not_lt.mpr (h a List.mem_cons_self))
    rw [List.foldl_cons, hstays]
    exact ih fun k hk => h k (List.mem_cons_of_mem a hk)

/-- The first source of the highest rank is the best one. -/
theorem foldl_better {s : State} {fast : Bool} {n : SourceId} {l : List SourceId} {b : Option SourceId}
    (hsorted : l.Pairwise (· < ·)) (hmem : n ∈ l) (hbelow : ∀ c ∈ b, claimRank s fast c < claimRank s fast n)
    (hbest : ∀ k ∈ l, claimRank s fast k ≤ claimRank s fast n ∧ (claimRank s fast k = claimRank s fast n → n ≤ k)) :
    l.foldl (better s fast) b = some n := by
  induction l generalizing b with
  | nil => simp at hmem
  | cons a l ih =>
    obtain ⟨hfirst, hsorted⟩ := List.pairwise_cons.mp hsorted
    rw [List.foldl_cons]
    by_cases ha : a = n
    · have htaken : better s fast b a = some n := by
        subst ha
        cases b with
        | none => rfl
        | some c => exact if_pos (hbelow c rfl)
      rw [htaken]
      exact foldl_better_stays fun k hk => (hbest k (List.mem_cons_of_mem a hk)).1
    · have hlater : n ∈ l := (List.mem_cons.mp hmem).resolve_left (Ne.symm ha)
      obtain ⟨hle, htie⟩ := hbest a List.mem_cons_self
      have hlower : claimRank s fast a < claimRank s fast n := by
        refine lt_of_le_of_ne hle fun heq => ?_
        exact absurd (hfirst n hlater) (not_lt.mpr (htie heq))
      refine ih hsorted hlater (fun c hc => ?_) fun k hk => hbest k (List.mem_cons_of_mem a hk)
      cases b with
      | none =>
        have hc : a = c := Option.some.inj hc
        rw [← hc]
        exact hlower
      | some d =>
        simp only [better] at hc
        split at hc
        · have hc : a = c := Option.some.inj hc
          rw [← hc]
          exact hlower
        · have hc : d = c := Option.some.inj hc
          rw [← hc]
          exact hbelow d rfl

theorem pairwise_pendingAt (s : State) (fast : Bool) (t : TargetId) : (pendingAt s fast t).Pairwise (· < ·) :=
  (List.pairwise_lt_finRange 192).filter _

/-- A claim finds the best source of its class. -/
theorem bestOf_normal {s : State} {t : TargetId} {n : SourceId} (h : bestNormal s t n) : bestOf s false t = some n := by
  obtain ⟨hmem, hbest⟩ := h
  rw [bestOf_eq]
  exact foldl_better (pairwise_pendingAt s false t) hmem (by simp) hbest

theorem bestOf_only {s : State} {fast : Bool} {t : TargetId} {n : SourceId} (h : pendingAt s fast t = [n]) :
    bestOf s fast t = some n := by
  rw [bestOf_eq, h]
  rfl

theorem bestOf_none {s : State} {fast : Bool} {t : TargetId} (h : pendingAt s fast t = []) : bestOf s fast t = none := by
  rw [bestOf_eq, h]
  rfl

theorem claim_found {s : State} {fast : Bool} {t : TargetId} {n : SourceId} (h : bestOf s fast t = some n) :
    claim t fast s = (BitVec.ofNat 16 n.val, lines (onSrc n (fun _ => ⟨.active, t, fast⟩) s)) := by
  simp only [claim, h]

theorem claimed_lines (n : SourceId) (t : TargetId) (fast : Bool) (s : State) :
    claimed s (lines (onSrc n (fun _ => ⟨.active, t, fast⟩) s)) n t fast := by
  refine ⟨?_, fun k hk => ?_, ?_⟩
  · rw [lines_src, onSrc_src, upd_same]
  · rw [lines_src, onSrc_src, upd_other _ _ _ _ (Ne.symm hk)]
  · apply State.ext
    all_goals simp [onSrc]

end Sys2Proof.Delivery
end

section
/-! PROOF. The life of a source: events, claims and completes (R416 to R419, R426). -/

namespace Sys2Proof.Delivery

open Sys2Proof Sys2Proof.Machine Sys2Proof.Claims Sys2Proof.Families Sys2Proof.TilePorts Sys2Proof.PortCare

theorem sourceEvents : SourceEvents := by
  intro s n
  refine ⟨fun h => congrArg Host.Outcome.next (raise_unheard h), fun h => ⟨_, rfl, ?_, fun k hk => ?_, ?_, raise_frame _ _⟩⟩
  · rcases raise_heard h with ⟨fast, t, hst, hrun⟩ | ⟨hst, hrun⟩ | ⟨hst, hrun⟩
    · rw [hrun, lines_src, becamePending_src, onSrc_src, upd_same, hst]
      rfl
    · rw [hrun, lines_src, onSrc_src, upd_same, hst]
      rfl
    · rw [hrun]
      have hstays : afterEvent (s.irq.src[n]).st = (s.irq.src[n]).st := by
        rcases hst with hst | hst <;> rw [hst] <;> rfl
      rw [hstays]
  · exact DeviceStates.raise_src_other n.val s k fun hval => hk (Fin.ext hval)
  · rcases raise_heard h with ⟨fast, t, hst, hrun⟩ | ⟨hst, hrun⟩ | ⟨hst, hrun⟩
    · rw [hrun, ((delivered_becamePending fast t _).trans (delivered_lines _)).merged, hst]
      rfl
    · rw [hrun, (delivered_lines _).merged, hst]
      rfl
    · rw [hrun, if_pos hst]

/-! ## Claims -/

theorem leBytes_source (k : Nat) (n : SourceId) : leBytes k (BitVec.ofNat 16 n.val).toNat = leBytes k n.val := by
  rw [BitVec.toNat_ofNat, Nat.mod_eq_of_lt (by omega)]

theorem engineClaim_up {s : State} {p : PortId} (fast : Bool) (hlink : (s.ports[p]).link = 3) : engineClaim p fast s =
    onPort p (fun t => { t with out := leBytes 4 (claim (targetOfPort p) fast s).1.toNat }) (claim (targetOfPort p) fast s).2 := by
  have hgoes : ¬((s.ports[p]).link ≠ 3) := fun h => h hlink
  exact if_neg hgoes

theorem claimAt_port (p : PortId) (fast : Bool) (s : State) : claimAt (targetOfPort p) fast s = engineClaim p fast s := by
  simp only [claimAt, portOfTarget_port]

/-- An engine's claim that finds a source. -/
theorem engine_claims {s : State} {p : PortId} {fast : Bool} {n : SourceId} (hlink : (s.ports[p]).link = 3)
    (hbest : bestOf s fast (targetOfPort p) = some n) : claimed s (claimAt (targetOfPort p) fast s) n (targetOfPort p) fast ∧
    ((claimAt (targetOfPort p) fast s).ports[p]).out = leBytes 4 n.val ∧ (claimAt (targetOfPort p) fast s).bus = s.bus := by
  obtain ⟨hone, hothers, hframe⟩ := claimed_lines n (targetOfPort p) fast s
  rw [claimAt_port, engineClaim_up fast hlink, claim_found hbest]
  refine ⟨⟨hone, hothers, ?_⟩, ?_, ?_⟩
  · rw [hframe]
    rfl
  · rw [Completing.onPort_same]
    exact leBytes_source 4 n
  · rw [hframe]
    simp [onPort, onSrc]

theorem claim_none {s : State} {t : TargetId} (ht : t ≠ 0) (h : bestOf s false t = none) : claim t false s =
    (0xFFFF, onTgt t (fun g => { g with outN := false, pbaN := false, windowOpen := false }) s) := by
  simp [claim, h, ht]

/-- A checked READ of the host's claims. -/
theorem hostClaim_checks {s : State} {b : Nat} (hb : b = 5 ∨ b = 6) (hrun : s.sys.st = .run) (hmain : s.sys.mainOn = true) :
    readChecks s .bus 0x8100 b false = .done := by
  refine ObjectTunnels.firstOf_pass ?_
  have hserved := ObjectTunnels.served_in_run false 0x8100 b hrun hmain (by decide)
  simp only [List.forall_mem_cons]
  refine ⟨?_, ?_, ?_, hserved, ?_, by simp⟩
  · rcases hb with rfl | rfl <;> cases small s <;> rfl
  · rcases hb with rfl | rfl <;> rfl
  · rcases hb with rfl | rfl <;> rfl
  · rcases hb with rfl | rfl <;> rfl

theorem touch_in_run {s : State} (hrun : s.sys.st = .run) : touch s = { s with bus := { s.bus with ack := true } } :=
  touch_of_not_hold s (by rw [hrun]; decide)

theorem hostRequest_free {s : State} (f : State → State) (hfree : busFree s = true) : hostRequest f s = f (touch s) := by
  simp only [busFree, Bool.and_eq_true, Bool.not_eq_true'] at hfree
  simp [hostRequest, hfree.1, hfree.2]

theorem hostClaim_run {s : State} (fast : Bool) (hfree : busFree s = true) (hrun : s.sys.st = .run) (hmain : s.sys.mainOn = true) :
    claimAt 0 fast s = reply .done (leBytes 2 (claim 0 fast (touch s)).1.toNat) (claim 0 fast (touch s)).2 := by
  have hstay : (touch s).sys = s.sys := by rw [touch_in_run hrun]
  have hchecks : readChecks (touch s) .bus 0x8100 (if fast then 6 else 5) false = .done :=
    hostClaim_checks (by cases fast <;> simp) (by rw [hstay, hrun]) (by rw [hstay, hmain])
  have hserve : claimAt 0 fast s = hostRequest (serveObject 0x8100 (if fast then 6 else 5)) s := rfl
  rw [hserve, hostRequest_free _ hfree]
  simp only [serveObject, odRead, hchecks]
  cases fast <;> rfl

/-- The host's claim that finds a source. -/
theorem host_claims {s : State} {fast : Bool} {n : SourceId} (hfree : busFree s = true) (hrun : s.sys.st = .run)
    (hmain : s.sys.mainOn = true) (hbest : bestOf s fast 0 = some n) : claimed s (claimAt 0 fast s) n 0 fast ∧
    (claimAt 0 fast s).ports = s.ports ∧ (claimAt 0 fast s).bus.resp = [0, 2, 0] ++ leBytes 2 n.val := by
  have hsame : bestOf (touch s) fast 0 = some n := by
    rw [touch_in_run hrun]
    exact hbest
  obtain ⟨hone, hothers, hframe⟩ := claimed_lines n 0 fast (touch s)
  rw [hostClaim_run fast hfree hrun hmain, claim_found hsame, leBytes_source]
  have hports : (lines (onSrc n (fun _ => ⟨.active, 0, fast⟩) (touch s))).ports = s.ports := by
    rw [touch_in_run hrun]
    simp [onSrc]
  generalize lines (onSrc n (fun _ => ⟨.active, 0, fast⟩) (touch s)) = u at hone hothers hframe hports ⊢
  rw [touch_in_run hrun] at hothers hframe
  refine ⟨⟨hone, hothers, ?_⟩, ?_, ?_⟩
  · rw [hframe]
    rfl
  · exact hports
  · show 0 :: leBytes 2 (leBytes 2 n.val).length ++ leBytes 2 n.val = _
    rw [Records.length_leBytes]
    rfl

theorem claimsAtTargets : ClaimsAtTargets := by
  intro s
  refine ⟨fun p n hlink => ⟨fun hbest => ⟨_, rfl, engine_claims hlink (bestOf_normal hbest)⟩,
      fun honly => ⟨_, rfl, engine_claims hlink (bestOf_only honly)⟩, fun hnone => ?_⟩,
    fun n hfree hrun hmain => ⟨fun hbest => ⟨_, rfl, host_claims hfree hrun hmain (bestOf_normal hbest)⟩,
      fun honly => ⟨_, rfl, host_claims hfree hrun hmain (bestOf_only honly)⟩⟩,
    fun n hmain hbest => ?_, rfl⟩
  · have hengine : targetOfPort p ≠ 0 := fun h => absurd (congrArg Fin.val h) (by simp [targetOfPort])
    have hrun : exec (.normalClaim (targetOfPort p)) s = .next (onPort p (fun t => { t with out := leBytes 4 0xFFFF })
        (onTgt (targetOfPort p) (fun g => { g with outN := false, pbaN := false, windowOpen := false }) s)) := by
      refine congrArg Host.Outcome.next ?_
      rw [claimAt_port, engineClaim_up false hlink, claim_none hengine (bestOf_none hnone)]
      rfl
    refine ⟨_, hrun, ?_, rfl, ?_, rfl⟩
    · rw [Completing.onPort_same]
    · show ((upd s.irq.tgt (targetOfPort p) _)[targetOfPort p]).outN = false
      rw [upd_same]
  · have hrun : exec (.normalClaim 5) s = .next (lines (onSrc n (fun _ => ⟨.active, 5, false⟩) s)) := by
      refine congrArg Host.Outcome.next ?_
      have hgoes : claimAt 5 false s = if (false || !s.sys.mainOn) = true then s else (claim 5 false s).2 := rfl
      rw [hgoes, hmain, claim_found (bestOf_normal hbest)]
      rfl
    exact ⟨_, hrun, claimed_lines n 5 false s, by simp [onSrc], by simp [onSrc]⟩

/-! ## Completes -/

theorem spurious_counted (g : TargetId) (s : State) : spuriousAt s (spurious g s) g ∧
    spurious g s = { s with irq := (spurious g s).irq, bus := (spurious g s).bus, free := (spurious g s).free } := by
  obtain ⟨u, hu⟩ : ∃ u, onTgt g (fun x => { x with spurious := satInc x.spurious }) s = u := ⟨_, rfl⟩
  have hput : (u.irq.tgt[g]).spurious = satInc (s.irq.tgt[g]).spurious ∧ u.irq.src = s.irq.src ∧ u = { s with irq := u.irq } := by
    subst hu
    exact ⟨by rw [onTgt_tgt, upd_same], rfl, rfl⟩
  obtain ⟨hcount, hsrc, hframe⟩ := hput
  have hraised : ∀ v : State, v = { u with irq := { u.irq with spuriousAt := some u.sys.aonTime.toNat } } →
      spuriousAt s (raise 166 v) g ∧ raise 166 v = { s with irq := (raise 166 v).irq, bus := (raise 166 v).bus, free := (raise 166 v).free } := by
    intro v hv
    refine ⟨⟨?_, fun j hj => ?_⟩, ?_⟩
    · rw [show (166 : Nat) = (166 : SourceId).val from rfl, raise_spurious, hv]
      exact hcount
    · rw [DeviceStates.raise_src_other 166 v j hj, hv]
      exact congrArg (fun x : Fam 192 Source => x[j]) hsrc
    · have hvs : v = { s with irq := v.irq } := by rw [hv, hframe]
      rw [raise_frame 166 v]
      generalize (raise 166 v).irq = a
      generalize (raise 166 v).bus = b
      generalize (raise 166 v).free = c
      rw [hvs]
  have hrun : spurious g s = match u.irq.spuriousAt with
      | some at_ => if u.sys.aonTime.toNat < 1000000 + at_ then u
        else raise 166 { u with irq := { u.irq with spuriousAt := some u.sys.aonTime.toNat } }
      | none => raise 166 { u with irq := { u.irq with spuriousAt := some u.sys.aonTime.toNat } } := by
    rw [← hu]
    rfl
  rw [hrun]
  split
  · split
    · exact ⟨⟨hcount, fun j _ => congrArg (fun x : Fam 192 Source => x[j]) hsrc⟩, by rw [hframe]⟩
    · exact hraised _ rfl
  · exact hraised _ rfl

theorem reenter_routed {n : SourceId} {s : State} (h : (route s n.val).isSome = true) :
    (reenter n s).irq.src = upd s.irq.src n (fun x => { x with st := .pending }) := by
  obtain ⟨⟨fast, t⟩, hroute⟩ := Option.isSome_iff_exists.mp h
  have hput : route (onSrc n (fun x => { x with st := .pending }) s) n.val = some (fast, t) := hroute
  simp only [reenter, hput]
  rw [lines_src, notifyNow_src, onSrc_src]

/-- A source that the target does not hold completes as none of the held states. -/
theorem completes_not {x : Source} {g : TargetId} {st : SrcState} (h : x.owner ≠ g ∨ x.st = .inactive ∨ x.st = .pending)
    (hi : st ≠ .inactive) (hp : st ≠ .pending) : ¬((decide (x.owner = g) && decide (x.st = st)) = true) := by
  intro heq
  simp only [Bool.and_eq_true, decide_eq_true_eq] at heq
  obtain ⟨howner, hst⟩ := heq
  rcases h with h | h | h
  · exact h howner
  · exact hi (hst.symm.trans h)
  · exact hp (hst.symm.trans h)

/-- A complete written at a target. -/
theorem completeAt_completes (g : TargetId) (n : U16) (s : State) : completed s (completeAt g n.toNat s) g n := by
  obtain ⟨hspurious, hframe⟩ := spurious_counted g s
  refine ⟨?_, ?_, fun hlarge => ?_⟩
  · apply State.ext
    all_goals simp
  · rintro k x hk rfl
    have hin : n.toNat < 192 := hk ▸ k.isLt
    obtain rfl : k = (⟨n.toNat, hin⟩ : SourceId) := Fin.ext hk
    have hrun : completeAt g n.toNat s = if (s.irq.src[(⟨n.toNat, hin⟩ : SourceId)]).owner = g &&
        decide ((s.irq.src[(⟨n.toNat, hin⟩ : SourceId)]).st = .active) then
        lines (onSrc ⟨n.toNat, hin⟩ (fun x => { x with st := .inactive }) s)
        else if (s.irq.src[(⟨n.toNat, hin⟩ : SourceId)]).owner = g && decide ((s.irq.src[(⟨n.toNat, hin⟩ : SourceId)]).st = .activePending) then reenter ⟨n.toNat, hin⟩ s else spurious g s := by
      exact dif_pos hin
    refine ⟨fun howner hst => ?_, fun howner hst hroute => ?_, fun hout => ?_⟩
    · have hdone : completeAt g n.toNat s = lines (onSrc ⟨n.toNat, hin⟩ (fun x => { x with st := .inactive }) s) :=
        hrun.trans (if_pos (by rw [howner, hst]; simp))
      rw [hdone]
      refine ⟨?_, fun j hj => ?_, fun hg => ?_⟩
      · rw [lines_src, onSrc_src, upd_same]
      · rw [lines_src, onSrc_src, upd_other _ _ _ _ (Ne.symm hj)]
      · rw [lines_tgt_other _ hg]
        rfl
    · have hdone : completeAt g n.toNat s = reenter ⟨n.toNat, hin⟩ s :=
        hrun.trans ((if_neg (by rw [howner, hst]; simp)).trans (if_pos (by rw [howner, hst]; simp)))
      rw [hdone, reenter_routed hroute]
      exact ⟨upd_same _ _ _, fun j hj => upd_other _ _ _ _ (Ne.symm hj)⟩
    · have hdone : completeAt g n.toNat s = spurious g s := by
        refine hrun.trans ((if_neg ?_).trans (if_neg ?_))
        · exact completes_not hout (by decide) (by decide)
        · exact completes_not hout (by decide) (by decide)
      rw [hdone]
      exact hspurious
  · rw [completeAt, dif_neg (Nat.not_lt.mpr hlarge)]
    exact hspurious

/-- The row of 0x8100.07. -/
def completeRow : Row := ⟨0x8100, 6, 7, 1, .u16, 2, .wo, false, true, 0, 0, 191⟩

theorem row8100_7 : rowOf 0x8100 7 = some completeRow := by rfl

theorem hostComplete_checks {s : State} {n : U16} (hrun : s.sys.st = .run) (hmain : s.sys.mainOn = true) (hin : n.toNat < 192) :
    writeChecks s .bus 0x8100 7 (leBytes 2 n.toNat) = .done := by
  have hserved := ObjectTunnels.served_in_run true 0x8100 7 hrun hmain (by decide)
  refine ObjectTunnels.firstOf_pass ?_
  simp only [List.forall_mem_cons]
  refine ⟨?_, rfl, ?_, ?_, ?_, ?_, ?_, by simp⟩
  · cases small s <;> rfl
  · simp [classCheck, accOf, row8100_7, completeRow]
  · simp [stateCheck, hserved, accOf, row8100_7, completeRow, writeState]
  · simp [sessionCheck, accOf, row8100_7, completeRow]
  · simp [protectionCheck, row8100_7, completeRow]
  · have hlength : (leBytes 2 n.toNat).length = 2 := Records.length_leBytes 2 _
    have hrange : n.toNat ≤ 191 := by omega
    simp [valueCheck, row8100_7, completeRow, hlength, rangeOk, leNat_leBytes_two, hrange]

theorem completes : Completes := by
  intro s n
  refine ⟨fun p hlink => ⟨_, rfl, ?_⟩, fun hmain => ⟨_, rfl, ?_⟩, fun hfree hrun hmain hin => ?_⟩
  · have hstep : completeOn (targetOfPort p) n s = completeAt (targetOfPort p) n.toNat s := by
      have hgoes : ¬((s.ports[p]).link ≠ 3) := fun h => h hlink
      simp only [completeOn, portOfTarget_port]
      exact if_neg hgoes
    rw [hstep]
    exact completeAt_completes _ n s
  · have hstep : completeOn 5 n s = completeAt 5 n.toNat s := (if_pos hmain : (if _ then _ else s) = _)
    rw [hstep]
    exact completeAt_completes _ n s
  · have hchecks : writeChecks (touch s) .bus 0x8100 7 (leBytes 2 n.toNat) = .done := by
      rw [touch_in_run hrun]
      exact hostComplete_checks hrun hmain hin
    have hidle : idleTrigger 0x8100 7 (leBytes 2 n.toNat) = false := by simp [idleTrigger, row8100_7, completeRow]
    have hstep : completeOn 0 n s = written (.done, completeAt 0 n.toNat (touch s)) := by
      refine (hostWrite_takes 0x8100 7 (leBytes 2 n.toNat) s completeRow hfree (by decide) hchecks hidle row8100_7 rfl).trans ?_
      have heffect : writeEffect 0x8100 7 (leBytes 2 n.toNat) [0, 0, 0] (touch s) =
          (.done, completeAt 0 (leNat (leBytes 2 n.toNat)) (touch s)) := rfl
      rw [heffect, leNat_leBytes_two]
    have hquiet : (completeAt 0 n.toNat (touch s)).bus.busy = false :=
      completeAt_idle 0 _ _ (DeviceStates.touch_not_busy hfree)
    obtain ⟨hframe, heach, hnone⟩ := completeAt_completes 0 n (touch s)
    refine ⟨_, congrArg Host.Outcome.next hstep, DeviceStates.answered_written hquiet, ?_⟩
    rw [DeviceStates.written_eq_reply hquiet]
    rw [touch_in_run hrun] at hframe heach hnone ⊢
    refine ⟨?_, heach, hnone⟩
    rw [hframe]
    rfl

/-- Settles O52: the life of a source. -/
theorem sourceStates : Obligations.SourceStates := ⟨sourceEvents, claimsAtTargets, completes⟩

end Sys2Proof.Delivery
end

section
/-! PROOF. The settings of a target: its window, DISABLE, COAL, COUNT and TIME, and the wake-through (R427 to R434). -/

namespace Sys2Proof.Delivery

open Sys2Proof Sys2Proof.Machine Sys2Proof.Claims Sys2Proof.Families Sys2Proof.TilePorts Sys2Proof.PortCare

/-! ## A coalescing window -/

theorem pendingAt_some {s : State} {fast : Bool} {t : TargetId} (h : pendingAt s fast t ≠ []) : (pendingAt s fast t).isEmpty = false := by
  cases hl : pendingAt s fast t with
  | nil => exact absurd hl h
  | cons a l => rfl

/-- A normal notification is outstanding at a target, counted, and has closed the window. -/
structure Issued (g : TargetId) (s t : State) : Prop where
  outN : (t.irq.tgt[g]).outN = true
  windowOpen : (t.irq.tgt[g]).windowOpen = false
  notified : (t.irq.tgt[g]).notified = satInc (s.irq.tgt[g]).notified

theorem Issued.ite {c : Prop} [Decidable c] {g : TargetId} {s a b : State} (ha : Issued g s a) (hb : Issued g s b) :
    Issued g s (if c then a else b) := by
  split
  · exact ha
  · exact hb

theorem issue_normal (g : TargetId) (s : State) : Issued g s (issue g false s) := by
  have hfirst : Issued g s (onTgt g (fun x => if false then { x with outF := true, notified := satInc x.notified }
      else { x with outN := true, windowOpen := false, notified := satInc x.notified }) s) := by
    constructor <;> rw [onTgt_tgt, upd_same] <;> rfl
  unfold issue
  dsimp only
  generalize onTgt g _ s = u at hfirst ⊢
  cases portOfTarget g with
  | some p =>
    refine Issued.ite ?_ hfirst
    obtain ⟨hout, hwindow, hcount⟩ := hfirst
    constructor <;> rw [onTgt_tgt, upd_same]
    · exact hout
    · exact hwindow
    · exact hcount
  | none =>
    refine Issued.ite ?_ hfirst
    have hirq : (ibiAttempt { u with bus := { u.bus with ibi := .wanted } }).irq = u.irq := by simp
    obtain ⟨hout, hwindow, hcount⟩ := hfirst
    constructor <;> rw [hirq]
    · exact hout
    · exact hwindow
    · exact hcount

theorem windowEnds : ∀ (s : State) (g : TargetId) (x : Target), x = s.irq.tgt[g] →
    (x.windowOpen = false → exec (.coalescingTimeout g) s = .next s) ∧
    (held s g = true → exec (.coalescingTimeout g) s = .next s) ∧
    (x.windowOpen = true → held s g = false → x.outN = false → pendingAt s false g ≠ [] →
      ∃ t, exec (.coalescingTimeout g) s = .next t ∧ (t.irq.tgt[g]).outN = true ∧ (t.irq.tgt[g]).windowOpen = false ∧
        (t.irq.tgt[g]).notified = satInc x.notified ∧ t.irq.src = s.irq.src ∧
        t = { s with irq := t.irq, bus := t.bus, free := t.free }) := by
  rintro s g x rfl
  have hstep : exec (.coalescingTimeout g) s = .next (if !(s.irq.tgt[g]).windowOpen then s
      else if held s g || (s.irq.tgt[g]).outN || (pendingAt s false g).isEmpty then s else issue g false s) := rfl
  refine ⟨fun hclosed => ?_, fun hheld => ?_, fun hopen hheld hout hpending => ?_⟩
  · rw [hstep, hclosed]
    rfl
  · rw [hstep, hheld]
    cases (s.irq.tgt[g]).windowOpen <;> rfl
  · have hissue : exec (.coalescingTimeout g) s = .next (issue g false s) := by
      rw [hstep, hopen, hheld, hout, pendingAt_some hpending]
      rfl
    obtain ⟨hoff, hwindow, hcount⟩ := issue_normal g s
    refine ⟨_, hissue, hoff, hwindow, hcount, issue_src g false s, ?_⟩
    apply State.ext
    all_goals simp

/-! ## COAL -/

theorem settingsKept_testWindow (t : TargetId) (expired : Bool) (s : State) : SettingsKept s (testWindow t expired s) := by
  unfold testWindow
  exact settingsKept_ite (SettingsKept.refl s) (settingsKept_ite (settingsKept_ite (SettingsKept.refl s)
    (settingsKept_issue t false s)) (SettingsKept.refl s))

theorem coalWritten : ∀ (s : State) (p : PortId) (v : U32), (s.ports[p]).link = 3 →
    (v.toNat % 256 = 0 → exec (.coal p v) s = .next s) ∧
    (v.toNat % 256 ≠ 0 → ∃ t, exec (.coal p v) s = .next t ∧ t.irq.src = s.irq.src ∧
      coalCount t (targetOfPort p) = v.toNat % 256 ∧ coalTime t (targetOfPort p) = v.toNat / 65536 ∧
      t = { s with irq := t.irq, bus := t.bus, free := t.free }) := by
  intro s p v hlink
  refine ⟨fun hzero => congrArg Host.Outcome.next (if_pos ?_), fun hcount => ?_⟩
  · rw [hzero]
    simp
  · have hstep : writeCoal p v s = testWindow (targetOfPort p) false (onTgt (targetOfPort p) (fun g => { g with
        coal := some (BitVec.ofNat 8 v.toNat, BitVec.ofNat 16 (v.toNat / 65536)) }) s) := by
      refine if_neg ?_
      rw [hlink, decide_eq_false hcount]
      decide
    obtain ⟨u, hu⟩ : ∃ u, onTgt (targetOfPort p) (fun g => { g with
        coal := some (BitVec.ofNat 8 v.toNat, BitVec.ofNat 16 (v.toNat / 65536)) }) s = u := ⟨_, rfl⟩
    have hput : (u.irq.tgt[targetOfPort p]).coal = some (BitVec.ofNat 8 v.toNat, BitVec.ofNat 16 (v.toNat / 65536)) := by
      rw [← hu, onTgt_tgt, upd_same]
    have hsrc : u.irq.src = s.irq.src := by rw [← hu]; rfl
    have hcoal : ((testWindow (targetOfPort p) false u).irq.tgt[targetOfPort p]).coal = _ :=
      ((settingsKept_testWindow (targetOfPort p) false u) (targetOfPort p)).2.trans hput
    rw [hu] at hstep
    refine ⟨_, congrArg Host.Outcome.next hstep, (testWindow_src _ _ u).trans hsrc, ?_, ?_, ?_⟩
    · rw [coalCount, hcoal]
      simp
    · have hlt := v.isLt
      rw [coalTime, hcoal]
      show (BitVec.ofNat 16 (v.toNat / 65536)).toNat = _
      rw [BitVec.toNat_ofNat]
      omega
    · apply State.ext
      all_goals simp [← hu, onTgt]

/-! ## Writes of a target's objects -/

/-- The checks of a host's write of an RW object in RUN, of which only the value may fail. -/
theorem writeChecks_rw {s : State} {i b : Nat} {data : List Byte} {r : Row} (hrow : rowOf i b = some r) (hb : b ≠ 0)
    (hexists : existence (small s) i b = .done) (hclaim : claimOnly i b = false) (hacc : r.acc = .rw)
    (hserved : servedCheck s true i b = .done) (hstate : writeState s i b = true) (hopt : r.pers = true → optionProtected s = false)
    (hfar : i ≠ 0x2230 ∧ i ≠ 0x2200 ∧ i ≠ 0x4030 ∧ i ≠ 0xA030 ∧ i ≠ 0xA040) (hvalue : valueCheck s i b data = .done) :
    writeChecks s .bus i b data = .done := by
  obtain ⟨hprogram, hstore, hcommit, himage, hsanitize⟩ := hfar
  have haccOf : accOf i b = .rw := by simp [accOf, hrow, hacc, hb]
  refine ObjectTunnels.firstOf_pass ?_
  simp only [List.forall_mem_cons]
  refine ⟨hexists, ?_, ?_, ?_, ?_, ?_, hvalue, by simp⟩
  · simp [pathCheck, hclaim]
  · simp [classCheck, haccOf]
  · simp [stateCheck, hprogram, hserved, haccOf, hstate]
  · simp [sessionCheck, haccOf, hsanitize, himage]
  · cases hp : r.pers with
    | true => simp [protectionCheck, hrow, hp, hcommit, himage, hstore, hopt hp]
    | false => simp [protectionCheck, hrow, hp, hcommit, himage, hstore]

theorem served_target {s : State} (g : TargetId) {b : Nat} (hb : b < 5) (hrun : s.sys.st = .run) :
    servedCheck s true (0x8100 + g.val) b = .done := by
  have hnone : mainHolds (0x8100 + g.val) b = false := by
    have hall : ∀ (g : TargetId) (b : Fin 5), mainHolds (0x8100 + g.val) b.val = false := by decide +kernel
    exact hall g ⟨b, hb⟩
  have hraw : ¬(0x8100 + g.val = 0x4020) := by omega
  have hclaims : ¬(5 ≤ b) := by omega
  simp [servedCheck, hrun, bootFault, hnone, hclaims, hraw]

theorem target_exists : ∀ (p : Bool) (g : TargetId) (b : Fin 5), (b.val = 1 ∨ b.val = 3 ∨ b.val = 4) →
    (p = false ∨ (g ≠ 3 ∧ g ≠ 4)) → existence p (0x8100 + g.val) b.val = .done := by decide +kernel

theorem row_disable : ∀ g : TargetId, rowOf (0x8100 + g.val) 1 = some (vw 0x8100 6 1 1 .bool 1 0 1) := by decide +kernel
theorem row_count : ∀ g : TargetId, rowOf (0x8100 + g.val) 3 = some (pw 0x8100 6 3 1 .u8 1 1 1 255) := by decide +kernel
theorem row_time : ∀ g : TargetId, rowOf (0x8100 + g.val) 4 = some (pw 0x8100 6 4 1 .u16 2 0 0 65535) := by decide +kernel
theorem row_wake : rowOf 0x8100 2 = some (pw 0x8100 1 2 1 .bool 1 1 0 1) := by decide +kernel

theorem target_far (g : TargetId) : 0x8100 + g.val ≠ 0x2230 ∧ 0x8100 + g.val ≠ 0x2200 ∧ 0x8100 + g.val ≠ 0x4030 ∧
    0x8100 + g.val ≠ 0xA030 ∧ 0x8100 + g.val ≠ 0xA040 := by omega

theorem target_writeState (g : TargetId) (b : Nat) (s : State) : writeState s (0x8100 + g.val) b = true :=
  match g with
  | 0 => rfl
  | 1 => rfl
  | 2 => rfl
  | 3 => rfl
  | 4 => rfl
  | 5 => rfl

theorem claimOnly_below (g : TargetId) {b : Nat} (hb : b < 5) : claimOnly (0x8100 + g.val) b = false := by
  simp [claimOnly, Nat.not_le.mpr hb]

/-! ## DISABLE -/

/-- The other targets, the host's apart, keep everything. -/
structure Beside (g : TargetId) (s t : State) : Prop where
  other : ∀ k : TargetId, k ≠ g → k ≠ 0 → t.irq.tgt[k] = s.irq.tgt[k]

theorem Beside.refl (g : TargetId) (s : State) : Beside g s s := ⟨fun _ _ _ => rfl⟩

theorem Beside.trans {g : TargetId} {s t u : State} (h : Beside g s t) (k : Beside g t u) : Beside g s u :=
  ⟨fun j hj h0 => (k.other j hj h0).trans (h.other j hj h0)⟩

theorem Beside.ite {c : Prop} [Decidable c] {g : TargetId} {s a b : State} (ha : Beside g s a) (hb : Beside g s b) :
    Beside g s (if c then a else b) := by
  split
  · exact ha
  · exact hb

theorem beside_onTgt (g : TargetId) (f : Target → Target) (s : State) : Beside g s (onTgt g f s) :=
  ⟨fun k hk _ => by rw [onTgt_tgt, upd_other _ _ _ _ (Ne.symm hk)]⟩

theorem beside_issue (g : TargetId) (fast : Bool) (s : State) : Beside g s (issue g fast s) := by
  have hfirst := beside_onTgt g (fun x => if fast then { x with outF := true, notified := satInc x.notified }
    else { x with outN := true, windowOpen := false, notified := satInc x.notified }) s
  unfold issue
  dsimp only
  generalize onTgt g _ s = u at hfirst ⊢
  cases portOfTarget g with
  | some p => exact Beside.ite (hfirst.trans (beside_onTgt g _ u)) hfirst
  | none =>
    have hirq : (ibiAttempt { u with bus := { u.bus with ibi := .wanted } }).irq = u.irq := by simp
    exact Beside.ite (hfirst.trans ⟨fun _ _ _ => by rw [hirq]⟩) hfirst

theorem beside_notifyNow (g : TargetId) (fast : Bool) (s : State) : Beside g s (notifyNow g fast s) := by
  unfold notifyNow
  exact Beside.ite (Beside.refl g s) (beside_issue g fast s)

theorem beside_lines (g : TargetId) (s : State) : Beside g s (lines s) := ⟨fun _ _ h0 => lines_tgt_other s h0⟩

theorem beside_release (g : TargetId) (s : State) : Beside g s (release g s) :=
  ((beside_notifyNow g false s).trans (beside_notifyNow g true _)).trans (beside_lines g _)

/-- A target's window survives the lines. -/
theorem lines_windowOpen (s : State) (g : TargetId) : ((lines s).irq.tgt[g]).windowOpen = (s.irq.tgt[g]).windowOpen := by
  have hfirst : ((fastFell s).irq.tgt[g]).windowOpen = (s.irq.tgt[g]).windowOpen := by
    by_cases hfell : ((!held s 0 && !(pendingAt s true 0).isEmpty) && !s.irq.fastLow) = true
    · rw [show fastFell s = _ from if_pos hfell, onTgt_tgt]
      by_cases hg : (0 : TargetId) = g
      · subst hg
        rw [upd_same]
      · rw [upd_other _ _ _ _ hg]
    · rw [show fastFell s = s from if_neg hfell]
  obtain ⟨low, wake, hlines⟩ := lines_irq s
  rw [hlines]
  exact hfirst

theorem setDisable_beside (g : TargetId) (on : Bool) (s : State) : Beside g s (setDisable g on s) ∧
    (on = true → ((setDisable g on s).irq.tgt[g]).windowOpen = false) := by
  have hput := beside_onTgt g (fun x => { x with disable := on, windowOpen := x.windowOpen && !on }) s
  have hclosed : on = true → ((onTgt g (fun x => { x with disable := on, windowOpen := x.windowOpen && !on }) s).irq.tgt[g]).windowOpen
      = false := by
    rintro rfl
    rw [onTgt_tgt, upd_same]
    exact Bool.and_false _
  unfold setDisable
  dsimp only
  generalize onTgt g _ s = u at hput hclosed ⊢
  refine ⟨Beside.ite (hput.trans (beside_release g u)) (hput.trans (beside_lines g u)), ?_⟩
  rintro rfl
  rw [if_neg (by simp), lines_windowOpen]
  exact hclosed rfl

theorem targetAt_target : ∀ g : TargetId, targetAt (0x8100 + g.val) = g := by decide

theorem writeEffect_disable (g : TargetId) (data resp : List Byte) (s : State) : writeEffect (0x8100 + g.val) 1 data resp s =
    (.done, setDisable g (decide (leNat data = 1)) s) := by
  rw [← targetAt_target g]
  match g with
  | 0 => rfl
  | 1 => rfl
  | 2 => rfl
  | 3 => rfl
  | 4 => rfl
  | 5 => rfl

theorem disableWritten : ∀ (s : State) (g : TargetId) (on : Bool), busFree s = true → s.sys.st = .run →
    (small s = false ∨ (g ≠ 3 ∧ g ≠ 4)) → ∃ t, exec (.disable g on) s = .next t ∧ answered t .done ∧ (t.irq.tgt[g]).disable = on ∧
      (on = true → (t.irq.tgt[g]).windowOpen = false) ∧ t.irq.src = s.irq.src ∧
      (∀ k : TargetId, k ≠ g → k ≠ 0 → t.irq.tgt[k] = s.irq.tgt[k]) ∧
      t = { s with irq := t.irq, bus := t.bus, free := t.free } := by
  intro s g on hfree hrun hthere
  have hnot : idleTrigger (0x8100 + g.val) 1 [if on then 1 else 0] = false := by simp [idleTrigger, row_disable, vw]
  have hchecks : writeChecks (touch s) .bus (0x8100 + g.val) 1 [if on then 1 else 0] = .done := by
    rw [touch_in_run hrun]
    refine writeChecks_rw (row_disable g) (by decide) (target_exists _ g 1 (by decide) hthere) (claimOnly_below g (by decide))
      rfl (served_target g (by decide) hrun) (target_writeState g 1 _) (by simp [vw]) (target_far g) ?_
    cases on <;> simp [valueCheck, row_disable, vw, idleTrigger, rangeOk, leNat]
  have hvalue : decide (leNat [if on then (1 : Byte) else 0] = 1) = on := by cases on <;> rfl
  have hstep : hostWrite (0x8100 + g.val) 1 [if on then 1 else 0] s = written (.done, setDisable g on (touch s)) := by
    rw [hostWrite_takes _ _ _ s _ hfree (by omega) hchecks hnot (row_disable g) rfl, writeEffect_disable, hvalue]
  have hquiet : (setDisable g on (touch s)).bus.busy = false := setDisable_idle g on _ (DeviceStates.touch_not_busy hfree)
  obtain ⟨hon, hsrc⟩ := ObjectTunnels.setDisable_leaves g on (touch s)
  obtain ⟨⟨hother⟩, hclosed⟩ := setDisable_beside g on (touch s)
  refine ⟨_, congrArg Host.Outcome.next hstep, DeviceStates.answered_written hquiet, ?_⟩
  rw [DeviceStates.written_eq_reply hquiet]
  rw [touch_in_run hrun] at hon hsrc hother hclosed ⊢
  refine ⟨hon, hclosed, hsrc, hother, ?_⟩
  apply State.ext
  all_goals simp [reply, onBus]

/-! ## COUNT, TIME and the wake-through -/

theorem okey_target (g : TargetId) {b v : Nat} (hb : b < 256) : keepFields (okey (0x8100 + g.val) b) v = v := by
  have hindex : okey (0x8100 + g.val) b / 256 = 0x8100 + g.val := by
    rw [okey]
    omega
  have hlow : ¬(0x1000000 ≤ okey (0x8100 + g.val) b) := by
    rw [okey]
    omega
  have hfar : 0x8100 + g.val ≠ 0x2210 ∧ 0x8100 + g.val ≠ 0x8300 := by omega
  simp only [keepFields, if_neg hlow, hindex, if_neg hfar.1, if_neg hfar.2]

theorem storePersistent_coalescing (g : TargetId) {b : Nat} (hb : b = 3 ∨ b = 4) (v : Nat) (s : State) :
    storePersistent (0x8100 + g.val) b v s = testWindow g false (writeP (okey (0x8100 + g.val) b) v s) := by
  have hwake : ¬((decide (0x8100 + g.val = 0x8100) && decide (b = 2)) = true) := by
    rcases hb with rfl | rfl <;> simp
  have hfar : 0x8100 + g.val ≠ 0x8300 ∧ 0x8100 + g.val ≠ 0x9000 ∧ 0x8100 + g.val ≠ 0x9030 := by omega
  have hin : ((decide (0x8100 ≤ 0x8100 + g.val)) && decide (0x8100 + g.val < 0x8106)) = true := by simp; omega
  unfold storePersistent
  simp only [hfar, decide_false, Bool.false_and, Bool.false_eq_true, if_false, if_neg hwake, if_pos hin, retest, targetAt_target]

theorem persistentOk_coalescing (g : TargetId) (b v : Nat) (s : State) : persistentOk s (0x8100 + g.val) b v = true :=
  match g with
  | 0 => rfl
  | 1 => rfl
  | 2 => rfl
  | 3 => rfl
  | 4 => rfl
  | 5 => rfl

/-- COUNT or TIME written: the object, a dirty option block, and perhaps the notification that waited. -/
theorem coalescingStored {s : State} {g : TargetId} {b v : Nat} {data : List Byte} {r : Row} (hb : b = 3 ∨ b = 4)
    (hfree : busFree s = true) (hrun : s.sys.st = .run)
    (hrow : rowOf (0x8100 + g.val) b = some r) (hpers : r.pers = true) (hnot : idleTrigger (0x8100 + g.val) b data = false)
    (hchecks : writeChecks (touch s) .bus (0x8100 + g.val) b data = .done) (hvalue : leNat data = v) :
    answered (hostWrite (0x8100 + g.val) b data s) .done ∧ pv (hostWrite (0x8100 + g.val) b data s) (0x8100 + g.val) b = v ∧
    (hostWrite (0x8100 + g.val) b data s).flash.dirty = true ∧ (hostWrite (0x8100 + g.val) b data s).irq.src = s.irq.src ∧
    hostWrite (0x8100 + g.val) b data s = { s with
      shadow := (hostWrite (0x8100 + g.val) b data s).shadow, flash := (hostWrite (0x8100 + g.val) b data s).flash
      irq := (hostWrite (0x8100 + g.val) b data s).irq, bus := (hostWrite (0x8100 + g.val) b data s).bus
      free := (hostWrite (0x8100 + g.val) b data s).free } := by
  have hbits : b < 256 := by omega
  have hstep : hostWrite (0x8100 + g.val) b data s =
      written (.done, testWindow g false (writeP (okey (0x8100 + g.val) b) v (touch s))) := by
    rw [hostWrite_stores _ _ _ s r hfree (by omega) hchecks hnot hrow hpers (persistentOk_coalescing g b _ _), hvalue,
      storePersistent_coalescing g hb]
  obtain ⟨u, hu⟩ : ∃ u, writeP (okey (0x8100 + g.val) b) v (touch s) = u := ⟨_, rfl⟩
  have hpv : pv u (0x8100 + g.val) b = v := by
    rw [← hu]
    exact NegativeCare.pv_writeP _ (okey_target g hbits)
  have hdirty : u.flash.dirty = true := by rw [← hu]; rfl
  have hframe : u = { s with shadow := u.shadow, flash := u.flash, bus := u.bus } := by
    rw [← hu, touch_in_run hrun]
    rfl
  have hidle : u.bus.busy = false := by
    rw [← hu]
    exact (DeviceStates.touch_not_busy hfree : (touch s).bus.busy = false)
  have hsrc : u.irq.src = s.irq.src := by rw [hframe]
  rw [hu] at hstep
  have hquiet : (testWindow g false u).bus.busy = false := testWindow_idle g false u hidle
  rw [hstep, DeviceStates.written_eq_reply hquiet]
  refine ⟨answered_reply _ _ hquiet, ?_, ?_, ?_, ?_⟩
  · rw [← hpv]
    simp [pv, small, reply, onBus]
  · simp [reply, onBus, hdirty]
  · exact (testWindow_src g false u).trans hsrc
  · rw [hframe]
    apply State.ext
    all_goals simp [reply, onBus]

theorem coalescingWritten : ∀ (s : State) (g : TargetId) (v : U16), busFree s = true → s.sys.st = .run →
    (small s = false ∨ (g ≠ 3 ∧ g ≠ 4)) → optionProtected s = false →
    (1 ≤ v.toNat → v.toNat ≤ 255 → ∃ t, exec (.coalescingSetting g 3 v) s = .next t ∧ answered t .done ∧
      pv t (0x8100 + g.val) 3 = v.toNat ∧ t.flash.dirty = true ∧ t.irq.src = s.irq.src ∧
      t = { s with shadow := t.shadow, flash := t.flash, irq := t.irq, bus := t.bus, free := t.free }) ∧
    (∃ t, exec (.coalescingSetting g 4 v) s = .next t ∧ answered t .done ∧ pv t (0x8100 + g.val) 4 = v.toNat ∧
      t.flash.dirty = true ∧ t.irq.src = s.irq.src ∧
      t = { s with shadow := t.shadow, flash := t.flash, irq := t.irq, bus := t.bus, free := t.free }) := by
  intro s g v hfree hrun hthere hopt
  have hlt := v.isLt
  refine ⟨fun hlow hhigh => ?_, ?_⟩
  · have hleast : ¬(v.toNat = 0) := by omega
    have hvalue : leNat (leBytes 1 v.toNat) = v.toNat := by
      rw [Records.leNat_leBytes]
      omega
    have hlength : (leBytes 1 v.toNat).length = 1 := Records.length_leBytes 1 _
    refine ⟨_, rfl, coalescingStored (.inl rfl) hfree hrun (row_count g) rfl (by simp [idleTrigger, row_count, pw]) ?_ hvalue⟩
    rw [touch_in_run hrun]
    refine writeChecks_rw (row_count g) (by decide) (target_exists _ g 3 (by decide) hthere) (claimOnly_below g (by decide))
      rfl (served_target g (by decide) hrun) (target_writeState g 3 _) (fun _ => hopt) (target_far g) ?_
    have hrange : (1 : Int) ≤ v.toNat ∧ (v.toNat : Int) ≤ 255 := by omega
    simp [valueCheck, row_count, pw, idleTrigger, hlength, hvalue, rangeOk, hhigh]
    omega
  · have hvalue : leNat (leBytes 2 v.toNat) = v.toNat := leNat_leBytes_two v
    have hlength : (leBytes 2 v.toNat).length = 2 := Records.length_leBytes 2 _
    refine ⟨_, rfl, coalescingStored (.inr rfl) hfree hrun (row_time g) rfl (by simp [idleTrigger, row_time, pw]) ?_ hvalue⟩
    rw [touch_in_run hrun]
    refine writeChecks_rw (row_time g) (by decide) (target_exists _ g 4 (by decide) hthere) (claimOnly_below g (by decide))
      rfl (served_target g (by decide) hrun) (target_writeState g 4 _) (fun _ => hopt) (target_far g) ?_
    simp [valueCheck, row_time, pw, idleTrigger, hlength, hvalue, rangeOk]
    omega

/-- WAKE_n follows a source that waits at the host, where 0x8100.02 lets it. -/
theorem lines_wake {s : State} (haon : s.supply.aon = true) (hst : s.sys.st ≠ .dark) :
    (lines s).irq.wakeLow = (decide (pv s 0x8100 2 = 1) && pendsAtHost (lines s)) := by
  have hroute : ∀ n, route (lines s) n = route s n := by
    intro n
    obtain ⟨low, wake, hlines⟩ := lines_irq s
    have hfell : fastFell s = { s with irq := (fastFell s).irq } := by
      unfold fastFell
      split <;> rfl
    rw [hlines, hfell]
    rfl
  have hpends : pendsAtHost (lines s) = (List.finRange 192).any fun n =>
      (decide ((s.irq.src[n]).st = .pending) || decide ((s.irq.src[n]).st = .activePending)) &&
        (decide (route s n.val = some (false, 0)) || decide (route s n.val = some (true, 0))) := by
    simp only [pendsAtHost, lines_src, hroute]
  have hrun : (lines s).irq.wakeLow = (decide (pv s 0x8100 2 = 1) && s.supply.aon && decide (s.sys.st ≠ .dark) &&
      (List.finRange 192).any fun n =>
        (decide ((s.irq.src[n]).st = .pending) || decide ((s.irq.src[n]).st = .activePending)) &&
          (decide (route s n.val = some (false, 0)) || decide (route s n.val = some (true, 0)))) := rfl
  rw [hrun, hpends, haon, decide_eq_true hst, Bool.and_true, Bool.and_true]

theorem wakeWritten : ∀ (s : State) (on : Bool), busFree s = true → s.sys.st = .run → optionProtected s = false →
    ∃ t, exec (.wakeThrough on) s = .next t ∧ answered t .done ∧ pv t 0x8100 2 = (if on then 1 else 0) ∧
      t.irq.wakeLow = (on && pendsAtHost t) ∧ t.irq.src = s.irq.src ∧ t.flash.dirty = true ∧
      t = { s with shadow := t.shadow, flash := t.flash, irq := t.irq, bus := t.bus } := by
  intro s on hfree hrun hopt
  have hnot : idleTrigger 0x8100 2 [if on then 1 else 0] = false := by simp [idleTrigger, row_wake, pw]
  have hvalue : leNat [if on then (1 : Byte) else 0] = if on then 1 else 0 := by cases on <;> rfl
  have hchecks : writeChecks (touch s) .bus 0x8100 2 [if on then 1 else 0] = .done := by
    rw [touch_in_run hrun]
    have hexists : ∀ p : Bool, existence p 0x8100 2 = .done := by decide +kernel
    refine writeChecks_rw row_wake (by decide) (hexists _) rfl
      rfl (served_target 0 (by decide) hrun) rfl (fun _ => hopt) (by decide) ?_
    cases on <;> simp [valueCheck, row_wake, pw, idleTrigger, rangeOk, leNat]
  obtain ⟨u, hu⟩ : ∃ u, writeP (okey 0x8100 2) (if on then 1 else 0) (touch s) = u := ⟨_, rfl⟩
  have hstep : hostWrite 0x8100 2 [if on then 1 else 0] s = written (.done, lines u) := by
    rw [hostWrite_stores _ _ _ s _ hfree (by decide) hchecks hnot row_wake rfl rfl, hvalue, ← hu]
    rfl
  have hframe : u = { s with shadow := u.shadow, flash := u.flash, bus := u.bus } := by
    rw [← hu, touch_in_run hrun]
    rfl
  have hpv : pv u 0x8100 2 = if on then 1 else 0 := by
    rw [← hu]
    exact NegativeCare.pv_writeP _ rfl
  have hdirty : u.flash.dirty = true := by rw [← hu]; rfl
  have hidle : u.bus.busy = false := by
    rw [← hu]
    exact (DeviceStates.touch_not_busy hfree : (touch s).bus.busy = false)
  have haon : u.supply.aon = true := by
    have hserves : s.supply.aon = true := by
      simp only [busFree, busServes, Bool.and_eq_true] at hfree
      exact hfree.1.1.1.1.1
    rw [hframe]
    exact hserves
  have hst : u.sys.st ≠ .dark := by
    rw [hframe, hrun]
    decide
  have hquiet : (lines u).bus.busy = false := by simp [hidle]
  have hwake : (lines u).irq.wakeLow = (on && pendsAtHost (lines u)) := by
    rw [lines_wake haon hst, hpv]
    cases on <;> rfl
  refine ⟨_, congrArg Host.Outcome.next hstep, ?_⟩
  rw [DeviceStates.written_eq_reply hquiet]
  refine ⟨answered_reply _ _ hquiet, ?_, hwake, ?_, ?_, ?_⟩
  · rw [← hpv]
    simp [pv, small, reply, onBus]
  · have hsrc : u.irq.src = s.irq.src := by rw [hframe]
    exact (lines_src u).trans hsrc
  · simp [reply, onBus, hdirty]
  · rw [hframe]
    apply State.ext
    all_goals simp [reply, onBus]

theorem deliverySettings : DeliverySettings :=
  ⟨windowEnds, disableWritten, coalWritten, coalescingWritten, wakeWritten⟩

end Sys2Proof.Delivery
end

section
/-! PROOF. The sources' entries, the fast assignments and the in-band interrupts (R421 to R425, R430, R465). -/

namespace Sys2Proof.Delivery

open Sys2Proof Sys2Proof.Machine Sys2Proof.Claims Sys2Proof.Families Sys2Proof.TilePorts Sys2Proof.PortCare

/-! ## Entries -/

theorem srcEntry_pset_same (n v : Nat) (s : State) : srcEntry (pset (srcKey n) v s) n = v &&& 0xF0F := by
  have hhigh : 0x1000000 ≤ srcKey n := by rw [srcKey]; omega
  have hkeep : keepFields (srcKey n) v = v &&& 0xF0F := if_pos hhigh
  have hdefault : pDefault (small s) (srcKey n) = srcDefault n := by
    rw [pDefault, if_pos hhigh, srcKey, Nat.add_sub_cancel_left]
  simp only [srcEntry, pset, hkeep, hdefault]
  split
  · next h => rw [aget_adel_same, Option.getD_none, h]
  · rw [aget_aput_same, Option.getD_some]

theorem srcEntry_pset_other {m n : Nat} (v : Nat) (s : State) (h : n ≠ m) : srcEntry (pset (srcKey m) v s) n = srcEntry s n := by
  have hkey : srcKey n ≠ srcKey m := by simp only [srcKey]; omega
  simp only [srcEntry, pset]
  split
  · rw [aget_adel_other _ _ _ hkey]
  · rw [aget_aput_other _ _ _ _ hkey]

/-- The entry of a source written, where the part has the source. -/
def entryWritten (live : Nat → Bool) (es : List Nat) (x : State) (n : Nat) : State :=
  if live n then pset (srcKey n) (es.getD n 0) x else x

/-- The entries of these sources written, one after another. -/
def entriesWritten (live : Nat → Bool) (es : List Nat) (l : List Nat) (s : State) : State := l.foldl (entryWritten live es) s

theorem entryWritten_live {live : Nat → Bool} {n : Nat} (es : List Nat) (s : State) (h : live n = true) :
    srcEntry (entryWritten live es s n) n = es.getD n 0 &&& 0xF0F := by
  rw [entryWritten, if_pos h, srcEntry_pset_same]

theorem entryWritten_other {live : Nat → Bool} {m n : Nat} (es : List Nat) (s : State) (h : n ≠ m ∨ live n = false) :
    srcEntry (entryWritten live es s m) n = srcEntry s n := by
  unfold entryWritten
  split
  · next hlive =>
    refine srcEntry_pset_other _ s fun heq => ?_
    rcases h with h | h
    · exact h heq
    · rw [heq, hlive] at h
      exact Bool.noConfusion h
  · rfl

theorem srcEntry_entriesWritten (live : Nat → Bool) (es l : List Nat) (s : State) (n : Nat) :
    srcEntry (entriesWritten live es l s) n = if n ∈ l ∧ live n = true then es.getD n 0 &&& 0xF0F else srcEntry s n := by
  induction l generalizing s with
  | nil => simp [entriesWritten]
  | cons m l ih =>
    refine (ih _).trans ?_
    by_cases hrest : n ∈ l ∧ live n = true
    · rw [if_pos hrest, if_pos ⟨List.mem_cons_of_mem m hrest.1, hrest.2⟩]
    · rw [if_neg hrest]
      by_cases hhead : n = m ∧ live n = true
      · obtain ⟨rfl, hlive⟩ := hhead
        rw [if_pos ⟨List.mem_cons_self, hlive⟩, entryWritten_live es s hlive]
      · have hnone : ¬(n ∈ m :: l ∧ live n = true) := fun h => (List.mem_cons.mp h.1).elim (fun heq => hhead ⟨heq, h.2⟩)
          fun hmem => hrest ⟨hmem, h.2⟩
        rw [if_neg hnone, entryWritten_other es s]
        by_cases heq : n = m
        · exact .inr (Bool.eq_false_iff.mpr fun h => hhead ⟨heq, h⟩)
        · exact .inl heq

theorem entriesWritten_frame (live : Nat → Bool) (es l : List Nat) (s : State) :
    entriesWritten live es l s = { s with shadow := (entriesWritten live es l s).shadow } := by
  induction l generalizing s with
  | nil => rfl
  | cons m l ih =>
    have hhead : entryWritten live es s m = { s with shadow := (entryWritten live es s m).shadow } := by
      unfold entryWritten
      split <;> rfl
    refine (ih (entryWritten live es s m)).trans ?_
    show _ = { s with shadow := (entriesWritten live es l (entryWritten live es s m)).shadow }
    generalize (entriesWritten live es l (entryWritten live es s m)).shadow = x
    rw [hhead]

/-- The words of a list of four-byte values. -/
theorem fieldAt_words (es : List U32) (n : Nat) (h : n < es.length) :
    fieldAt (4 * n) 4 (es.flatMap fun e => leBytes 4 e.toNat) = (es.getD n 0).toNat := by
  induction es generalizing n with
  | nil => simp at h
  | cons e es ih =>
    have hlength : (leBytes 4 e.toNat).length = 4 := Records.length_leBytes 4 _
    rw [List.flatMap_cons]
    cases n with
    | zero =>
      rw [Nat.mul_zero, Records.fieldAt_front]
      exact Nat.mod_eq_of_lt e.isLt
    | succ n =>
      have hrest : 4 * (n + 1) - (leBytes 4 e.toNat).length = 4 * n := by omega
      rw [Records.fieldAt_behind (by omega), hrest, ih n (by simpa using h), List.getD_cons_succ]

/-- The entries that a whole write of 0x8200.01 carries. -/
theorem words_of_entries (es : List U32) (h : es.length = 192) :
    ((List.range 192).map fun n => fieldAt (4 * n) 4 (es.flatMap fun e => leBytes 4 e.toNat)) = es.map (·.toNat) := by
  refine List.ext_getElem (by simp [h]) fun n hn _ => ?_
  have hlt : n < es.length := by simpa [h] using hn
  simp only [List.getElem_map, List.getElem_range]
  rw [fieldAt_words es n hlt, List.getD_eq_getElem _ _ hlt]

theorem length_words (es : List U32) : (es.flatMap fun e => leBytes 4 e.toNat).length = 4 * es.length := by
  induction es with
  | nil => rfl
  | cons e es ih =>
    rw [List.flatMap_cons, List.length_append, ih, Records.length_leBytes, List.length_cons]
    omega

theorem segChecks_sources {s : State} (hrun : s.sys.st = .run) (hopt : optionProtected s = false) :
    segChecks s .bus 0x8200 1 = .done := by
  have hserved : servedCheck s true 0x8200 1 = .done := by
    have hmain : mainHolds 0x8200 1 = false := by rfl
    simp [servedCheck, hrun, bootFault, hmain]
  have hrow : rowOf 0x8200 1 = some ⟨0x8200, 1, 1, 1, .domain, 768, .rw, true, false, 0, 0, 0⟩ := by rfl
  refine ObjectTunnels.firstOf_pass ?_
  simp only [List.forall_mem_cons]
  refine ⟨?_, rfl, rfl, ?_, ?_, ?_, rfl, by simp⟩
  · cases small s <;> rfl
  · simp [stateCheck, hserved, accOf, hrow, writeState]
  · simp [sessionCheck, accOf, hrow]
  · simp [protectionCheck, hrow, hopt]

/-- A whole write of 0x8200.01, with no transfer open before it. -/
theorem sourcesWrite_eq {s : State} {es : List U32} (hrun : s.sys.st = .run) (hopt : optionProtected s = false)
    (hseg : s.bus.seg = none) (hlength : es.length = 192) :
    odSegWrite .bus 0x8200 1 0 true (es.flatMap fun e => leBytes 4 e.toNat) s =
      (let r := if sourcesOk (setSeg .bus none s) (es.map (·.toNat)) then
          (Abort.done, storeSources (es.map (·.toNat)) (setSeg .bus none s)) else (.valueRange, setSeg .bus none s)
       if r.1 = .done then r else (r.1, abandon .bus (setSeg .bus (some ⟨0x8200, 1, 0, []⟩) r.2))) := by
  have hwords := words_of_entries es hlength
  have hbytes : (es.flatMap fun e => leBytes 4 e.toNat).length = 768 := by rw [length_words, hlength]
  generalize (es.flatMap fun e => leBytes 4 e.toNat) = data at hwords hbytes ⊢
  have hnone : abandon .bus s = s := by simp only [abandon, segOf, hseg]
  have hraw : ∀ r : Abort × State, rawNoted .bus 0x8200 1 r = r := fun r => by simp [rawNoted]
  have htake : segTake .bus ⟨0x8200, 1, 0, []⟩ true data s = _ := if_neg (by
    show ¬(((decide (768 < 0 + data.length)) || (true && true && decide (0 + data.length < 768))) = true)
    rw [hbytes]
    decide)
  rw [odSegWrite, hraw, segmentWrite]
  simp only [segChecks_sources hrun hopt, hnone]
  refine htake.trans ?_
  rw [if_neg (by decide), if_neg (by decide)]
  have hdone : segDone (0x8200 : U16).toNat ([] ++ data) ([0, 0, 0] ++ leBytes 4 (0 + data.length)) (setSeg .bus none s) =
      if sourcesOk (setSeg .bus none s) (es.map (·.toNat)) then
        (Abort.done, storeSources (es.map (·.toNat)) (setSeg .bus none s)) else (.valueRange, setSeg .bus none s) := by
    have hindex : (0x8200 : U16).toNat = 0x8200 := rfl
    simp only [segDone, hindex, if_true, List.nil_append, hwords]
  exact congrArg (fun r : Abort × State =>
    if r.1 = .done then r else (r.1, abandon .bus (setSeg .bus (some ⟨0x8200, 1, 0, []⟩) r.2))) hdone

/-- A segment that is taken is answered with its TOTAL. -/
theorem serveSegWrite_taken {i b off n : Nat} {last : Bool} {data : List Byte} {s t : State}
    (h : odSegWrite .bus i b off last data s = (.done, t)) (hquiet : t.bus.busy = false) (hlength : data.length = n) :
    serveSegWrite i b off last data s = replySeg (off + n) [] t := by
  simp only [serveSegWrite, h, hquiet, hlength, Bool.false_eq_true, if_false, if_true]

theorem serveSegWrite_refused {i b off : Nat} {last : Bool} {data : List Byte} {s t : State} {a : Abort}
    (h : odSegWrite .bus i b off last data s = (a, t)) (ha : a ≠ .done) (hquiet : t.bus.busy = false) :
    serveSegWrite i b off last data s = reply a [] t := by
  simp only [serveSegWrite, h, hquiet, Bool.false_eq_true, if_false, if_neg ha]

/-- The whole write of 0x8200.01 as the host is answered. -/
theorem sourceConfiguration_run {s : State} {es : List U32} (hfree : busFree s = true) (hrun : s.sys.st = .run) :
    exec (.sourceConfiguration es) s = .next (serveSegWrite 0x8200 1 0 true (es.flatMap fun e => leBytes 4 e.toNat)
      { s with bus := { s.bus with ack := true } }) := by
  refine congrArg Host.Outcome.next ?_
  rw [← touch_in_run hrun]
  exact hostRequest_free _ hfree

theorem storeSources_frame (es : List Nat) (s : State) :
    (storeSources es s).shadow = (entriesWritten (fun n => sourceLive s n) es (List.range 192) s).shadow ∧
    (storeSources es s).flash.dirty = true ∧ storeSources es s = { s with
      shadow := (storeSources es s).shadow, flash := (storeSources es s).flash, irq := (storeSources es s).irq
      bus := (storeSources es s).bus, free := (storeSources es s).free } := by
  obtain ⟨u, hu⟩ : ∃ u, onFlash (fun f => { f with dirty := true, dirtySince := true })
      (entriesWritten (fun n => sourceLive s n) es (List.range 192) s) = u := ⟨_, rfl⟩
  have hrun : storeSources es s = reroute s u := by rw [← hu]; rfl
  have hframe : u = { s with shadow := u.shadow, flash := u.flash } := by
    rw [← hu, entriesWritten_frame]
    rfl
  have hshadow : u.shadow = (entriesWritten (fun n => sourceLive s n) es (List.range 192) s).shadow := by rw [← hu]; rfl
  have hdirty : u.flash.dirty = true := by rw [← hu]; rfl
  rw [hrun]
  refine ⟨by simp [hshadow], by simp [hdirty], ?_⟩
  apply State.ext
  all_goals simp
  all_goals rw [hframe]

theorem entriesStored : ∀ (s : State) (es : List U32), busFree s = true → s.sys.st = .run → optionProtected s = false →
    s.bus.seg = none → es.length = 192 → sourcesOk s (es.map (·.toNat)) = true →
    ∃ t, exec (.sourceConfiguration es) s = .next t ∧
      (∀ n : SourceId, srcEntry t n.val =
        if sourceLive s n.val then (es.getD n.val 0).toNat &&& 0xF0F else srcEntry s n.val) ∧
      t.bus.resp = segResponse 768 [] ∧ t.flash.dirty = true ∧
      t = { s with shadow := t.shadow, flash := t.flash, irq := t.irq, bus := t.bus, free := t.free } := by
  intro s es hfree hrun hopt hseg hlength hok
  have hidle := DeviceStates.touch_not_busy hfree
  rw [touch_in_run hrun] at hidle
  have hbytes : (es.flatMap fun e => leBytes 4 e.toNat).length = 768 := by rw [length_words, hlength]
  obtain ⟨u, hu⟩ : ∃ u : State, u = setSeg .bus none { s with bus := { s.bus with ack := true } } := ⟨_, rfl⟩
  have hwrite := sourcesWrite_eq (s := { s with bus := { s.bus with ack := true } }) hrun hopt hseg hlength
  rw [← hu] at hwrite
  have hputs : u = { s with bus := u.bus } := by rw [hu]; rfl
  have hbusy : u.bus.busy = false := by rw [hu]; exact hidle
  have hok' : sourcesOk u (es.map (·.toNat)) = true := by rw [hputs]; exact hok
  rw [hok'] at hwrite
  have hquiet : (storeSources (es.map (·.toNat)) u).bus.busy = false := storeSources_idle _ u hbusy
  obtain ⟨hshadow, hdirty, hframe⟩ := storeSources_frame (es.map (·.toNat)) u
  generalize storeSources (es.map (·.toNat)) u = w at hwrite hquiet hshadow hdirty hframe
  generalize hx : (entriesWritten (fun n => sourceLive u n) (es.map (·.toNat)) (List.range 192) u) = x at hshadow
  have hstep := serveSegWrite_taken hwrite hquiet hbytes
  refine ⟨_, (sourceConfiguration_run hfree hrun).trans (congrArg Host.Outcome.next hstep), fun n => ?_, ?_, ?_, ?_⟩
  · have hentry : srcEntry (replySeg (0 + 768) [] w) n.val = srcEntry x n.val := by
      show (aget w.shadow (srcKey n.val)).getD (srcDefault n.val) = _
      rw [hshadow]
      rfl
    have hvalue : (es.map (·.toNat)).getD n.val 0 = (es.getD n.val 0).toNat := by
      have hn : n.val < es.length := by omega
      rw [List.getD_eq_getElem _ _ (by simpa using hn), List.getElem_map, List.getD_eq_getElem _ _ hn]
    have hlive : sourceLive u n.val = sourceLive s n.val := by rw [hputs]; rfl
    have hbefore : srcEntry u n.val = srcEntry s n.val := by rw [hputs]; rfl
    rw [hentry, ← hx, srcEntry_entriesWritten, hvalue, hlive, hbefore]
    simp only [List.mem_range, n.isLt, true_and]
  · rfl
  · exact hdirty
  · rw [hframe, hputs]
    rfl

theorem entriesRefused : ∀ (s : State) (es : List U32), busFree s = true → s.sys.st = .run → optionProtected s = false →
    s.bus.seg = none → es.length = 192 → sourcesOk s (es.map (·.toNat)) = false →
    ∃ t, exec (.sourceConfiguration es) s = .next t ∧
      answered t .valueRange ∧ t = { s with irq := t.irq, bus := t.bus, free := t.free } := by
  intro s es hfree hrun hopt hseg hlength hok
  have hidle := DeviceStates.touch_not_busy hfree
  rw [touch_in_run hrun] at hidle
  obtain ⟨u, hu⟩ : ∃ u : State, u = setSeg .bus none { s with bus := { s.bus with ack := true } } := ⟨_, rfl⟩
  have hwrite := sourcesWrite_eq (s := { s with bus := { s.bus with ack := true } }) hrun hopt hseg hlength
  rw [← hu] at hwrite
  have hputs : u = { s with bus := u.bus } := by rw [hu]; rfl
  have hbusy : u.bus.busy = false := by rw [hu]; exact hidle
  have hok' : sourcesOk u (es.map (·.toNat)) = false := by rw [hputs]; exact hok
  rw [hok'] at hwrite
  obtain ⟨v, hv⟩ : ∃ v, abandon .bus (setSeg .bus (some ⟨0x8200, 1, 0, []⟩) u) = v := ⟨_, rfl⟩
  have hquiet : v.bus.busy = false := by
    rw [← hv]
    exact abandon_idle .bus _ (setSeg_idle .bus _ u hbusy)
  have hframe : v = { s with irq := v.irq, bus := v.bus, free := v.free } := by
    have hraised : v = raise 156 (setSeg .bus none { setSeg .bus (some ⟨0x8200, 1, 0, []⟩) u with
        bus := { u.bus with seg := some ⟨0x8200, 1, 0, []⟩, abandonedSegs := satInc u.bus.abandonedSegs } }) := hv.symm
    have hparts := raise_frame 156 (setSeg .bus none { setSeg .bus (some ⟨0x8200, 1, 0, []⟩) u with
        bus := { u.bus with seg := some ⟨0x8200, 1, 0, []⟩, abandonedSegs := satInc u.bus.abandonedSegs } })
    rw [← hraised, hputs] at hparts
    exact hparts
  have hwrite : odSegWrite .bus 0x8200 1 0 true (es.flatMap fun e => leBytes 4 e.toNat)
      { s with bus := { s.bus with ack := true } } = (.valueRange, v) := by
    rw [hwrite, ← hv]
    rfl
  have hstep := serveSegWrite_refused hwrite (by decide) hquiet
  refine ⟨_, (sourceConfiguration_run hfree hrun).trans (congrArg Host.Outcome.next hstep), answered_reply _ _ hquiet, ?_⟩
  rw [hframe]
  rfl

/-! ## Fast assignments -/

theorem row_assignment : ∀ k : Fin 16, rowOf 0x8300 (k.val + 1) = some (pw 0x8300 1 1 16 .u32 4 0 0 u32Max) := by decide +kernel

theorem assignment_exists : ∀ (p : Bool) (k : Fin 16), existence p 0x8300 (k.val + 1) = .done := by decide +kernel

theorem assignmentChecks {s : State} (k : Fin 16) (v : U32) (hrun : s.sys.st = .run) (hopt : optionProtected s = false) :
    writeChecks s .bus 0x8300 (k.val + 1) (leBytes 4 v.toNat) = .done := by
  have hserved : servedCheck s true 0x8300 (k.val + 1) = .done := by
    have hmain : mainHolds 0x8300 (k.val + 1) = false := by simp [mainHolds, row_assignment, pw]
    simp [servedCheck, hrun, bootFault, hmain]
  have hlt := v.isLt
  have hlength : (leBytes 4 v.toNat).length = 4 := Records.length_leBytes 4 _
  have hvalue : leNat (leBytes 4 v.toNat) = v.toNat := (Records.leNat_leBytes 4 _).trans (Nat.mod_eq_of_lt hlt)
  refine writeChecks_rw (row_assignment k) (by omega) (assignment_exists _ k) (by simp [claimOnly]) rfl hserved rfl (fun _ => hopt)
    (by decide) ?_
  simp [valueCheck, row_assignment, pw, idleTrigger, hlength, hvalue, rangeOk, u32Max]
  omega

theorem okey_assignment (k : Fin 16) : okey 0x8300 (k.val + 1) / 256 = 0x8300 ∧ okey 0x8300 (k.val + 1) < 0x1000000 := by
  simp only [okey]
  omega

theorem pv_assignment_same (k : Fin 16) (v : Nat) (s : State) :
    pv (pset (okey 0x8300 (k.val + 1)) v s) 0x8300 (k.val + 1) = v &&& 0x800700FF := by
  obtain ⟨hindex, hlow⟩ := okey_assignment k
  have hkeep : keepFields (okey 0x8300 (k.val + 1)) v = v &&& 0x800700FF := by
    simp only [keepFields, if_neg (Nat.not_le.mpr hlow), hindex]
    rfl
  have hsmall : small (pset (okey 0x8300 (k.val + 1)) v s) = small s := rfl
  simp only [pv, hsmall]
  simp only [pset, hkeep]
  split
  · next h => rw [aget_adel_same, Option.getD_none, h]
  · rw [aget_aput_same, Option.getD_some]

theorem pv_assignment_other {j k : Fin 16} (v : Nat) (s : State) (h : j ≠ k) :
    pv (pset (okey 0x8300 (k.val + 1)) v s) 0x8300 (j.val + 1) = pv s 0x8300 (j.val + 1) := by
  have hkey : okey 0x8300 (j.val + 1) ≠ okey 0x8300 (k.val + 1) := by
    intro heq
    refine h (Fin.ext ?_)
    simp only [okey] at heq
    omega
  have hsmall : small (pset (okey 0x8300 (k.val + 1)) v s) = small s := rfl
  simp only [pv, hsmall]
  simp only [pset]
  split
  · rw [aget_adel_other _ _ _ hkey]
  · rw [aget_aput_other _ _ _ _ hkey]

theorem assignmentsStored : ∀ (s : State) (k : Fin 16) (v : U32), busFree s = true → s.sys.st = .run → optionProtected s = false →
    assignInRange v.toNat = true → assignIgnored s v.toNat = false →
    (assignTaken s (k.val + 1) v.toNat = false → ∃ t, exec (.fastAssignment k v) s = .next t ∧ answered t .done ∧
      pv t 0x8300 (k.val + 1) = v.toNat &&& 0x800700FF ∧
      (∀ j : Fin 16, j ≠ k → pv t 0x8300 (j.val + 1) = pv s 0x8300 (j.val + 1)) ∧ t.flash.dirty = true ∧
      t = { s with shadow := t.shadow, flash := t.flash, irq := t.irq, bus := t.bus, free := t.free }) ∧
    (assignTaken s (k.val + 1) v.toNat = true → ∃ t, exec (.fastAssignment k v) s = .next t ∧ answered t .valueRange ∧
      t = { s with bus := t.bus }) := by
  intro s k v hfree hrun hopt hin hheard
  have hlt := v.isLt
  have hvalue : leNat (leBytes 4 v.toNat) = v.toNat := (Records.leNat_leBytes 4 _).trans (Nat.mod_eq_of_lt hlt)
  have hnot : idleTrigger 0x8300 (k.val + 1) (leBytes 4 v.toNat) = false := by simp [idleTrigger, row_assignment, pw]
  have hchecks : writeChecks (touch s) .bus 0x8300 (k.val + 1) (leBytes 4 v.toNat) = .done := by
    rw [touch_in_run hrun]
    exact assignmentChecks k v hrun hopt
  have hguard : persistentOk (touch s) 0x8300 (k.val + 1) v.toNat = !assignTaken s (k.val + 1) v.toNat := by
    rw [touch_in_run hrun]
    show (assignInRange v.toNat && (assignIgnored s v.toNat || !assignTaken s (k.val + 1) v.toNat)) = _
    rw [hin, hheard]
    rfl
  refine ⟨fun hfresh => ?_, fun htaken => ?_⟩
  · obtain ⟨u, hu⟩ : ∃ u, writeP (okey 0x8300 (k.val + 1)) v.toNat (touch s) = u := ⟨_, rfl⟩
    have hstore : storePersistent 0x8300 (k.val + 1) v.toNat (touch s) = reroute (touch s) u := by
      have hignored : assignIgnored (touch s) v.toNat = false := by rw [touch_in_run hrun]; exact hheard
      rw [← hu]
      simp only [storePersistent, hignored]
      rfl
    have hstep : hostWrite 0x8300 (k.val + 1) (leBytes 4 v.toNat) s = written (.done, reroute (touch s) u) := by
      rw [hostWrite_stores _ _ _ s _ hfree (by decide) hchecks hnot (row_assignment k) rfl (by rw [hvalue, hguard, hfresh]; rfl),
        hvalue, hstore]
    have hframe : u = { s with shadow := u.shadow, flash := u.flash, bus := u.bus } := by
      rw [← hu, touch_in_run hrun]
      rfl
    have hdirty : u.flash.dirty = true := by rw [← hu]; rfl
    have hshadow : u.shadow = (pset (okey 0x8300 (k.val + 1)) v.toNat (touch s)).shadow := by rw [← hu]; rfl
    have hidle : u.bus.busy = false := by
      rw [← hu]
      exact (DeviceStates.touch_not_busy hfree : (touch s).bus.busy = false)
    have hquiet : (reroute (touch s) u).bus.busy = false := reroute_idle _ u hidle
    refine ⟨_, congrArg Host.Outcome.next hstep, ?_⟩
    rw [DeviceStates.written_eq_reply hquiet]
    have hpv : ∀ j, pv (reply .done [] (reroute (touch s) u)) 0x8300 j = pv (pset (okey 0x8300 (k.val + 1)) v.toNat (touch s)) 0x8300 j := by
      intro j
      have hsmall : small (reply .done [] (reroute (touch s) u)) = small s := by
        rw [hframe]
        simp [small, reply, onBus]
      have hshadow' : (reply .done [] (reroute (touch s) u)).shadow = u.shadow := by simp [reply, onBus]
      rw [pv, hsmall, hshadow', hshadow, touch_in_run hrun]
      rfl
    refine ⟨answered_reply _ _ hquiet, ?_, fun j hj => ?_, ?_, ?_⟩
    · rw [hpv]
      exact pv_assignment_same k v.toNat _
    · rw [hpv, pv_assignment_other v.toNat _ hj, touch_in_run hrun]
      rfl
    · simp [reply, onBus, hdirty]
    · have hmade := reroute_keeps (touch s) u
      rw [hframe]
      apply State.ext
      all_goals simp [reply, onBus]
  · have hstep : hostWrite 0x8300 (k.val + 1) (leBytes 4 v.toNat) s = written (.valueRange, touch s) :=
      NegativeCare.hostWrite_declined ⟨hfree, hchecks⟩ (by decide) hnot (row_assignment k) rfl
        (by rw [hvalue, hguard, htaken]; rfl)
    have hquiet := DeviceStates.touch_not_busy hfree
    refine ⟨_, congrArg Host.Outcome.next hstep, DeviceStates.answered_written hquiet, ?_⟩
    rw [DeviceStates.written_eq_reply hquiet, touch_in_run hrun]
    rfl

/-! ## In-band interrupts -/

theorem ibiRetries : IbiRetries := by
  intro s
  refine ⟨fun hidle => congrArg Host.Outcome.next (if_neg ?_), fun hwaits haddr hon => ?_⟩
  · rw [hidle]
    decide
  · have hretry : exec .ibiRetry s = .next (ibiAttempt s) := by
      refine congrArg Host.Outcome.next (if_pos ?_)
      rcases hwaits with h | h <;> rw [h] <;> decide
    have hattempt : ibiAttempt s = _ := if_neg (by
      rw [hon, Option.isNone_eq_false_iff.mpr haddr]
      decide)
    refine ⟨_, hretry, ?_⟩
    rw [hattempt]
    refine ⟨?_, rfl⟩
    dsimp only [drew]
    by_cases h0 : Config.ibiAnswer s.free = 0
    · rw [if_pos h0]
      exact .inl ⟨rfl, rfl, rfl, rfl⟩
    · by_cases h1 : Config.ibiAnswer s.free = 1
      · rw [if_neg h0, if_pos h1]
        exact .inr (.inl ⟨rfl, rfl, rfl⟩)
      · rw [if_neg h0, if_neg h1]
        exact .inr (.inr ⟨rfl, rfl, rfl⟩)

/-- Settles O53: the distributor's settings and its deliveries. -/
theorem distributorSettings : Obligations.DistributorSettings :=
  ⟨deliverySettings, ⟨entriesStored, entriesRefused, assignmentsStored⟩, ibiRetries⟩

end Sys2Proof.Delivery
end

section
/-! PROOF. The common command codes (R453, R465). -/

namespace Sys2Proof.BusFrames

open Sys2Proof Sys2Proof.Machine Sys2Proof.Claims Sys2Proof.Events

/-- A bus request outside HOLD leaves everything but the acknowledge as it is. -/
theorem touch_outside_hold {s : State} (h : s.sys.st ≠ .hold) : touch s = { s with bus := { s.bus with ack := true } } :=
  touch_of_not_hold s h

/-- An address that is set or reset, with source 155. -/
theorem setAddress_sets (a : Option (BitVec 7)) (s : State) : (setAddress a s).bus.dynAddr = a ∧
    (setAddress a s).bus.ack = true ∧ gotEvent s (setAddress a s) 155 ∧
    setAddress a s = { s with bus := (setAddress a s).bus, irq := (setAddress a s).irq, free := (setAddress a s).free } := by
  obtain ⟨u, hu⟩ : ∃ u, raise 155 (onBus (fun b => { b with dynAddr := a, ack := true }) s) = u := ⟨_, rfl⟩
  have hbus : besideIbi u = besideIbi (onBus (fun b => { b with dynAddr := a, ack := true }) s) := by
    rw [← hu, raise_besideIbi]
  have hevent : gotEvent s u 155 := by
    rw [← hu]
    exact gotEvent_raised 155 (by decide) ⟨rfl, rfl, rfl, rfl, rfl⟩
  have hframe : u = { s with bus := u.bus, irq := u.irq, free := u.free } := by
    rw [← hu]
    exact TilePorts.raise_frame 155 (onBus (fun b => { b with dynAddr := a, ack := true }) s)
  have hrun : setAddress a s = if u.bus.ibi = .idle then u else ibiAttempt u := by
    rw [← hu]
    rfl
  have hout : besideIbi (setAddress a s) = besideIbi u := by
    rw [hrun, besideIbi_ite, ibiAttempt_besideIbi, ite_self]
  have hirq : (setAddress a s).irq = u.irq := by
    rw [hrun]
    split <;> simp
  have hall := hout.trans hbus
  refine ⟨congrArg Bus.dynAddr hall, congrArg Bus.ack hall, gotEvent_kept hevent (by rw [hirq]), ?_⟩
  rw [hrun]
  split
  · exact hframe
  · apply State.ext
    all_goals simp
    all_goals rw [hframe]

theorem addressCommands : AddressCommands := by
  intro s hserves hhold
  have htouch := touch_outside_hold hhold
  have hset : ∀ (c : Instr) (a : Option (BitVec 7)) (u : State), exec c s = .next (setAddress a u) →
      u = { s with bus := u.bus } → ∃ t, exec c s = .next t ∧ t.bus.dynAddr = a ∧ t.bus.ack = true ∧ gotEvent s t 155 ∧
        t = { s with bus := t.bus, irq := t.irq, free := t.free } := by
    intro c a u hrun hu
    obtain ⟨haddr, hack, hevent, hframe⟩ := setAddress_sets a u
    refine ⟨_, hrun, haddr, hack, ?_, ?_⟩
    · rw [hu] at hevent ⊢
      exact hevent
    · generalize setAddress a u = t at hframe
      rw [hu] at hframe
      exact hframe
  refine ⟨fun a hnone c hc => ?_, fun a old hheld => ⟨?_, ?_, fun c hc => ?_⟩, fun a hnone => ?_⟩
  · rcases List.mem_cons.mp hc with rfl | hc
    · refine hset _ (some a) (onBus (fun b => { b with out := provisionedId s ++ [bcr, 0x00] }) (touch s)) ?_ ?_
      · refine congrArg Host.Outcome.next (if_neg ?_)
        rw [hserves, hnone]
        decide
      · rw [htouch]
        rfl
    · rw [List.mem_singleton.mp hc]
      refine hset _ (some a) (touch s) ?_ (by rw [htouch])
      refine congrArg Host.Outcome.next (if_neg ?_)
      rw [hserves, hnone]
      simp
  · refine hset _ (some a) (touch s) ?_ (by rw [htouch])
    refine congrArg Host.Outcome.next (if_neg ?_)
    rw [hserves, hheld]
    simp
  · refine hset _ none (touch s) ?_ (by rw [htouch])
    refine congrArg Host.Outcome.next ((if_neg ?_).trans (if_neg ?_))
    · rw [hserves]
      decide
    · rw [hheld]
      simp
  · rcases List.mem_cons.mp hc with rfl | hc
    · refine ⟨nack s, congrArg Host.Outcome.next (if_pos ?_), rfl⟩
      rw [hheld]
      simp
    · rw [List.mem_singleton.mp hc]
      refine ⟨nack s, congrArg Host.Outcome.next (if_pos ?_), rfl⟩
      rw [hheld]
      simp
  · refine ⟨nack s, congrArg Host.Outcome.next (if_pos ?_), rfl⟩
    rw [hnone]
    simp

/-- A CCC that reads at the dynamic address. -/
theorem answerCcc_answers {s : State} {a : BitVec 7} (bs : List Byte) (hserves : busServes s = true) (hhold : s.sys.st ≠ .hold)
    (haddr : s.bus.dynAddr = some a) : answerCcc bs s = { s with bus := { s.bus with out := bs, ack := true } } := by
  have hgoes : ¬((!busServes s || s.bus.dynAddr.isNone) = true) := by
    rw [hserves, haddr]
    simp
  rw [answerCcc, if_neg hgoes, touch_outside_hold hhold]
  rfl

theorem readingCommands : ReadingCommands := by
  intro s a hserves hhold haddr
  have htouch := touch_outside_hold hhold
  have hgoes : ¬((!busServes s) = true) := by
    rw [hserves]
    decide
  have hanswer := fun bs => answerCcc_answers bs hserves hhold haddr
  have hreads : ∀ (c : Instr) (bs : List Byte), exec c s = .next (answerCcc bs s) → ∃ t, exec c s = .next t ∧ t.bus.out = bs ∧
      t = { s with bus := { s.bus with out := t.bus.out, ack := true } } := by
    intro c bs hrun
    rw [hanswer] at hrun
    exact ⟨_, hrun, rfl, rfl⟩
  refine ⟨fun c hc => ?_, fun c hc => ?_, ?_, fun hidle => ?_⟩
  · simp only [List.mem_cons, List.not_mem_nil, or_false] at hc
    rcases hc with rfl | rfl | rfl | rfl | rfl
    · exact hreads _ _ rfl
    · exact hreads _ _ rfl
    · exact hreads _ _ rfl
    · exact hreads _ _ rfl
    · exact hreads _ _ rfl
  · simp only [List.mem_cons, List.not_mem_nil, or_false] at hc
    rcases hc with rfl | rfl | rfl
    · exact ⟨_, congrArg (fun t => Host.Outcome.next (drew t)) (hanswer _), rfl⟩
    · exact ⟨_, congrArg Host.Outcome.next (hanswer _), rfl⟩
    · exact ⟨_, congrArg Host.Outcome.next (hanswer _), rfl⟩
  · refine ⟨_, congrArg Host.Outcome.next (if_neg hgoes), ?_⟩
    rw [htouch]
    rfl
  · have hstay : (onBus (fun b => { b with ibiOn := true }) (touch s)).bus.ibi = .idle := by
      rw [htouch]
      exact hidle
    refine ⟨_, congrArg Host.Outcome.next ((if_neg hgoes).trans (if_pos hstay)), ?_⟩
    rw [htouch]
    rfl

/-- Settles O56: the common command codes. -/
theorem busCommands : Obligations.BusCommands := ⟨addressCommands, readingCommands⟩

end Sys2Proof.BusFrames
end

section
/-! PROOF. Sessions (R496 to R498), and an activation under write protection (R502). -/

namespace Sys2Proof.Sessions

open Sys2Proof Sys2Proof.Machine Sys2Proof.Claims Sys2Proof.Events Sys2Proof.Delivery

/-! ## The end of a session -/

/-- A session that closes: its state and its challenge, and source 145 where it was open. -/
theorem closeSession_closes (s : State) : (closeSession s).sec = { s.sec with session := 0, challenge := none } ∧
    (s.sec.session = 2 → gotEvent s (closeSession s) 145) ∧ (s.sec.session ≠ 2 → (closeSession s).irq = s.irq) ∧
    (∀ n : SourceId, n.val ≠ 145 → (closeSession s).irq.src[n] = s.irq.src[n]) ∧
    closeSession s = { s with
      sec := (closeSession s).sec, bus := (closeSession s).bus, irq := (closeSession s).irq, free := (closeSession s).free } := by
  have hrun : closeSession s = if decide (s.sec.session = 2) = true then
      raise 145 (onSec (fun x => { x with session := 0, challenge := none }) s)
      else onSec (fun x => { x with session := 0, challenge := none }) s := rfl
  by_cases hopen : s.sec.session = 2
  · rw [hrun, if_pos (decide_eq_true hopen)]
    refine ⟨by simp [onSec], fun _ => gotEvent_raised 145 (by decide) ⟨rfl, rfl, rfl, rfl, rfl⟩, fun h => absurd hopen h,
      fun n hn => DeviceStates.raise_src_other 145 _ n hn, ?_⟩
    apply State.ext
    all_goals simp [onSec]
  · rw [hrun, if_neg (by simpa using hopen)]
    exact ⟨rfl, fun h => absurd h hopen, fun _ => rfl, fun _ _ => rfl, rfl⟩

/-- A request in RUN that the device serves, of a row without a state of its own. -/
theorem served_session {s : State} (write : Bool) {b : Nat} (hb : b = 1 ∨ b = 2 ∨ b = 3) (hrun : s.sys.st = .run) :
    servedCheck s write 0xA020 b = .done := by
  have hmain : mainHolds 0xA020 b = false := by rcases hb with rfl | rfl | rfl <;> rfl
  simp [servedCheck, hrun, bootFault, hmain]

/-! ## Challenges -/

theorem challenge_run {s : State} (hfree : busFree s = true) (hrun : s.sys.st = .run) :
    exec .challenge s = .next (reply (readChallenge (touch s)).1 (readChallenge (touch s)).2.1 (readChallenge (touch s)).2.2) := by
  have hchecks : readChecks (touch s) .bus 0xA020 1 false = .done := by
    rw [touch_in_run hrun]
    refine ObjectTunnels.firstOf_pass ?_
    simp only [List.forall_mem_cons]
    refine ⟨?_, rfl, rfl, served_session false (.inl rfl) hrun, rfl, by simp⟩
    show existence (small s) 0xA020 1 = .done
    cases small s <;> rfl
  refine congrArg Host.Outcome.next ((hostRequest_free _ hfree).trans ?_)
  simp only [serveObject, odRead, hchecks]
  rfl

theorem challenges : Challenges := by
  intro s hfree hrun
  have hidle := DeviceStates.touch_not_busy hfree
  have hstep := challenge_run hfree hrun
  rw [touch_in_run hrun] at hstep hidle
  refine ⟨fun hopen => ?_, fun hlocked => ?_⟩
  · obtain ⟨c, hc⟩ : ∃ c, leBytes 32 (Config.random s.free).toNat = c := ⟨_, rfl⟩
    obtain ⟨u, hu⟩ : ∃ u, closeSession { s with bus := { s.bus with ack := true } } = u := ⟨_, rfl⟩
    obtain ⟨hsec, hevent, hquiet, -, hframe⟩ := closeSession_closes { s with bus := { s.bus with ack := true } }
    have hread : readChallenge { s with bus := { s.bus with ack := true } } = (.done, c, drew (onSec (fun x => { x with
        session := 1, challenge := some c, challengeAt := u.sys.aonTime.toNat }) u)) := by
      rw [← hu, ← hc]
      refine if_neg ?_
      rw [hopen]
      decide
    rw [hread] at hstep
    rw [hu] at hsec hevent hquiet hframe
    have hlength : c.length = 32 := by rw [← hc, Records.length_leBytes]
    have htime : u.sys.aonTime = s.sys.aonTime := by rw [hframe]
    refine ⟨_, c, hstep, ?_, hlength, ?_, fun h => ?_, hquiet, ?_⟩
    · show abortCode .done :: leBytes 2 c.length ++ c = _
      rw [hlength]
      rfl
    · show { u.sec with session := 1, challenge := some c, challengeAt := u.sys.aonTime.toNat } = _
      rw [hsec, htime]
    · exact gotEvent_kept (hevent h) rfl
    · rw [hframe]
      rfl
  · have hread : readChallenge { s with bus := { s.bus with ack := true } } =
        (.authFailed, [], raise 146 { s with bus := { s.bus with ack := true } }) := if_pos hlocked
    rw [hread] at hstep
    refine ⟨_, hstep, answered_reply _ _ (raise_idle 146 _ hidle), ?_, ?_⟩
    · have hevent := gotEvent_raised (s := s) 146 (by decide) (u := { s with bus := { s.bus with ack := true } })
        ⟨rfl, rfl, rfl, rfl, rfl⟩
      exact gotEvent_kept hevent rfl
    · have hframe := TilePorts.raise_frame 146 { s with bus := { s.bus with ack := true } }
      generalize raise 146 { s with bus := { s.bus with ack := true } } = v at hframe
      show reply .authFailed [] v = _
      rw [hframe]
      rfl

/-! ## Responses and ends -/

theorem row_response : rowOf 0xA020 2 = some (wo 0xA020 1 2 1 .record 32 0 0) := by rfl
theorem row_close : rowOf 0xA020 3 = some (wo 0xA020 1 3 1 .bool 1 0 1) := by rfl

/-- The checks of a host's write to a write-only object of the session. -/
theorem sessionChecks {s : State} {b : Nat} {data : List Byte} {r : Row} (hb : b = 2 ∨ b = 3) (hrow : rowOf 0xA020 b = some r)
    (hacc : r.acc = .wo) (hpers : r.pers = false) (hrun : s.sys.st = .run) (hvalue : valueCheck s 0xA020 b data = .done) :
    writeChecks s .bus 0xA020 b data = .done := by
  have hserved := served_session true (.inr hb) hrun
  have hzero : b ≠ 0 := by omega
  have haccOf : accOf 0xA020 b = .wo := by simp [accOf, hrow, hacc, hzero]
  refine ObjectTunnels.firstOf_pass ?_
  simp only [List.forall_mem_cons]
  refine ⟨?_, rfl, ?_, ?_, ?_, ?_, hvalue, by simp⟩
  · rcases hb with rfl | rfl <;> cases small s <;> rfl
  · simp [classCheck, haccOf]
  · simp [stateCheck, hserved, haccOf, writeState]
  · simp [sessionCheck, haccOf]
  · simp [protectionCheck, hrow, hpers]

theorem response_run {s : State} {mac : List Byte} (hfree : busFree s = true) (hrun : s.sys.st = .run) (hlength : mac.length = 32) :
    exec (.response mac) s = .next (written (writeResponse mac { s with bus := { s.bus with ack := true } })) := by
  have hchecks : writeChecks (touch s) .bus 0xA020 2 mac = .done := by
    rw [touch_in_run hrun]
    exact sessionChecks (.inl rfl) row_response rfl rfl hrun (by simp [valueCheck, row_response, wo, hlength])
  have hnot : idleTrigger 0xA020 2 mac = false := by simp [idleTrigger, row_response, wo]
  rw [← touch_in_run hrun]
  exact congrArg Host.Outcome.next (hostWrite_takes 0xA020 2 mac s _ hfree (by decide) hchecks hnot row_response rfl)

theorem close_run {s : State} (hfree : busFree s = true) (hrun : s.sys.st = .run) :
    exec .sessionClose s = .next (written (.done, closeSession { s with bus := { s.bus with ack := true } })) := by
  have hchecks : writeChecks (touch s) .bus 0xA020 3 [1] = .done := by
    rw [touch_in_run hrun]
    exact sessionChecks (.inr rfl) row_close rfl rfl hrun (by simp [valueCheck, row_close, wo, rangeOk, leNat])
  rw [← touch_in_run hrun]
  exact congrArg Host.Outcome.next (hostWrite_takes 0xA020 3 [1] s _ hfree (by decide) hchecks (by rfl) row_close rfl)

theorem responseOpens {s : State} {mac c : List Byte} (hfree : busFree s = true) (hrun : s.sys.st = .run) (hlength : mac.length = 32)
    (hstate : s.sec.session = 1) (hc : s.sec.challenge = some c) (htime : s.sys.aonTime.toNat ≤ 10000000 + s.sec.challengeAt)
    (hmac : mac = hmac s.sec.keys.session (c ++ leBytes 16 s.ident.serial.toNat)) : ∃ t, exec (.response mac) s = .next t ∧
      answered t .done ∧ t.sec = { s.sec with session := 2, challenge := none, failures := 0 } ∧ gotEvent s t 144 ∧
      t = { s with sec := t.sec, bus := t.bus, irq := t.irq, free := t.free } := by
  have hidle := DeviceStates.touch_not_busy hfree
  rw [touch_in_run hrun] at hidle
  have hgood : responseGood { s with bus := { s.bus with ack := true } } mac = true := by
    have hright : mac = responseFor { s with bus := { s.bus with ack := true } } c := hmac
    simp only [responseGood, hc, hstate, htime, decide_eq_true hright, decide_true, Bool.and_self]
  have hwrite : writeResponse mac { s with bus := { s.bus with ack := true } } = (.done, raise 144 (onSec (fun x => { x with
      session := 2, challenge := none, failures := 0 }) { s with bus := { s.bus with ack := true } })) := if_pos hgood
  obtain ⟨u, hu⟩ : ∃ u, raise 144 (onSec (fun x => { x with session := 2, challenge := none, failures := 0 })
      { s with bus := { s.bus with ack := true } }) = u := ⟨_, rfl⟩
  have hquiet : u.bus.busy = false := by
    rw [← hu]
    exact raise_idle 144 _ hidle
  have hevent : gotEvent s u 144 := by
    rw [← hu]
    exact gotEvent_raised 144 (by decide) ⟨rfl, rfl, rfl, rfl, rfl⟩
  have hsec : u.sec = { s.sec with session := 2, challenge := none, failures := 0 } := by
    rw [← hu]
    simp [onSec]
  have hframe : u = { s with sec := u.sec, bus := u.bus, irq := u.irq, free := u.free } := by
    rw [← hu]
    apply State.ext
    all_goals simp [onSec]
  rw [response_run hfree hrun hlength, hwrite, hu]
  refine ⟨_, rfl, DeviceStates.answered_written hquiet, ?_⟩
  rw [DeviceStates.written_eq_reply hquiet]
  refine ⟨hsec, gotEvent_kept hevent rfl, ?_⟩
  rw [hframe]
  rfl

theorem responseFails {s : State} {mac : List Byte} (hfree : busFree s = true) (hrun : s.sys.st = .run) (hlength : mac.length = 32)
    (hbad : responseGood s mac = false) : ∃ t, exec (.response mac) s = .next t ∧ answered t .authFailed ∧
      t.sec = { s.sec with
        session := 0, challenge := none, failures := s.sec.failures + 1, authFailures := satInc s.sec.authFailures,
        locked := s.sec.locked || decide (3 ≤ s.sec.failures + 1) } ∧ gotEvent s t 146 ∧
      t = { s with sec := t.sec, bus := t.bus, irq := t.irq, free := t.free } := by
  have hidle := DeviceStates.touch_not_busy hfree
  rw [touch_in_run hrun] at hidle
  obtain ⟨u, hu⟩ : ∃ u, closeSession { s with bus := { s.bus with ack := true } } = u := ⟨_, rfl⟩
  obtain ⟨hsec, -, -, hothers, hframe⟩ := closeSession_closes { s with bus := { s.bus with ack := true } }
  have hclosed : u.bus.busy = false := by
    rw [← hu]
    exact closeSession_idle _ hidle
  rw [hu] at hsec hothers hframe
  obtain ⟨v, hv⟩ : ∃ v, onSec (fun x => { x with
      failures := x.failures + 1, locked := x.locked || decide (3 ≤ x.failures + 1), authFailures := satInc x.authFailures }) u = v :=
    ⟨_, rfl⟩
  have hfails : v.sec = { s.sec with
      session := 0, challenge := none, failures := s.sec.failures + 1, authFailures := satInc s.sec.authFailures
      locked := s.sec.locked || decide (3 ≤ s.sec.failures + 1) } := by
    have hput : v.sec = { u.sec with
        failures := u.sec.failures + 1, locked := u.sec.locked || decide (3 ≤ u.sec.failures + 1)
        authFailures := satInc u.sec.authFailures } := by
      rw [← hv]
      rfl
    rw [hput, hsec]
  have hleft : v = { s with sec := v.sec, bus := v.bus, irq := v.irq, free := v.free } := by
    rw [← hv, hframe]
    rfl
  have hevent : gotEvent s (raise 146 v) 146 := by
    refine gotEvent_raised 146 (by decide) ⟨?_, ?_, ?_, ?_, ?_⟩
    · rw [hleft]
    · rw [hleft]
    · rw [hleft]
    · rw [hleft]
    · rw [← hv]
      exact hothers 146 (by decide)
  have hwrite : writeResponse mac { s with bus := { s.bus with ack := true } } = (.authFailed, raise 146 v) := by
    rw [← hv, ← hu]
    refine if_neg ?_
    have hsame : responseGood { s with bus := { s.bus with ack := true } } mac = responseGood s mac := rfl
    rw [hsame, hbad]
    decide
  have hquiet : (raise 146 v).bus.busy = false := by
    refine raise_idle 146 v ?_
    rw [← hv]
    exact hclosed
  have hraised := TilePorts.raise_frame 146 v
  rw [response_run hfree hrun hlength, hwrite]
  refine ⟨_, rfl, DeviceStates.answered_written hquiet, ?_⟩
  rw [DeviceStates.written_eq_reply hquiet]
  refine ⟨?_, gotEvent_kept hevent rfl, ?_⟩
  · rw [← hfails]
    simp [reply, onBus]
  · generalize raise 146 v = w at hraised
    rw [hleft] at hraised
    rw [hraised]
    rfl

theorem lockoutEnded (s : State) : ∃ t, exec .lockoutEnd s = .next t ∧ t.sec.locked = false ∧
    (s.sec.locked = true → t.sec.failures = 0) ∧ (s.sec.locked = false → t = s) ∧
    t = { s with sec := { s.sec with locked := t.sec.locked, failures := t.sec.failures } } := by
  refine ⟨_, rfl, rfl, fun h => if_pos h, fun h => ?_, rfl⟩
  have hsec : { s.sec with locked := false, failures := if s.sec.locked then 0 else s.sec.failures } = s.sec := by
    rw [h]
    cases hs : s.sec
    simp_all
  show { s with sec := { s.sec with locked := false, failures := if s.sec.locked then 0 else s.sec.failures } } = s
  rw [hsec]

theorem sessionEnds : SessionEnds := by
  intro s
  refine ⟨fun hfree hrun => ?_, fun hopen => ?_, fun hclosed => congrArg Host.Outcome.next (if_neg hclosed)⟩
  · have hidle := DeviceStates.touch_not_busy hfree
    rw [touch_in_run hrun] at hidle
    obtain ⟨hsec, hevent, hquiet, -, hframe⟩ := closeSession_closes { s with bus := { s.bus with ack := true } }
    have hanswers := closeSession_idle { s with bus := { s.bus with ack := true } } hidle
    rw [close_run hfree hrun]
    generalize closeSession { s with bus := { s.bus with ack := true } } = u at hsec hevent hquiet hframe hanswers ⊢
    refine ⟨_, rfl, DeviceStates.answered_written hanswers, ?_⟩
    rw [DeviceStates.written_eq_reply hanswers]
    refine ⟨hsec, fun h => gotEvent_kept (hevent h) rfl, hquiet, ?_⟩
    rw [hframe]
    rfl
  · obtain ⟨hsec, hevent, -, -, hframe⟩ := closeSession_closes s
    exact ⟨_, congrArg Host.Outcome.next (if_pos hopen), hsec, hevent hopen, hframe⟩

/-- Settles O57: a challenge, its response, the end of a session and of a lockout. -/
theorem sessionSteps : Obligations.SessionSteps :=
  ⟨challenges, fun s => ⟨fun _ hfree hrun hlength => ⟨fun _ => responseOpens hfree hrun hlength, responseFails hfree hrun hlength⟩,
    lockoutEnded s⟩, sessionEnds⟩

/-! ## An activation under write protection -/

/-- RUN with an open session and a verified image, and with the option block write-protected (FWP_n low, mask bit 0). -/
def guardedImage : State :=
  let s := Tests.powered .run
  { s with
    sec := { s.sec with session := 2, update := 3 }
    supply := { s.supply with fwpHigh := false }
    flash := { s.flash with protMask := 1 } }

/-- What the bus brings after a command. -/
def answerOf (c : Instr) (s : State) : List Byte := match exec c s with
  | .next t => t.bus.resp
  | _ => []

/-- Refutes O58: where the option block is write-protected, ACTIVATE with an open session and a verified image ends with
WRITE_PROTECTED (R502), not with 0x00. -/
theorem not_bindingAndImages : ¬ Obligations.BindingAndImages := by
  rintro ⟨-, hactivate⟩
  have hfree : busFree guardedImage = true := by decide +kernel
  obtain ⟨hrunning, -⟩ := hactivate guardedImage hfree
  obtain ⟨-, -, hactivated⟩ := hrunning rfl
  obtain ⟨t, hexec, ⟨-, hresp⟩, -⟩ := hactivated rfl rfl
  have hprotected : answerOf .activateImage guardedImage = [abortCode .writeProtected, 0, 0] := by decide +kernel
  have hdone : answerOf .activateImage guardedImage = [abortCode .done, 0, 0] := by
    rw [answerOf, hexec]
    exact hresp
  exact absurd (hprotected.symm.trans hdone) (by decide)

end Sys2Proof.Sessions
end

section
/-! PROOF. A refused write of 0x4020 that leaves its mark (R209). -/

namespace Sys2Proof.RawNotes

open Sys2Proof Sys2Proof.Machine Sys2Proof.Claims

/-- What 0x4020.04 reads after a command. -/
def rawResultOf (c : Instr) (s : State) : Option Byte := match exec c s with
  | .next t => some t.flash.rawResult
  | _ => none

/-- The WRITE frame of one byte to 0x4020.02, a DOMAIN, in RUN. -/
def domainWrite : Instr :=
  .write (Tests.i2c (Tests.powered .run).bus.staticAddr)
    (withPec (Tests.i2c (Tests.powered .run).bus.staticAddr) [2, 0x20, 0x40, 2, 1, 0, 0])

/-- Refutes O55: a WRITE of one byte to 0x4020.02 in RUN is refused with TYPE_MISMATCH, and 0x4020.04, which was 0, reads
REFUSED (R209): more has changed than the bus. -/
theorem not_objectRequests : ¬ Obligations.ObjectRequests := by
  rintro ⟨hframes, -⟩
  obtain ⟨-, hwrite, -⟩ := hframes (Tests.powered .run) (Tests.i2c (Tests.powered .run).bus.staticAddr) 0x20 0x40 2
    (by decide +kernel) (by decide +kernel) rfl
  obtain ⟨t, hexec, -, -, hframe⟩ := hwrite 0 .typeMismatch (by decide +kernel) (by decide)
  have hnoted : rawResultOf domainWrite (Tests.powered .run) = some 3 := by decide +kernel
  have hkept : rawResultOf domainWrite (Tests.powered .run) = some (Tests.powered .run).flash.rawResult := by
    rw [rawResultOf, domainWrite, hexec]
    show some t.flash.rawResult = _
    rw [hframe]
  exact absurd (hnoted.symm.trans hkept) (by decide +kernel)

end Sys2Proof.RawNotes
end

section
/-! PROOF. A consolidation that begins at RUN entry with the number 2^32, which no record holds (R262, R285). -/

namespace Sys2Proof.Numbers

open Sys2Proof Sys2Proof.Machine Sys2Proof.Claims Sys2Proof.Families Sys2Proof.Records Sys2Proof.Handover
  Sys2Proof.Developments

/-! ## What RUN_DISCARD leaves where no anchor block and no Negative block is -/

theorem putCopies_nowhere {s : State} (h : ∀ c : ChanId, (s.nand.chans[c]).anchor = []) (gen : Nat) (r : List Byte) :
    (putCopies gen r s).2 = s := by
  have hwrite : ∀ c, anchorWrite c r s = (false, s) := by
    intro c
    have hput : anchorPut c r s.nand = none := by
      unfold anchorPut
      dsimp only
      rw [h c]
      split <;> rfl
    rw [anchorWrite, hput]
  have hall : ∀ (l : List ChanId) (w : Bool), (l.foldl (fun (w : Bool × State) c =>
      let v := anchorWrite c r w.2
      (w.1 || v.1, v.2)) (w, s)).2 = s := by
    intro l
    induction l with
    | nil => exact fun _ => rfl
    | cons c l ih =>
      intro w
      rw [List.foldl_cons]
      dsimp only
      rw [hwrite]
      exact ih _
  exact hall _ false

theorem freeBlocks_none {s : State} {c : ChanId} {test : Nat → NandBlock → Bool}
    (hnone : ∀ p ∈ (s.nand.chans[c]).blocks, test p.1 p.2 = false) (hfresh : ∀ p ∈ (s.nand.chans[c]).blocks, p.2.next = 0) :
    freeBlocks c test s = s := by
  have hfilter : ((s.nand.chans[c]).blocks.filter fun p => test p.1 p.2) = [] :=
    List.filter_eq_nil_iff.mpr fun p hp => by rw [hnone p hp]; decide
  have herase : beginErases c s.nand.chans[c] = s.nand.chans[c] := by
    have hidle : ((s.nand.chans[c]).blocks.filter fun p => freeBlock s.nand.chans[c] c p.1 && decide (p.2.next ≠ 0)) = [] :=
      List.filter_eq_nil_iff.mpr fun p hp => by rw [hfresh p hp]; simp
    rw [beginErases, hidle]
    rfl
  have hchan : onChan c (beginErases c) s = s := by
    have hchans : upd s.nand.chans c (beginErases c) = s.nand.chans := Sequencing.upd_fixed s.nand.chans c herase
    show { s with nand := { s.nand with chans := upd s.nand.chans c (beginErases c) } } = s
    rw [hchans]
  unfold freeBlocks
  rw [hfilter]
  show (if chanDead s c then s else onChan c (beginErases c) s) = s
  rw [hchan, ite_self]

theorem freeGens_none {s : State} {test : Nat → Bool}
    (hnone : ∀ (c : ChanId), ∀ p ∈ (s.nand.chans[c]).blocks, (decide (p.2.use = 1) && test p.2.owner) = false ∧ p.2.next = 0) :
    freeGens test s = updateFits s := by
  have hall : ∀ l : List ChanId, l.foldl (fun (s : State) c => freeBlocks c ((fun _ _ x => decide (x.use = 1) && test x.owner) c) s) s
      = s := by
    intro l
    induction l with
    | nil => rfl
    | cons c l ih =>
      rw [List.foldl_cons, freeBlocks_none (fun p hp => (hnone c p hp).1) fun p hp => (hnone c p hp).2]
      exact ih
  rw [freeGens, freeBlocksAll, hall]

/-! ## RUN entry with nothing to do on the way -/

/-- The open segmented writes. -/
def openSegs (s : State) : Option OpenSeg × Fam 4 (Option OpenSeg) := (s.bus.seg, s.bus.tunSeg)

theorem openSegs_raise (k : Nat) (s : State) : openSegs (raise k s) = openSegs s := by
  have hbus := BusFrames.raise_besideIbi k s
  exact Prod.ext (congrArg Bus.seg hbus :) (congrArg Bus.tunSeg hbus :)

theorem abandonAll_none {s : State} (h : ∀ p, segOf s p = none) : abandonAll s = s := by
  have habandon : ∀ p, abandon p s = s := fun p => by rw [abandon, h p]
  have hall : ∀ l : List Path, l.foldl (fun (s : State) p => abandon p s) s = s := by
    intro l
    induction l with
    | nil => rfl
    | cons p l ih => rw [List.foldl_cons, habandon, ih]
  rw [abandonAll, habandon, hall]

/-- What RUN entry leaves of the chain where no transfer is open, no log point was deferred and no commit is held. -/
theorem enterRun_chain (cause : Byte) {s : State} (hsegs : ∀ p, segOf s p = none) (hlog : s.log.deferred = none)
    (hheld : s.flash.commitHeld = false) (howed : s.cell.owed = false) (hdead : (deadChans s).length < 2) :
    ∃ u : State, enterRun cause s = autoCons u ∧ u.neg = s.neg ∧ SameChain s u ∧ u.sys.st = .run := by
  obtain ⟨v, hv⟩ : ∃ v, enter .run cause (onSupply (fun p => { p with triggered := false }) s) = v := ⟨_, rfl⟩
  have henter : v.neg = s.neg ∧ v.nand = s.nand ∧ v.sec = s.sec ∧ v.shadow = s.shadow ∧ v.ident = s.ident ∧ v.log = s.log ∧
      v.cell = s.cell ∧ v.flash.commitHeld = false ∧ v.sys.st = .run := by
    obtain ⟨w, hw⟩ : ∃ w : State, w = { onSupply (fun p => { p with triggered := false }) s with
        sys := { s.sys with st := .run, prev := s.sys.st, cause := cause, transitions := s.sys.transitions + 1
                            faultCause := 0, depth := 0 }
        flash := { s.flash with held := false } } := ⟨_, rfl⟩
    have hopen : abandonAll w = w := abandonAll_none fun p => by
      rw [hw]
      exact hsegs p
    have hrun : v = if held (onSupply (fun p => { p with triggered := false }) s) 0 && !held (raise 32 (abandonAll w)) 0 then
        release 0 (raise 32 (abandonAll w)) else lines (raise 32 (abandonAll w)) := by
      rw [← hv, hw]
      rfl
    rw [hopen] at hrun
    rw [hrun]
    split <;> simp [hw, onSupply, hheld]
  obtain ⟨hneg, hnand, hsec, hshadow, hident, hvlog, hcell, hvheld, hst⟩ := henter
  have hdeferred : logDeferred v = v := by
    simp only [logDeferred, hvlog, hlog]
  have hcommit : commitNow v = v := by
    simp only [commitNow, hvheld, Bool.false_and, Bool.false_eq_true, if_false]
  have hguarantee : (guaranteeNow v).neg = s.neg ∧ (guaranteeNow v).nand = s.nand ∧ (guaranteeNow v).sec = s.sec ∧
      (guaranteeNow v).shadow = s.shadow ∧ (guaranteeNow v).ident = s.ident ∧ (guaranteeNow v).cell.owed = false ∧
      (guaranteeNow v).sys.st = .run := by
    unfold guaranteeNow
    dsimp only
    split <;> simp [onCell, hneg, hnand, hsec, hshadow, hident, hcell, howed, hst]
  have hrun : enterRun cause s = if (guaranteeNow (commitNow (logDeferred v))).cell.owed then
      enterFault 5 0x0C (onCell (fun c => { c with owed := false }) (guaranteeNow (commitNow (logDeferred v))))
      else if 2 ≤ (deadChans (guaranteeNow (commitNow (logDeferred v)))).length then
        enterFault 4 0x0C (guaranteeNow (commitNow (logDeferred v)))
      else autoCons (guaranteeNow (commitNow (logDeferred v))) := by
    rw [← hv]
    rfl
  rw [hdeferred, hcommit] at hrun
  obtain ⟨gneg, gnand, gsec, gshadow, gident, gowed, gst⟩ := hguarantee
  have halive : ¬ 2 ≤ (deadChans (guaranteeNow v)).length := by
    simp only [deadChans, chanDead, gnand] at hdead ⊢
    omega
  rw [gowed, if_neg (by decide), if_neg halive] at hrun
  exact ⟨guaranteeNow v, hrun, gneg, ⟨⟨gshadow, gident⟩, by rw [gneg], gnand, gsec⟩, gst⟩

theorem chain_trans {s t u : State} (h : SameChain s t) (k : SameChain t u) : SameChain s u :=
  ⟨⟨k.settings.1.trans h.settings.1, k.settings.2.trans h.settings.2⟩, k.gens.trans h.gens, k.nand.trans h.nand,
    k.sec.trans h.sec⟩

/-! ## The header whose number is 2^32 -/

/-- A generation that no listed one shares its number with is listed. -/
theorem mem_listGen {g : Gen} {gs : List Gen} (h : ∀ x ∈ gs, x.gen ≠ g.gen) : g ∈ listGen g gs := by
  induction gs with
  | nil => exact List.mem_singleton.mpr rfl
  | cons x gs ih =>
    obtain ⟨hx, hgs⟩ := List.forall_mem_cons.mp h
    rw [listGen]
    split
    · exact List.mem_cons_self
    · exact List.mem_cons_of_mem x (ih hgs)

/-- A header whose number leaves its field is read back with the rest of the division. -/
theorem putHeader_wraps {g : Gen} {s : State} (h : ∀ x ∈ s.neg.gens, x.gen ≠ g.gen % 2 ^ 32) :
    ∃ x ∈ (putHeader g s).neg.gens, x.gen = g.gen % 2 ^ 32 ∧ x.superseded = false := by
  have hgens : (putHeader g s).neg.gens = listGen (headerGen (recordOf (recordKey s) 1 (headerBody g))) s.neg.gens := by
    rw [putHeader, noteRecord_gens]
    simp only [takeRecord, recordType_recordOf]
    rfl
  have hgen : (headerGen (recordOf (recordKey s) 1 (headerBody g))).gen = g.gen % 2 ^ 32 := header_gen _ _
  refine ⟨_, ?_, hgen, rfl⟩
  rw [hgens]
  exact mem_listGen fun x hx => by
    rw [hgen]
    exact h x hx

/-- A consolidation that begins with the number 2^32 leaves a generation 0. -/
theorem startCons_wraps {s : State} {c : Gen} (hc : newestC s = some c)
    (hnone : s.neg.cons = none) (hst : s.sys.st = .run) (hr : chainReadable s = true)
    (hf : consFits s (consData s c).entries.length = true) (hn : nextGen s = 2 ^ 32) (hpos : ∀ x ∈ s.neg.gens, x.gen ≠ 0) :
    ∃ x ∈ (startCons s).neg.gens, x.gen = 0 ∧ x.superseded = false := by
  obtain ⟨u, hu⟩ : ∃ u, onNeg (fun n => { n with consWanted := false }) s = u := ⟨_, rfl⟩
  have hchain : SameChain s u := by
    rw [← hu]
    exact ⟨⟨rfl, rfl⟩, rfl, rfl, rfl⟩
  have hcu : newestC u = some c := (Records.newestC_reads hchain).trans hc
  have hnoneu : u.neg.cons = none := by rw [← hu]; exact hnone
  have hstu : u.sys.st = .run := by rw [← hu]; exact hst
  have hru : chainReadable u = true := (Records.chainReadable_reads hchain).trans hr
  have hfu : consFits u (consData u c).entries.length = true := by rw [Records.consData_reads hchain, Records.consFits_reads hchain]; exact hf
  have hgen : (consHeader u c).gen = 2 ^ 32 := (Records.nextGen_reads hchain).trans hn
  have hrun : startCons s = workBegins opCons 6 (onNeg (fun n => { n with cons := some (consHeader u c).gen })
      (putHeader (consHeader u c) u)) := by
    simp only [startCons, hu, hcu, hnoneu, hstu, hru, hfu, decide_true, Bool.and_self, if_true]
    rfl
  have hfresh : ∀ x ∈ u.neg.gens, x.gen ≠ (consHeader u c).gen % 2 ^ 32 := by
    rw [hgen, hchain.gens]
    exact hpos
  obtain ⟨x, hx, hxgen, hxleft⟩ := putHeader_wraps hfresh
  rw [hgen] at hxgen
  refine ⟨x, ?_, hxgen, hxleft⟩
  rw [hrun, (workBegins_keeps _ _ _).2.2.2.2.2.2.2.2.2.2.1]
  exact hx

/-! ## The state -/

/-- A committed base with the last number that a record holds. -/
def lastNumber : Gen := { Tests.whole with gen := 2 ^ 32 - 1 }

/-- SETUP with a committed generation 5 listed before that of the last number, and a consolidation asked for. -/
def wrapping : State :=
  let s := Tests.withObjects [(0x9000, 2, 0)] (Tests.powered .setup)
  { s with
    sec := { s.sec with binding := 1 }
    neg := { s.neg with gens := [Tests.gen 5 true true, lastNumber], consWanted := true }
    nand := { s.nand with chans := updAll s.nand.chans fun c ch => { ch with
      anchor := [], region := [32767], pages := if c = 0 then [(32768, ⟨[], false⟩)] else []
      blocks := [(32767, ⟨0, false, false, 0, false, 0, 0⟩)] } } }

/-- The same in RUN once generation 5 is superseded. -/
def wrappingRun : State := { wrapping with
  neg := { wrapping.neg with gens := [{ Tests.gen 5 true true with superseded := true }, lastNumber] } }

theorem wrapping_marked : changeGens (fun g => decide (g.gen ≤ 5)) (fun g => { g with superseded := true }) wrapping.neg.gens =
    wrappingRun.neg.gens := by decide +kernel

theorem openSegs_updateFits (s : State) : openSegs (updateFits s) = openSegs s := by
  unfold updateFits
  dsimp only
  split
  · rfl
  · exact openSegs_raise 39 _

theorem segOf_openSegs {s t : State} (h : openSegs t = openSegs s) (p : Path) : segOf t p = segOf s p := by
  obtain ⟨hbus, htunnels⟩ := Prod.mk.inj h
  cases p with
  | bus => exact hbus
  | tunnel q => exact congrArg (fun x : Fam 4 (Option OpenSeg) => x[q]) htunnels

/-- What RUN_DISCARD leaves of it before RUN is entered. -/
theorem discard_wrapping : (discardPending (touch wrapping)).neg.gens = wrappingRun.neg.gens ∧
    (discardPending (touch wrapping)).neg.cons = none ∧ (discardPending (touch wrapping)).neg.consWanted = true ∧
    SameChain wrappingRun (discardPending (touch wrapping)) ∧ (∀ p, segOf (discardPending (touch wrapping)) p = none) ∧
    (discardPending (touch wrapping)).log = wrapping.log ∧ (discardPending (touch wrapping)).flash = wrapping.flash ∧
    (discardPending (touch wrapping)).cell = wrapping.cell := by
  have htouch : touch wrapping = { wrapping with bus := { wrapping.bus with ack := true } } :=
    touch_of_not_hold wrapping (by decide +kernel)
  obtain ⟨m, hm⟩ : ∃ m, mark 5 2 (touch wrapping) = m := ⟨_, rfl⟩
  have hanchors : ∀ c : ChanId, ((touch wrapping).nand.chans[c]).anchor = [] := by
    rw [htouch]
    decide +kernel
  have hframe : m = { touch wrapping with neg := m.neg } := by
    rw [← hm, mark, noteRecord, putCopies_nowhere hanchors]
    rfl
  have hgens : m.neg = { wrapping.neg with gens := wrappingRun.neg.gens } := by
    rw [← hm, mark_superseded _ (by decide), htouch, ← wrapping_marked]
  have hfree : ∀ (c : ChanId), ∀ p ∈ (m.nand.chans[c]).blocks,
      (decide (p.2.use = 1) && decide (p.2.owner ≤ 5)) = false ∧ p.2.next = 0 := by
    have hnand : m.nand = wrapping.nand := by rw [hframe, htouch]
    rw [hnand]
    decide +kernel
  have hrun : discardPending (touch wrapping) = updateFits m := by
    have hnewest : newestC (touch wrapping) = some (Tests.gen 5 true true) := by
      rw [htouch]
      decide +kernel
    rw [discardPending, hnewest]
    show freeGens (fun k => decide (k ≤ 5)) (mark 5 2 (touch wrapping)) = _
    rw [hm]
    exact freeGens_none hfree
  have hneg : (updateFits m).neg.gens = m.neg.gens ∧ (updateFits m).neg.cons = m.neg.cons ∧
      (updateFits m).neg.consWanted = m.neg.consWanted := by
    rw [DeviceStates.updateFits_neg]
    exact ⟨rfl, rfl, rfl⟩
  rw [hrun]
  obtain ⟨hg, hc, hw⟩ := hneg
  refine ⟨by rw [hg, hgens], by rw [hc, hgens]; rfl, by rw [hw, hgens]; rfl, ⟨⟨?_, ?_⟩, by rw [hg, hgens], ?_, ?_⟩, fun p => ?_,
    ?_, ?_, ?_⟩
  · rw [(updateFits_keeps m).2.2.2.2.2.2.2.2.1, hframe, htouch]
    rfl
  · rw [(updateFits_keeps m).1, hframe, htouch]
    rfl
  · rw [Channels.updateFits_nand, hframe, htouch]
    rfl
  · simp
    rw [hframe, htouch]
    rfl
  · rw [segOf_openSegs (openSegs_updateFits m), hframe, htouch]
    have hnone : ∀ q : PortId, wrapping.bus.tunSeg[q] = none := by decide +kernel
    cases p with
    | bus => rfl
    | tunnel q => exact hnone q
  · simp
    rw [hframe, htouch]
  · simp
    rw [hframe, htouch]
  · simp
    rw [hframe, htouch]

/-- Refutes O8: a consolidation asked for begins as RUN is entered; with 2^32 − 1 the number of a generation that the
discarded one stands before in the list, its header bears the number 2^32, which its record holds as 0: a generation up to
the discarded one that is not superseded. -/
theorem not_requestsFromSetup : ¬ Obligations.RequestsFromSetup := by
  rintro ⟨-, hdiscard, -⟩
  have hfree : busFree wrapping = true := by decide +kernel
  obtain ⟨t, hexec, -, hall⟩ := hdiscard wrapping hfree rfl (by decide +kernel) rfl (by decide +kernel)
  obtain ⟨hleft, -⟩ := hall (Tests.gen 5 true true) (by decide +kernel) (by decide)
  obtain ⟨hgens, hcons, hwanted, hchain, hsegs, hlog, hflash, hcell⟩ := discard_wrapping
  obtain ⟨w, hw⟩ : ∃ w, discardPending (touch wrapping) = w := ⟨_, rfl⟩
  rw [hw] at hgens hcons hwanted hchain hsegs hlog hflash hcell
  have hbound : rebind w = w := if_pos (by rw [hchain.sec]; rfl)
  have halive : (deadChans w).length < 2 := by
    have hsame : deadChans w = deadChans wrapping := by
      simp only [deadChans, chanDead, hchain.nand]
      rfl
    rw [hsame]
    decide +kernel
  obtain ⟨u, hrun, hneg, huchain, hst⟩ := enterRun_chain 0x03 (s := w) hsegs (by rw [hlog]; rfl) (by rw [hflash]; rfl)
    (by rw [hcell]; rfl) halive
  have hauto : autoCons u = startCons u := by
    refine if_pos ?_
    rw [hneg, hwanted]
    rfl
  have hall' := chain_trans hchain huchain
  have hbase : consFits wrappingRun (consData wrappingRun lastNumber).entries.length = true := by
    have hempty : (consData wrappingRun lastNumber).entries.length = 0 := by decide +kernel
    rw [hempty]
    exact Tests.consFits_base _ (by decide +kernel) (by decide +kernel) (by decide +kernel) (by decide +kernel) (by decide +kernel)
  obtain ⟨x, hx, hxgen, hxleft⟩ := startCons_wraps (s := u) (c := lastNumber)
    ((Records.newestC_reads hall').trans (by decide +kernel)) (by rw [hneg]; exact hcons) hst
    ((Records.chainReadable_reads hall').trans (by decide +kernel))
    (by rw [Records.consData_reads hall', Records.consFits_reads hall']; exact hbase)
    ((Records.nextGen_reads hall').trans (by decide +kernel)) (by rw [hneg, hgens]; decide +kernel)
  have hstep : exec .runDiscard wrapping = .next (written (.done, startCons u)) := by
    have hrequest := DeviceStates.exec_requestRow (s := wrapping) (p := (2, .runDiscard)) (by simp [requestRows]) hfree
    refine hrequest.trans (congrArg (fun r => Host.Outcome.next (written r)) ?_)
    have hcode : stateRequest 2 (touch wrapping) = (.done, enterRun 0x03 (rebind (discardPending (touch wrapping)))) := by
      have hquiet : inProgress (touch wrapping) = false := by decide +kernel
      have hsetup : requestState 2 (touch wrapping) = true := by decide +kernel
      unfold stateRequest
      rw [if_neg (by decide), hquiet, hsetup]
      rfl
    rw [hcode, hw, hbound, hrun, hauto]
  have ht : t.neg = (startCons u).neg := by
    have hwritten : ∀ v : State, (written (.done, v)).neg = v.neg := by
      intro v
      unfold written
      dsimp only
      split <;> rfl
    rw [hstep] at hexec
    rw [← Host.Outcome.next.inj hexec, hwritten]
  have hsuper := hleft x (by rw [ht]; exact hx) (by rw [hxgen]; exact Nat.zero_le _)
  rw [hxleft] at hsuper
  exact Bool.noConfusion hsuper

end Sys2Proof.Numbers
end

section
/-! PROOF. A wordline program that has not started, and the reserve of its tile (R297, R331). -/

namespace Sys2Proof.TierReserve

open Sys2Proof Sys2Proof.Machine Sys2Proof.Claims

/-- A tile whose program to tier F has not started: dirty in tier D, with a clean copy in tier S held from the reserve. -/
def waitingTile : Tile :=
  ⟨some ⟨[7], 0, true⟩, some ⟨[7], [], 1, false⟩, some ⟨[(0, 0)], 1, 0, false, none⟩, none, 0, false, false, none⟩

/-- RUN with that tile, and its program waiting in the queue of channel 0. -/
def waitingProgram : State :=
  let s := Tests.powered .run
  { s with
    tiers := { s.tiers with tiles := [(0, waitingTile)] }
    nand := { s.nand with chans := upd s.nand.chans 0 fun ch => { ch with queue := [⟨opProgram 0, 4, 0, false, true, 0, false⟩] } } }

/-- Whether a tile has a copy in tier S after a command. -/
def copyInS (k : Nat) (c : Instr) (s : State) : Bool := match exec c s with
  | .next t => (tileAt t k).s.isSome
  | _ => false

/-- Refutes O42: the end of a wordline program that has not started ends no program, but the clean tier S copy that the tile
holds from the reserve goes back, since tier D has the tile too and no request names it: something has changed. -/
theorem not_tilesInTierF : ¬ Obligations.TilesInTierF := by
  rintro ⟨hprograms, -⟩
  obtain ⟨hends, -⟩ := hprograms waitingProgram 0 0 0 rfl rfl rfl
  obtain ⟨-, hwaits⟩ := hends rfl rfl ⟨[(0, 0)], 1, 0, false, none⟩ rfl rfl (by decide)
  have hnothing : exec (.tierFProgramEnd 0 0) waitingProgram = .next waitingProgram := hwaits (by decide +kernel)
  have hgone : copyInS 0 (.tierFProgramEnd 0 0) waitingProgram = false := by decide +kernel
  have hkept : copyInS 0 (.tierFProgramEnd 0 0) waitingProgram = true := by
    rw [copyInS, hnothing]
    rfl
  rw [hkept] at hgone
  exact Bool.noConfusion hgone

end Sys2Proof.TierReserve
end

section
/-! PROOF. A unit lost to a tile whose key names no account of the module (R352). -/

namespace Sys2Proof.LostTiles

open Sys2Proof Sys2Proof.Machine Sys2Proof.Claims

/-- A tile key whose stream would lie in account 128; the part has accounts 0 to 19. -/
def strangeKey : Nat := 128 * 2 ^ 34

/-- The copy of that tile: unit 0 of stripe 0. -/
def strangeCopy : CopyF := ⟨[(0, 0)], 1, 0, true, none⟩

/-- RUN with source 16 heard and that tile in tier F alone, its unit on page 4096 of channel 0, in a stripe that has no
parity. -/
def strangeTile : State :=
  let s := Tests.powered .run
  { s with
    shadow := aput s.shadow (srcKey 16) 0x808
    tiers := { s.tiers with tiles := [(strangeKey, { Tile.none with f := some strangeCopy })] }
    nand := { s.nand with
      stripes := [(0, ⟨[0], [addressOf 0 4096], none⟩)]
      chans := upd s.nand.chans 0 fun ch => { ch with pages := [(4096, ⟨[], false⟩)], tables := [], anchor := [] } } }

/-- A read in which no codeword decodes, at any level. -/
def nothingRead : UnitRead := ⟨Vector.replicate 8 [], []⟩

/-- The state of a source after a command. -/
def sourceAfter (n : SourceId) (c : Instr) (s : State) : Option SrcState := match exec c s with
  | .next t => some (t.irq.src[n]).st
  | _ => none

/-- A page of a tier F stripe, in no block of the system. -/
theorem holdsAt_of_stripe {s : State} {a i : Nat} {j : Option Nat}
    (hanchor : (s.nand.chans[chanAt a]).anchor.contains (blockOf a) = false)
    (htable : (s.nand.chans[chanAt a]).tables.contains (blockOf a) = false) (hstripe : stripeAt s.nand a = some (i, j)) :
    holdsAt s a = .stripe i j := by
  unfold holdsAt
  dsimp only
  rw [hanchor, htable, hstripe]
  rfl

/-- Refutes O40: a unit that cannot be rebuilt takes the only copy of a tile whose key gives account 128. Its source would be
80 + 128 = 208, which the distributor does not have, so no event is made; source 208 modulo 192, which the statement then
names, is heard and stays inactive. -/
theorem not_nandReads : ¬ Obligations.NandReads := by
  rintro ⟨hreads, -⟩
  obtain ⟨-, hpage⟩ := hreads strangeTile 0 4096 nothingRead ⟨rfl, rfl, by decide +kernel⟩ (by decide)
  obtain ⟨-, hlost⟩ := hpage (by decide +kernel)
  obtain ⟨-, hgone⟩ := hlost (by decide +kernel)
  obtain ⟨htiles, -⟩ := hgone (by decide +kernel)
  obtain ⟨t, ht, -, -, hevent⟩ := htiles 0 0 strangeKey strangeCopy
    (holdsAt_of_stripe (by decide +kernel) (by decide +kernel) (by decide +kernel)) (by decide +kernel) (by decide)
  have hpending : (t.irq.src[(16 : SourceId)]).st = .pending := hevent (by decide +kernel)
  have hsilent : sourceAfter 16 (.nandUnitReadEnd 0 4096 nothingRead) strangeTile = some .inactive := by decide +kernel
  rw [sourceAfter, ht] at hsilent
  exact absurd (hpending.symm.trans (Option.some.inj hsilent)) nofun

end Sys2Proof.LostTiles
end

section
/-! PROOF. What programs of units leave of the NAND: the tables, the regions and the life of its channels (R294 to R302). -/

namespace Sys2Proof.Programs

open Sys2Proof Sys2Proof.Machine Sys2Proof.Families Sys2Proof.Channels

/-! ## On a channel -/

/-- Pages of a channel are programmed: its blocks and pages have changed, and the commands given. -/
def Laid (_ : ChanId) (a b : Channel) : Prop :=
  b = { a with pages := b.pages, blocks := b.blocks, issued := b.issued, sinceTable := b.sinceTable }

/-- Pages of a channel are programmed, and its queue is scheduled anew. -/
def Served (_ : ChanId) (a b : Channel) : Prop :=
  b = { a with pages := b.pages, blocks := b.blocks, erases := b.erases, queue := b.queue, cacheLun := b.cacheLun,
               issued := b.issued, sinceTable := b.sinceTable }

theorem chains_laid : Chains Laid where
  refl _ _ := rfl
  trans c a b d h g := by
    unfold Laid at *
    rw [g, h]

theorem chains_served : Chains Served where
  refl _ _ := rfl
  trans c a b d h g := by
    unfold Served at *
    rw [g, h]

theorem Laid.served {c : ChanId} {a b : Channel} (h : Laid c a b) : Served c a b := by
  unfold Laid at h
  unfold Served
  rw [h]

theorem served_of_rescheduled {c : ChanId} {a b : Channel} (h : Rescheduled c a b) : Served c a b := by
  unfold Rescheduled at h
  unfold Served
  rw [h]

theorem takeBlock_laid (c : ChanId) (use : Fin 4) (owner : Nat) (cands : List Nat) (ch : Channel) :
    Laid c ch (takeBlock c use owner cands ch).2 := by
  unfold takeBlock
  split
  · rfl
  · dsimp only
    split <;> rfl

theorem blockFor_laid (c : ChanId) (use : Fin 4) (owner n : Nat) (cands : List Nat) (ch : Channel) :
    Laid c ch (blockFor c use owner n cands ch).2 := by
  unfold blockFor
  split
  · rfl
  · exact takeBlock_laid c use owner cands ch

/-! ## On the NAND -/

/-- The channels have changed as a relation says, beside them the stripes of tier F and the counts of bytes. -/
structure Stored (R : ChanId → Channel → Channel → Prop) (m n : Nand) : Prop where
  frame : n = { m with chans := n.chans, bytesP := n.bytesP, bytesT := n.bytesT, stripes := n.stripes,
                       openStripe := n.openStripe, nextStripe := n.nextStripe }
  each : Each R m n

variable {R : ChanId → Channel → Channel → Prop}

theorem Stored.refl (h : Chains R) (n : Nand) : Stored R n n := ⟨rfl, Each.refl h n⟩

theorem Stored.trans (h : Chains R) {l m n : Nand} (a : Stored R l m) (b : Stored R m n) : Stored R l n where
  frame := by
    rw [b.frame, a.frame]
  each := Each.trans h a.each b.each

theorem Stored.served {m n : Nand} (h : Stored Laid m n) : Stored Served m n := ⟨h.frame, fun k => (h.each k).served⟩

theorem stored_setChan (h : Chains R) {c : ChanId} {f : Channel → Channel} {n : Nand}
    (hf : R c n.chans[c] (f n.chans[c])) : Stored R n (setChan c f n) := ⟨rfl, Each.setChan h hf⟩

theorem stored_countPage (h : Chains R) (use : Fin 4) (n : Nand) : Stored R n (countPage use n) where
  frame := by
    unfold countPage
    split <;> rfl
  each := Each.of_chans h (countPage_chans use n)

theorem stored_foldl (h : Chains R) {α : Type} {g : State → α → State} (hg : ∀ s a, Stored R s.nand (g s a).nand)
    (l : List α) (s : State) : Stored R s.nand (l.foldl g s).nand := by
  induction l generalizing s with
  | nil => exact Stored.refl h _
  | cons a l ih => exact Stored.trans h (hg s a) (ih _)

theorem programUnit_laid (c : ChanId) (use : Fin 4) (owner : Nat) (cands : List Nat) (data : Nat → List Byte) (n : Nand) :
    Stored Laid n (programUnit c use owner cands data n).2 := by
  unfold programUnit
  have hblock := blockFor_laid c use owner 1 cands n.chans[c]
  generalize blockFor c use owner 1 cands n.chans[c] = r at hblock
  obtain ⟨_ | b, ch⟩ := r
  · exact Stored.refl chains_laid n
  · refine Stored.trans chains_laid (stored_setChan chains_laid ?_) (stored_countPage chains_laid use _)
    exact chains_laid.trans c _ _ _ hblock rfl

theorem closeStripe_laid (i : Nat) (st : FStripe) (n : Nand) : Stored Laid n (closeStripe i st n) := by
  unfold closeStripe
  dsimp only
  split
  · exact ⟨rfl, Each.of_chans chains_laid rfl⟩
  · exact Stored.trans chains_laid (programUnit_laid _ _ _ _ _ n) ⟨rfl, Each.of_chans chains_laid rfl⟩

theorem closeOpen_laid (n : Nand) : Stored Laid n (closeOpen n) := by
  unfold closeOpen
  split
  · exact closeStripe_laid _ _ n
  · exact Stored.refl chains_laid n

theorem putUnitF_laid (key : List Byte) (live : List ChanId) (bs : List Byte) (n : Nand) :
    Stored Laid n (putUnitF key live bs n).2 := by
  unfold putUnitF
  generalize currentStripe live n = p
  obtain ⟨i, st⟩ := p
  dsimp only
  have hunit := programUnit_laid (dataChannel st.live 0 i st.units.length) 2 0
    (n.chans[dataChannel st.live 0 i st.units.length]).regionF (fun a => sealF key a bs) n
  generalize programUnit _ 2 0 _ _ n = r at hunit
  obtain ⟨_ | a, m⟩ := r
  · exact Stored.refl chains_laid n
  · have hstripe : ∀ x : Assoc FStripe, Stored Laid n { m with
        stripes := x, openStripe := some i, nextStripe := max m.nextStripe (i + 1) } := fun x =>
      Stored.trans chains_laid hunit ⟨rfl, Each.of_chans chains_laid rfl⟩
    dsimp only
    split
    · exact Stored.trans chains_laid (hstripe _) (closeStripe_laid i _ _)
    · exact hstripe _

theorem putTile_laid (key : List Byte) (live : List ChanId) (bs : List Byte) (n : Nand) :
    Stored Laid n (putTile key live bs n).2 := by
  have hunits : ∀ (l : List (List Byte)) (r : Option (List (Nat × Nat)) × Nand), Stored Laid r.2
      (l.foldl (fun r u => match r.1 with
        | none => r
        | some ps => let q := putUnitF key live u r.2
          (q.1.map fun p => ps ++ [p], q.2)) r).2 := by
    intro l
    induction l with
    | nil => exact fun r => Stored.refl chains_laid _
    | cons u l ih =>
      intro r
      rw [List.foldl_cons]
      refine Stored.trans chains_laid ?_ (ih _)
      obtain ⟨_ | ps, m⟩ := r
      · exact Stored.refl chains_laid _
      · exact putUnitF_laid key live u m
  exact hunits (asUnits bs) (some [], n)

theorem placeUnits_laid (bs : List Byte) (s : State) : Stored Laid s.nand (placeUnits bs s).2.nand := by
  unfold placeUnits
  split
  · exact Stored.refl chains_laid _
  · have hput := putTile_laid (tierKey s) (liveChans s) bs s.nand
    dsimp only
    split
    · exact hput
    · exact Stored.refl chains_laid _

/-! ## Of a tile -/

theorem arrive_chansOnly (c : ChanId) (o : NandOp) (s : State) : TilePorts.chansOnly s (arrive c o s) := by
  unfold arrive
  split <;> rfl

theorem arrive_served (c : ChanId) (o : NandOp) (s : State) : Stored Served s.nand (arrive c o s).nand where
  frame := by
    rw [arrive_chansOnly c o s]
  each k := served_of_rescheduled (arrive_rescheduled c o s k)

theorem workEnds_served (id : Nat) (s : State) : Stored Served s.nand (workEnds id s).nand where
  frame := by
    rw [TierCare.workEnds_chansOnly id s]
  each k := served_of_rescheduled (workEnds_rescheduled id s k)

theorem queueProgram_served (k cls : Nat) (f : CopyF) (s : State) :
    Stored Served s.nand (queueProgram k cls f s).nand := by
  unfold queueProgram
  exact Stored.trans chains_served (workEnds_served _ s) (stored_foldl chains_served (fun s p => arrive_served _ _ s) _ _)

theorem programF_served (k : Nat) (bs : List Byte) (save cls : Nat) (ended : Bool) (brings left : Option Nat) (s : State) :
    Stored Served s.nand (programF k bs save cls ended brings left s).nand := by
  unfold programF
  dsimp only
  have hplaced := (placeUnits_laid bs s).served
  split
  · exact Stored.trans chains_served hplaced (workEnds_served _ (onTile k _ _))
  · exact Stored.trans chains_served hplaced (queueProgram_served k cls _ (onTile k _ _))

theorem programF_tiers (k : Nat) (bs : List Byte) (save cls : Nat) (ended : Bool) (brings left : Option Nat) (s : State) :
    (programF k bs save cls ended brings left s).tiers =
      { s.tiers with tiles := (programF k bs save cls ended brings left s).tiers.tiles } := by
  unfold programF
  dsimp only
  split <;> simp [onTile, setTile, onTiers]

end Sys2Proof.Programs
end

section
/-! PROOF. Dead channels and their marks (R309 to R314). -/

namespace Sys2Proof.DeadChannels

open Sys2Proof Sys2Proof.Machine Sys2Proof.Claims Sys2Proof.Families Sys2Proof.Channels Sys2Proof.Programs

/-! ## The tables of several channels -/

/-- The tables of some channels written one after the other: one new table on each of them. -/
theorem tables_written (l : List ChanId) (hl : l.Nodup) (s : State) :
    (∀ k : ChanId, k ∈ l → TableWritten k s.nand.chans[k] (l.foldl (fun (s : State) c => writeTable c s) s).nand.chans[k]) ∧
    (∀ k : ChanId, k ∉ l → (l.foldl (fun (s : State) c => writeTable c s) s).nand.chans[k] = s.nand.chans[k]) ∧
    l.foldl (fun (s : State) c => writeTable c s) s = { s with nand := { s.nand with
      chans := (l.foldl (fun (s : State) c => writeTable c s) s).nand.chans
      bytesP := (l.foldl (fun (s : State) c => writeTable c s) s).nand.bytesP } } := by
  induction l generalizing s with
  | nil => exact ⟨fun _ h => absurd h List.not_mem_nil, fun _ _ => rfl, rfl⟩
  | cons c l ih =>
    obtain ⟨hc, hl⟩ := List.nodup_cons.mp hl
    obtain ⟨x, y, heq, hx⟩ := rewriteTable_writes (blocksOf s) c s.nand
    have hfirst : writeTable c s = { s with nand := { s.nand with chans := upd s.nand.chans c fun _ => x, bytesP := y } } :=
      congrArg (fun n => { s with nand := n }) heq
    obtain ⟨hin, hout, hframe⟩ := ih hl (writeTable c s)
    rw [List.foldl_cons]
    have hsame : (writeTable c s).nand.chans[c] = x := by
      rw [hfirst]
      exact upd_same s.nand.chans c _
    have hother : ∀ k, c ≠ k → (writeTable c s).nand.chans[k] = s.nand.chans[k] := by
      intro k hk
      rw [hfirst]
      exact upd_other s.nand.chans c k _ hk
    refine ⟨fun k hk => ?_, fun k hk => ?_, ?_⟩
    · rcases List.mem_cons.mp hk with rfl | hk
      · rw [hout k hc, hsame]
        exact hx
      · rw [← hother k fun h => hc (h ▸ hk)]
        exact hin k hk
    · obtain ⟨hne, hk⟩ := not_or.mp (List.mem_cons.not.mp hk)
      rw [hout k hk, hother k fun h => hne h.symm]
    · rw [hframe, hfirst]

theorem mem_liveChans {s : State} {c : ChanId} : c ∈ liveChans s ↔ chanDead s c = false := by
  simp [liveChans, List.mem_finRange]

theorem mem_deadChans {s : State} {c : ChanId} : c ∈ deadChans s ↔ chanDead s c = true := by
  simp [deadChans, List.mem_finRange]

theorem liveChans_nodup (s : State) : (liveChans s).Nodup := (List.nodup_finRange 8).filter _

theorem writeTables_live {s : State} {k : ChanId} (h : chanDead s k = false) :
    TableWritten k s.nand.chans[k] (writeTables s).nand.chans[k] :=
  (tables_written (liveChans s) (liveChans_nodup s) s).1 k (mem_liveChans.mpr h)

theorem writeTables_dead {s : State} {k : ChanId} (h : chanDead s k = true) :
    (writeTables s).nand.chans[k] = s.nand.chans[k] :=
  (tables_written (liveChans s) (liveChans_nodup s) s).2.1 k fun hk => by
    rw [mem_liveChans.mp hk] at h
    exact Bool.noConfusion h

theorem writeTables_frame (s : State) : writeTables s = { s with nand := { s.nand with
    chans := (writeTables s).nand.chans, bytesP := (writeTables s).nand.bytesP } } :=
  (tables_written (liveChans s) (liveChans_nodup s) s).2.2

/-! ## A death -/

/-- What a death leaves of a channel: everything but its table and the pages of stripes. -/
structure Outlives (tables : U32) (a b : Channel) : Prop where
  state : b.state = a.state
  cause : b.cause = a.cause
  mark : b.mark = a.mark
  queue : b.queue = a.queue
  erases : b.erases = a.erases
  tableSeq : b.tableSeq = a.tableSeq + tables

theorem outlives_refl (a : Channel) : Outlives 0 a a := ⟨rfl, rfl, rfl, rfl, rfl, (BitVec.add_zero _).symm⟩

theorem Outlives.laid {n : U32} {c : ChanId} {x y z : Channel} (h : Outlives n x y) (g : Laid c y z) : Outlives n x z := by
  unfold Laid at g
  rw [g]
  exact ⟨h.state, h.cause, h.mark, h.queue, h.erases, h.tableSeq⟩

theorem outlives_table {c : ChanId} {x y : Channel} (h : TableWritten c x y) : Outlives 1 x y := by
  rw [h.frame]
  exact ⟨rfl, rfl, rfl, rfl, rfl, rfl⟩

/-- A channel as it is declared dead. -/
def deadChannel (cause : Byte) (ch : Channel) : Channel := { ch with
  state := 2, cause := cause, mark := if cause = 1 then ch.mark else cause, queue := [], erases := [], copying := false,
  cacheLun := none }

theorem markDead_nand (c : ChanId) (cause : Byte) (s : State) :
    (markDead c cause s).nand = setChan c (deadChannel cause) s.nand := raise_nand _ _

theorem markDead_same (c : ChanId) (cause : Byte) (s : State) :
    (markDead c cause s).nand.chans[c] = deadChannel cause s.nand.chans[c] := by
  rw [markDead_nand]
  exact setChan_same c _ s.nand

theorem markDead_other {c k : ChanId} (cause : Byte) (s : State) (h : k ≠ c) :
    (markDead c cause s).nand.chans[k] = s.nand.chans[k] := by
  rw [markDead_nand]
  exact setChan_other _ s.nand fun e => h e.symm

theorem markDead_dead (c : ChanId) (cause : Byte) (s : State) : chanDead (markDead c cause s) c = true := by
  rw [chanDead, markDead_same]
  rfl

/-- The mark, and for causes 2 to 4 the tables of the live channels with it. -/
def tabled (c : ChanId) (cause : Byte) (s : State) : State :=
  if cause = 1 then markDead c cause s else writeTables (markDead c cause s)

theorem tabled_same (c : ChanId) (cause : Byte) (s : State) :
    (tabled c cause s).nand.chans[c] = deadChannel cause s.nand.chans[c] := by
  unfold tabled
  split
  · exact markDead_same c cause s
  · rw [writeTables_dead (markDead_dead c cause s), markDead_same]

theorem tabled_other {c k : ChanId} (cause : Byte) {s : State} (h : k ≠ c) (hk : chanDead s k = false) :
    Outlives (if cause = 1 then 0 else 1) s.nand.chans[k] (tabled c cause s).nand.chans[k] := by
  unfold tabled
  split
  · rw [markDead_other cause s h]
    exact outlives_refl _
  · rw [← markDead_other cause s h]
    refine outlives_table (writeTables_live ?_)
    rw [chanDead, markDead_other cause s h]
    exact hk

theorem tabled_dead {c k : ChanId} (cause : Byte) {s : State} (h : chanDead s k = true) :
    chanDead (tabled c cause s) k = true := by
  by_cases hk : k = c
  · subst hk
    rw [chanDead, tabled_same]
    rfl
  · have hmark : chanDead (markDead c cause s) k = true := by
      rw [chanDead, markDead_other cause s hk]
      exact h
    unfold tabled
    split
    · exact hmark
    · rw [chanDead, writeTables_dead hmark]
      exact hmark

/-- The width of stripes follows the live channels; the stripe that is open is closed where they have changed. -/
theorem updateWidth_laid (s : State) : Stored Laid
    { s.nand with width := if (liveChans s).length = 8 then 7 else 6 } (updateWidth s).nand := by
  have hwidth : { s.nand with width := if decide ((liveChans s).length = 8) then 7 else 6 } =
      { s.nand with width := if (liveChans s).length = 8 then 7 else 6 } := by simp only [decide_eq_true_eq]
  rw [← hwidth]
  unfold updateWidth onNand
  dsimp only
  generalize (if decide ((liveChans s).length = 8) then (7 : Byte) else 6) = w
  split
  · exact closeOpen_laid _
  · exact Stored.refl chains_laid _

theorem declareDead_nand (c : ChanId) (cause : Byte) (s : State) :
    (declareDead c cause s).nand = (updateWidth (tabled c cause s)).nand := updateFits_nand _

theorem declareDead_laid (c : ChanId) (cause : Byte) (s : State) (k : ChanId) :
    Laid k (tabled c cause s).nand.chans[k] (declareDead c cause s).nand.chans[k] := by
  rw [declareDead_nand]
  exact (updateWidth_laid (tabled c cause s)).each k

theorem declareDead_same (c : ChanId) (cause : Byte) (s : State) :
    Outlives 0 (deadChannel cause s.nand.chans[c]) (declareDead c cause s).nand.chans[c] := by
  rw [← tabled_same]
  exact (outlives_refl _).laid (declareDead_laid c cause s c)

theorem declareDead_other {c k : ChanId} (cause : Byte) {s : State} (h : k ≠ c) (hk : chanDead s k = false) :
    Outlives (if cause = 1 then 0 else 1) s.nand.chans[k] (declareDead c cause s).nand.chans[k] :=
  (tabled_other cause h hk).laid (declareDead_laid c cause s k)

theorem chanDead_of_state {s t : State} {k : ChanId} (h : (t.nand.chans[k]).state = (s.nand.chans[k]).state) :
    chanDead t k = chanDead s k := by simp only [chanDead, h]

theorem declareDead_dead {c k : ChanId} (cause : Byte) {s : State} (h : chanDead s k = true) :
    chanDead (declareDead c cause s) k = true :=
  (chanDead_of_state ((outlives_refl _).laid (declareDead_laid c cause s k)).state).trans (tabled_dead cause h)

theorem declareDead_itself (c : ChanId) (cause : Byte) (s : State) : chanDead (declareDead c cause s) c = true := by
  rw [chanDead, (declareDead_same c cause s).state]
  rfl

theorem declareDead_width (c : ChanId) (cause : Byte) (s : State) : (declareDead c cause s).nand.width = 6 := by
  have hdead : chanDead (tabled c cause s) c = true := by
    rw [chanDead, tabled_same]
    rfl
  have hlive : (liveChans (tabled c cause s)).length < 8 := by
    have hlt := List.length_filter_lt_length_iff_exists (p := fun k => !chanDead (tabled c cause s) k)
      (l := List.finRange 8) |>.mpr ⟨c, List.mem_finRange c, by simp [hdead]⟩
    rwa [List.length_finRange] at hlt
  have hframe := congrArg Nand.width (updateWidth_laid (tabled c cause s)).frame
  rw [declareDead_nand, hframe]
  exact if_neg (by omega)

theorem tabled_frame (c : ChanId) (cause : Byte) (s : State) : (tabled c cause s).irq = (markDead c cause s).irq := by
  unfold tabled
  split
  · rfl
  · simp

theorem declareDead_event (c : ChanId) (cause : Byte) (s : State) :
    gotEvent s (declareDead c cause s) (Fin.ofNat 192 (48 + 4 * c.val)) := by
  have hc : (Fin.ofNat 192 (48 + 4 * c.val)).val = 48 + 4 * c.val := Nat.mod_eq_of_lt (by omega)
  have hmark : gotEvent s (markDead c cause s) (Fin.ofNat 192 (48 + 4 * c.val)) :=
    Events.gotEvent_raised _ (by omega) ⟨rfl, rfl, rfl, rfl, rfl⟩
  refine Events.gotEvent_kept hmark ?_
  have hfits := Events.updateFits_src (n := Fin.ofNat 192 (48 + 4 * c.val)) (by omega)
    (updateWidth (tabled c cause s))
  refine hfits.trans ?_
  change (tabled c cause s).irq.src[_] = _
  rw [tabled_frame]

theorem updateFits_neg_frame (s : State) : (updateFits s).neg = { s.neg with baseFits := (updateFits s).neg.baseFits } := by
  unfold updateFits
  dsimp only
  split
  · rfl
  · simp [onNeg]

theorem declareDead_frame (c : ChanId) (cause : Byte) (s : State) : declareDead c cause s = { s with
    nand := (declareDead c cause s).nand
    neg := { s.neg with baseFits := (declareDead c cause s).neg.baseFits }
    irq := (declareDead c cause s).irq
    bus := (declareDead c cause s).bus
    free := (declareDead c cause s).free } := by
  have hneg : (declareDead c cause s).neg = { s.neg with baseFits := (declareDead c cause s).neg.baseFits } := by
    have htabled : (updateWidth (tabled c cause s)).neg = s.neg := by
      change (tabled c cause s).neg = s.neg
      unfold tabled
      split <;> simp
    have h := updateFits_neg_frame (updateWidth (tabled c cause s))
    rw [htabled] at h
    exact h
  apply State.ext
  case neg => exact hneg
  all_goals simp

/-! ## What a death leads to -/

theorem two_dead {s : State} {c k : ChanId} (hc : chanDead s c = true) (hk : chanDead s k = true) (h : k ≠ c) :
    2 ≤ (deadChans s).length := by
  have hpair : [k, c].Subperm (deadChans s) := by
    refine List.Nodup.subperm (by simp [h]) fun x hx => mem_deadChans.mpr ?_
    rcases List.mem_pair.mp hx with rfl | rfl
    · exact hk
    · exact hc
  exact hpair.length_le

theorem one_dead {s : State} {c : ChanId} (h : ∀ k, k ≠ c → chanDead s k = false) : (deadChans s).length < 2 := by
  have hsub : (deadChans s).Subperm [c] := by
    refine List.Nodup.subperm ((List.nodup_finRange 8).filter _) fun x hx => ?_
    by_contra hne
    rw [List.mem_singleton] at hne
    exact Bool.noConfusion ((h x hne).symm.trans (mem_deadChans.mp hx))
  exact Nat.lt_succ_of_le hsub.length_le

theorem alive_of_none {s : State} (h : deadChans s = []) (k : ChanId) : chanDead s k = false := by
  cases hk : chanDead s k with
  | false => rfl
  | true => exact absurd (mem_deadChans.mpr hk) (h ▸ List.not_mem_nil)

theorem declareDead_sys (c : ChanId) (cause : Byte) (s : State) : (declareDead c cause s).sys = s.sys := by simp

theorem afterDead_first {s : State} (hst : s.sys.st = .run ∨ s.sys.st = .setup) (h : (deadChans s).length < 2) :
    afterDead s = s := by
  have htwo : decide (2 ≤ (deadChans s).length) = false := decide_eq_false (by omega)
  unfold afterDead
  rcases hst with hst | hst <;> simp only [hst, htwo, Bool.false_eq_true, if_false]

theorem afterDead_second {s : State} (hst : s.sys.st = .run) (h : 2 ≤ (deadChans s).length) :
    afterDead s = enterFault 4 0x0C s := by
  unfold afterDead
  simp only [hst, decide_eq_true h, if_true]

theorem nandRuns_of_works {s : State} {c : ChanId} (h : works s c) : nandRuns s c = true := by
  obtain ⟨hmain, hpll, halive⟩ := h
  simp only [nandRuns, hmain, hpll, halive, Bool.not_false, Bool.and_self]

theorem exec_channelDead {s : State} {c : ChanId} {cause : Fin 5} (h : works s c) (hd : deadCause s c cause.val = true) :
    exec (.channelDead c cause) s = .next (afterDead (declareDead c (BitVec.ofNat 8 cause.val) s)) := by
  show Host.Outcome.next _ = _
  rw [nandRuns_of_works h, hd]
  rfl

theorem byteCause_one : ∀ cause : Fin 5, BitVec.ofNat 8 cause.val = (1 : Byte) ↔ cause = 1 := by decide

/-! ## The marks -/

theorem row5010_B : rowOf 0x5010 0xB = some (wo 0x5010 1 0xB 1 .bool 1 0 1) := by rfl

theorem checks5010_B {s : State} (hst : s.sys.st = .setup) : writeChecks s .bus 0x5010 0xB [1] = .done := by
  have hrow : existence (small s) 0x5010 0xB = .done := by cases small s <;> rfl
  cases hmain : s.sys.mainOn <;>
    simp [writeChecks, firstOf, hrow, pathCheck, claimOnly, classCheck, accOf, row5010_B, wo, stateCheck, servedCheck,
      mainHolds, hst, hmain, bootFault, writeState, sessionCheck, protectionCheck, valueCheck, leNat, rangeOk]

/-- Every channel with its mark gone. -/
def unmarked (s : State) : State :=
  onNand (fun n => { n with chans := updAll n.chans fun _ ch => { ch with mark := 0 } }) s

theorem unmarked_chan (s : State) (c : ChanId) : (unmarked s).nand.chans[c] = { s.nand.chans[c] with mark := 0 } :=
  updAll_get s.nand.chans (fun _ ch => { ch with mark := 0 }) c

theorem unmarked_dead (s : State) (c : ChanId) : chanDead (unmarked s) c = chanDead s c :=
  chanDead_of_state (by rw [unmarked_chan])

theorem clearMarks_unmarks (s : State) : clearMarks s = writeTables (unmarked s) := rfl

theorem clearMarks_chan (s : State) (c : ChanId) :
    Outlives (if chanDead s c then 0 else 1) { s.nand.chans[c] with mark := 0 } (clearMarks s).nand.chans[c] := by
  rw [← unmarked_chan, clearMarks_unmarks]
  cases hc : chanDead s c with
  | true =>
    rw [writeTables_dead ((unmarked_dead s c).trans hc)]
    exact outlives_refl _
  | false => exact outlives_table (writeTables_live ((unmarked_dead s c).trans hc))

theorem marksCleared {s : State} (hfree : busFree s = true) (hst : s.sys.st = .setup) :
    ∃ t, exec .clearDeadMarks s = .next t ∧ answered t .done ∧
    (∀ c : ChanId, (t.nand.chans[c]).mark = 0 ∧ (t.nand.chans[c]).state = (s.nand.chans[c]).state ∧
      (t.nand.chans[c]).cause = (s.nand.chans[c]).cause ∧
      (t.nand.chans[c]).tableSeq = (s.nand.chans[c]).tableSeq + (if chanDead s c then 0 else 1)) ∧
    t = { s with nand := { s.nand with chans := t.nand.chans, bytesP := t.nand.bytesP }, bus := t.bus } := by
  have hidle := DeviceStates.touch_not_busy hfree
  have htouch := touch_of_not_hold s (by simp [hst])
  have hchecks : writeChecks (touch s) .bus 0x5010 0xB [1] = .done := checks5010_B (by rw [htouch]; exact hst)
  have hexec : exec .clearDeadMarks s = .next (written (.done, clearMarks (touch s))) := by
    simp only [exec, execClearDeadMarks, hostWrite_takes 0x5010 0xB [1] s _ hfree (by decide) hchecks
      (CounterLog.idleTrigger_one _ _) row5010_B rfl]
    rfl
  have hframe : clearMarks (touch s) = { touch s with nand := { (touch s).nand with
      chans := (clearMarks (touch s)).nand.chans, bytesP := (clearMarks (touch s)).nand.bytesP } } := by
    rw [clearMarks_unmarks]
    exact writeTables_frame (unmarked (touch s))
  have hdone : (clearMarks (touch s)).bus.busy = false := by
    rw [hframe]
    exact hidle
  rw [DeviceStates.written_eq_reply hdone] at hexec
  have hchan : ∀ c : ChanId, Outlives (if chanDead s c then 0 else 1) { s.nand.chans[c] with mark := 0 }
      (clearMarks (touch s)).nand.chans[c] := by
    intro c
    have hnand : (touch s).nand = s.nand := by rw [htouch]; rfl
    have hdead : chanDead (touch s) c = chanDead s c := by rw [htouch]; rfl
    have h := clearMarks_chan (touch s) c
    rwa [hnand, hdead] at h
  generalize clearMarks (touch s) = u at hexec hframe hdone hchan
  refine ⟨_, hexec, answered_reply _ _ hdone, fun c => ⟨(hchan c).mark, (hchan c).state, (hchan c).cause,
    (hchan c).tableSeq⟩, ?_⟩
  rw [htouch] at hframe
  rw [hframe]
  rfl

theorem channelsDie : Claims.ChannelsDie := by
  refine ⟨fun s c cause hw => ⟨fun hno => ?_, fun hd hnone hst => ?_, fun hd ⟨k, hk, hdead⟩ hst => ?_⟩, fun s hfree hst => ?_⟩
  · show Host.Outcome.next _ = _
    rw [hno, Bool.and_false]
    rfl
  · have halive := alive_of_none hnone
    have hsame := declareDead_same c (BitVec.ofNat 8 cause.val) s
    have hother := fun k (hk : k ≠ c) => declareDead_other (BitVec.ofNat 8 cause.val) hk (halive k)
    have hone : (deadChans (declareDead c (BitVec.ofNat 8 cause.val) s)).length < 2 := one_dead fun k hk =>
      (chanDead_of_state (hother k hk).state).trans (halive k)
    refine ⟨_, exec_channelDead hw hd, ?_⟩
    rw [afterDead_first (by rw [declareDead_sys]; exact hst) hone]
    refine ⟨hsame.state, hsame.cause, ?_, hsame.queue, hsame.erases, declareDead_width _ _ _, declareDead_event _ _ _,
      fun k hk => ⟨(hother k hk).state, (hother k hk).mark, ?_⟩, declareDead_frame _ _ _⟩
    · rw [hsame.mark]
      exact if_congr (byteCause_one cause) rfl rfl
    · rw [(hother k hk).tableSeq]
      exact congrArg _ (if_congr (byteCause_one cause) rfl rfl)
  · refine ⟨_, exec_channelDead hw hd, ?_⟩
    rw [afterDead_second (by rw [declareDead_sys]; exact hst)
      (two_dead (declareDead_itself _ _ _) (declareDead_dead _ hdead) hk)]
    refine ⟨?_, ?_, ?_, ?_, ?_, ?_, ?_, ?_, ?_⟩ <;> simp [hst]
  · exact marksCleared hfree hst

end Sys2Proof.DeadChannels
end

section
/-! PROOF. The tables and the regions of blank NAND (R292 to R296). -/

namespace Sys2Proof.DeadChannels

open Sys2Proof Sys2Proof.Machine Sys2Proof.Claims Sys2Proof.Families Sys2Proof.Channels Sys2Proof.Programs

/-! ## Several channels changed -/

theorem onChans_nand (cs : List ChanId) (f : ChanId → Channel → Channel) (s : State) : onChans cs f s =
    { s with nand := { s.nand with chans := cs.foldl (fun w c => upd w c (f c)) s.nand.chans } } := by
  unfold onChans
  induction cs generalizing s with
  | nil => rfl
  | cons c cs ih =>
    rw [List.foldl_cons, List.foldl_cons, ih]
    rfl

theorem onChans_chan {cs : List ChanId} (hcs : cs.Nodup) (f : ChanId → Channel → Channel) (s : State) (k : ChanId) :
    (onChans cs f s).nand.chans[k] = if k ∈ cs then f k s.nand.chans[k] else s.nand.chans[k] := by
  rw [onChans_nand]
  exact foldl_upd_get f cs hcs s.nand.chans k

theorem onLive_chan (f : ChanId → Channel → Channel) (s : State) (k : ChanId) :
    (onChans (liveChans s) f s).nand.chans[k] = if chanDead s k then s.nand.chans[k] else f k s.nand.chans[k] := by
  rw [onChans_chan (liveChans_nodup s) f s k]
  simp only [mem_liveChans]
  cases chanDead s k <;> rfl

/-! ## The steps of the setup -/

theorem systemBlocks_keeps (ids : List Nat) (c : ChanId) (ch : Channel) :
    (systemBlocks ids c ch).state = ch.state ∧ (systemBlocks ids c ch).tableSeq = ch.tableSeq := by
  unfold systemBlocks
  split <;> exact ⟨rfl, rfl⟩

/-- Blank NAND with its system blocks chosen. -/
def withSystemBlocks (s : State) : State :=
  onNand (fun n => { n with blank := false }) (onChans (liveChans s) (systemBlocks (blocksOf s)) s)

theorem withSystemBlocks_chan (s : State) (k : ChanId) :
    ((withSystemBlocks s).nand.chans[k]).state = (s.nand.chans[k]).state ∧
    ((withSystemBlocks s).nand.chans[k]).tableSeq = (s.nand.chans[k]).tableSeq := by
  have hchan : (withSystemBlocks s).nand.chans[k] =
      if chanDead s k then s.nand.chans[k] else systemBlocks (blocksOf s) k s.nand.chans[k] := onLive_chan _ s k
  rw [hchan]
  split
  · exact ⟨rfl, rfl⟩
  · exact systemBlocks_keeps _ _ _

theorem withSystemBlocks_frame (s : State) : withSystemBlocks s = { s with
    nand := { s.nand with chans := (withSystemBlocks s).nand.chans, blank := false } } := by
  unfold withSystemBlocks
  rw [onChans_nand]
  rfl

theorem liveChans_of_state {s t : State} (h : ∀ k : ChanId, (t.nand.chans[k]).state = (s.nand.chans[k]).state) :
    liveChans t = liveChans s := by
  simp only [liveChans, chanDead, h]

/-- The regions of every live channel, laid out for a number of blocks. -/
def withRegions (k : Nat) (s : State) : State := onChans (liveChans s) (fun c ch => regionsOf (blocksOf s) k c ch) s

theorem withRegions_chan (n : Nat) (s : State) (k : ChanId) : (withRegions n s).nand.chans[k] =
    if chanDead s k then s.nand.chans[k] else regionsOf (blocksOf s) n k s.nand.chans[k] := onLive_chan _ s k

theorem withRegions_kept (n : Nat) (s : State) (k : ChanId) :
    ((withRegions n s).nand.chans[k]).state = (s.nand.chans[k]).state ∧
    ((withRegions n s).nand.chans[k]).tableSeq = (s.nand.chans[k]).tableSeq := by
  rw [withRegions_chan]
  split <;> exact ⟨rfl, rfl⟩

theorem regionsOf_lie (ids : List Nat) (n : Nat) (c : ChanId) (ch : Channel) :
    (regionsOf ids n c ch).region.length ≤ n ∧
    ∀ b ∈ (regionsOf ids n c ch).regionF, b ∉ (regionsOf ids n c ch).region ∧ lunOf b ≠ 0 := by
  refine ⟨List.length_take_le n _, fun b hb => ?_⟩
  have hlies := (List.mem_filter.mp hb).2
  simp only [Bool.and_eq_true, decide_eq_true_eq, Bool.not_eq_true', List.contains_eq_mem, decide_eq_false_iff_not] at hlies
  obtain ⟨⟨⟨-, hlun⟩, hregion⟩, -⟩ := hlies
  exact ⟨hregion, hlun⟩

theorem updateLife_nand (s : State) : (updateLife s).nand = { s.nand with
    lifeP := (updateLife s).nand.lifeP, lifeT := (updateLife s).nand.lifeT } := by
  unfold updateLife
  dsimp only
  split
  · rw [fold_nand _ fun s c => Channels.raise_nand _ s]
    rfl
  · rfl

theorem updateLife_fields (s : State) : (updateLife s).nand.blank = s.nand.blank ∧ (updateLife s).nand.width = s.nand.width ∧
    (updateLife s).nand.regionPct = s.nand.regionPct ∧ (updateLife s).nand.negBytes = s.nand.negBytes ∧
    (updateLife s).nand.tierFBytes = s.nand.tierFBytes := by
  rw [updateLife_nand]
  exact ⟨rfl, rfl, rfl, rfl, rfl⟩

/-- The regions laid out for a share of the NAND, with what the objects then show of them. -/
def regioned (percent : Nat) (s : State) : State :=
  onNand (fun n => { n with
    regionPct := percent, negBytes := BitVec.ofNat 64 (regionBytes (withRegions (regionBlocks s percent) s) percent),
    tierFBytes := if n.blank then 0 else BitVec.ofNat 64 (capacityF (withRegions (regionBlocks s percent) s)) })
    (withRegions (regionBlocks s percent) s)

theorem setRegions_eq (percent : Nat) (s : State) : setRegions percent s = updateLife (regioned percent s) := rfl

theorem regioned_chans (percent : Nat) (s : State) :
    (regioned percent s).nand.chans = (withRegions (regionBlocks s percent) s).nand.chans := rfl

theorem regioned_fields (percent : Nat) {s : State} (h : s.nand.blank = false) :
    (regioned percent s).nand.blank = false ∧ (regioned percent s).nand.regionPct = percent ∧
    (regioned percent s).nand.negBytes = BitVec.ofNat 64 (regionBytes s percent) ∧
    (regioned percent s).nand.tierFBytes = BitVec.ofNat 64 (capacityF (regioned percent s)) := by
  have hregions : withRegions (regionBlocks s percent) s = { s with
      nand := { s.nand with chans := (withRegions (regionBlocks s percent) s).nand.chans } } := by
    unfold withRegions
    rw [onChans_nand]
  have hblank : (withRegions (regionBlocks s percent) s).nand.blank = false := by
    rw [hregions]
    exact h
  refine ⟨hblank, rfl, ?_, ?_⟩
  · refine congrArg (BitVec.ofNat 64) ?_
    rw [hregions]
    rfl
  · exact (if_neg (by rw [hblank]; exact Bool.noConfusion)).trans rfl

theorem capacityF_of_fields {s t : State} (hstate : ∀ k : ChanId, (t.nand.chans[k]).state = (s.nand.chans[k]).state)
    (hregion : ∀ k : ChanId, (t.nand.chans[k]).regionF = (s.nand.chans[k]).regionF) (hwidth : t.nand.width = s.nand.width) :
    capacityF t = capacityF s := by
  simp only [capacityF, liveChans_of_state hstate, hregion, hwidth]

/-! ## The setup -/

/-- What the tables and the tiles placed after the regions leave of a channel. -/
structure Regioned (tables : U32) (a b : Channel) : Prop where
  state : b.state = a.state
  tableSeq : b.tableSeq = a.tableSeq + tables
  region : b.region = a.region
  regionF : b.regionF = a.regionF

theorem Regioned.served {n : U32} {c : ChanId} {x y z : Channel} (h : Regioned n x y) (g : Served c y z) : Regioned n x z := by
  unfold Served at g
  rw [g]
  exact ⟨h.state, h.tableSeq, h.region, h.regionF⟩

theorem writeTables_regioned (s : State) (k : ChanId) :
    Regioned (if chanDead s k then 0 else 1) s.nand.chans[k] (writeTables s).nand.chans[k] := by
  cases hk : chanDead s k with
  | true =>
    rw [writeTables_dead hk]
    exact ⟨rfl, (BitVec.add_zero _).symm, rfl, rfl⟩
  | false =>
    rw [(writeTables_live hk).frame]
    exact ⟨rfl, rfl, rfl, rfl⟩

theorem placeAgain_served (k : Nat) (s : State) : Stored Served s.nand (placeAgain k s).nand := by
  unfold placeAgain
  split
  · split
    · exact programF_served _ _ _ _ _ _ _ s
    · exact Stored.refl chains_served _
  · exact Stored.refl chains_served _

theorem placeWaiting_served (s : State) : Stored Served s.nand (placeWaiting s).nand :=
  stored_foldl chains_served (fun s k => placeAgain_served k s) _ s

theorem blankBuilt_eq {s : State} (h : buildsBlank s = true) : blankBuilt s = placeWaiting (updateFits (writeTables
    (updateLife (regioned s.nand.regionPct (withSystemBlocks s))))) := by
  have hpct : (withSystemBlocks s).nand.regionPct = s.nand.regionPct := by rw [withSystemBlocks_frame]
  have hbuilt : blankBuilt s = placeWaiting (updateFits (writeTables
      (setRegions (withSystemBlocks s).nand.regionPct (withSystemBlocks s)))) := if_neg (by simp [h])
  rw [hbuilt, hpct, setRegions_eq]

/-- What the setup does after the regions: tables, and the tiles that waited for them. -/
def finished (u : State) : State := placeWaiting (updateFits (writeTables (updateLife u)))

/-- The state in which the tiles that waited are placed. -/
theorem finished_places (u : State) : ∃ v, finished u = placeWaiting v ∧ v.nand = (writeTables (updateLife u)).nand :=
  ⟨_, rfl, updateFits_nand _⟩

theorem finished_chan (u : State) (k : ChanId) :
    Regioned (if chanDead u k then 0 else 1) u.nand.chans[k] (finished u).nand.chans[k] := by
  obtain ⟨v, hv, hnand⟩ := finished_places u
  have htables := writeTables_regioned (updateLife u) k
  have hplaced := (placeWaiting_served v).each k
  have hdead : chanDead (updateLife u) k = chanDead u k := by simp only [chanDead, Events.updateLife_chans]
  rw [hnand] at hplaced
  rw [hdead, Events.updateLife_chans] at htables
  rw [hv]
  exact htables.served hplaced

theorem writeTables_fields (s : State) : (writeTables s).nand.blank = s.nand.blank ∧
    (writeTables s).nand.width = s.nand.width ∧ (writeTables s).nand.regionPct = s.nand.regionPct ∧
    (writeTables s).nand.negBytes = s.nand.negBytes ∧ (writeTables s).nand.tierFBytes = s.nand.tierFBytes := by
  rw [writeTables_frame]
  exact ⟨rfl, rfl, rfl, rfl, rfl⟩

theorem finished_fields (u : State) : (finished u).nand.blank = u.nand.blank ∧ (finished u).nand.width = u.nand.width ∧
    (finished u).nand.regionPct = u.nand.regionPct ∧ (finished u).nand.negBytes = u.nand.negBytes ∧
    (finished u).nand.tierFBytes = u.nand.tierFBytes := by
  obtain ⟨v, hv, hnand⟩ := finished_places u
  obtain ⟨hblank, hwidth, hpct, hneg, htier⟩ := writeTables_fields (updateLife u)
  obtain ⟨hblank', hwidth', hpct', hneg', htier'⟩ := updateLife_fields u
  rw [hv, (placeWaiting_served v).frame, hnand]
  exact ⟨hblank.trans hblank', hwidth.trans hwidth', hpct.trans hpct', hneg.trans hneg', htier.trans htier'⟩

theorem blankBuilt_neg (s : State) : (blankBuilt s).neg = { s.neg with baseFits := (blankBuilt s).neg.baseFits } := by
  cases h : buildsBlank s with
  | false =>
    have hsame : blankBuilt s = s := if_pos (by rw [h]; rfl)
    rw [hsame]
  | true =>
    have hfits := updateFits_neg_frame (writeTables (updateLife (regioned s.nand.regionPct (withSystemBlocks s))))
    have hneg : (regioned s.nand.regionPct (withSystemBlocks s)).neg = s.neg := by
      unfold regioned withRegions withSystemBlocks
      rw [onChans_nand, onChans_nand]
      rfl
    rw [blankBuilt_eq h]
    simp only [placeWaiting_keeps]
    simp only [writeTables_keeps, updateLife_keeps, hneg] at hfits
    exact hfits

theorem blankNandIsSetUp : Claims.BlankNandIsSetUp := by
  intro s h hpll
  obtain ⟨u, hu⟩ : ∃ u, regioned s.nand.regionPct (withSystemBlocks s) = u := ⟨_, rfl⟩
  have hbuilt : blankBuilt s = finished u := by rw [← hu]; exact blankBuilt_eq h
  have hexec : exec .blankNandSetupEnd s = .next (blankBuilt s) := congrArg Host.Outcome.next (if_pos hpll)
  have hsystem := withSystemBlocks_frame s
  have hstates := fun k => (withSystemBlocks_chan s k).1
  have hlive : liveChans (withSystemBlocks s) = liveChans s := liveChans_of_state hstates
  have hbytes : regionBytes (withSystemBlocks s) s.nand.regionPct = regionBytes s s.nand.regionPct := by
    rw [hsystem]
    rfl
  have hblocks : regionBlocks (withSystemBlocks s) s.nand.regionPct = regionBlocks s s.nand.regionPct := by
    simp only [regionBlocks, hlive, hbytes]
  obtain ⟨hblank, hpct, hneg, htier⟩ := regioned_fields s.nand.regionPct (s := withSystemBlocks s) (by rw [hsystem])
  have hchan : ∀ k : ChanId, u.nand.chans[k] = if chanDead s k then (withSystemBlocks s).nand.chans[k] else
      regionsOf (blocksOf (withSystemBlocks s)) (regionBlocks s s.nand.regionPct) k (withSystemBlocks s).nand.chans[k] := by
    intro k
    rw [← hu, regioned_chans, ← hblocks, ← chanDead_of_state (hstates k)]
    exact withRegions_chan _ _ k
  have hkept : ∀ k : ChanId, (u.nand.chans[k]).state = (s.nand.chans[k]).state ∧
      (u.nand.chans[k]).tableSeq = (s.nand.chans[k]).tableSeq := by
    intro k
    obtain ⟨hstate, hseq⟩ := withSystemBlocks_chan s k
    rw [← hstate, ← hseq, ← hu, regioned_chans]
    exact withRegions_kept _ (withSystemBlocks s) k
  rw [hu] at hblank hpct hneg htier
  obtain ⟨hblank', hwidth', hpct', hneg', htier'⟩ := finished_fields u
  have hfinished := finished_chan u
  refine ⟨blankBuilt s, hexec, ?_⟩
  rw [hbuilt]
  refine ⟨hblank'.trans hblank, fun k => ?_, fun k hk => ?_, hpct'.trans hpct, ?_, ?_, ?_⟩
  · rw [(hfinished k).tableSeq, (hkept k).2, chanDead_of_state (hkept k).1]
  · rw [(hfinished k).region, (hfinished k).regionF, hchan k, hk]
    exact regionsOf_lie _ _ _ _
  · rw [hneg', hneg, hbytes]
  · rw [htier', htier, capacityF_of_fields (fun k => (hfinished k).state) (fun k => (hfinished k).regionF) hwidth']
  · rw [← hbuilt]
    apply State.ext
    case neg => exact blankBuilt_neg s
    all_goals simp

/-- Settles O41: a channel's death is its mark, the tables of the live channels and the width of stripes, and the second one
in RUN is FAULT; the setup of blank NAND lays out the regions once, and tables and tiles leave them. -/
theorem nandChannels : Obligations.NandChannels := ⟨channelsDie, blankNandIsSetUp⟩

end Sys2Proof.DeadChannels
end

section
/-! PROOF. The schedule of a NAND channel: promotion, suspends and resumes (R298 to R301). -/

namespace Sys2Proof.Schedule

open Sys2Proof Sys2Proof.Machine Sys2Proof.Claims Sys2Proof.Families Sys2Proof.Channels Sys2Proof.DeadChannels

/-! ## What starting operations changes -/

/-- Operations have started: some of the queue are under way, and some erases have let a program pass. -/
structure Started (a b : Channel) : Prop where
  frame : b = { a with queue := b.queue, erases := b.erases }
  queue : b.queue.map (fun q => { q with started := false }) = a.queue.map fun q => { q with started := false }
  erases : ∀ lun e, aget a.erases lun = some e →
    ∃ n, aget b.erases lun = some { e with programs := n } ∧ (e.suspended = false → n = e.programs)

theorem Started.refl (a : Channel) : Started a a := ⟨rfl, rfl, fun _ e h => ⟨e.programs, h, fun _ => rfl⟩⟩

theorem Started.trans {a b d : Channel} (h : Started a b) (g : Started b d) : Started a d where
  frame := by
    rw [g.frame, h.frame]
  queue := g.queue.trans h.queue
  erases lun e he := by
    obtain ⟨n, hn, hruns⟩ := h.erases lun e he
    obtain ⟨m, hm, hruns'⟩ := g.erases lun _ hn
    exact ⟨m, hm, fun hs => (hruns' hs).trans (hruns hs)⟩

theorem markStarted_same (id : Nat) (q : List NandOp) :
    (markStarted id q).map (fun q => { q with started := false }) = q.map fun q => { q with started := false } := by
  rw [markStarted, List.map_map]
  refine List.map_congr_left fun o _ => ?_
  simp only [Function.comp_apply]
  split <;> rfl

theorem startOp_starts (ch : Channel) (o : NandOp) : Started ch (startOp ch o) := by
  unfold startOp
  split
  · exact Started.refl ch
  · split
    · exact ⟨rfl, markStarted_same _ _, (Started.refl ch).erases⟩
    · next e he =>
      split
      · exact Started.refl ch
      · next hgo =>
        refine ⟨rfl, markStarted_same _ _, ?_⟩
        intro lun x hx
        dsimp only
        split
        · by_cases hlun : lun = o.lun.val
          · subst hlun
            rw [he] at hx
            obtain rfl := Option.some.inj hx
            refine ⟨e.programs + 1, aget_aput_same _ _ _, fun hs => absurd ?_ hgo⟩
            rw [hs]
            rfl
          · exact ⟨x.programs, (aget_aput_other _ _ _ _ hlun).trans hx, fun _ => rfl⟩
        · exact ⟨x.programs, hx, fun _ => rfl⟩

theorem startOps_starts (ch : Channel) : Started ch (startOps ch) := by
  unfold startOps
  generalize inOrder ch.queue = ops
  induction ops generalizing ch with
  | nil => exact Started.refl ch
  | cons o ops ih => exact (startOp_starts ch o).trans (ih _)

/-- An operation stays in the queue when operations start. -/
theorem startOps_queued (ch : Channel) (id : Nat) :
    ((startOps ch).queue.any fun q => decide (q.id = id)) = ch.queue.any fun q => decide (q.id = id) := by
  have hany : ∀ l : List NandOp, (l.map fun q => { q with started := false }).any (fun q => decide (q.id = id)) =
      l.any fun q => decide (q.id = id) := fun l => List.any_map
  rw [← hany, (startOps_starts ch).queue, hany]

/-! ## One channel of the NAND -/

/-- A channel alone changed, as `t` itself shows it. -/
theorem onlyChannel_onChan {s : State} {c : ChanId} {f : Channel → Channel} {ch : Channel}
    (h : f s.nand.chans[c] = ch) : onlyChannel s (onChan c f s) c ch := by
  subst h
  exact congrArg (fun n => { s with nand := n }) (setChan_const c f s.nand)

theorem onChan_chan (c : ChanId) (f : Channel → Channel) (s : State) : (onChan c f s).nand.chans[c] = f s.nand.chans[c] :=
  setChan_same c f s.nand

/-- A change of a channel is what it makes of that channel. -/
theorem onChan_here {c : ChanId} {f g : Channel → Channel} {s : State} (h : f s.nand.chans[c] = g s.nand.chans[c]) :
    onChan c f s = onChan c g s := by
  refine congrArg (fun n => { s with nand := n }) ?_
  rw [setChan_const, setChan_const, h]

/-! ## Promotion -/

/-- A channel with an operation of its queue in class 4, and the erase of its LUN asked to suspend. -/
def promotedIn (o : NandOp) (ch : Channel) : Channel := { ch with
  queue := ch.queue.map (fun q => if q.id = o.id then { q with cls := 4 } else q), erases := meetLun o.lun ch.erases }

theorem aget_meetLun (lun : Fin 16) (es : Assoc NandErase) :
    aget (meetLun lun es) lun.val = (aget es lun.val).map meetErase := by
  have hmap : meetLun lun es = es.map fun p => (p.1, if p.1 = lun.val then meetErase p.2 else p.2) := by
    refine List.map_congr_left fun p _ => ?_
    split <;> rfl
  rw [hmap, TierCare.aget_map fun k x => if k = lun.val then meetErase x else x]
  simp only [if_true]

/-- The erase of a LUN under a suspend that comes: at once, or after the time in which it may not. -/
theorem meetErase_suspends {e : NandErase} (hs : e.suspended = false) (hn : e.suspensions < 16) : meetErase e =
    if e.holdoff then { e with wanted := true }
    else { e with suspended := true, suspensions := e.suspensions + 1, programs := 0 } :=
  if_neg (by simp [hs, hn])

theorem promote_eq {s : State} {c : ChanId} {o : NandOp}
    (hfind : (s.nand.chans[c]).queue.find? (fun q => decide (q.id = o.id)) = some o) (hcls : 5 ≤ o.cls)
    (hwaits : o.started = false) : promote c o.id s = onChan c (fun _ => startOps (promotedIn o s.nand.chans[c])) s := by
  have hgo : (decide (o.cls < 5) || o.started) = false := by simp [hwaits]; omega
  refine onChan_here (congrArg startOps ?_)
  simp only [hfind, hgo, Bool.false_eq_true, if_false]
  rfl

theorem promoted_other {s : State} {c : ChanId} {id : Nat} (h : id ≠ opPatrol) : promoted c id s = promote c id s := by
  unfold promoted
  split
  · exact if_neg (by simp [h])
  · rfl

/-! ## The schedule -/

theorem promotions {s : State} {c : ChanId} (hw : works s c) {o : NandOp}
    (hfind : (s.nand.chans[c]).queue.find? (fun q => decide (q.id = o.id)) = some o) (hid : o.id ≠ opPatrol) (hcls : 5 ≤ o.cls)
    (hwaits : o.started = false) : ∃ t, exec (.classPromotion c o.id) s = .next t ∧
      (t.nand.chans[c]).queue.map (fun q => { q with started := false }) = (s.nand.chans[c]).queue.map
        (fun q => if q.id = o.id then { q with cls := 4, started := false } else { q with started := false }) ∧
      (∀ e, aget (s.nand.chans[c]).erases o.lun.val = some e → e.suspended = false → e.suspensions < 16 →
        (e.holdoff = true → aget (t.nand.chans[c]).erases o.lun.val = some { e with wanted := true }) ∧
        (e.holdoff = false → ∃ x, aget (t.nand.chans[c]).erases o.lun.val = some x ∧
          x = { e with suspended := true, suspensions := e.suspensions + 1, programs := x.programs })) ∧
      onlyChannel s t c { s.nand.chans[c] with queue := (t.nand.chans[c]).queue, erases := (t.nand.chans[c]).erases } := by
  have hstarted := startOps_starts (promotedIn o s.nand.chans[c])
  obtain ⟨x, hx⟩ : ∃ x, startOps (promotedIn o s.nand.chans[c]) = x := ⟨_, rfl⟩
  rw [hx] at hstarted
  have hexec : exec (.classPromotion c o.id) s = .next (onChan c (fun _ => x) s) := by
    have hprom : promoted c o.id s = onChan c (fun _ => x) s := by
      rw [promoted_other hid, promote_eq hfind hcls hwaits, hx]
    exact congrArg Host.Outcome.next ((if_pos (nandRuns_of_works hw)).trans hprom)
  refine ⟨_, hexec, ?_⟩
  rw [onChan_chan]
  refine ⟨hstarted.queue.trans ?_, fun e he hs hn => ⟨fun hh => ?_, fun hh => ?_⟩, ?_⟩
  · rw [promotedIn, List.map_map]
    refine List.map_congr_left fun q _ => ?_
    simp only [Function.comp_apply]
    split <;> rfl
  · have hlun := aget_meetLun o.lun (s.nand.chans[c]).erases
    rw [he, Option.map_some, meetErase_suspends hs hn, if_pos hh] at hlun
    obtain ⟨n, hn, hsame⟩ := hstarted.erases _ _ hlun
    rw [hn, hsame hs]
  · have hlun := aget_meetLun o.lun (s.nand.chans[c]).erases
    rw [he, Option.map_some, meetErase_suspends hs hn, if_neg (by rw [hh]; exact Bool.noConfusion)] at hlun
    obtain ⟨n, hn, -⟩ := hstarted.erases _ _ hlun
    exact ⟨_, hn, rfl⟩
  · exact onlyChannel_onChan hstarted.frame

/-- Patrol's read enters the queue. -/
theorem patrolQueued {s : State} {c : ChanId} (hw : works s c) {key : Nat} (hst : s.sys.st = .run)
    (hnext : patrolNext s c = some key) : ∃ t, exec (.classPromotion c opPatrol) s = .next t ∧
      ((t.nand.chans[c]).queue.any fun q => decide (q.id = opPatrol)) = true ∧
      onlyChannel s t c { s.nand.chans[c] with
        queue := (t.nand.chans[c]).queue, erases := (t.nand.chans[c]).erases, cacheLun := (t.nand.chans[c]).cacheLun,
        issued := (t.nand.chans[c]).issued } := by
  obtain ⟨o, ho⟩ : ∃ o : NandOp, o = ⟨opPatrol, 4, lunOf (key / 2 ^ 12), false, false, 0, false⟩ := ⟨_, rfl⟩
  have hid : o.id = opPatrol := by rw [ho]
  have hprom : promoted c opPatrol s = arrive c o s := by
    rw [ho]
    unfold promoted
    rw [hnext]
    exact if_pos (by simp [hst])
  have hexec : exec (.classPromotion c opPatrol) s = .next (arrive c o s) :=
    congrArg Host.Outcome.next ((if_pos (nandRuns_of_works hw)).trans hprom)
  have hsched := arrive_rescheduled c o s c
  have halive : chanDead s c ≠ true := by
    rw [hw.2.2]
    exact Bool.noConfusion
  refine ⟨_, hexec, ?_, ?_⟩
  · rw [arrive, if_neg halive, onQueue, onChan_chan, startOps_queued, ← hid]
    split
    · next h => exact h
    · simp
  · rw [arrive, if_neg halive, onQueue] at hsched ⊢
    rw [onChan_chan] at hsched ⊢
    exact onlyChannel_onChan hsched

theorem resumes {s : State} {c : ChanId} (hw : works s c) {lun : Fin 16} {e : NandErase}
    (he : aget (s.nand.chans[c]).erases lun.val = some e) (hs : e.suspended = true)
    (hbusy : lunBusy s.nand.chans[c] lun = false) (hgo : urgentWaits s.nand.chans[c] lun = false ∨ 8 ≤ e.programs) :
    ∃ t, exec (.nandEraseResume c lun) s = .next t ∧
      aget (t.nand.chans[c]).erases lun.val =
        some { e with suspended := false, holdoff := true, wanted := urgentWaits s.nand.chans[c] lun } ∧
      (∀ k, k ≠ lun.val → aget (t.nand.chans[c]).erases k = aget (s.nand.chans[c]).erases k) ∧
      onlyChannel s t c { s.nand.chans[c] with
        erases := (t.nand.chans[c]).erases, issued := [.eraseResume (pv s 0x5000 8)] } := by
  have hmay : mayResume s.nand.chans[c] lun e = true := by
    rw [mayResume, hs, hbusy]
    rcases hgo with h | h
    · rw [h]
      rfl
    · simp [h]
  refine ⟨_, congrArg Host.Outcome.next (if_pos (nandRuns_of_works hw)), ?_⟩
  unfold resumeErase
  rw [onChan_chan]
  simp only [he, hmay, if_true]
  refine ⟨aget_aput_same _ _ _, fun k hk => aget_aput_other _ _ _ _ hk, onlyChannel_onChan ?_⟩
  simp only [he, hmay, if_true]

/-- An erase when the time ends in which it may not suspend: a suspend that was asked for takes effect. -/
def afterHoldoff (e : NandErase) : NandErase :=
  if e.wanted then meetErase { e with holdoff := false, wanted := false } else { e with holdoff := false, wanted := false }

theorem holdoffEnds_eq {s : State} {c : ChanId} {lun : Fin 16} {e : NandErase}
    (he : aget (s.nand.chans[c]).erases lun.val = some e) (hh : e.holdoff = true) :
    ∃ issued, holdoffEnds c lun s = onChan c (fun _ => startOps { s.nand.chans[c] with
      erases := aput (s.nand.chans[c]).erases lun.val (afterHoldoff e), issued := issued }) s := by
  refine ⟨if e.wanted && decide (e.suspensions < 16) then [.eraseSuspend (pv s 0x5000 7)] else (s.nand.chans[c]).issued,
    onChan_here (congrArg startOps ?_)⟩
  simp only [he, hh, Bool.not_true, Bool.false_eq_true, if_false]
  rfl

theorem holdoffs {s : State} {c : ChanId} (hw : works s c) {lun : Fin 16} {e : NandErase}
    (he : aget (s.nand.chans[c]).erases lun.val = some e) (hh : e.holdoff = true) (hs : e.suspended = false)
    (hn : e.suspensions < 16) : ∃ t, exec (.nandSuspendHoldoffEnd c lun) s = .next t ∧
      (e.wanted = false → aget (t.nand.chans[c]).erases lun.val = some { e with holdoff := false }) ∧
      (e.wanted = true → ∃ x, aget (t.nand.chans[c]).erases lun.val = some x ∧ x = { e with
        holdoff := false, wanted := false, suspended := true, suspensions := e.suspensions + 1, programs := x.programs }) ∧
      onlyChannel s t c { s.nand.chans[c] with
        queue := (t.nand.chans[c]).queue, erases := (t.nand.chans[c]).erases, issued := (t.nand.chans[c]).issued } := by
  obtain ⟨issued, hends⟩ := holdoffEnds_eq he hh
  have hstarted := startOps_starts { s.nand.chans[c] with
    erases := aput (s.nand.chans[c]).erases lun.val (afterHoldoff e), issued := issued }
  generalize startOps _ = x at hends hstarted
  refine ⟨_, congrArg Host.Outcome.next ((if_pos (nandRuns_of_works hw)).trans hends), ?_⟩
  rw [onChan_chan]
  obtain ⟨n, hlun, hruns⟩ := hstarted.erases lun.val _ (aget_aput_same _ _ _)
  refine ⟨fun hwant => ?_, fun hwant => ⟨_, hlun, ?_⟩, onlyChannel_onChan ?_⟩
  · have hover : afterHoldoff e = { e with holdoff := false } := by
      rw [afterHoldoff, if_neg (by rw [hwant]; exact Bool.noConfusion), ← hwant]
    rw [hlun, hover, hruns (by rw [hover]; exact hs), hover]
  · rw [afterHoldoff, if_pos hwant, meetErase_suspends (e := { e with holdoff := false, wanted := false }) hs hn]
    rfl
  · rw [hstarted.frame]

theorem nandSchedule : Claims.NandSchedule := fun _ _ hw =>
  ⟨fun _ hfind hid hcls hwaits => promotions hw hfind hid hcls hwaits, fun _ hst hnext => patrolQueued hw hst hnext,
    fun _ _ he => ⟨fun hs hbusy hgo => resumes hw he hs hbusy hgo, fun hh hs hn => holdoffs hw he hh hs hn⟩⟩

end Sys2Proof.Schedule
end

section
/-! PROOF. Blocks of a NAND channel: failed programs, failed erases, and erases that end (R292 to R297). -/

namespace Sys2Proof.Schedule

open Sys2Proof Sys2Proof.Machine Sys2Proof.Claims Sys2Proof.Families Sys2Proof.Channels Sys2Proof.Programs
  Sys2Proof.DeadChannels

/-! ## Operations that start, and blocks -/

theorem startOps_blockAt (c : ChanId) (ch : Channel) (k : Nat) : blockAt (startOps ch) c k = blockAt ch c k :=
  blockAt_of_blocks (by rw [(startOps_starts ch).frame]) k

theorem startOps_keeps (ch : Channel) : (startOps ch).tables = ch.tables ∧ (startOps ch).region = ch.region ∧
    (startOps ch).regionF = ch.regionF ∧ (startOps ch).tableSeq = ch.tableSeq ∧
    (startOps ch).sinceTable = ch.sinceTable := by
  rw [(startOps_starts ch).frame]
  exact ⟨rfl, rfl, rfl, rfl, rfl⟩

/-- An erase under way is of a block that was being erased before operations started. -/
theorem startOps_erases {P : NandErase → Prop} (hP : ∀ e n, P e → P { e with programs := n }) {ch : Channel}
    (h : ∀ p ∈ ch.erases, P p.2) : ∀ p ∈ (startOps ch).erases, P p.2 := by
  unfold startOps
  generalize inOrder ch.queue = ops
  induction ops generalizing ch with
  | nil => exact h
  | cons o ops ih =>
    refine ih ?_
    unfold startOp
    split
    · exact h
    · split
      · exact h
      · next e he =>
        split
        · exact h
        · dsimp only
          split
          · intro p hp
            rcases mem_aput _ _ _ _ hp with rfl | hp
            · exact hP _ _ (h _ (mem_of_aget he))
            · exact h p hp
          · exact h

/-! ## Blocks retired -/

/-- A block retired: what its channel is before its table is written. -/
def retiredIn (s : State) (c : ChanId) (b : Nat) : Channel := startOps (retired (blocksOf s) c b s.nand.chans[c])

theorem retired_nand (c : ChanId) (b : Nat) (s : State) : ∃ x y, (updateFits (retire c b s)).nand = { s.nand with
    chans := upd s.nand.chans c fun _ => x, grownCount := satInc s.nand.grownCount, bytesP := y } ∧
    TableWritten c (retiredIn s c b) x := by
  obtain ⟨x, y, heq, hx⟩ := rewriteTable_writes (blocksOf s) c (afterRetiring c b s)
  have hchan : (afterRetiring c b s).chans[c] = retiredIn s c b := setChan_same c _ s.nand
  rw [hchan] at hx
  refine ⟨x, y, ?_, hx⟩
  rw [updateFits_nand, retire_nand, heq]
  simp only [afterRetiring, setChan, TilePorts.upd_upd]

/-- What a table leaves of a channel in which a block was retired. -/
structure Retired (c : ChanId) (b : Nat) (a x : Channel) : Prop where
  block : blockAt x c b = { blockAt a c b with use := 0, owner := 0, grown := true, closed := true }
  others : ∀ k, k ≠ b → k ∉ a.tables → blockAt x c k = blockAt a c k
  region : b ∉ x.region
  regionF : b ∉ x.regionF
  tableSeq : x.tableSeq = a.tableSeq + 1

theorem retired_lists (ids : List Nat) (c : ChanId) (b : Nat) (ch : Channel) :
    b ∉ (retired ids c b ch).region ∧ b ∉ (retired ids c b ch).regionF := by
  constructor
  · intro hb
    rcases List.mem_append.mp hb with hb | hb
    · exact of_decide_eq_true (List.mem_filter.mp hb).2 rfl
    · split at hb
      · split at hb
        · next x hx =>
          obtain rfl := List.mem_singleton.mp hb
          have hfound := List.find?_some hx
          simp at hfound
        · exact absurd hb List.not_mem_nil
      · exact absurd hb List.not_mem_nil
  · exact fun hb => of_decide_eq_true (List.mem_filter.mp hb).2 rfl

theorem retired_of_table {s : State} {c : ChanId} {b : Nat} {x : Channel} (h : TableWritten c (retiredIn s c b) x)
    (hb : b ∉ (s.nand.chans[c]).tables) : Retired c b s.nand.chans[c] x := by
  obtain ⟨htables, hregion, hregionF, hseq, -⟩ := startOps_keeps (retired (blocksOf s) c b s.nand.chans[c])
  have hkept : ∀ k, k ∉ (s.nand.chans[c]).tables →
      blockAt x c k = blockAt (retired (blocksOf s) c b s.nand.chans[c]) c k := by
    intro k hk
    exact (h.kept k (by rw [retiredIn, htables]; exact hk)).trans (startOps_blockAt c _ k)
  obtain ⟨hout, houtF⟩ := retired_lists (blocksOf s) c b s.nand.chans[c]
  refine ⟨?_, fun k hne hk => ?_, ?_, ?_, ?_⟩
  · rw [hkept b hb]
    exact (blockAt_onBlock_same c b _ _).trans rfl
  · rw [hkept k hk]
    exact (blockAt_onBlock_other c _ _ hne).trans rfl
  · rw [h.frame]
    exact hregion ▸ hout
  · rw [h.frame]
    exact hregionF ▸ houtF
  · rw [h.frame]
    exact congrArg (· + 1) hseq

theorem retired_event (c : ChanId) (b : Nat) {s u : State} (hu : u.supply = s.supply ∧ u.sys = s.sys ∧ u.shadow = s.shadow ∧
    u.ident = s.ident ∧ u.irq = s.irq) :
    gotEvent s (updateFits (retire c b u)) (Fin.ofNat 192 (50 + 4 * c.val)) := by
  have hc : (Fin.ofNat 192 (50 + 4 * c.val)).val = 50 + 4 * c.val := Nat.mod_eq_of_lt (by omega)
  obtain ⟨hsupply, hsys, hshadow, hident, hirq⟩ := hu
  have hretired : gotEvent s (retire c b u) (Fin.ofNat 192 (50 + 4 * c.val)) := by
    unfold retire
    refine Events.gotEvent_raised _ (by omega) ⟨?_, ?_, ?_, ?_, ?_⟩
    · exact congrArg Supply.aon hsupply
    · exact congrArg Sys.mainOn hsys
    · exact hshadow
    · exact hident
    · exact congrArg (fun q : Irq => q.src[Fin.ofNat 192 (50 + 4 * c.val)]) hirq
  exact Events.gotEvent_kept hretired (Events.updateFits_src (by omega) _)

/-! ## Programs that fail -/

/-- The block of a failed program: its page is left out, and it takes no more. -/
def closedBlock (c : ChanId) (b : Nat) (s : State) : State :=
  onChan c (onBlock c b fun x => { x with closed := true, next := x.next + 1 }) s

theorem closedBlock_block (c : ChanId) (b : Nat) (s : State) : blockAt (closedBlock c b s).nand.chans[c] c b =
    { blockAt s.nand.chans[c] c b with closed := true, next := (blockAt s.nand.chans[c] c b).next + 1 } := by
  rw [closedBlock, onChan_chan, blockAt_onBlock_same]

theorem programFails_alone {s : State} {c : ChanId} {b : Nat} (h : noProgramIn s c b) : programFails c b s =
    if (blockAt s.nand.chans[c] c b).use = 0 then updateFits (retire c b (closedBlock c b s)) else closedBlock c b s := by
  have huse : (blockAt (closedBlock c b s).nand.chans[c] c b).use = (blockAt s.nand.chans[c] c b).use := by
    rw [closedBlock_block]
  rw [← huse]
  unfold programFails
  dsimp only
  rw [(List.filter_eq_nil_iff (l := s.tiers.tiles)).mpr]
  · rfl
  · intro p hp
    split
    · next f hf =>
      rw [h p hp f hf]
      exact Bool.noConfusion
    · exact Bool.noConfusion

theorem programAgain_tiers (k : Nat) (s : State) :
    (programAgain k s).tiers = { s.tiers with tiles := (programAgain k s).tiers.tiles } := by
  unfold programAgain
  dsimp only
  split
  · split
    · exact programF_tiers _ _ _ _ _ _ _ s
    · rfl
  · rfl

theorem programsAgain_tiers (l : List Nat) (s : State) : (l.foldl (fun (s : State) k => programAgain k s) s).tiers =
    { s.tiers with tiles := (l.foldl (fun (s : State) k => programAgain k s) s).tiers.tiles } := by
  induction l generalizing s with
  | nil => rfl
  | cons k l ih =>
    rw [List.foldl_cons, ih, programAgain_tiers k s]

/-- A failed program begins some tiles' programs again, and retires a block that holds nothing. -/
theorem programFails_along (c : ChanId) (b : Nat) (s : State) : ∃ (again : List Nat) (u : State),
    again.foldl (fun (s : State) k => programAgain k s) (closedBlock c b s) = u ∧
    programFails c b s = if (blockAt u.nand.chans[c] c b).use = 0 then updateFits (retire c b u) else u :=
  ⟨_, _, rfl, rfl⟩

theorem programFails_frame (c : ChanId) (b : Nat) (s : State) : programFails c b s = { s with
    nand := (programFails c b s).nand
    neg := { s.neg with baseFits := (programFails c b s).neg.baseFits }
    tiers := { s.tiers with tiles := (programFails c b s).tiers.tiles }
    irq := (programFails c b s).irq
    bus := (programFails c b s).bus
    free := (programFails c b s).free } := by
  obtain ⟨again, u, hu, hfails⟩ := programFails_along c b s
  have htiers : u.tiers = { s.tiers with tiles := u.tiers.tiles } := hu ▸ programsAgain_tiers again (closedBlock c b s)
  have hneg : u.neg = s.neg := by
    rw [← hu]
    exact DeviceStates.foldl_keeps State.neg (fun (s : State) k => programAgain k s) (fun s k => by simp) again _
  apply State.ext
  case neg =>
    rw [hfails]
    split
    · have hfits := updateFits_neg_frame (retire c b u)
      rw [(by simp : (retire c b u).neg = u.neg), hneg] at hfits
      exact hfits
    · rw [hneg]
  case tiers =>
    rw [hfails]
    split
    · rw [(by simp : (updateFits (retire c b u)).tiers = u.tiers)]
      exact htiers
    · exact htiers
  all_goals simp

/-! ## Erases that end -/

/-- Erases that begin change nothing else but the commands given. -/
theorem beginErases_frame (c : ChanId) (ch : Channel) :
    beginErases c ch = { ch with erases := (beginErases c ch).erases, issued := (beginErases c ch).issued } := by
  unfold beginErases
  generalize ch.blocks.filter _ = bs
  induction bs generalizing ch with
  | nil => rfl
  | cons p bs ih =>
    have hfirst : beginErase p.1 ch = { ch with
        erases := (beginErase p.1 ch).erases, issued := (beginErase p.1 ch).issued } := by
      unfold beginErase
      split <;> rfl
    rw [List.foldl_cons, ih, hfirst]

theorem aget_of_mem {α : Type} {m : Assoc α} (h : rising m = true) {k : Nat} {v : α} (hmem : (k, v) ∈ m) :
    aget m k = some v := by
  induction m with
  | nil => exact absurd hmem List.not_mem_nil
  | cons p m ih =>
    obtain ⟨j, x⟩ := p
    obtain ⟨hlow, hrest⟩ := (rising_cons j x m).mp h
    rcases List.mem_cons.mp hmem with heq | hmem
    · obtain ⟨rfl, rfl⟩ := Prod.mk.inj heq
      exact if_pos rfl
    · exact (if_neg (Nat.ne_of_gt (hlow _ hmem))).trans (ih hrest hmem)

theorem beginErase_elsewhere {b k : Nat} {ch : Channel} (hk : k ≠ b) (h : ∀ p ∈ ch.erases, p.2.block ≠ b) :
    ∀ p ∈ (beginErase k ch).erases, p.2.block ≠ b := by
  unfold beginErase
  split
  · exact h
  · intro p hp
    rcases mem_aput _ _ _ _ hp with rfl | hp
    · exact hk
    · exact h p hp

/-- No erase begins of a block that was just erased. -/
theorem beginErases_elsewhere {c : ChanId} {b : Nat} {ch : Channel} (hr : rising ch.blocks = true)
    (hnext : (blockAt ch c b).next = 0) (h : ∀ p ∈ ch.erases, p.2.block ≠ b) :
    ∀ p ∈ (beginErases c ch).erases, p.2.block ≠ b := by
  have hne : ∀ p ∈ ch.blocks.filter (fun p => freeBlock ch c p.1 && decide (p.2.next ≠ 0)), p.1 ≠ b := by
    rintro ⟨k, x⟩ hp rfl
    obtain ⟨hmem, htest⟩ := List.mem_filter.mp hp
    have hx : blockAt ch c k = x := by rw [blockAt, aget_of_mem hr hmem]; rfl
    simp only [← hx, hnext, ne_eq, not_true, decide_false, Bool.and_false, Bool.false_eq_true] at htest
  unfold beginErases
  generalize ch.blocks.filter _ = bs at hne
  clear hr hnext
  induction bs generalizing ch with
  | nil => exact h
  | cons q bs ih =>
    obtain ⟨hq, hbs⟩ := List.forall_mem_cons.mp hne
    exact ih (beginErase_elsewhere hq h) hbs

/-- A channel whose erase of a block has ended, and on which the next ones begin. -/
def erasedIn (c : ChanId) (b : Nat) (ch : Channel) : Channel := startOps (beginErases c (erased c b { ch with
  erases := ch.erases.filter fun p => decide (p.2.block ≠ b) }))

theorem erasedIn_kept (c : ChanId) (b : Nat) (ch : Channel) : (erasedIn c b ch).tables = ch.tables ∧
    (erasedIn c b ch).tableSeq = ch.tableSeq ∧ (erasedIn c b ch).sinceTable = ch.sinceTable + 1 ∧
    ∀ k, blockAt (erasedIn c b ch) c k = blockAt (erased c b ch) c k := by
  obtain ⟨htables, -, -, hseq, hsince⟩ := startOps_keeps (beginErases c (erased c b { ch with
    erases := ch.erases.filter fun p => decide (p.2.block ≠ b) }))
  have hbegun := beginErases_frame c (erased c b { ch with erases := ch.erases.filter fun p => decide (p.2.block ≠ b) })
  refine ⟨htables.trans ?_, hseq.trans ?_, hsince.trans ?_, fun k => (startOps_blockAt c _ k).trans ?_⟩
  · rw [hbegun]; rfl
  · rw [hbegun]; rfl
  · rw [hbegun]; rfl
  · refine blockAt_of_blocks ?_ k
    rw [hbegun]
    rfl

theorem erasedIn_erases {c : ChanId} {b : Nat} {ch : Channel} (hr : rising ch.blocks = true) :
    ∀ p ∈ (erasedIn c b ch).erases, p.2.block ≠ b := by
  refine startOps_erases (P := fun e => e.block ≠ b) (fun _ _ h => h) (beginErases_elsewhere ?_ ?_ ?_)
  · exact rising_aput _ _ _ hr
  · rw [blockAt_erased_same]
  · exact fun p hp => of_decide_eq_true (List.mem_filter.mp hp).2

/-- The table that follows every 10,000 erases. -/
def tableDue (c : ChanId) (s : State) : State := if 10000 ≤ (s.nand.chans[c]).sinceTable then writeTable c s else s

theorem tableDue_writes (c : ChanId) (s : State) : ∃ x y, tableDue c s = { s with nand := { s.nand with
    chans := upd s.nand.chans c fun _ => x, bytesP := y } } ∧ x.erases = (s.nand.chans[c]).erases ∧
    x.tableSeq = (s.nand.chans[c]).tableSeq + (if 10000 ≤ (s.nand.chans[c]).sinceTable then 1 else 0) ∧
    ∀ k, k ∉ (s.nand.chans[c]).tables → blockAt x c k = blockAt s.nand.chans[c] c k := by
  unfold tableDue
  split
  · obtain ⟨x, y, heq, hx⟩ := rewriteTable_writes (blocksOf s) c s.nand
    refine ⟨x, y, congrArg (fun n => { s with nand := n }) heq, ?_, ?_, hx.kept⟩
    · rw [hx.frame]
    · rw [hx.frame]
  · refine ⟨s.nand.chans[c], s.nand.bytesP, ?_, rfl, (BitVec.add_zero _).symm, fun _ _ => rfl⟩
    rw [Sequencing.upd_fixed s.nand.chans c rfl]

theorem eraseEnds_eq {s : State} {c : ChanId} {b : Nat} (h : eraseRuns s.nand.chans[c] b = true) :
    eraseEnds c b s = updateLife (updateFits (tableDue c (onChan c (fun _ => erasedIn c b s.nand.chans[c]) s))) := by
  have hchan : onQueue c (fun ch => beginErases c (erased c b { ch with
      erases := ch.erases.filter (fun p => decide (p.2.block ≠ b)) })) s =
      onChan c (fun _ => erasedIn c b s.nand.chans[c]) s := onChan_here rfl
  rw [← hchan]
  unfold eraseEnds
  rw [h]
  rfl

/-! ## The blocks -/

theorem eraseFails_eq {s : State} {c : ChanId} {b : Nat} (h : eraseRuns s.nand.chans[c] b = true) :
    eraseFails c b s = updateFits (retire c b s) := if_pos h

theorem eraseFailed {s : State} {c : ChanId} {b : Nat} (hw : works s c) (hb : b ∉ (s.nand.chans[c]).tables)
    (h : eraseRuns s.nand.chans[c] b = true) : ∃ t, exec (.nandEraseFailure c b) s = .next t ∧
      blockAt t.nand.chans[c] c b =
        { blockAt s.nand.chans[c] c b with use := 0, owner := 0, grown := true, closed := true } ∧
      (∀ k, k ≠ b → k ∉ (s.nand.chans[c]).tables → blockAt t.nand.chans[c] c k = blockAt s.nand.chans[c] c k) ∧
      b ∉ (t.nand.chans[c]).region ∧ b ∉ (t.nand.chans[c]).regionF ∧
      t.nand.grownCount = satInc s.nand.grownCount ∧ (t.nand.chans[c]).tableSeq = (s.nand.chans[c]).tableSeq + 1 ∧
      gotEvent s t (Fin.ofNat 192 (50 + 4 * c.val)) ∧ (∀ k, k ≠ c → t.nand.chans[k] = s.nand.chans[k]) ∧
      t = { s with nand := { s.nand with chans := t.nand.chans, grownCount := t.nand.grownCount, bytesP := t.nand.bytesP },
                   neg := { s.neg with baseFits := t.neg.baseFits }, irq := t.irq, bus := t.bus, free := t.free } := by
  obtain ⟨x, y, hnand, hx⟩ := retired_nand c b s
  have hretired := retired_of_table hx hb
  have hexec : exec (.nandEraseFailure c b) s = .next (updateFits (retire c b s)) :=
    congrArg Host.Outcome.next ((if_pos (nandRuns_of_works hw)).trans (eraseFails_eq h))
  have hevent := retired_event c b (s := s) (u := s) ⟨rfl, rfl, rfl, rfl, rfl⟩
  have hneg := updateFits_neg_frame (retire c b s)
  rw [(by simp : (retire c b s).neg = s.neg)] at hneg
  refine ⟨_, hexec, ?_⟩
  have hsame : (updateFits (retire c b s)).nand.chans[c] = x := by
    rw [hnand]
    exact upd_same s.nand.chans c _
  rw [hsame]
  refine ⟨hretired.block, hretired.others, hretired.region, hretired.regionF, by rw [hnand], hretired.tableSeq, hevent,
    fun k hk => ?_, ?_⟩
  · rw [hnand]
    exact upd_other s.nand.chans c k _ fun e => hk e.symm
  · apply State.ext
    case neg => exact hneg
    case nand => rw [hnand]
    all_goals simp

theorem eraseEnded {s : State} {c : ChanId} {b : Nat} (hw : works s c) (hb : b ∉ (s.nand.chans[c]).tables)
    (h : eraseRuns s.nand.chans[c] b = true) (hr : rising (s.nand.chans[c]).blocks = true) :
    ∃ t, exec (.nandEraseEnd c b) s = .next t ∧
      blockAt t.nand.chans[c] c b = { blockAt s.nand.chans[c] c b with
        erases := min ((blockAt s.nand.chans[c] c b).erases + 1) (2 ^ 28 - 1), closed := false, next := 0, owner := 0 } ∧
      (∀ k, k ≠ b → k ∉ (s.nand.chans[c]).tables → blockAt t.nand.chans[c] c k = blockAt s.nand.chans[c] c k) ∧
      (∀ e ∈ (t.nand.chans[c]).erases, e.2.block ≠ b) ∧ (∀ k, k ≠ c → t.nand.chans[k] = s.nand.chans[k]) ∧
      (t.nand.chans[c]).tableSeq =
        (s.nand.chans[c]).tableSeq + (if 10000 ≤ (s.nand.chans[c]).sinceTable + 1 then 1 else 0) ∧
      t = { s with nand := { s.nand with chans := t.nand.chans, lifeP := t.nand.lifeP, lifeT := t.nand.lifeT,
                                         bytesP := t.nand.bytesP },
                   neg := { s.neg with baseFits := t.neg.baseFits }, irq := t.irq, bus := t.bus, free := t.free } := by
  obtain ⟨htables, hseq, hsince, hblocks⟩ := erasedIn_kept c b s.nand.chans[c]
  have herases := erasedIn_erases (c := c) (b := b) hr
  have hends := eraseEnds_eq h
  generalize erasedIn c b s.nand.chans[c] = ch at htables hseq hsince hblocks herases hends
  obtain ⟨x, y, hdue, hxe, hxs, hxb⟩ := tableDue_writes c (onChan c (fun _ => ch) s)
  rw [onChan_chan, hsince] at hxs
  rw [onChan_chan] at hxe hxb
  obtain ⟨v, hv⟩ : ∃ v, tableDue c (onChan c (fun _ => ch) s) = v := ⟨_, rfl⟩
  have hvs : v = { s with nand := { s.nand with chans := upd s.nand.chans c fun _ => x, bytesP := y } } := by
    rw [← hv, hdue]
    simp only [onChan, onNand, setChan, TilePorts.upd_upd]
  rw [hv] at hends
  have hexec : exec (.nandEraseEnd c b) s = .next (updateLife (updateFits v)) :=
    congrArg Host.Outcome.next ((if_pos (nandRuns_of_works hw)).trans hends)
  have hnand := updateLife_nand (updateFits v)
  have hneg := updateFits_neg_frame v
  have hvn : v.nand = { s.nand with chans := upd s.nand.chans c fun _ => x, bytesP := y } := by rw [hvs]
  rw [updateFits_nand, hvn] at hnand
  rw [(by rw [hvs] : v.neg = s.neg)] at hneg
  have hkept : ∀ k, k ∉ (s.nand.chans[c]).tables → blockAt x c k = blockAt (erased c b s.nand.chans[c]) c k := fun k hk =>
    (hxb k (by rw [htables]; exact hk)).trans (hblocks k)
  have hsame : (updateLife (updateFits v)).nand.chans[c] = x := by
    rw [Events.updateLife_chans, updateFits_nand, hvs]
    exact upd_same s.nand.chans c _
  refine ⟨_, hexec, ?_⟩
  rw [hsame]
  refine ⟨(hkept b hb).trans (blockAt_erased_same c b _), fun k hne hk => (hkept k hk).trans (blockAt_erased_other c _ hne),
    ?_, fun k hk => ?_, hxs.trans ?_, ?_⟩
  · rw [hxe]
    exact herases
  · rw [Events.updateLife_chans, updateFits_nand, hvs]
    exact upd_other s.nand.chans c k _ fun e => hk e.symm
  · rw [hseq]
  · apply State.ext
    case neg =>
      rw [(by simp : (updateLife (updateFits v)).neg = (updateFits v).neg)]
      exact hneg
    case nand =>
      generalize (updateLife (updateFits v)).nand = m at hnand
      rw [hnand]
    all_goals simp [hvs]

theorem nandBlocks : Claims.NandBlocks := by
  intro s c b hw hb
  have hruns := nandRuns_of_works hw
  have hexec : exec (.nandProgramFailure c b) s = .next (programFails c b s) := congrArg Host.Outcome.next (if_pos hruns)
  refine ⟨⟨_, hexec, programFails_frame c b s⟩, fun hnone huse => ⟨_, hexec, ?_⟩, fun hnone huse => ⟨_, hexec, ?_⟩,
    eraseFailed hw hb, eraseEnded hw hb, fun hno => ⟨?_, ?_⟩⟩
  · rw [programFails_alone hnone, if_neg huse]
    exact onlyChannel_onChan rfl
  · rw [programFails_alone hnone, if_pos huse]
    obtain ⟨x, y, hnand, hx⟩ := retired_nand c b (closedBlock c b s)
    have hretired := retired_of_table hx (by rw [closedBlock, onChan_chan]; exact hb)
    refine ⟨?_, by rw [hnand]; rfl, retired_event c b ⟨rfl, rfl, rfl, rfl, rfl⟩⟩
    have hsame : (updateFits (retire c b (closedBlock c b s))).nand.chans[c] = x := by
      rw [hnand]
      exact upd_same _ c _
    rw [hsame, hretired.block]
  · exact congrArg Host.Outcome.next ((if_pos hruns).trans (if_neg (by rw [hno]; exact Bool.noConfusion)))
  · exact congrArg Host.Outcome.next ((if_pos hruns).trans (if_pos (by rw [hno]; rfl)))

/-- Settles O39: a block is retired, erased or closed on its channel alone, its table follows, and the schedule of a channel
suspends and resumes its erases one LUN at a time. -/
theorem nandBlocksAndErases : Obligations.NandBlocksAndErases := ⟨nandBlocks, nandSchedule⟩

end Sys2Proof.Schedule
end
